-- ==== Sys2Proof/Word.lean ====
section
/-!
DEFINITION. The word types of the model and the shape of its sparse tables.
-/

namespace Sys2Proof

/-- One byte. -/
abbrev Byte := BitVec 8

/-- A run of bytes in offset order, as KCI bodies, descriptors and frames hold them (R6). -/
abbrev Bytes := List Byte

/-- A sparse table keyed by a number, held as a list whose keys strictly rise. -/
abbrev NMap (α : Type) := List (Nat × α)

end Sys2Proof
end

