-- ==== Sys2Proof/Syntax.lean ====
section
/-!
DEFINITION. The commands of the block: one constructor per row of the command table.
The table gives its rows no bits, so a command is plain data: its operands are what the sender supplies
(a register value, a host buffer) or what the world outside the digital block decides
(a measurement, the content of a received frame, the level of a ball).
-/

namespace Sys2Proof

/-- What a retune is for: a launch, by its number, or a radio that was powered up for a need (R154, R402). -/
inductive RetuneFor where
  | launch (l : Nat)
  | need (r : Fin 3)
  deriving DecidableEq, Repr

/-- The sender of a PTP message and what its header says of the scope of R356. -/
structure PtpSender where
  /-- sourcePortIdentity.clockIdentity. -/
  clock : BitVec 64
  /-- versionPTP and minorVersionPTP. -/
  version : Nat
  minor : Nat
  /-- Carried by IPv4; by IPv6 otherwise. -/
  ipv4 : Bool
  /-- Ethernet port on which the message arrived. -/
  port : Fin 2
  /-- logMessageInterval. -/
  interval : Int
  deriving DecidableEq, Repr

/-- The result of one calibration item (R149, R151): synthesiser, LO and channel centre in Hz (0 for an LO entry),
and the values found. -/
structure CalResult where
  synth : Nat
  lo : Nat
  chan : Nat
  /-- The item succeeded. -/
  good : Bool
  vcoBand : BitVec 6
  loopGain : BitVec 8
  corrA : BitVec 16
  corrB : BitVec 16
  corrC : BitVec 16
  corrD : BitVec 16
  deriving DecidableEq, Repr

/-- What a timed launch serves: a cell of a slotframe, or a LAUNCH entry of a gate list. -/
inductive LaunchWhat where
  | cell (slotframe idx : Nat)
  | gate (list idx : Nat)
  deriving DecidableEq, Repr


/-- A master that accesses a register window or memory: the host, the control processor's firmware, an application
core, or another device block by its master number (R524). -/
inductive BusMaster where
  | host
  | firmware
  | core (c : Fin 8)
  | block (id : Nat)
  deriving DecidableEq, Repr

/-- Who waits in the task scheduler: a thread, or the context of an EVP core. -/
inductive Waiter where
  | thread (t : Nat)
  | core (c : Fin 8)
  deriving DecidableEq, Repr


/-- A memory word that a scrubber found bad: its physical address, whether it is uncorrectable, and the syndrome. -/
structure BadWord where
  addr : Nat
  uncorrectable : Bool
  syndrome : BitVec 8
  deriving DecidableEq, Repr

/-- A preamble correlation: power in the channel before RSSI_OFFSET and signal-to-noise ratio, in 0.25 dB (R182). -/
structure Detection where
  power : Int
  snr : Int
  deriving DecidableEq, Repr

/-- The fuses of the device (R458 step 0x01, R465, R617, R429). -/
structure FuseSet where
  /-- SHA-256 of the image public key; none while not programmed. -/
  keyHash : Option (List Byte)
  /-- The per-device provisioning key is programmed. -/
  provisioned : Bool
  secFloor : Nat
  avsCeil : Nat
  serial : BitVec 64
  /-- The AVS table: nominal value of each ring oscillator. -/
  avsTable : List Nat
  deriving DecidableEq, Repr

/-- What a start finds: voltages, straps, fuses, flash programmed from outside, fitted DRAM and the outcome of the
steps that depend on the silicon (R426, R458, R470, R590). -/
structure StartFacts where
  /-- Voltage of each rail, mV, by rail code. -/
  rails : List Nat
  /-- RESET_N is high. -/
  resetN : Bool
  hostSel : Bool
  refSel : Bool
  testMode : Bool
  fuses : FuseSet
  /-- Content of image slots 0 and 1 from their bases, when programmed from outside since the reset. -/
  flash : Option (List Byte × List Byte)
  /-- Lockstep self-test, reaction path self-test, monitor self-test, SRAM BIST, DRAM initialisation and Backwater check pass. -/
  lockstepPasses : Bool
  reactionsPass : Bool
  monitorsPass : Bool
  sramPasses : Bool
  dramPasses : Bool
  backwaterPasses : Bool
  /-- Gb per channel per rank and ranks per channel fitted, and the RATE_CODE that training reached. -/
  density : Nat
  ranks : Nat
  rate : Nat
  /-- The DRAM parameter record and the stress record pass their check sums. -/
  recordPasses : Bool
  stressPasses : Bool
  /-- Results of the observation synthesiser's calibration. -/
  results : List CalResult
  /-- The step in which a reset-level crossing, the watchdog or another S3 reaction ends the start, if one does. -/
  endedAt : Option Nat
  deriving DecidableEq, Repr
/-- The commands the block takes: one constructor per row of `spec/opcode_table.json`, in the
table's order.  Each docstring names the defining rule and its operands. -/
inductive Instr where
  /-- R52. Host writes a mailbox request tail as the doorbell, handing over requests or stopping the mailbox on a pointer error.  `m` is the mailbox, `value` the word written. -/
  | mbxReqTailWrite (m : Fin 4) (value : BitVec 32)
  /-- R52. Host advances a mailbox response head, freeing entries and resuming a stalled mailbox, or stopping it on a pointer error.  `m` is the mailbox, `value` the word written. -/
  | mbxRspHeadWrite (m : Fin 4) (value : BitVec 32)
  /-- R53. Host writes MBX_CONTROL.RESET, discarding the mailbox's executing response and waiting requests and zeroing its pointers.  `m` is the mailbox, `value` the word written to MBX_CONTROL. -/
  | mbxControlReset (m : Fin 4) (value : BitVec 32)
  /-- R52. Host advances the event ring consumer pointer; an overreaching write is ignored. -/
  | evtHeadWrite (value : BitVec 32)
  /-- R44. A read of EVT_DROPPED_LO latches the high word of the dropped-record counter. -/
  | evtDroppedLoRead
  /-- R76. Host writes 1 to interrupt pending bits to clear them.  `value` is written to INT_PENDING`k`. -/
  | intPendingClear (k : Fin 8) (value : BitVec 32)
  /-- R76. Host re-arms MSI-X vectors; a still-active vector sends a new message after its holdoff. -/
  | intVecEoi (value : BitVec 32)
  /-- R76. The holdoff of an active armed MSI-X vector elapses and one message is sent. -/
  | msixHoldoffExpiry (v : Fin 32)
  /-- R611. A write of DBG_BASE moves an open debug window within 1 µs.  `high` selects DBG_BASE_HI. -/
  | dbgBaseWrite (high : Bool) (value : BitVec 32)
  /-- R78. Host advances a frame ring index, handing descriptors to the device.  `bufs` holds the content of the host buffers of the descriptors that the device takes, in ring order. -/
  | ringHostIdxWrite (r : Fin 16) (value : BitVec 32) (bufs : List Bytes)
  /-- R40. An SPI target transaction is taken; register writes take effect on their fourth byte.  `mosi` holds the bytes shifted in from SPI_CS_N assertion to deassertion. -/
  | spiTransaction (mosi : List Byte)
  /-- R8. A write to a register that has no behaviour of its own stores the value per its access type.  By the host `addr` is an address of the map of R41; by a core or firmware it is a physical address. -/
  | registerWrite (by_ : BusMaster) (addr : Nat) (value : BitVec 32)
  /-- R15. An application-core write to a configuration register is discarded and raises a Security-class fault source.  core `c` writes a configuration register of function `fn`. -/
  | configWriteDenied (c : Fin 8) (fn : Nat)
  /-- R479. A denied memory access returns zero or is discarded, counts ACCESS_DENIED and raises MEM_ACCESS.  a write of `data`, or a read of `len` bytes, at physical address `addr`. -/
  | memAccess (by_ : BusMaster) (addr : Nat) (data : Option Bytes) (len : Nat)
  /-- R617. Returns device identification, versions, boot status and fuse summary.  `buf` is the content of the indirect buffer. -/
  | deviceInfo (buf : Bytes)
  /-- R69. Returns a single-instant status snapshot of up to 16 functions. -/
  | statusRead (buf : Bytes)
  /-- R69. Returns a single-instant snapshot of the counters of up to 16 functions. -/
  | counterRead (buf : Bytes)
  /-- R62. Returns the request body unchanged. -/
  | echo (buf : Bytes)
  /-- R611. Opens or closes the debug window at DBG_BASE. -/
  | debugWindowOpen (buf : Bytes)
  /-- R64. Stages a function's enable bit. -/
  | functionEnable (buf : Bytes)
  /-- R62. Copies a function's active set over its staged set. -/
  | stageDiscard (buf : Bytes)
  /-- R65. Checks the staged configuration and, if it passes, freezes a commit image for its boundary. -/
  | configCommit (buf : Bytes)
  /-- R32. Cancels the pending commit, if any. -/
  | configCancel (buf : Bytes)
  /-- R616. Returns one part of a function's active or staged set as a staging body. -/
  | configRead (buf : Bytes)
  /-- R70. Accepts a function reset, clamping the function and refusing and discarding its work. -/
  | functionReset (buf : Bytes)
  /-- R70. At step 5 of a function reset the clamps release, the epoch increments and the response is sent.  `fn` is the function whose reset reaches step 5. -/
  | functionResetComplete (fn : Nat)
  /-- R77. Stages one frame descriptor ring. -/
  | frameRingConfig (buf : Bytes)
  /-- R29. At a commit's boundary all applied functions switch to their new active sets and the generation advances. -/
  | commitApply
  /-- R116. Stages the link role, slot template, addresses and keys. -/
  | linkConfig (buf : Bytes)
  /-- R117. Stages one hopping set. -/
  | hopsetLoad (buf : Bytes)
  /-- R118. Stages one slotframe header and a run of cells. -/
  | slotframeLoad (buf : Bytes)
  /-- R119. Stages neighbour table entries. -/
  | neighbourWrite (buf : Bytes)
  /-- R119. Returns active neighbour entries as one snapshot. -/
  | neighbourRead (buf : Bytes)
  /-- R115. In relay role enters SCAN at once. -/
  | linkResync (buf : Bytes)
  /-- R83. A slot begins on the slot time bases: ASN advance or idling, cell activation, AGC slot steps, realignment, shedding and inhibit end.  `peaks`: peak RMS window powers of the slot that ends, dBFS at 0 dB gain, of windows A0, A1, B0, B1, C0 and C1 -/
  | slotBoundary (peaks : List Int)
  /-- R109. A parent beacon interval passes without a beacon, moving the relay to SEARCH or SCAN. -/
  | beaconMissed
  /-- R103. Once per second in which neighbours became lost-sync, the count is reported. -/
  | neighbourLostSyncReport
  /-- R181. A lane's listening interval begins and it searches for preambles. -/
  | listenIntervalStart (ch : Fin 256)
  /-- R181. A listening interval ends and the lane and filter are gated unless a frame is in progress. -/
  | listenIntervalEnd (ch : Fin 256)
  /-- R182. A lane's preamble correlation exceeds DETECT_Q for 16 channel bits and sync search begins. -/
  | preambleDetected (ch : Fin 256) (seen : Detection)
  /-- R182. No sync word ends within P + 48 channel bits of detection; FALSE_DETECTS counts and search resumes. -/
  | syncSearchTimeout (f : Nat)
  /-- R184. A sync word ends: window and AFC range are checked, AFC freezes and RSSI is measured. -/
  | syncWordAccepted (f syncOffset : Nat) (afc : Int) (word : BitVec 32)
  /-- R185. The PHR is checked, the LLR store reservation is made and any immediate acknowledgement is booked. -/
  | phrReceived (f : Nat) (phr : BitVec 32) (agree : Bool) (rssi : Int)
  /-- R186. A frame's last channel bit is written and its jobs are handed to the group's Riffle cluster. -/
  | frameHandOff (f : Nat) (llrs : List Int) (snr : Int) (evm : Nat)
  /-- R189. A SUN-FSK frame finishes trellis or hard decoding and is checked against its FCS.  `soft` holds the soft symbols that came from the lane. -/
  | trellisDecodeDone (f : Nat) (soft : List Int)
  /-- R212. Eddy completes reconstruction and subtraction of a decoded stronger frame from the ring. -/
  | subtractionDone (lane : Fin 64)
  /-- R213. Re-demodulation of a displaced frame starts once subtraction is done and its last bit is written. -/
  | redemodStart (lane : Fin 64)
  /-- R213. Re-demodulation cannot start by checkpoint + HIST_MS − 250 µs and is abandoned. -/
  | redemodAbandon (lane : Fin 64)
  /-- R213. Re-demodulation completes and the displaced frame's jobs enter the queue. -/
  | redemodDone (lane : Fin 64) (llrs : List Int)
  /-- R223. An engine finishes a codeword job, the syndrome checker tests it and the engine takes its next job. -/
  | riffleJobComplete (e : Fin 48) (agrees : Bool)
  /-- R227. An engine with no job for 10 µs is clock-gated. -/
  | engineClockGate (e : Fin 48)
  /-- R224. No twin second part is handed off by its window edge plus air time; the frame ends RC_TWIN_MISSING. -/
  | twinSecondPartTimeout (f : Nat)
  /-- R228. A frame unresolved after JOB_AGE_MAX_MS has its jobs discarded. -/
  | decodeTimeout (f : Nat)
  /-- R232. A frame becomes next in stamp order and passes the release gate to verification and its record.  frame number, page of the pool -/
  | releaseGatePass (f : Nat) (p : Fin 4)
  /-- R288. A TAG_VERIFY verdict is posted 280 fabric cycles after start, releasing or zeroing the quarantine. -/
  | tagVerifyVerdict (p : Fin 32)
  /-- R129. ADC clipping on 4 samples in 16 µs drops the window gain by CLIP_STEP_DB. -/
  | agcClipStep (r : Fin 3) (w : Fin 2)
  /-- R132. A pinned-gain condition lasts 1 ms and raises the radio's AGC_PINNED source.  `dead`: at maximum gain below the floor; otherwise clipping at minimum gain. -/
  | agcPinned (r : Fin 3) (w : Fin 2) (dead : Bool)
  /-- R191. Each 250 µs block updates channel noise floors and the dead-channel check. -/
  | noiseFloorBlock (ch : Fin 256) (power : Int)
  /-- R153. The 2 s latent test injects an observation-synthesiser tone into a window and checks its level.  `level` and `calibrated` in 0.25 dBm: measured and calibrated level. -/
  | testToneInject (r : Fin 3) (w : Fin 2) (level : Int) (calibrated : Int)
  /-- R541. A test tone has not completed within 4 s of the previous one. -/
  | latentTestLate (r : Fin 3) (w : Fin 2)
  /-- R160. Stages a radio's mode, windows, gain and observation limits. -/
  | radioConfig (buf : Bytes)
  /-- R161. Stages a radio's control-ball map and timing. -/
  | radioFePins (buf : Bytes)
  /-- R162. Long command starting a host-commanded calibration of a radio. -/
  | radioCalibrate (buf : Bytes)
  /-- R162. A host-commanded calibration finishes and completes with EV_CMD_DONE. -/
  | radioCalibrateDone (r : Fin 3) (results : List CalResult)
  /-- R163. Sets the levels of STATIC control balls within 10 µs. -/
  | radioPinDrive (buf : Bytes)
  /-- R164. Returns calibration store entries as one snapshot. -/
  | calStoreRead (buf : Bytes)
  /-- R147. A committed radio change begins its physical retune once earlier-generation frames and twin parts on the window end. -/
  | radioChangeStart (r : Fin 3)
  /-- R144. A synthesiser reaches lock after a retune, relock or forced calibration.  `result` is what a forced calibration found; unused otherwise. -/
  | synthLock (r : Fin 3) (result : CalResult)
  /-- R145. A lock detector reports loss of lock during transmission or reception. -/
  | synthUnlock (r : Fin 3)
  /-- R145. A synthesiser not relocked 40 µs after an unlock starts a forced calibration. -/
  | synthRelockTimeout (r : Fin 3)
  /-- R148. The observation synthesiser loses lock and its test or calibration is re-queued. -/
  | obsSynthUnlock
  /-- R151. A calibration item finishes and writes its variant to the store. -/
  | backgroundCalDone (r : Fin 3) (result : CalResult)
  /-- R566. A calibration item waits 60 s without an eligible slot. -/
  | calStarvedTimeout (r : Fin 3)
  /-- R198. Stages a group header and a run of channel entries. -/
  | groupPlanLoad (buf : Bytes)
  /-- R201. A changed channel stops after its earlier-generation frames and reloads its filter. -/
  | channelReloadDone (ch : Fin 256)
  /-- R237. Stages Eddy ring durations, capture reserves and depth. -/
  | eddyConfig (buf : Bytes)
  /-- R207. A committed ring change takes effect once no capture work of an earlier generation remains. -/
  | eddyRingChange (ch : Fin 256)
  /-- R238. Stages Riffle iteration caps, stealing, age limit and headroom. -/
  | riffleConfig (buf : Bytes)
  /-- R252. At t0 − 1,000 µs a frame is selected, booked, checked by accountant and governor, and secured.  `asn` is the slot of the cell or gate entry. -/
  | launchSelection (what : LaunchWhat) (asn : Nat)
  /-- R154. At launch − 500 µs the needed LO entry is classified and the retune start chosen.  `l` is the number of the launch. -/
  | loClassify (l : Nat)
  /-- R154. A retune starts, pre-empting any background calibration. -/
  | retuneStart (l : RetuneFor)
  /-- R255. TR_SW and TX_ACTIVE assert TR_LEAD before ramp-up and the radio's windows are blanked. -/
  | trSwAssert (l : Nat)
  /-- R255. PA_EN asserts PA_LEAD before ramp-up. -/
  | paEnAssert (l : Nat)
  /-- R155. At launch − 16 µs lock is tested and ramp-up starts, is held, or the launch is missed.  `lateUs` is the time since launch − 16 µs. -/
  | rampUpStart (l : Nat) (lateUs : Nat)
  /-- R255. The first preamble bit goes on air and the reserved air-time charge is committed. -/
  | launchStart (l : Nat)
  /-- R138. Every 100 µs of a frame the observation receiver gives a power verdict.  `measured` in 0.01 dBm at the observation ball. -/
  | obsPowerVerdict (r : Fin 3) (measured : Int)
  /-- R138. At 250 µs the frequency and out-of-channel verdicts are given.  `errors`: launch number and carrier error in 0.01 ppm; `outside`: power outside the masks in 0.01 dBc. -/
  | obsFrequencyVerdict (r : Fin 3) (errors : List (Nat × Int)) (outside : Int)
  /-- R255. After the last channel bit the ramp-down starts. -/
  | rampDownStart (l : Nat)
  /-- R255. PA_EN deasserts PA_LAG after ramp-down. -/
  | paEnDeassert (r : Fin 3)
  /-- R255. TR_SW and TX_ACTIVE deassert TR_LAG after ramp-down and the launch record is written. -/
  | trSwDeassert (r : Fin 3)
  /-- R136. Receive blanking ends 20 µs after TR_SW deasserts. -/
  | blankingEnd (r : Fin 3)
  /-- R258. At TURNAROUND − 150 µs the acknowledgement is checked by accountant and governor and encoded, or dropped as late. -/
  | ackStage5Deadline (l : Nat)
  /-- R254. A downlink's acknowledgement window closes without a matching acknowledgement; it is retried or removed RC_NO_ACK.  `f` is the number of the downlink frame. -/
  | dlAckWindowExpiry (f : Nat)
  /-- R254. A downlink still queued DL_LIFETIME_MS after admission is removed RC_DL_EXPIRED. -/
  | dlLifetimeExpiry (f : Nat)
  /-- R260. A GATE entry's instant arrives and sets which queues of the radio are open. -/
  | gateEntry (list : Fin 3) (idx : Nat)
  /-- R264. A sub-band's WINDOW_S/64 bucket period ends and the oldest bucket expires. -/
  | dutyBucketAdvance (band : Fin 16)
  /-- R274. Stages queue limits, records and per-radio transmit settings. -/
  | sluiceConfig (buf : Bytes)
  /-- R275. Stages one gate list. -/
  | gateListLoad (buf : Bytes)
  /-- R276. Stages all duty sub-bands. -/
  | dutyBandLoad (buf : Bytes)
  /-- R277. Long command starting an untimed test transmission. -/
  | txTest (buf : Bytes)
  /-- R277. A test transmission reaches DURATION_US and completes with EV_CMD_DONE. -/
  | txTestEnd (r : Fin 3)
  /-- R287. Page operation loading a key from the key store and clearing X.  `by_` writes PG_CMD of page `p`; the operands lie in the page's registers. -/
  | keyLoad (by_ : BusMaster) (p : Fin 32)
  /-- R287. Page operation doing nothing. -/
  | pageNop (by_ : BusMaster) (p : Fin 32)
  /-- R287. Page operation encrypting IN to OUT. -/
  | enc (by_ : BusMaster) (p : Fin 32)
  /-- R287. Page operation decrypting IN to OUT. -/
  | dec (by_ : BusMaster) (p : Fin 32)
  /-- R287. Page operation chaining IN into X. -/
  | macIn (by_ : BusMaster) (p : Fin 32)
  /-- R287. Page operation copying X to OUT unless the quarantine holds data. -/
  | macRead (by_ : BusMaster) (p : Fin 32)
  /-- R287. Page operation loading a quarantine block.  `len` 0 means 16. -/
  | loadQ (by_ : BusMaster) (p : Fin 32) (block : Fin 128) (len : Fin 16)
  /-- R287. Page operation counter-mode transforming a quarantine block. -/
  | ctrQ (by_ : BusMaster) (p : Fin 32) (block : Fin 128) (len : Fin 16)
  /-- R287. Page operation chaining a quarantine block into X. -/
  | macQ (by_ : BusMaster) (p : Fin 32) (block : Fin 128) (len : Fin 16)
  /-- R288. Page operation starting constant-time tag verification. -/
  | tagVerify (by_ : BusMaster) (p : Fin 32)
  /-- R287. Page operation zeroing X, OUT and the quarantine. -/
  | clear (by_ : BusMaster) (p : Fin 32)
  /-- R291. Page operation saving a firmware page context clear or wrapped.  the form and the address to which the context is written. -/
  | ctxSave (by_ : BusMaster) (p : Fin 32) (wrapped : Bool) (addr : Nat)
  /-- R291. Page operation restoring a firmware page context. -/
  | ctxRestore (by_ : BusMaster) (p : Fin 32) (wrapped : Bool) (addr : Nat)
  /-- R285. A denied page window access returns zero and raises PAGE_ACCESS.  a write of `value` to, or a read of, the register at `offset`. -/
  | pageAccess (by_ : BusMaster) (p : Fin 32) (offset : Nat) (value : Option (BitVec 32))
  /-- R309. Stages a page's owner and core mask. -/
  | cipherPageConfig (buf : Bytes)
  /-- R298. Unwraps, checks and stages key writes. -/
  | keyImport (buf : Bytes)
  /-- R309. Stages key deletions. -/
  | keyDelete (buf : Bytes)
  /-- R309. Returns key store entries as one snapshot. -/
  | keyStoreRead (buf : Bytes)
  /-- R290. Runs a list of operations on a host page. -/
  | pageRun (buf : Bytes)
  /-- R309. Returns a key's NEXT, ceiling and durability. -/
  | keyCounterRead (buf : Bytes)
  /-- R303. A journal record program completes; durable records set ADV, failures are rewritten.  the program and its read-back succeeded. -/
  | journalProgramDone (ok : Bool)
  /-- R303. After a journal fault a write is retried once per second. -/
  | journalRetry
  /-- R304. A reclaimed journal sector finishes erasing. -/
  | sectorEraseDone (ok : Bool)
  /-- R317. A port receives a frame, filters it and passes it to the router or drops it.  `frame` without its FCS -/
  | ethFrameReceived (p : Fin 2) (frame : Bytes) (fcsOk : Bool)
  /-- R318. A port's link goes up, down or changes speed.  `speed` is the SPEED code of R344 -/
  | portLinkChange (p : Fin 2) (up : Bool) (speed : Fin 5)
  /-- R332. An Ethernet or host-ring egress able to take a frame picks and sends one.  none is the host ring -/
  | egressDecision (port : Option (Fin 2))
  /-- R334. Once per second with queue drops an event reports the first drop. -/
  | queueDropsReport
  /-- R338. Stages router addresses, queues, contexts and colour map. -/
  | routerConfig (buf : Bytes)
  /-- R339. Stages forwarding entries. -/
  | routeLoad (buf : Bytes)
  /-- R340. Stages one Weir egress. -/
  | weirEgressLoad (buf : Bytes)
  /-- R341. Stages policers. -/
  | policerLoad (buf : Bytes)
  /-- R341. Returns policer colour counts as one snapshot. -/
  | policerRead (buf : Bytes)
  /-- R342. Stages one Ethernet port. -/
  | portConfig (buf : Bytes)
  /-- R356. A PTP Announce is taken and selects or refreshes the followed time transmitter. -/
  | ptpAnnounceRx (clock : PtpSender) (domain : BitVec 8) (ptpTimescale : Bool)
  /-- R359. A PTP Sync is timestamped and taken.  instants in ns; `stamp` is the ingress time stamp. -/
  | ptpSyncRx (clock : PtpSender) (seqId : BitVec 16) (twoStep : Bool) (t1 : Int) (correction : Int) (stamp : Int)
  /-- R359. A PTP Follow_Up supplies t1 of a two-step Sync. -/
  | ptpFollowUpRx (clock : PtpSender) (seqId : BitVec 16) (t1 : Int) (correction : Int)
  /-- R359. A Delay_Resp completes a sample, which is filtered and classified. -/
  | ptpDelayRespRx (clock : PtpSender) (seqId : BitVec 16) (t4 : Int) (correction : Int)
  /-- R356. A Delay_Req is sent at the requested interval.  `stamp` is the egress time stamp. -/
  | delayReqTx (seqId : BitVec 16) (stamp : Int)
  /-- R353. A time source's loss timer expires; the device switches to backup or enters holdover.  `k` is the source code of R353. -/
  | sourceLost (k : Nat)
  /-- R354. The primary has been usable for REVERT_S and the device switches back. -/
  | sourceRevert
  /-- R368. Holdover lasts HOLDOVER_MAX_S and becomes HOLDOVER_EXPIRED. -/
  | holdoverExpiry
  /-- R360. A PPS_IN rising edge is captured, accepted or rejected, checked for plausibility and used as a sample.  reference cycles since the previous accepted edge. -/
  | ppsInEdge (cycles : Nat)
  /-- R375. A TIME_SET mode 1 with no accepted edge within 2.5 s lapses. -/
  | ppsSetLapse
  /-- R361. PPS_OUT rises at a whole second of network time. -/
  | ppsOutRise
  /-- R361. PPS_OUT falls after PPS_OUT_WIDTH_US. -/
  | ppsOutFall
  /-- R352. Each run of 32,768 Spring ticks is measured, updating SPRING_PPB and the Spring plausibility check.  reference cycles in 32,768 Spring ticks. -/
  | springMeasurement (cycles : Nat)
  /-- R374. Stages time sources, thresholds and outputs. -/
  | timeConfig (buf : Bytes)
  /-- R366. Sets or steps network time, or arms seconds for the next PPS. -/
  | timeSet (buf : Bytes)
  /-- R376. Returns all time bases at one fabric instant. -/
  | timeRead (buf : Bytes)
  /-- R384. A prescaled tick advances a unit, fires due comparators and drives its outputs. -/
  | timerTick (t : Fin 16)
  /-- R384. A write of TMR_CTRL.RUN starts or stops a unit. -/
  | tmrCtrlRun (by_ : BusMaster) (t : Fin 16) (run : Bool)
  /-- R392. A write of TMR_CTRL.CLEAR sets COUNT to 0 counting up.  `run` is the RUN bit of the same write. -/
  | tmrCtrlClear (by_ : BusMaster) (t : Fin 16) (run : Bool)
  /-- R389. A PERIOD write with IMMEDIATE clear is shadowed to the next zero turning point. -/
  | tmrPeriodShadow (by_ : BusMaster) (t : Fin 16) (period : BitVec 31)
  /-- R389. A PERIOD write with IMMEDIATE set takes effect at once, possibly turning or clipping. -/
  | tmrPeriodImmediate (by_ : BusMaster) (t : Fin 16) (period : BitVec 31)
  /-- R386. A write of a compare value arms the comparator. -/
  | tmrCmpWrite (by_ : BusMaster) (t : Fin 16) (n : Fin 4) (value : BitVec 32)
  /-- R386. Two fabric cycles after a compare write it takes effect and is evaluated, firing at once if due. -/
  | cmpWriteEffect (t : Fin 16) (n : Fin 4)
  /-- R387. Writing 0 to a CMP_EN bit disarms the comparator without firing. -/
  | tmrCmpEnWrite (by_ : BusMaster) (t : Fin 16) (value : BitVec 32)
  /-- R393. W1C write clears timer status bits. -/
  | tmrStatusClear (by_ : BusMaster) (t : Fin 16) (value : BitVec 32)
  /-- R387. A read of MISSED returns and clears the fold count. -/
  | tmrMissedRead (by_ : BusMaster) (t : Fin 16) (n : Fin 4)
  /-- R392. A read of TMR_TICK_LO latches the high word of TICKS. -/
  | tmrTickLoRead (by_ : BusMaster) (t : Fin 16)
  /-- R390. A debugger halt of a core in FREEZE_MASK freezes the unit at its next tick boundary. -/
  | debugHaltFreeze (c : Fin 8)
  /-- R390. On release a frozen unit resumes and due comparators fire once. -/
  | debugHaltRelease (c : Fin 8)
  /-- R394. Stages a timer unit's owner, source, mode and outputs. -/
  | timerConfig (buf : Bytes)
  /-- R395. Performs one timer register access for the host. -/
  | timerAccess (buf : Bytes)
  /-- R404. At AUTO_LEVEL 2 a long enough gap starts automatic DOZE entry and its vote. -/
  | autoDozeEntry (silent : Option (Fin 14))
  /-- R406. A voter does not acknowledge within 50 µs and counts as refusing. -/
  | voterAckTimeout
  /-- R404. Once per second with refused automatic entries an event is raised. -/
  | sleepAbortReport
  /-- R370. At the next Spring edge after the point of no return the time snapshot and timer states are saved and DOZE is reached. -/
  | sleepSnapshot
  /-- R404. A need's lead time arrives and the wake from DOZE begins. -/
  | scheduledWake
  /-- R410. A wake source fires in DOZE or HIBERNATE and exit starts. -/
  | wakeSource (n : Fin 5)
  /-- R410. After REF_START_US the reference is qualified and PLLs lock. -/
  | referenceQualified
  /-- R370. At Spring edge E the time bases are rebuilt and timers folded. -/
  | wakeRebuild
  /-- R410. Exit reaches RUN or SLOT_IDLE and lateness is judged. -/
  | wakeComplete
  /-- R402. A radio's analog domain is powered ahead of its first need. -/
  | radioPowerUp (r : Fin 3)
  /-- R402. RX_ACTIVE asserts RX_LEAD before the window opens. -/
  | rxActiveAssert (r : Fin 3)
  /-- R403. A radio's analog domain powers down after its last need. -/
  | radioPowerDown (r : Fin 3)
  /-- R418. Stages the power manager's levels, balls and timing. -/
  | powerConfig (buf : Bytes)
  /-- R411. Commands entry to DOZE or HIBERNATE through the vote. -/
  | powerEnter (buf : Bytes) (silent : Option (Fin 14))
  /-- R435. A rail falls below its warning level, starting a dip that cuts transmission.  `mv` is the voltage measured. -/
  | railWarningCrossing (rail : Fin 10) (mv : Nat)
  /-- R432. SUPPLY_WARN_N is low for 200 ns, starting a dip. -/
  | supplyWarnNAssert
  /-- R435. The recovery condition holds for 1 ms on every rail and the ball, ending the dip.  `mv` holds the voltages measured now, `minima` the lowest of the dip, by rail code. -/
  | dipRecovery (mv minima : List Nat)
  /-- R436. A rail crosses its reset level, raising RAIL_RESET or a POR. -/
  | railResetCrossing (rail : Fin 10) (mv : Nat)
  /-- R437. A rail exceeds 110 % of target and RAIL_OVER is raised. -/
  | railOverCrossing (rail : Fin 10) (mv : Nat)
  /-- R431. A measured domain spread above 0.22 V for 5 µs raises DOMAIN_SPREAD.  `mv` is the spread measured. -/
  | domainSpread (mv : Nat)
  /-- R443. VDD_SPRING rises or falls below reset, resetting everything and leading to a cold start.  `falling`: VDD_SPRING fell below its reset level, otherwise it rose; `springExt` is the strap. -/
  | por (falling springExt : Bool)
  /-- R444. RESET_N is qualified low and its rising edge starts a cold start. -/
  | externalReset
  /-- R445. PCIE_PERST_N falls; the endpoint holds its link down and wakes DOZE. -/
  | pciePerstNAssert
  /-- R445. PCIE_PERST_N rises, resetting BAR0, mailboxes, rings and DMA. -/
  | pciePerstNRelease
  /-- R429. Every 10 ms ring oscillators are measured and the VDD_CORE target stepped.  `demandMv` is the VDD_CORE voltage that the ring oscillators and the fused table demand. -/
  | avsMeasurement (demandMv : Nat)
  /-- R428. An unacknowledged PMIC write is repeated after 100 µs, faulting after 3 repeats.  `acked`: the repeat is acknowledged. -/
  | pmicWriteRetry (rail : Fin 10) (acked : Bool)
  /-- R433. A rail not within 2 % of a new target after 200 µs raises PMIC_COMM.  `mv` is the voltage reached. -/
  | targetSettleTimeout (rail : Fin 10) (mv : Nat)
  /-- R505. Every 10 ms the scheduler selects the cluster OPP and starts a change. -/
  | oppEvaluation
  /-- R430. The cluster PLL relocks after an OPP change and the cores resume. -/
  | pllRelockDone
  /-- R442. A clock monitor detects loss or frequency error of a clock.  `clock` is the code of R440 and R455; `frequency` is clear for loss. -/
  | clockMonitorFault (clock : Nat) (frequency : Bool)
  /-- R446. The control-processor watchdog expires unserviced. -/
  | cpWatchdog
  /-- R448. Commands a warm or cold restart. -/
  | deviceRestart (buf : Bytes)
  /-- R449. Stages AVS, OPPs, retention voltage and PMIC map. -/
  | supplyConfig (buf : Bytes)
  /-- R458. A cold start runs its steps from fuse load to READY. -/
  | coldStart (facts : StartFacts)
  /-- R458. A warm start runs its steps, reusing retained state, to READY. -/
  | warmStart (facts : StartFacts)
  /-- R468. READY is not set within 1 s and the start fails.  `step` is the step in progress. -/
  | startTimeout (step : Nat)
  /-- R468. READY has been 1 for 10 s and the fail counts clear. -/
  | startSuccess
  /-- R462. Releases pad hold so balls take their committed functions. -/
  | padHoldRelease (buf : Bytes)
  /-- R467. Long command writing part of the non-running image slot. -/
  | imageWrite (buf : Bytes)
  /-- R467. An image write completes, authenticating the slot when LAST is set. -/
  | imageWriteDone
  /-- R467. Confirms the running TRIAL image and raises the SEC_VERSION floor. -/
  | imageConfirm (buf : Bytes)
  /-- R467. Returns the state of both image slots and the fused floor. -/
  | imageStatus (buf : Bytes)
  /-- R476. The SRAM scrubber reads and corrects the next word.  `bad` is 0, 1 or 2 for no, one, or more bits in error. -/
  | sramScrubStep (bad : Fin 3) (syndrome : BitVec 8)
  /-- R476. An SRAM scrub pass not ended 2 s after its start raises SCRUB_LATE. -/
  | sramScrubLate
  /-- R491. The DRAM scrubber reads and corrects the next row at its pace. -/
  | dramScrubRow (bad : List BadWord)
  /-- R483. A per-bank refresh interval passes; refresh runs, is postponed, or is forced. -/
  | refreshDue (ch : Fin 2) (rank : Fin 2)
  /-- R484. Recorder FIFOs empty and postponed refresh debt is paid off. -/
  | refreshDebtPayoff
  /-- R483. Every 16 ms mode register 4 is read to set the refresh rate factor.  `factor` is 0, 1 or 2 for a rate factor of 1, 0.5 or 0.25. -/
  | mr4Poll (ch : Fin 2) (factor : Fin 3)
  /-- R488. Every 100 ms each rank's DQS oscillator is read and drift schedules retraining.  `drift` in 0.1 % of a unit interval. -/
  | dqsOscRead (ch : Fin 2) (drift : Nat)
  /-- R488. Scheduled retraining runs in the first slot without cells or within 1 s. -/
  | dramRetrain (ch : Fin 2) (converges : Bool)
  /-- R490. Spare-rank migration finishes and the old rank is retired. -/
  | migrationComplete (ch : Fin 2)
  /-- R478. The DRAM parameter record write completes and SETTLING ends. -/
  | paramRecordDurable
  /-- R486. All writes of a recorder block are acknowledged and WRITE_SEQ advances.  the samples of a block, the fabric cycle, ASN and generation of the first, and the bytes left in the FIFO. -/
  | recorderBlockWritten (r : Fin 3) (samples : Bytes) (start : BitVec 64) (asn : BitVec 64) (gen : BitVec 32) (left : Nat)
  /-- R487. A recorder FIFO fills and samples are dropped.  samples dropped. -/
  | recorderFifoFull (r : Fin 3) (dropped : Nat)
  /-- R494. Stages DRAM controller settings and start parameters. -/
  | dramConfig (buf : Bytes)
  /-- R488. Long command running channel retraining. -/
  | dramTrain (buf : Bytes)
  /-- R490. Long command starting spare-rank migration. -/
  | dramSpareMigrate (buf : Bytes)
  /-- R495. Stages one radio's sample recorder. -/
  | recorderConfig (buf : Bytes)
  /-- R496. Returns recorder ring bytes with write sequence numbers. -/
  | recorderRead (buf : Bytes)
  /-- R496. Returns the memory error log. -/
  | memErrorLogRead (buf : Bytes)
  /-- R514. Scheduler operation doing nothing. -/
  | schNop (c : Fin 8)
  /-- R514. Scheduler operation blocking a thread until a raise, post or timeout.  `c` is the core that writes SCH_OP; the arguments lie in its SCH_ARG registers. -/
  | wait (c : Fin 8)
  /-- R514. Scheduler operation posting to a thread. -/
  | post (c : Fin 8)
  /-- R514. Scheduler operation yielding to an equal-priority thread. -/
  | yield (c : Fin 8)
  /-- R514. Scheduler operation making a thread DORMANT and discarding its tickets. -/
  | exit (c : Fin 8)
  /-- R514. Scheduler operation starting a thread from ENTRY.  `userPc` is the pc of a core that runs in user privilege. -/
  | start (c : Fin 8) (userPc : Option (BitVec 64))
  /-- R514. Scheduler operation raising a software interrupt source. -/
  | raise (c : Fin 8)
  /-- R515. Scheduler operation issuing a flow ticket. -/
  | flowEnter (c : Fin 8)
  /-- R515. Scheduler operation waiting for a ticket's turn and releasing it. -/
  | flowRelease (c : Fin 8)
  /-- R515. Scheduler operation resolving a ticket without waiting. -/
  | flowDrop (c : Fin 8)
  /-- R519. Scheduler operation taking the next event for an EVP core. -/
  | takeEvent (c : Fin 8)
  /-- R514. Scheduler operation adding an event to a queue. -/
  | putEvent (c : Fin 8)
  /-- R514. Scheduler operation changing a thread's own priority. -/
  | setPriority (c : Fin 8) (userPc : Option (BitVec 64))
  /-- R514. Scheduler operation raising EV_CLUSTER_NOTIFY. -/
  | notify (c : Fin 8)
  /-- R519. Scheduler operation ending an EVP core's held event. -/
  | endEvent (c : Fin 8)
  /-- R513. A read of SCH_WAKE returns and clears WAKE bits. -/
  | schWakeRead (c : Fin 8) (high : Bool)
  /-- R513. A read of SCH_POSTS returns and clears the post count. -/
  | schPostsRead (c : Fin 8)
  /-- R514. A WAIT or TAKE_EVENT time limit expires. -/
  | waitTimeout (who : Waiter)
  /-- R510. A thread runs QUANTUM_US while an equal-priority thread is ready and is sliced. -/
  | quantumExpiry (c : Fin 8)
  /-- R506. A core with nothing to run for 2 µs is clock-gated. -/
  | coreClockGate (c : Fin 8)
  /-- R520. A synchronous exception goes to the handler or faults the thread.  `bus`: the bus error of an uncorrectable word; `pc` is the faulting pc. -/
  | syncException (c : Fin 8) (bus : Bool) (pc : BitVec 64)
  /-- R520. A core retires no instruction for 10 ms. -/
  | coreHang (c : Fin 8)
  /-- R526. A read of a performance counter low word latches its high word.  `n` is 0 for the fixed counter and 1 + k for counter k. -/
  | pmuLowWordRead (c : Fin 8) (userPc : Option (BitVec 64)) (bank : Fin 13) (n : Fin 9)
  /-- R528. Stages core modes, OPP policy, trace, bindings and queues. -/
  | schedConfig (buf : Bytes)
  /-- R508. Stages thread table entries. -/
  | threadTableLoad (buf : Bytes)
  /-- R529. Host rings a cluster doorbell or posts an event. -/
  | clusterPost (buf : Bytes)
  /-- R529. Host writes data into the cluster region. -/
  | clusterMemWrite (buf : Bytes)
  /-- R529. Returns thread states. -/
  | threadRead (buf : Bytes)
  /-- R529. Returns scheduler trace records. -/
  | traceRead (buf : Bytes)
  /-- R526. Programs one performance counter bank. -/
  | pmuConfig (buf : Bytes)
  /-- R526. Returns one performance counter bank as a snapshot. -/
  | pmuRead (buf : Bytes)
  /-- R549. A fault source is raised and handled by its severity, merging, latching and reactions.  `named` is the function that the raise names. -/
  | faultSourceRaise (n : Fin 192) (named : Nat) (detail : BitVec 64)
  /-- R549. A source's 1 s S0/S1 report interval ends and any counted raises are reported. -/
  | faultReportInterval (n : Fin 192)
  /-- R552. A reaction's shadow window closes 50 µs after its end.  `recNo` is the number of the reaction's fault record. -/
  | shadowWindowClose (recNo : Nat)
  /-- R549. 1 ms after the safe state, once rails recover, an S3 reaction starts a warm restart. -/
  | s3WarmRestart
  /-- R539. Firmware writes the safety loop token to Confluence.  `confirmed` is the count of monitors confirmed. -/
  | safetyLoopToken (token : BitVec 32) (confirmed : Nat)
  /-- R539. A token missing or wrong for 2 ms stops SAFE_OK and raises the source. -/
  | safetyLoopLate
  /-- R540. Every 10 µs the safety balls and broadband detectors are read back.  `differ` marks the balls that read back wrong: SAFE_OK, FAULT_N, PA_EN A to C, TR_SW A to C; `hotRadios` the radios whose broadband reading is above −40 dBm. -/
  | safeOutputReadback (differ : BitVec 8) (hotRadios : BitVec 3)
  /-- R541. Every 1 s firmware code and constants are hashed and compared.  `same`: the hash matches the value taken at load. -/
  | fwIntegrity (same : Bool)
  /-- R558. Stages severities, reset targets and shadow sets. -/
  | faultTableLoad (buf : Bytes)
  /-- R560. Returns the latch, log and per-source counts. -/
  | faultLogRead (buf : Bytes)
  /-- R560. Clears the first-fault latch. -/
  | faultClear (buf : Bytes)
  /-- R559. Raises any source as if detected, 10 µs after the response. -/
  | faultInject (buf : Bytes)
  /-- R559. Raises a host fault source. -/
  | faultRaise (buf : Bytes)
  /-- R568. Every 10 ms the sensors are sampled, the governor stepped and lifetime stress accumulated. -/
  | thermalSample (readings : List Int) (bad : BitVec 8)
  /-- R567. At each whole Spring second a telemetry record is written. -/
  | telemetryRecord
  /-- R575. Every hour the lifetime stress record is written to NOR. -/
  | stressRecord
  /-- R574. The lifetime limit is reached or 30 days pass after it, raising LIFE_STRESS. -/
  | lifeStress
  /-- R576. Returns telemetry records. -/
  | telemetryRead (buf : Bytes)
  /-- R576. Returns lifetime stress totals. -/
  | stressRead (buf : Bytes)
  /-- R589. Stages drive, pull and slew of GPIO 24–47. -/
  | padConfig (buf : Bytes)
  /-- R610. A request whose opcode no chapter defines is taken from a ring and answered RC_BAD_OPCODE without changing state. -/
  | badOpcodeRequest
  /-- R446. Firmware services the control-processor watchdog, restarting its 100 ms expiry. -/
  | watchdogService
  /-- R289. A cipher page operation finishes on its AES core, clearing BUSY, setting DONE and raising the page's scheduler source for cluster pages.  `disagree` is an AES core whose datapaths disagreed. -/
  | pageOperationDone (p : Fin 32) (disagree : Option (Fin 4))
  deriving DecidableEq, Repr

end Sys2Proof
end

