-- ==== Sys2Proof/Decode.lean ====
section
/-!
DEFINITION. The commands that a word spells by the command table's bits.  The table gives no row any bits: a command reaches the
block as a register access, a KCI request or an event, so no word spells one (log entry 1).
-/

namespace Sys2Proof

/-- The command that the word `w` of `nbits` bits spells. -/
def decodeTableWord (_nbits _w : Nat) : Option Instr := none

end Sys2Proof
end

