-- ==== Sys2Proof/Machine/Bits.lean ====
section
/-!
DEFINITION. Byte order, fields of byte runs and small bit helpers.
R6: multi-byte values are little-endian, bit 0 is the least significant bit, a range [h:l] holds both ends.
-/

namespace Sys2Proof.Machine

/-- The number that a little-endian run of bytes holds (R6). -/
def leNat : Bytes → Nat
  | [] => 0
  | b :: bs => b.toNat + 256 * leNat bs

/-- The `n` low bytes of `v`, least significant first (R6). -/
def leBytes : Nat → Nat → Bytes
  | 0, _ => []
  | n + 1, v => BitVec.ofNat 8 v :: leBytes n (v / 256)

/-- The number that a big-endian run of bytes holds. -/
def beNat (bs : Bytes) : Nat := leNat bs.reverse

/-- The `n` low bytes of `v`, most significant first. -/
def beBytes (n v : Nat) : Bytes := (leBytes n v).reverse

/-- `n` bytes of `bs` from offset `o`; bytes beyond the end read as zero. -/
def slice (bs : Bytes) (o n : Nat) : Bytes :=
  let t := (bs.drop o).take n
  t ++ List.replicate (n - t.length) 0

/-- The unsigned little-endian field of `n` bytes at offset `o`. -/
def field (bs : Bytes) (o n : Nat) : Nat := leNat ((bs.drop o).take n)

def u8 (bs : Bytes) (o : Nat) : Nat := field bs o 1
def u16 (bs : Bytes) (o : Nat) : Nat := field bs o 2
def u32 (bs : Bytes) (o : Nat) : Nat := field bs o 4
def u64 (bs : Bytes) (o : Nat) : Nat := field bs o 8

/-- The two's complement reading of an `n`-bit number. -/
def signed (n v : Nat) : Int := if v < 2 ^ (n - 1) then (v : Int) else (v : Int) - (2 : Int) ^ n

def i8 (bs : Bytes) (o : Nat) : Int := signed 8 (u8 bs o)
def i16 (bs : Bytes) (o : Nat) : Int := signed 16 (u16 bs o)
def i32 (bs : Bytes) (o : Nat) : Int := signed 32 (u32 bs o)
def i64 (bs : Bytes) (o : Nat) : Int := signed 64 (u64 bs o)

/-- The `n`-bit two's complement code of an integer, as a number. -/
def unsigned (n : Nat) (v : Int) : Nat := (v % (2 : Int) ^ n).toNat

/-- `n` bytes of the two's complement code of `v`, least significant first. -/
def leInt (n : Nat) (v : Int) : Bytes := leBytes n (unsigned (8 * n) v)

/-- Bits [h:l] of `v`. -/
def bits (v h l : Nat) : Nat := v / 2 ^ l % 2 ^ (h + 1 - l)

/-- Bit `b` of `v`. -/
def bit (v b : Nat) : Bool := v / 2 ^ b % 2 == 1

/-- A condition as a number. -/
def flag (b : Bool) : Nat := if b then 1 else 0

/-- `v` with bit `b` set to `x`. -/
def withBit (v b : Nat) (x : Bool) : Nat :=
  if bit v b == x then v else if x then v + 2 ^ b else v - 2 ^ b

/-- The whole number not below `a / b` (R11). -/
def ceilDiv (a b : Nat) : Nat := (a + b - 1) / b

/-- The smaller of the value and the largest value of a fold count `n` bits wide (R9). -/
def foldSat (n v : Nat) : Nat := min v (2 ^ n - 1)

/-- CRC-8 with polynomial x⁸ + x² + x + 1 and initial value 0xFF over the `n` low bits of `v`, bit n − 1 first (R91, R303). -/
def crc8 (n v : Nat) : Nat :=
  (List.range n).foldl (fun r i =>
    let top := (r / 128 + flag (bit v (n - 1 - i))) % 2
    if top = 1 then (r * 2 % 256) ^^^ 7 else r * 2 % 256) 0xFF

/-- `n` zero bytes. -/
def zeros (n : Nat) : Bytes := List.replicate n 0

/-- `bs` with the bytes from offset `o` replaced by `v`; nothing beyond the end is written. -/
def patch (bs : Bytes) (o : Nat) (v : Bytes) : Bytes :=
  bs.take o ++ v.take (bs.length - o) ++ bs.drop (o + v.length)

/-- Cut a run of bytes into pieces of `n`, `k` pieces at most. -/
def chunks (n : Nat) : Nat → Bytes → List Bytes
  | 0, _ => []
  | k + 1, bs => if bs.isEmpty then [] else bs.take n :: chunks n k (bs.drop n)

/-- The positions 0 to `n` − 1 that satisfy `p`, rising. -/
def indices (n : Nat) (p : Nat → Bool) : List Nat := (List.range n).filter p

/-- The largest element, or `d` for an empty list. -/
def maxOr (d : Nat) (l : List Nat) : Nat := l.foldl max d

/-- The number of one bits among the low `n` bits. -/
def popcount (n v : Nat) : Nat := (indices n (bit v)).length

/-- Exclusive or, byte by byte, over the shorter length. -/
def xorBytes (a b : Bytes) : Bytes := List.zipWith (· ^^^ ·) a b

end Sys2Proof.Machine
end

