-- ==== Sys2Proof/Machine/FaultTable.lean ====
section
/-!
DEFINITION. The fault sources with their severities, floors, reset targets and default shadow sets
(R169, R195, R244, R282, R314, R347, R381, R397, R423, R456, R501, R534, R544 to R547, R555).
-/

namespace Sys2Proof.Machine

/-- A default reset target (R544). -/
inductive Target where
  | fn (n : Nat)
  /-- The function that the raise names. -/
  | byRaise
  /-- No function. -/
  | nothing
  deriving DecidableEq, Repr

/-- Severity and floor of the six sources of a radio, in the order of R169. -/
def radioSev : List (Nat × Nat) := [(2, 2), (3, 3), (2, 1), (2, 2), (2, 1), (1, 0)]

/-- The same for the three sources of a channeliser group (R195). -/
def groupSev : List (Nat × Nat) := [(2, 2), (2, 1), (2, 2)]

/-- The same for the three sources of a core (R534). -/
def coreSev : List (Nat × Nat) := [(1, 0), (2, 2), (2, 1)]

/-- Severity and floor of FS_043 to FS_074. -/
def midSev : List (Nat × Nat) :=
  [(2, 2), (2, 2), (1, 1), (1, 1), (1, 1), (1, 1), (2, 2), (2, 2), (2, 1), (2, 2), (2, 2), (1, 0), (2, 1), (1, 1),
    (3, 3), (2, 2), (2, 1), (2, 2), (0, 0), (0, 0), (1, 0), (3, 3), (2, 2), (2, 2), (3, 3), (1, 0), (2, 2), (2, 1),
    (1, 0), (2, 2), (1, 0), (3, 3)]

/-- Severity and floor of FS_099 to FS_128. -/
def highSev : List (Nat × Nat) :=
  [(2, 2), (2, 2), (2, 2), (2, 2), (1, 0), (2, 1), (2, 1), (3, 3), (2, 2), (1, 0), (1, 0), (3, 2), (3, 3), (3, 3),
    (3, 3), (1, 0), (3, 3), (3, 2), (2, 2), (2, 2), (3, 3), (2, 1), (3, 2), (1, 0), (3, 3), (4, 4), (3, 3), (3, 3),
    (1, 1), (4, 4)]

/-- Severity and floor of FS_168 to FS_191 (R456, R547). -/
def topSev : List (Nat × Nat) :=
  [(0, 0), (3, 3), (3, 3), (3, 2), (3, 3), (3, 3), (2, 2), (2, 2), (3, 3), (3, 3), (2, 1), (3, 3)]
    ++ List.replicate 8 (2, 1) ++ [(0, 0), (3, 2), (4, 4), (0, 0)]

/-- Default severity and floor of source `n`. -/
def sevFloor (n : Nat) : Nat × Nat :=
  if n < 18 then radioSev.getD (n % 6) (0, 0)
  else if n = 18 then (1, 0)
  else if n < 43 then groupSev.getD ((n - 19) % 3) (0, 0)
  else if n < 75 then midSev.getD (n - 43) (0, 0)
  else if n < 99 then coreSev.getD ((n - 75) % 3) (0, 0)
  else if n < 129 then highSev.getD (n - 99) (0, 0)
  else if n < 168 then (0, 0)
  else topSev.getD (n - 168) (0, 0)

/-- The function that owns source `n` (R545); radio A stands for the dynamic owner of FS_018. -/
def sourceOwner (n : Nat) : Nat :=
  if n < 18 then 0x0100 + n / 6
  else if n = 18 then 0x0100
  else if n < 43 then 0x0200 + (n - 19) / 3
  else if n < 45 then 0x0300
  else if n < 50 then 0x0400
  else if n < 53 then 0x0500
  else if n < 58 then 0x0700
  else if n < 63 then 0x0800
  else if n < 75 then 0x0900
  else if n < 99 then 0x0A00 + (n - 75) / 3
  else if n < 102 then 0x0B00
  else if n < 104 then 0x0C00
  else if n < 108 then 0x0D00
  else if n < 112 then 0x0E00
  else if n < 168 then 0x0F00
  else 0x1000

/-- Reserved sources (R546). -/
def reservedSource (n : Nat) : Bool := (145 ≤ n && n ≤ 167) || 192 ≤ n

/-- Default reset target of source `n` (R544 to R547). -/
def defaultTarget (n : Nat) : Target :=
  if n = 18 || n = 116 || n = 117 || n = 121 then .byRaise
  else if n = 65 then .fn 0x0300
  else if n = 66 then .fn 0x0400
  else if n = 118 then .fn 0x0600
  else if n = 120 then .fn 0x0700
  else if 112 ≤ n && n < 168 then .nothing
  else .fn (sourceOwner n)

/-- The sources that R555 adds to a source's default shadow set, those of FS_000, FS_006 and FS_012 without the
FLOOR_DEAD sources of their radio's groups. -/
def furtherShadow (n : Nat) : List Nat :=
  if n = 172 then [173, 174, 175, 2, 8, 14, 18, 51, 104, 105, 107, 117]
  else if n = 173 then [2, 8, 14, 18, 51, 107, 116, 117]
  else if n = 169 || n = 170 || n = 171 then [168, 169, 170, 171, 173, 174, 178, 63, 68, 114]
  else if n = 0 || n = 6 || n = 12 then [51]
  else if n = 112 then (List.range 15).map (113 + ·)
  else if n = 64 then [119, 121]
  else if n = 190 then (List.range 10).map (180 + ·)
  else []

/-- The other sources of the owning function and of its members, with the further sources (R555). -/
def defaultShadow (n : Nat) : List Nat :=
  if reservedSource n then []
  else
    (indices 192 fun j => j != n && !reservedSource j && sourceOwner j == sourceOwner n)
      ++ furtherShadow n

/-- A set of sources as the 24 bytes of R558. -/
def shadowBytes (l : List Nat) : Bytes :=
  (List.range 24).map fun j =>
    BitVec.ofNat 8 ((List.range 8).foldl (fun a i => if l.contains (8 * j + i) then a + 2 ^ i else a) 0)

/-- The sources that the 24 bytes of R558 name. -/
def shadowList (b : Bytes) : List Nat := indices 192 fun n => bit (u8 b (n / 8)) (n % 8)

/-- The default entry of source `n` in the form of R558. -/
def defaultFaultEntry (n : Nat) : Bytes :=
  leBytes 1 (sevFloor n).1 ++ [0] ++ leBytes 2 0xFFFF ++ shadowBytes (defaultShadow n)

end Sys2Proof.Machine
end

