-- ==== Sys2Proof/Config.lean ====
section
/-!
DEFINITION. What an implementation fixes and the spec leaves open: opaque constants with no body, so that no proof
can see what they are.
-/

namespace Sys2Proof

/-- A value the spec leaves open, the `i`-th that a run needs, reduced to `n` values by the reader
(log entry 3). -/
opaque Config.freeValue (i : Nat) : Nat

/-- The fused 256-bit device key as 32 bytes' numbers: byte `i` (R291; log entry 4). -/
opaque Config.deviceKey (i : Nat) : BitVec 8

/-- The fused 256-bit provisioning key, byte `i` (R296, R298; log entry 4). -/
opaque Config.provisioningKey (i : Nat) : BitVec 8

/-- Where in the device region the key store begins, reduced by the reader (log entry 98). -/
opaque Config.keyStoreAt : Nat

/-- A byte of the sample and LLR buffers while they are in use, by fabric cycle and address: what comes from the antennas
(log entry 117). -/
opaque Config.sampleByte (cycle address : Nat) : BitVec 8

end Sys2Proof
end

