-- ==== Sys2Proof/Machine/Maps.lean ====
section
/-!
DEFINITION. Operations on sparse tables (`NMap`) and on byte-addressed memory (a list of `Host.Cell`).
A table's keys strictly rise; a memory lists no cell equal to what an unlisted address reads as.
-/

namespace Sys2Proof.Machine

/-- The entry of `m` at key `k`, if any. -/
def mget {α : Type} : NMap α → Nat → Option α
  | [], _ => none
  | (j, v) :: r, k => if k == j then some v else if k < j then none else mget r k

/-- The entry of `m` at key `k`, or `d`. -/
def mgetD {α : Type} (m : NMap α) (k : Nat) (d : α) : α := (mget m k).getD d

/-- `m` with key `k` holding `v`. -/
def mset {α : Type} : NMap α → Nat → α → NMap α
  | [], k, v => [(k, v)]
  | (j, w) :: r, k, v =>
    if k < j then (k, v) :: (j, w) :: r else if k == j then (k, v) :: r else (j, w) :: mset r k v

/-- `m` without key `k`. -/
def mdel {α : Type} : NMap α → Nat → NMap α
  | [], _ => []
  | (j, w) :: r, k => if k < j then (j, w) :: r else if k == j then r else (j, w) :: mdel r k

/-- `m` with key `k` holding `v`, an entry equal to `d` being left out. -/
def msetD {α : Type} [DecidableEq α] (d : α) (m : NMap α) (k : Nat) (v : α) : NMap α :=
  if v = d then mdel m k else mset m k v

/-- `m` with the entry at `k` (`d` if none) changed by `f`. -/
def mmod {α : Type} [DecidableEq α] (d : α) (m : NMap α) (k : Nat) (f : α → α) : NMap α :=
  msetD d m k (f (mgetD m k d))

/-- Keys strictly rise. -/
def keysRise {α : Type} : NMap α → Bool
  | [] => true
  | [_] => true
  | (j, _) :: (k, w) :: r => decide (j < k) && keysRise ((k, w) :: r)

/-- A byte-addressed memory: the listed cells; every other address reads as zero
(DESIGN CHOICE, log entry 2). -/
abbrev Mem := List Host.Cell

/-- What an address reads as that no write has changed. -/
def memUnlisted : Byte := 0

/-- One byte read. -/
def memRead (m : Mem) (a : Nat) : Byte := mgetD m a memUnlisted

/-- One byte written; the canonical form is kept. -/
def memWrite (m : Mem) (a : Nat) (b : Byte) : Mem := msetD memUnlisted m a b

/-- A run of bytes written at rising addresses. -/
def memWrites (m : Mem) (a : Nat) : Bytes → Mem
  | [] => m
  | b :: bs => memWrites (memWrite m a b) (a + 1) bs

/-- `n` bytes read from address `a` on. -/
def memReads (m : Mem) (a : Nat) : Nat → Bytes
  | 0 => []
  | n + 1 => memRead m a :: memReads m (a + 1) n

/-- The canonical form: addresses strictly rise and no cell holds what an unlisted address reads as. -/
def Memory.wf (m : Mem) : Bool := keysRise m && m.all fun c => c.2 != memUnlisted

end Sys2Proof.Machine
end

