-- ==== Sys2Proof/Machine/Defaults.lean ====
section
/-!
DEFINITION. Default content of every part of every configuration set (R471): what a part reads as that no commit
has changed.  A field for which the spec gives no default is zero (DESIGN CHOICE, log entry 5).
A table entry that is absent is the empty run of bytes, except where an all-zero entry has the same meaning.
-/

namespace Sys2Proof.Machine

/-- `RADIO_CONFIG` (R160). -/
def radioConfigDefault : Bytes :=
  zeros 22 ++ [0xEE, 6] ++ zeros 6 ++ [6, 40, 5] ++ zeros 3

/-- `RADIO_FE_PINS` (R161). -/
def fePinsDefault : Bytes :=
  zeros 16 ++ leBytes 2 5 ++ leBytes 2 2 ++ leBytes 2 2 ++ leBytes 2 5 ++ leBytes 2 20 ++ zeros 2

/-- `LINK_CONFIG` (R84, R116): gateway, the default slot template, no parent. -/
def linkConfigDefault : Bytes :=
  zeros 8 ++ leBytes 4 4000 ++ leBytes 4 1000 ++ leBytes 4 2000 ++ leBytes 4 200 ++ zeros 16
    ++ leBytes 4 0xFFFFFFFF ++ zeros 4

/-- `SLUICE_CONFIG` (R274). -/
def sluiceConfigDefault : Bytes :=
  [0, 0, 2, 4] ++ leBytes 4 60000 ++ [3, 0, 0, 0] ++ [1, 9, 0, 0, 0, 0, 0, 0] ++ [1, 9, 0, 0, 0, 0, 0, 0]
    ++ [1, 9, 0, 0, 0, 0, 0, 0]

/-- `POWER_CONFIG` (R418). -/
def powerConfigDefault : Bytes :=
  zeros 4 ++ leBytes 2 1000 ++ leBytes 2 500 ++ leBytes 4 5000 ++ [0xFF, 0xFF, 0xFF, 0]

/-- `SUPPLY_CONFIG` (R449). -/
def supplyConfigDefault : Bytes :=
  [1, 4] ++ leBytes 2 650 ++ leBytes 2 850 ++ leBytes 2 700 ++ leBytes 2 2000 ++ zeros 2
    ++ leBytes 2 400 ++ leBytes 2 650 ++ leBytes 2 800 ++ leBytes 2 700 ++ leBytes 2 1200 ++ leBytes 2 775
    ++ leBytes 2 1600 ++ leBytes 2 850 ++ zeros 16 ++ zeros 84

/-- `TIME_CONFIG` (R374). -/
def timeConfigDefault : Bytes :=
  [0, 0xFF, 0, 0] ++ leBytes 4 100000 ++ leBytes 4 10000 ++ leBytes 4 10000 ++ leBytes 4 0 ++ leBytes 4 100000
    ++ leBytes 2 60 ++ leBytes 2 3600 ++ leBytes 4 500 ++ zeros 8 ++ leBytes 2 1800 ++ leBytes 2 1200 ++ zeros 4

/-- `SCHED_CONFIG` (R528). -/
def schedConfigDefault : Bytes :=
  [0, 1, 0, 0, 7, 80, 30, 0] ++ leBytes 2 10000 ++ zeros 2 ++ List.replicate 128 0xFF ++ zeros 256

/-- `DRAM_CONFIG` (R494). -/
def dramConfigDefault : Bytes := [0, 1] ++ leBytes 2 200 ++ [24, 64] ++ leBytes 2 512 ++ [12, 3, 0] ++ zeros 5

/-- `RECORDER_CONFIG` of radio `r`: off. -/
def recorderConfigDefault (r : Nat) : Bytes := leBytes 1 r ++ zeros 15

/-- `TIMER_CONFIG` (R394): the smallest PRESCALE and INIT_PERIOD, no output ball. -/
def timerConfigDefault : Bytes :=
  zeros 4 ++ leBytes 4 1 ++ leBytes 4 1 ++ zeros 4 ++ [0xFF, 0, 0xFF, 0] ++ zeros 4

/-- `FRAME_RING_CONFIG` of ring `r`: disabled, the smallest size (R77). -/
def ringConfigDefault (r : Nat) : Bytes := leBytes 1 r ++ [0, 6, 0] ++ zeros 4

/-- `EDDY_CONFIG` (R237). -/
def eddyConfigDefault : Bytes :=
  [2, 1, 0, 0] ++ zeros 6 ++ leBytes 2 100 ++ leBytes 2 20 ++ leBytes 2 12 ++ leBytes 2 8 ++ zeros 14

/-- `RIFFLE_CONFIG` (R238). -/
def riffleConfigDefault : Bytes :=
  [24, 24, 16, 12, 2, 3] ++ leBytes 2 1000 ++ leBytes 2 128 ++ zeros 6

/-- A queue block of `WEIR_EGRESS_LOAD`: no rates, the smallest weight and limit (R340). -/
def weirQueueDefault (e q : Nat) : Bytes :=
  [if q < 4 then 0 else 1, 0] ++ leBytes 2 (if 2 ≤ e && e ≤ 4 then 0 else 1) ++ zeros 12

/-- `WEIR_EGRESS_LOAD` of egress `e`: the smallest rate (R340). -/
def weirEgressDefault (e : Nat) : Bytes :=
  leBytes 1 e ++ zeros 3 ++ leBytes 4 (if 2 ≤ e && e ≤ 4 then 0 else 64) ++ zeros 4
    ++ (List.range 16).flatMap (weirQueueDefault e)

/-- `PORT_CONFIG`: the smallest MAX_FRAME (R342). -/
def portConfigDefault : Bytes := zeros 2 ++ leBytes 2 1518 ++ zeros 12

/-- Default of the part that opcode `op` writes at selector `sel`, index `idx` of function `fn`. -/
def defaultPart (_fn op sel idx : Nat) : Bytes :=
  match op with
  | 0x0010 => zeros 4
  | 0x0040 => ringConfigDefault sel
  | 0x0101 => radioConfigDefault
  | 0x0102 => fePinsDefault
  | 0x0301 => eddyConfigDefault
  | 0x0401 => riffleConfigDefault
  | 0x0501 => sluiceConfigDefault
  | 0x0601 => linkConfigDefault
  | 0x0701 => zeros 4
  | 0x0502 => if sel ≤ 2 then leBytes 1 sel ++ zeros 15 else []
  | 0x0801 => zeros 248
  | 0x0803 => weirEgressDefault sel
  | 0x0806 => portConfigDefault
  | 0x0901 => dramConfigDefault
  | 0x0904 => recorderConfigDefault sel
  | 0x0B01 => schedConfigDefault
  | 0x0C01 => timerConfigDefault
  | 0x0D01 => timeConfigDefault
  | 0x0E01 => powerConfigDefault
  | 0x0F01 => defaultFaultEntry idx
  | 0x1001 => supplyConfigDefault
  | 0x1009 => List.replicate 24 5
  | _ => []

end Sys2Proof.Machine
end

