-- ==== Sys2Proof/Machine/StateCipher.lean ====
section
/-!
DEFINITION. State of the cipher engine, the transmit counters and the journal (chapter 08).
The key store is the part of the configuration sets that `KEY_IMPORT` and `KEY_DELETE` write (R299).
-/

namespace Sys2Proof.Machine

/-- A page operation in progress on an AES core, or a verification until its verdict (R287 to R289). -/
structure PageJob where
  op : Nat
  /-- Reason code that its end posts. -/
  reason : Nat
  /-- For TAG_VERIFY: the tag matches. -/
  good : Bool
  /-- The received link frame that it verifies, if it is one. -/
  frame : Option Nat
  /-- PG_DEST and PG_REL_LEN as they stood when it started. -/
  dest : BitVec 40
  relLen : Nat
  deriving DecidableEq, Repr

/-- A page (functions 0x0720–0x073F). -/
structure Page where
  /-- The key loaded and its index; none with no key. -/
  key : Option (Nat × Bytes)
  /-- Chaining register, OUT and IN, 16 bytes each. -/
  x : Bytes
  out : Bytes
  inp : Bytes
  /-- Received tag. -/
  tag : Bytes
  /-- The quarantine buffer and whether it holds data. -/
  q : Bytes
  held : Bool
  busy : Option PageJob
  done : Bool
  /-- Reason code of the last operation. -/
  reason : BitVec 16
  keyIndex : BitVec 18
  tagLen : BitVec 5
  relLen : BitVec 11
  dest : BitVec 40
  deriving DecidableEq, Repr

/-- A context that the engine has written, with the bytes that stand for it in memory (R291). -/
structure SavedCtx where
  blob : Bytes
  wrapped : Bool
  key : Option (Nat × Bytes)
  x : Bytes
  out : Bytes
  tagLen : BitVec 5
  relLen : BitVec 11
  deriving DecidableEq, Repr

/-- A transmit counter slot (R300). -/
structure TxSlot where
  next : BitVec 32
  adv : Bool
  /-- Generation of the commit that opened it: a frame of an earlier one belongs to the key deleted before (R301). -/
  since : Nat
  deriving DecidableEq, Repr

/-- A journal record that is to be programmed, or as its word is read (R303). -/
structure JRecord where
  key : Nat
  /-- Reservation ceiling / 4,096. -/
  block : Nat
  retired : Bool
  /-- Copied forward from a sector that is reclaimed. -/
  copied : Bool
  deriving DecidableEq, Repr

/-- A journal sector (R303). -/
structure Sector where
  /-- The 32 bytes of its header; all ones in a free sector. -/
  header : Bytes
  erases : BitVec 32
  /-- The words of the record slots used, newest first; every other slot reads as all ones. -/
  words : List (BitVec 64)
  deriving DecidableEq, Repr

/-- The journal (R302 to R304). -/
structure Journal where
  sectors : Vector Sector 16
  head : Nat
  /-- Records to program, the first in progress. -/
  queue : List JRecord
  /-- Failed programs of the first record. -/
  fails : Nat
  fault : Bool
  /-- Sector that is reclaimed. -/
  reclaim : Option Nat
  deriving DecidableEq, Repr

/-- The cipher engine (function 0x0700). -/
structure Cipher where
  pages : Vector Page 32
  /-- AES cores out of service, bit c, and the page that each core serves (R286). -/
  coresOut : BitVec 4
  cores : Vector (Option (Fin 32)) 4
  /-- Pages last granted a core of pages 0–3 and of pages 4–31, and grants to pages 0–3 in a row while one of pages 4–31
  waited. -/
  lastLow : Fin 32
  lastHigh : Fin 32
  lowRun : Nat
  /-- Indexes in the key cache, newest first (R295). -/
  cache : List Nat
  contexts : List SavedCtx
  slots : NMap TxSlot
  /-- Keys whose exhaustion has been reported (R301). -/
  exhausted : List Nat
  journal : Journal
  deriving DecidableEq, Repr

/-- A page after reset (R289, R308). -/
def Page.reset : Page where
  key := none
  x := List.replicate 16 0
  out := List.replicate 16 0
  inp := List.replicate 16 0
  tag := List.replicate 16 0
  q := List.replicate 1280 0
  held := false
  busy := none
  done := false
  reason := 0
  keyIndex := 0
  tagLen := 8
  relLen := 0
  dest := 0

/-- An erased sector. -/
def Sector.reset : Sector where
  header := List.replicate 32 0xFF
  erases := 0
  words := []

/-- The header of a sector (R303). -/
def sectorHeader (seq erases : Nat) : Bytes :=
  let b := leBytes 4 0x4A524E4C ++ leBytes 4 seq ++ leBytes 4 erases ++ zeros 19
  b ++ leBytes 1 (crc8 248 (beNat b))

/-- A journal with sector 0 opened and nothing recorded. -/
def Journal.reset : Journal where
  sectors := (Vector.replicate 16 Sector.reset).set 0 { Sector.reset with header := sectorHeader 1 0 }
  head := 0
  queue := []
  fails := 0
  fault := false
  reclaim := none

def Cipher.reset : Cipher where
  pages := Vector.replicate 32 Page.reset
  coresOut := 0
  cores := Vector.replicate 4 none
  lastLow := 3
  lastHigh := 31
  lowRun := 0
  cache := []
  contexts := []
  slots := []
  exhausted := []
  journal := Journal.reset

end Sys2Proof.Machine
end

