-- ==== Sys2Proof/Machine/StateCluster.lean ====
section
/-!
DEFINITION. State of the application cluster and task scheduler (chapter 16) and of the timer units (chapter 11).
-/

namespace Sys2Proof.Machine

/-- The states of a thread, in the order of R507. -/
inductive ThreadStatus where
  | free
  | dormant
  | ready
  | running
  | waiting
  | faulted
  deriving DecidableEq, Repr

/-- The scheduler registers that belong to a context: SCH_ARG0–2, SCH_RESULT, SCH_VALUE (R513). -/
structure SchRegs where
  arg0 : BitVec 32
  arg1 : BitVec 32
  arg2 : BitVec 32
  result : BitVec 16
  value : BitVec 32
  deriving DecidableEq, Repr

/-- What a WAITING thread waits for (R507, R514). -/
inductive ThreadWait where
  | nothing
  /-- WAIT with its limit in µs, 0 for none. -/
  | wait (limit : Nat)
  /-- FLOW_RELEASE of a ticket. -/
  | turn (flow ticket : Nat)
  deriving DecidableEq, Repr

/-- A thread (R507, R508, R529). -/
structure Thread where
  status : ThreadStatus
  /-- Present priority. -/
  priority : BitVec 6
  /-- WAKE bits. -/
  wake : BitVec 64
  /-- SCH_POSTS. -/
  posts : BitVec 32
  waits : ThreadWait
  /-- Fabric cycle at which its WAIT began. -/
  since : BitVec 64
  /-- FAULT_CAUSE and FAULT_PC. -/
  cause : BitVec 8
  faultPc : BitVec 64
  /-- ENTRY, STACK and ARG taken at the last start. -/
  pc : BitVec 64
  sp : BitVec 64
  arg : BitVec 64
  regs : SchRegs
  deriving DecidableEq, Repr

/-- The holder of a ticket (R515). -/
inductive Holder where
  | thread (t : Nat)
  | core (c : Nat)
  deriving DecidableEq, Repr

/-- A ticket that its flow's gate has not passed. -/
structure Ticket where
  flow : Nat
  ticket : BitVec 32
  holder : Holder
  resolved : Bool
  deriving DecidableEq, Repr

/-- An ordered flow (R515). -/
structure Flow where
  nextTicket : BitVec 32
  gate : BitVec 32
  deriving DecidableEq, Repr

/-- What an EVP core waits for. -/
inductive CoreWait where
  | nothing
  /-- TAKE_EVENT with its limit in µs, 0 for none. -/
  | take (limit : Nat)
  /-- END_EVENT of a SEQUENCED event: the ticket's turn. -/
  | turn
  deriving DecidableEq, Repr

/-- An event that an EVP core holds (R519): its queue and payload. -/
structure HeldEvent where
  queue : Nat
  payload : BitVec 64
  /-- Flow and ticket of a SEQUENCED event; flow held by a SERIAL event. -/
  ticket : Option (Nat × BitVec 32)
  serial : Option Nat
  deriving DecidableEq, Repr

/-- One core as the scheduler sees it. -/
structure Core where
  /-- The thread that runs on it. -/
  thread : Option Nat
  /-- Clock-gated with nothing to run (R506). -/
  gated : Bool
  /-- An EVP core that faulted and awaits its reset (R520). -/
  halted : Bool
  /-- A debugger halts it (R390). -/
  debugHalt : Bool
  /-- Registers of its own context, used in EVP mode. -/
  regs : SchRegs
  held : Option HeldEvent
  waits : CoreWait
  /-- Fabric cycle of the last dispatch to it, of the start of its TAKE_EVENT, or from which it has had nothing to run. -/
  since : BitVec 64
  /-- The queue last taken from at each queue priority. -/
  lastTook : NMap Nat
  /-- Core cycles while not gated, in 1/400 of a cycle (R523). -/
  cycles : Nat
  /-- Part of a busy cycle not yet counted, in 1/400 of a cycle. -/
  busyPart : Nat
  deriving DecidableEq, Repr

/-- A programmable counter of a bank (R524 to R526, R529). -/
structure Pmc where
  event : BitVec 8
  filter : BitVec 8
  master : BitVec 8
  base : BitVec 32
  limit : BitVec 32
  value : BitVec 64
  latch : BitVec 32
  deriving DecidableEq, Repr

/-- A performance counter bank (R523). -/
structure Bank where
  user : Bool
  fixedLatch : BitVec 32
  counters : Vector Pmc 8
  deriving DecidableEq, Repr

/-- The cluster and the task scheduler (functions 0x0A00–0x0A07 and 0x0B00). -/
structure Cluster where
  threads : NMap Thread
  /-- READY threads; the list of one priority is what this list holds of it, in order. -/
  ready : List Nat
  cores : Vector Core 8
  flows : NMap Flow
  tickets : List Ticket
  queues : NMap (List (BitVec 64))
  /-- Trace records, newest first, 4,096 at most, the number written and whether STOP mode has stopped (R522). -/
  trace : List Bytes
  traceSeq : Nat
  traceStopped : Bool
  /-- Busy core cycles and cluster cycles since the last evaluation of the load, in 1/400 of a cycle (R505). -/
  evalBusy : Nat
  evalClock : Nat
  banks : Vector Bank 13
  deriving DecidableEq, Repr

/-- A timer unit (R384 to R393). -/
structure Timer where
  run : Bool
  /-- Counting down. -/
  down : Bool
  count : Nat
  /-- PERIOD in force, as written last, and shadowed. -/
  period : Nat
  periodWritten : Nat
  periodShadow : Option Nat
  ticks : BitVec 64
  ticksHi : BitVec 32
  /-- FIRED, LATE, ZERO, TOP, ONE_CYCLE_DONE, PERIOD_CLIPPED, FROZEN. -/
  status : BitVec 13
  armed : BitVec 4
  cmp : Vector (BitVec 32) 4
  /-- Compare values written whose writes have not taken effect, oldest first (R386). -/
  cmpNew : Vector (List (BitVec 32)) 4
  step : Vector (BitVec 31) 4
  missed : Vector (BitVec 32) 4
  wcmp : Vector (BitVec 31) 2
  wcmpShadow : Vector (Option (BitVec 31)) 2
  /-- Prescaler phase at the instant given next, and that instant in fabric cycles and Spring ticks: the last prescaled tick,
  the last start or wake (R391). -/
  phase : Nat
  phaseFabric : BitVec 64
  phaseSpring : BitVec 48
  /-- Output levels. -/
  out : BitVec 2
  deriving DecidableEq, Repr

/-- Registers of a context after reset (R513). -/
def SchRegs.reset : SchRegs where
  arg0 := 0
  arg1 := 0
  arg2 := 0
  result := 0
  value := 0

/-- A thread without an entry. -/
def Thread.reset : Thread where
  status := .free
  priority := 0
  wake := 0
  posts := 0
  waits := .nothing
  since := 0
  cause := 0
  faultPc := 0
  pc := 0
  sp := 0
  arg := 0
  regs := SchRegs.reset

/-- A flow that has issued no ticket. -/
def Flow.reset : Flow where
  nextTicket := 0
  gate := 0

/-- An idle core. -/
def Core.reset : Core where
  thread := none
  gated := false
  halted := false
  debugHalt := false
  regs := SchRegs.reset
  held := none
  waits := .nothing
  since := 0
  lastTook := []
  cycles := 0
  busyPart := 0

def Pmc.reset : Pmc where
  event := 0
  filter := 0
  master := 0
  base := 0
  limit := 0
  value := 0
  latch := 0

def Bank.reset : Bank where
  user := false
  fixedLatch := 0
  counters := Vector.replicate 8 Pmc.reset

def Cluster.reset : Cluster where
  threads := []
  ready := []
  cores := Vector.replicate 8 Core.reset
  flows := []
  tickets := []
  queues := []
  trace := []
  traceSeq := 0
  traceStopped := false
  evalBusy := 0
  evalClock := 0
  banks := Vector.replicate 13 Bank.reset

/-- A timer unit after reset, with INIT_PERIOD 1 (R392). -/
def Timer.reset : Timer where
  run := false
  down := false
  count := 0
  period := 1
  periodWritten := 1
  periodShadow := none
  ticks := 0
  ticksHi := 0
  status := 0
  armed := 0
  cmp := Vector.replicate 4 0
  cmpNew := Vector.replicate 4 []
  step := Vector.replicate 4 0
  missed := Vector.replicate 4 0
  wcmp := Vector.replicate 2 0
  wcmpShadow := Vector.replicate 2 none
  phase := 0
  phaseFabric := 0
  phaseSpring := 0
  out := 0

end Sys2Proof.Machine
end

