-- ==== Sys2Proof/Machine/StateKci.lean ====
section
/-!
DEFINITION. State of the Kilusk Command Interface, of the two configuration sets of every function
and of the start (chapters 01, 02 and 14).
-/

namespace Sys2Proof.Machine

/-- A request as its header and inline body give it (R54). -/
structure Req where
  opcode : Nat
  flags : Nat
  tag : Nat
  fn : Nat
  length : Nat
  expectGen : Nat
  bufAddr : Nat
  bufLen : Nat
  reserved : Nat
  body : Bytes
  deriving DecidableEq, Repr

/-- One mailbox (R44, R46, R47, R51 to R53). -/
structure Mbx where
  /-- MBX_REQ_TAIL [8:0]. -/
  reqTail : BitVec 9
  /-- MBX_REQ_HEAD [8:0]. -/
  reqHead : BitVec 9
  /-- MBX_RSP_TAIL [8:0]. -/
  rspTail : BitVec 9
  /-- MBX_RSP_HEAD [8:0]. -/
  rspHead : BitVec 9
  /-- MBX_STATUS.ERROR. -/
  error : Bool
  /-- Requests handed over by the doorbell and not yet taken, oldest first. -/
  waiting : List Req
  /-- Ring entries of each response not yet released by MBX_RSP_HEAD, oldest first. -/
  rspOut : List Nat
  /-- Responses that wait for space in the response ring, oldest first (R58: STALLED). -/
  rspHeld : List Bytes
  deriving DecidableEq, Repr

/-- A request whose response is not yet due: a function reset, a NOW commit or a power entry. -/
structure Executing where
  mbx : Fin 4
  req : Req
  deriving DecidableEq, Repr

/-- An accepted long command (R59), with the variable part it was given. -/
structure LongCmd where
  /-- Number under which its work knows it. -/
  id : Nat
  mbx : Fin 4
  req : Req
  buf : Bytes
  /-- Its `EV_CMD_DONE` has been discarded (R57): the command still runs, and its tag is free. -/
  quiet : Bool
  deriving DecidableEq, Repr

/-- One MSI-X vector (R44, R76). -/
structure Vec where
  /-- INT_HOLDOFF [9:0], µs. -/
  holdoff : BitVec 10
  /-- No message has been sent since the last INT_VEC_EOI. -/
  armed : Bool
  /-- The holdoff since the last message has elapsed. -/
  elapsed : Bool
  /-- Messages sent, and address and data of the last one. -/
  sent : Nat
  last : Option (BitVec 64 × BitVec 32)
  /-- The vector's entry of the MSI-X table (R39): message address, message data and mask bit. -/
  msgAddr : BitVec 64
  msgData : BitVec 32
  masked : Bool
  /-- The vector's bit of the pending-bit array: a message that its mask holds back. -/
  pba : Bool
  deriving DecidableEq, Repr

/-- A frame or record due on a ring to the host (R78): its KIND, outcome, generation and bytes. -/
structure RingItem where
  ring : Nat
  kind : Nat
  reason : Nat
  generation : BitVec 32
  data : Bytes
  deriving DecidableEq, Repr

/-- The host control block (R43, R44) with its mailboxes, event ring and interrupts. -/
structure Kci where
  mbx : Vector Mbx 4
  /-- DBG_BASE_LO [31:12] and DBG_BASE_HI [7:0], as the window base address. -/
  dbgLo : BitVec 32
  dbgHi : BitVec 32
  /-- The debug window is open (R49). -/
  dbgOpen : Bool
  /-- The physical base that the open window maps (R611). -/
  dbgMap : Nat
  /-- EVT_TAIL and EVT_HEAD [10:0]. -/
  evtTail : BitVec 11
  evtHead : BitVec 11
  /-- Dropped-record counter (R74). -/
  dropped : BitVec 64
  /-- EVT_DROPPED_HI, latched by a read of EVT_DROPPED_LO. -/
  droppedHi : BitVec 32
  /-- Records dropped since the last `EV_EVENT_RING_OVERFLOW` record. -/
  droppedSince : Nat
  /-- INT_MODE.MODE: 1 is MSI-X. -/
  intMode : Bool
  /-- INT_MODE.GLOBAL_EN. -/
  globalEn : Bool
  /-- INT_PENDING0–7 and INT_ENABLE0–7, source n in bit n. -/
  intPending : BitVec 256
  intEnable : BitVec 256
  /-- INT_VECTOR, one byte per source. -/
  intVector : NMap Byte
  vecs : Vector Vec 32
  /-- The command in execution whose response is not yet due. -/
  executing : Option Executing
  /-- The mailbox (1 to 3) served last in the rotation of R58. -/
  lastServed : Nat
  /-- Accepted long commands not yet done, oldest first (R59). -/
  longs : List LongCmd
  longNext : Nat
  /-- SEQ of the next response (R57). -/
  seq : BitVec 64
  /-- BAR0 bytes without behaviour of their own: mailbox rings, event ring, MSI-X table (R43). -/
  bar0 : Mem
  /-- BAR2 bytes: descriptor area and device buffer pool (R77). -/
  bar2 : Mem
  /-- RING_HOST_IDX and RING_DEV_IDX [12:0] of rings 0–15. -/
  ringHost : Vector (BitVec 13) 16
  ringDev : Vector (BitVec 13) 16
  /-- Rings with a starvation episode in progress (R79). -/
  starved : NMap Bool
  /-- What is due on rings 0–7 and waits for descriptors, oldest first (R79). -/
  ringWait : List RingItem
  /-- Host memory as the device's DMA has written it (R39, R55, R78). -/
  hostMem : Mem
  /-- Bytes shifted out by the last SPI read transaction (R40). -/
  spiOut : Bytes
  /-- PCIe configuration space, of which the spec gives no register (R414, log entry 154). -/
  config : Mem
  /-- Value returned by the last read of a register that the command table has a row for. -/
  readOut : Nat
  deriving DecidableEq, Repr

/-- Boundary of a commit (R29). -/
inductive Boundary where
  | now
  /-- NEXT_SLOT and ASN: the slot that acceptance fixes. -/
  | slot (asn : Nat)
  deriving DecidableEq, Repr

/-- A pending commit (R27): the functions it applies and the frozen image of their staged sets. -/
structure Commit where
  functions : List Nat
  image : NMap Bytes
  boundary : Boundary
  /-- TARGET_GEN of R66. -/
  targetGen : Nat
  /-- Staged entry writes that it applies, by staging opcode. -/
  writes : NMap Nat
  deriving DecidableEq, Repr

/-- What the control processor keeps for one function (R37, R69 to R72). -/
structure FnState where
  epoch : BitVec 64
  inReset : Bool
  settling : Bool
  /-- HELD by a safety reaction. -/
  held : Bool
  deriving DecidableEq, Repr

/-- A function reset in progress (R70): the function named and the fault source whose S2 reaction
started it, if any. -/
structure ResetJob where
  fn : Nat
  source : Option Nat
  deriving DecidableEq, Repr

/-- The two configuration sets of every function and the commit machinery (R25 to R37).
A set is held as the bodies of the staging commands that write its parts (R616), keyed by `cfgKey`;
a part equal to its default is not listed. -/
structure Coherence where
  active : NMap Bytes
  staged : NMap Bytes
  /-- Active sets of earlier generations under which work is still in progress (R36). -/
  past : NMap (NMap Bytes)
  /-- Staged entry writes that wait for a commit, by staging opcode (R119, R299, R339). -/
  writes : NMap Nat
  generation : BitVec 32
  /-- Generation in force at the start of the slot in progress (R36). -/
  slotGen : BitVec 32
  /-- ASN of the slot in which, or at whose start, the last commit was applied. -/
  lastSlot : Option Nat
  commit : Option Commit
  fns : NMap FnState
  resets : List ResetJob
  deriving DecidableEq, Repr

/-- A firmware image slot of the NOR flash (R464).  Erased flash reads as ones, so the complement of each byte is held,
from the slot base on. -/
structure ImageSlot where
  content : Mem
  deriving DecidableEq, Repr

/-- The kind of a start (R45 START_KIND). -/
inductive StartKind where
  | cold
  | warm
  deriving DecidableEq, Repr

/-- What the device is about to do, or doing, about starts (R443, R458, R468 to R470). -/
inductive StartPhase where
  /-- A reset has ended and the start of this kind is due; `hib` is set for a wake from HIBERNATE. -/
  | due (k : StartKind) (hib : Bool)
  /-- `DEVICE_RESTART` has been answered and the restart has not begun (R448). -/
  | commanded (k : StartKind)
  /-- READY is 1 and 10 s have not yet passed (R468). -/
  | proving (k : StartKind)
  /-- The start succeeded, or was ended without outcome. -/
  | inService
  /-- SAFE_HOLD (R470). -/
  | safeHold
  /-- TEST_MODE: the device does not start (R590). -/
  | factoryTest
  deriving DecidableEq, Repr

/-- Boot registers, straps, fuses and images (R44, R45, R458 to R474, R590). -/
structure Boot where
  phase : StartPhase
  /-- BOOT_STATUS fields (R45). -/
  ready : Bool
  startKind : StartKind
  hostSel : Bool
  imageSlot : Bool
  fallback : Bool
  padHold : Bool
  warmFails : BitVec 4
  coldFails : BitVec 4
  step : BitVec 8
  /-- BOOT_REASON. -/
  reasonStep : BitVec 16
  reasonCode : BitVec 16
  /-- Straps sampled at the last cold start (R590). -/
  refSel : Bool
  springExt : Bool
  testMode : Bool
  fuses : FuseSet
  /-- The fuses are those that a start has loaded (the model's own field). -/
  fused : Bool
  slot0 : ImageSlot
  slot1 : ImageSlot
  /-- PCIE_PERST_N is low (R445). -/
  perstLow : Bool
  /-- Spring count at which READY was set (R468). -/
  readyAt : BitVec 48
  deriving DecidableEq, Repr

end Sys2Proof.Machine
end

