-- ==== Sys2Proof/Machine/StateMemory.lean ====
section
/-!
DEFINITION. State of the on-chip memory and of the DRAM controller (chapter 15).
-/

namespace Sys2Proof.Machine

/-- The DRAM parameter record of the NOR flash (R478, R490). -/
structure DramRecord where
  /-- GRAIN_LOG2, RATE_CODE and SPARE_EN. -/
  grain : BitVec 8
  rate : BitVec 8
  spare : Bool
  /-- Channels whose rank 0 is retired. -/
  retired0 : Bool
  retired1 : Bool
  deriving DecidableEq, Repr

/-- A migration to the spare rank (R490): start, cause and the tag of a command. -/
structure Migration where
  start : BitVec 64
  cause : Nat
  tag : Option Nat
  /-- Thousandths of a MB copied before `start`. -/
  base : Nat
  /-- Fabric cycle at which a reset of the channel paused it. -/
  paused : Option (BitVec 64)
  deriving DecidableEq, Repr

/-- A DRAM channel (functions 0x0910 and 0x0911). -/
structure Channel where
  /-- Refresh debt of ranks 0 and 1 in tREFI, at most 8. -/
  debt : Vector (BitVec 4) 2
  /-- Per-bank refreshes since the debt last grew, per rank. -/
  refBanks : Vector (BitVec 3) 2
  /-- 1, 2 or 4 for a rate factor of 1, 0.5 or 0.25 (R483). -/
  rate : BitVec 8
  /-- Retraining is scheduled, since a fabric cycle, and the tags of the `DRAM_TRAIN` commands that asked for it. -/
  retrain : Bool
  retrainAt : BitVec 64
  retrainTags : List Nat
  migration : Option Migration
  /-- Spring counts of the correctable errors of the rank in service, newest first. -/
  ceTimes : List (BitVec 48)
  deriving DecidableEq, Repr

/-- A sample recorder (R485 to R487). -/
structure Recorder where
  /-- Running since the commit that started it. -/
  running : Bool
  stopped : Bool
  /-- BLOCK_SEQ of the next block and WRITE_SEQ. -/
  seq : BitVec 64
  writeSeq : BitVec 64
  /-- Bytes in the FIFO. -/
  fifo : Nat
  /-- Samples dropped since the last block. -/
  gap : Nat
  /-- An overrun episode is in progress. -/
  overrun : Bool
  deriving DecidableEq, Repr

/-- On-chip memory and DRAM (function 0x0900). -/
structure Memory where
  /-- Every byte that a master can address: SRAM from 0x1000_0000, DRAM from 0x8_0000_0000 (R23, R479). -/
  phys : Mem
  /-- Gb per channel per rank and ranks per channel, as fitted and read at the last cold start; 0 before it (R477). -/
  density : Nat
  ranks : Nat
  /-- Parameters in force. -/
  grain : BitVec 8
  rate : BitVec 8
  spare : Bool
  retired0 : Bool
  retired1 : Bool
  /-- The record in NOR, and one that is being written. -/
  record : Option DramRecord
  recordNew : Option DramRecord
  channels : Vector Channel 2
  /-- Open rows, by bank key, with the fabric cycle of the last access (R482). -/
  openRows : NMap (Nat × BitVec 64)
  /-- Words that read as uncorrectable until written whole, by address of the word. -/
  poison : NMap Bool
  /-- Byte offset of the SRAM scrubber, and the fabric cycle at which its pass began (R476). -/
  scrubOffset : Nat
  scrubStart : BitVec 64
  /-- Rows scrubbed in the DRAM pass and the Spring count at which it began (R491). -/
  dramRow : Nat
  dramStart : BitVec 48
  recorders : Vector Recorder 3
  /-- The 16 newest entries of the error log and the number of errors (R496). -/
  errLog : List Bytes
  errCount : BitVec 32
  deriving DecidableEq, Repr

def Channel.reset : Channel where
  debt := Vector.replicate 2 0
  refBanks := Vector.replicate 2 0
  rate := 1
  retrain := false
  retrainAt := 0
  retrainTags := []
  migration := none
  ceTimes := []

def Recorder.reset : Recorder where
  running := false
  stopped := false
  seq := 0
  writeSeq := 0
  fifo := 0
  gap := 0
  overrun := false

/-- Memory before the first cold start has trained the DRAM (R478's defaults). -/
def Memory.reset : Memory where
  phys := []
  density := 0
  ranks := 0
  grain := 12
  rate := 3
  spare := false
  retired0 := false
  retired1 := false
  record := none
  recordNew := none
  channels := Vector.replicate 2 Channel.reset
  openRows := []
  poison := []
  scrubOffset := 0
  scrubStart := 0
  dramRow := 0
  dramStart := 0
  recorders := Vector.replicate 3 Recorder.reset
  errLog := []
  errCount := 0

end Sys2Proof.Machine
end

