-- ==== Sys2Proof/Machine/StatePower.lean ====
section
/-!
DEFINITION. State of the power manager (chapter 12) and of the supply and clock monitors (chapter 13).
-/

namespace Sys2Proof.Machine

/-- The power states of R399. -/
inductive PowerState where
  | run
  | slotIdle
  | doze
  | hibernate
  | off
  deriving DecidableEq, Repr

/-- Where an entry to a sleep state, or an exit, stands (R406 to R410). -/
inductive SleepPhase where
  | awake
  /-- Phase 1: voter class `silent` has not acknowledged. -/
  | voting (silent : Nat)
  /-- Past the point of no return P. -/
  | entering
  | asleep
  /-- Exit has begun; the reference is not yet qualified. -/
  | waking
  /-- The reference is qualified; the bases are not yet rebuilt. -/
  | qualified
  /-- The bases are rebuilt. -/
  | rebuilt
  deriving DecidableEq, Repr

/-- A raise held until RUN is reached (R409). -/
structure HeldRaise where
  source : Nat
  fn : Nat
  detail : BitVec 64
  injected : Bool
  /-- Fabric cycles, ASN and Spring count at the raise (R556). -/
  fabric : BitVec 64
  asn : BitVec 64
  spring : BitVec 48
  deriving DecidableEq, Repr

/-- An access of the host in DOZE, which completes once the exit is done (R412, R413). -/
inductive HostAccess where
  | reqTail (m : Fin 4) (v : BitVec 32)
  | rspHead (m : Fin 4) (v : BitVec 32)
  | control (m : Fin 4) (v : BitVec 32)
  | evtHead (v : BitVec 32)
  | droppedRead
  | intClear (k : Fin 8) (v : BitVec 32)
  | eoi (v : BitVec 32)
  | dbgBase (high : Bool) (v : BitVec 32)
  | ringIdx (r : Fin 16) (v : BitVec 32) (bufs : List Bytes)
  | write (addr : Nat) (v : BitVec 32)
  deriving DecidableEq, Repr

/-- Domains that a sleep isolates beside the radios (R22, R408, R415). -/
inductive Domain where
  | cluster
  | otherSram
  | core
  | dram
  deriving DecidableEq, Repr

/-- The power manager (function 0x0E00). -/
structure Power where
  state : PowerState
  phase : SleepPhase
  /-- Sleep state sought or held, and whether the host commanded it. -/
  target : PowerState
  commanded : Bool
  /-- WAKE_MASK in force and WAKE_SPRING, if armed (R411). -/
  wakeMask : BitVec 8
  wakeSpring : Option (BitVec 48)
  /-- LAST_WAKE and LAST_STATE (Spring domain). -/
  lastWake : BitVec 8
  lastState : BitVec 8
  lastRefuser : BitVec 16
  lastExitUs : BitVec 16
  /-- Refused automatic entries in the present second: count and first refuser (R404). -/
  aborts : Nat
  abortFirst : Nat
  /-- An automatic entry was refused in the present gap: the instant, network time in ns, of the need that ends the gap, if
  there is one (R404). -/
  refusedGap : Option (Option Nat)
  /-- Instant of the need for which the present wake runs, Spring count, and its function. -/
  wakeNeed : Option (Nat × Nat)
  /-- A wake source fired after P (R408). -/
  wakePending : Option Nat
  /-- Spring count at which the wake source fired. -/
  wakeAt : BitVec 48
  /-- Raises held by R409. -/
  held : List HeldRaise
  /-- HIB_IND and REF_EN ball levels (R414, R418). -/
  hibInd : Bool
  refEn : Bool
  /-- Spring count at the start of the present SLOT_IDLE or DOZE, for the time counters. -/
  since : BitVec 48
  /-- The checksum table of Backwater: CRC-32 of each region but the last, written at HIBERNATE entry (R417). -/
  sealed : Option (List Nat)
  /-- Domains isolated for a sleep (R415). -/
  isolated : List Domain
  /-- DRAM is in self-refresh, SRAM in retention, the thread contexts stand in general SRAM, and the PLLs are stopped
  (R408). -/
  selfRefresh : Bool
  retention : Bool
  contextsSaved : Bool
  pllsStopped : Bool
  /-- Network time, ns, of the last SLEEP_SNAPSHOT. -/
  sleptNs : Nat
  /-- Accesses of the host that wait for the exit from DOZE, in their order (R413). -/
  hostHeld : List HostAccess
  /-- PCIe configuration space as Backwater holds it during HIBERNATE (R414, R416). -/
  savedConfig : Option Mem
  deriving DecidableEq, Repr

/-- One rail (R425, R432). -/
structure Rail where
  /-- TARGET_MV and PRESENT_MV (R453). -/
  target : Nat
  present : Nat
  /-- Below its warning level. -/
  warn : Bool
  /-- Minimum since it crossed its warning level in the present dip, if it did. -/
  minimum : Option Nat
  deriving DecidableEq, Repr

/-- A supply dip in progress (R435): the rail code that started it, 0xF for the ball, and its start in both time bases. -/
structure Dip where
  cause : Nat
  start : BitVec 64
  startSpring : BitVec 48
  deriving DecidableEq, Repr

/-- A write to the PMIC: the voltage code of a rail's VSEL_REG, or the EN_BIT of its EN_REG (R450). -/
inductive PmicData where
  | code (v : Nat)
  | enable (bit : Nat) (on : Bool)
  deriving DecidableEq, Repr

/-- A write that I²C master 1 makes to the PMIC: rail code, device address, register and data (R428, R450). -/
structure PmicWrite where
  rail : Nat
  addr : Nat
  reg : Nat
  data : PmicData
  deriving DecidableEq, Repr

/-- A rail whose thresholds do not follow its new target yet: the lowest earlier target, and the fabric cycle and Spring count
of the change (R433). -/
structure Settle where
  old : Nat
  at_ : BitVec 64
  spring : BitVec 48
  deriving DecidableEq, Repr

/-- A change of the cluster operating point in progress (R430): the point sought and the fabric cycle at which the
cluster PLL begins to relock. -/
structure OppChange where
  idx : Nat
  relockAt : BitVec 64
  deriving DecidableEq, Repr

/-- Supplies, clocks and resets (function 0x1000, first part). -/
structure Supply where
  rails : Vector Rail 10
  /-- SUPPLY_WARN_N is low. -/
  warnBall : Bool
  dip : Option Dip
  /-- `SUPPLY_CONFIG` has been committed since the cold start (R428). -/
  configured : Bool
  /-- Present OPP index and frequency of the cluster PLL in MHz, and a change in progress (R430). -/
  opp : Nat
  mhz : Nat
  oppNext : Option OppChange
  /-- Rails whose target has changed and whose thresholds do not follow it yet (R433). -/
  settling : NMap Settle
  /-- Rails removed at the PMIC (R425). -/
  removed : List Nat
  /-- The writes made to the PMIC, oldest first (the record of I²C master 1). -/
  writes : List PmicWrite
  /-- PMIC writes not acknowledged: rail and repeats made (R428). -/
  pmic : NMap Nat
  /-- The reference clock is present; PLL faults by code; the Spring clock runs (R442). -/
  refPresent : Bool
  pllFaults : List Nat
  springRuns : Bool
  /-- Fabric cycles in RUN or SLOT_IDLE since the control-processor watchdog was serviced (R446). -/
  watchdog : Nat
  deriving DecidableEq, Repr

end Sys2Proof.Machine
end

