-- ==== Sys2Proof/Machine/StateRadio.lean ====
section
/-!
DEFINITION. State of the radios, synthesisers and calibration store (chapter 04).
-/

namespace Sys2Proof.Machine

/-- SYNTH of R166. -/
inductive Synth where
  | off
  | settling
  | locked
  | background
  | hostCal
  deriving DecidableEq, Repr

/-- A calibration item (R149, R152): an LO entry when `chan` is 0; `full` marks a full calibration. -/
structure CalItem where
  synth : Nat
  lo : Nat
  chan : Nat
  full : Bool
  deriving DecidableEq, Repr

/-- An entry of the calibration store (R149). -/
structure CalEntry where
  lo : BitVec 32
  chan : BitVec 32
  synth : BitVec 2
  isChan : Bool
  vcoBand : BitVec 6
  /-- TEMP_TAG, 0.125 °C. -/
  temp : Int
  loopGain : BitVec 8
  corrA : BitVec 16
  corrB : BitVec 16
  corrC : BitVec 16
  corrD : BitVec 16
  /-- CAL_TIME, whole Spring seconds. -/
  time : BitVec 32
  deriving DecidableEq, Repr

/-- Correction values of an entry, CORR_A to CORR_D (R149). -/
structure Corrections where
  a : BitVec 16
  b : BitVec 16
  c : BitVec 16
  d : BitVec 16
  deriving DecidableEq, Repr

/-- Neutral corrections (R150). -/
def Corrections.neutral : Corrections := ⟨0, 0, 0, 0⟩

/-- One window of a radio (R129, R132, R153). -/
structure Window where
  /-- Present gain, dB. -/
  gain : Nat
  /-- Peak RMS window power of the last slot with a receiving cell, dBFS at 0 dB gain (R129). -/
  peak : Option Int
  /-- The next slot with a receiving cell is the first after a commit or a wake (R129). -/
  fresh : Bool
  /-- Fabric cycle of the last clip step. -/
  clipAt : Option (BitVec 64)
  /-- Fabric cycle of the last completed test tone. -/
  toneAt : Option (BitVec 64)
  deriving DecidableEq, Repr

/-- A committed change whose physical effect is not complete (R147). -/
structure RadioChange where
  modeChanged : Bool
  /-- The commit enabled the radio: a first lock and the owed calibration complete it. -/
  enabling : Bool
  /-- The affected windows. -/
  win0 : Bool
  win1 : Bool
  /-- The physical retune has begun. -/
  started : Bool
  deriving DecidableEq, Repr

/-- One radio (functions 0x0100–0x0102). -/
structure Radio where
  synth : Synth
  /-- Present LO, Hz. -/
  lo : Nat
  /-- LO to which the synthesiser settles, and whether a forced calibration runs first (R144, R150). -/
  loNext : Nat
  forced : Bool
  /-- The analog domain is on (R402). -/
  powered : Bool
  /-- Thermal sensor reading, 0.125 °C. -/
  temp : Int
  windows : Vector Window 2
  /-- Blanked by transmission: from TR_SW assertion until 20 µs after its deassertion (R136). -/
  blanked : Bool
  change : Option RadioChange
  /-- Tag of the host-commanded calibration that runs (R157). -/
  hostCal : Option Nat
  /-- The items of that calibration, in their order (R162). -/
  hostItems : List CalItem
  /-- Background calibration running and the queue behind it (R152, R156). -/
  bgCal : Option CalItem
  calQueue : List CalItem
  /-- A starved condition has been reported for the head item (R566). -/
  starved : Bool
  /-- A start owes the radio its calibration (R460). -/
  owed : Bool
  /-- Items started in one second of Spring time, and that second (R565). -/
  calCount : Nat
  calSecond : Nat
  /-- Fabric cycle of the last power-up of the analog domain. -/
  onSince : BitVec 64
  /-- Levels set by `RADIO_PIN_DRIVE`, bit n for CTL n (R163). -/
  staticDrive : BitVec 8
  trSw : Bool
  paEn : Bool
  txActive : Bool
  rxActive : Bool
  /-- Fabric cycles of the observation rejections, newest first (R139). -/
  strikes : List (BitVec 64)
  /-- The synthesiser lost lock and has not relocked (R145). -/
  unlocked : Bool
  /-- Receive DC trim and transmit LO leakage loaded from the LO entry at the last retune (R133, R134). -/
  trim : Corrections
  deriving DecidableEq, Repr

/-- The radios with what they share. -/
structure Radios where
  unit : Vector Radio 3
  /-- Calibration store, by entry number 0–4,095; an absent entry is not valid. -/
  store : NMap CalEntry
  /-- The radio for which the observation synthesiser generates a tone (R148). -/
  obsServes : Option (Fin 3)
  deriving DecidableEq, Repr

end Sys2Proof.Machine
end

