-- ==== Sys2Proof/Machine/StateRouter.lean ====
section
/-!
DEFINITION. State of the router, its ports, the policers and Weir's egress queues (chapter 09).
-/

namespace Sys2Proof.Machine

/-- A packet or frame in an egress queue. -/
structure Packet where
  /-- Ethernet: the frame from destination address to the end of its payload; host ring: the packet. -/
  data : Bytes
  /-- Host ring: REASON and GENERATION of its descriptor. -/
  reason : Nat
  generation : BitVec 32
  deriving DecidableEq, Repr

/-- A token bucket, in units that its rate adds once per fabric cycle, and the fabric cycle of its last update. -/
structure Tokens where
  level : Int
  at_ : BitVec 64
  deriving DecidableEq, Repr

/-- One egress queue (R331). -/
structure EgQueue where
  packets : List Packet
  /-- Negative after a frame that a guaranteed rate sent (R331). -/
  deficit : Int
  minTokens : Tokens
  maxTokens : Tokens
  deriving DecidableEq, Repr

/-- An empty queue. -/
def EgQueue.reset : EgQueue := ⟨[], 0, ⟨0, 0⟩, ⟨0, 0⟩⟩

/-- One egress of Weir (R331 to R333). -/
structure Egress where
  queues : Vector EgQueue 16
  /-- Queue last served by the guaranteed rates. -/
  minLast : Nat
  /-- Queue whose turn it is in the weighted round, and whether this turn has added its quantum. -/
  turn : Nat
  added : Bool
  /-- Fabric cycle from which the egress may send again (SHAPE_RATE). -/
  nextAt : BitVec 64
  deriving DecidableEq, Repr

/-- An egress with empty queues. -/
def Egress.reset : Egress := ⟨Vector.replicate 16 EgQueue.reset, 15, 4, false, 0⟩

/-- One policer (R328): the buckets of committed and excess or peak rate, and its packet counts. -/
structure PolicerState where
  committed : Tokens
  excess : Tokens
  green : Nat
  yellow : Nat
  red : Nat
  deriving DecidableEq, Repr

/-- A policer that has not run. -/
def PolicerState.reset : PolicerState := ⟨⟨0, 0⟩, ⟨0, 0⟩, 0, 0, 0⟩

/-- One Ethernet port (R317, R318). -/
structure Port where
  up : Bool
  /-- SPEED code of R344. -/
  speed : Nat
  /-- Fabric cycles at which a received PAUSE began to hold transmission and until which it does. -/
  paused : Option (BitVec 64 × BitVec 64)
  /-- The last frame sent on the line, without its FCS (the model's own field). -/
  sent : Bytes
  deriving DecidableEq, Repr

/-- A packet in the relay service: neighbour, egress queue, packet and generation (R327). -/
structure RelayPacket where
  nb : Nat
  queue : Nat
  packet : Bytes
  generation : BitVec 32
  /-- The colour with which it left its policer is yellow (R329). -/
  yellow : Bool
  deriving DecidableEq, Repr

/-- The router (function 0x0800) with Weir. -/
structure Router where
  /-- Egresses 0 to 5: ports 0 and 1, radios A to C, host ring. -/
  egress : Vector Egress 6
  policers : NMap PolicerState
  ports : Vector Port 2
  relay : List RelayPacket
  /-- Fabric cycle of the relay service's last packet. -/
  relayAt : BitVec 64
  /-- Drops in the present second: count, egress and queue of the first (R334). -/
  drops : Nat
  dropEgress : Nat
  dropQueue : Nat
  /-- Packets that the router's resets ended, oldest first, each with the reason with which it ended: no counter or ring record
  of the spec shows them (the model's own field, log entry 165). -/
  ended : List Packet
  deriving DecidableEq, Repr

/-- The router after a start. -/
def Router.reset : Router where
  egress := Vector.replicate 6 Egress.reset
  policers := []
  ports := Vector.replicate 2 ⟨false, 0, none, []⟩
  relay := []
  relayAt := 0
  drops := 0
  dropEgress := 0
  dropQueue := 0
  ended := []

end Sys2Proof.Machine
end

