-- ==== Sys2Proof/Machine/StateLink.lean ====
section
/-!
DEFINITION. State of the Oxgon link controller (chapter 03).
-/

namespace Sys2Proof.Machine

/-- A replay window (R104). -/
structure Replay where
  /-- Something has been received since the window was cleared. -/
  received : Bool
  highest : BitVec 32
  bitmap : BitVec 64
  deriving DecidableEq, Repr

/-- A replay window that has received nothing. -/
def Replay.reset : Replay := ⟨false, 0, 0⟩

/-- The fields of a neighbour entry that the device owns (R110). -/
structure NbState where
  lostSync : Bool
  win : Replay
  /-- Bit i: the frame with counter HIGHEST − i has been listed in a group acknowledgement (R97). -/
  listed : BitVec 64
  lastSync : BitVec 48
  offsetUs : Int
  /-- The frame accepted last, and its measured arrival error, µs (R102). -/
  errFrame : Option Nat
  err : Int
  /-- The LAST_ACK fields hold an acknowledgement. -/
  acked : Bool
  ackCtr : BitVec 32
  /-- MIC_ECHO of that acknowledgement: it is sent again byte for byte (R107). -/
  ackEcho : BitVec 32
  ackCorr : Int
  ackFlags : BitVec 8
  accepted : BitVec 64
  duplicate : BitVec 64
  deriving DecidableEq, Repr

/-- The device-owned fields of an entry that a commit has cleared at Spring count `t` (R111). -/
def NbState.cleared (t : BitVec 48) : NbState where
  lostSync := false
  win := Replay.reset
  listed := 0
  lastSync := t
  offsetUs := 0
  errFrame := none
  err := 0
  acked := false
  ackCtr := 0
  ackEcho := 0
  ackCorr := 0
  ackFlags := 0
  accepted := 0
  duplicate := 0

/-- Synchronisation with the parent (R109). -/
inductive LinkSync where
  | synced
  | search
  | scan
  deriving DecidableEq, Repr

/-- A receiving cell of a slot with its channel and window (R101). -/
structure SlotCell where
  sf : Nat
  idx : Nat
  /-- The entry of R87. -/
  cell : Bytes
  ch : Nat
  /-- Early and late edge, µs from the slot start. -/
  early : Nat
  late : Nat
  asn : Nat
  generation : BitVec 32
  deriving DecidableEq, Repr

/-- The link controller (function 0x0600). -/
structure Link where
  /-- Device-owned fields by neighbour index. -/
  nb : NMap NbState
  /-- Neighbours that became lost-sync in the present second, and the first of them (R103). -/
  lostCount : Nat
  lostFirst : Nat
  sync : LinkSync
  /-- Beacon intervals without a beacon since the first one missed. -/
  missed : Nat
  /-- ASN and DEPTH of the last parent beacon. -/
  parentAsn : Option Nat
  parentDepth : Nat
  /-- Replay windows of frames under BEACON_KEY and under GROUP_KEY (R307). -/
  beaconWin : Replay
  groupWin : Replay
  /-- Realignment due at the next slot boundary, in fast ticks (R108), and the channel of its beacon. -/
  realignBy : Option (Int × Nat)
  /-- Frames to list in the next group acknowledgement of each slotframe: SHORT_ADDR and counter, oldest first (R97). -/
  groupAcks : NMap (List (Nat × BitVec 32))
  /-- Receiving cells of the slot in progress. -/
  slotCells : List SlotCell
  deriving DecidableEq, Repr

/-- The link controller after a start (R471). -/
def Link.reset : Link where
  nb := []
  lostCount := 0
  lostFirst := 0
  sync := .synced
  missed := 0
  parentAsn := none
  parentDepth := 0
  beaconWin := Replay.reset
  groupWin := Replay.reset
  realignBy := none
  groupAcks := []
  slotCells := []

end Sys2Proof.Machine
end

