-- ==== Sys2Proof/Machine/StateSluice.lean ====
section
/-!
DEFINITION. State of the transmit path, Sluice and the duty accountants (chapter 07).
-/

namespace Sys2Proof.Machine

/-- TYPE of a launch record (R272), with the test transmission of R277. -/
inductive LaunchKind where
  | downlink
  | parentUplink
  | ack
  | groupAck
  | beacon
  | gate
  | test
  deriving DecidableEq, Repr

/-- Where a launch stands in the chain of R255. -/
inductive LaunchStep where
  /-- An acknowledgement booked at its PHR and not yet built (R258). -/
  | booked
  | selected
  | classified
  | retuned
  | trOn
  | paOn
  | ramping
  | onAir
  | rampDown
  deriving DecidableEq, Repr

/-- Class of a calibration entry (R150). -/
inductive CalClass where
  | valid
  | stale
  | absent
  deriving DecidableEq, Repr

/-- A downlink, parent uplink or broadcast that is queued (R250, R251, R254). -/
structure DlFrame where
  id : Nat
  cookie : BitVec 64
  neighbour : Nat
  queue : Nat
  /-- ACK_MODE, destination address mode, level and key of the frame. -/
  ackMode : Bool
  level : Nat
  key : Nat
  payload : Bytes
  /-- Its counter has been taken (R301). -/
  taken : Bool
  counter : BitVec 32
  /-- It waits for a reservation, and JOURNAL_WAITS has counted it. -/
  waiting : Bool
  /-- The key that secures it and its payload as encrypted at stage 4 of R19. -/
  sealed : Option (Bytes × Bytes)
  micEcho : BitVec 32
  /-- The secured PSDU, once it has been selected for the first time. -/
  psdu : Option Bytes
  pendingBit : Bool
  /-- Fabric cycle of admission. -/
  admitted : BitVec 64
  launches : Nat
  requeued : Bool
  /-- ASN, path, channel and power of the last launch, air time charged so far. -/
  lastAsn : Option Nat
  lastPath : Nat
  lastChannel : Nat
  lastPower : Int
  charged : Nat
  lastLate : Nat
  generation : BitVec 32
  /-- A launch of it is in progress. -/
  inFlight : Bool
  /-- It has been launched on a channel and awaits its acknowledgement there. -/
  awaiting : Option Nat
  /-- Its lifetime ended while it was in flight. -/
  expired : Bool
  /-- Network time in ns at the end of its last launch. -/
  endNs : Nat
  deriving DecidableEq, Repr

/-- What the modulator sends in one chip or symbol (R176). -/
inductive Symbol where
  /-- One chip period: the chips on I and on Q; none before the first chip on Q. -/
  | chip (i q : Option Bool)
  /-- Frequency deviation, Hz. -/
  | deviation (hz : Int)
  /-- Phase change, in units of π/4. -/
  | phase (n : Int)
  deriving DecidableEq, Repr

/-- A launch from its booking to the end of its chain (R249, R255). -/
structure Launch where
  id : Nat
  kind : LaunchKind
  radio : Fin 3
  window : Nat
  channel : Nat
  modulator : Nat
  /-- Scheduled first preamble bit, network time in ns; late tolerance and air time in µs. -/
  t0 : Nat
  lateTol : Nat
  airUs : Nat
  /-- Charge of R265, µs, and whether it stands in RESERVED. -/
  charge : Nat
  reserved : Bool
  power : Int
  step : LaunchStep
  calClass : CalClass
  needRetune : Bool
  lateUs : Nat
  asn : Nat
  generation : BitVec 32
  neighbour : Nat
  counter : BitVec 32
  pendingBit : Bool
  /-- The queued frame it carries, if any. -/
  frame : Option Nat
  psdu : Bytes
  /-- Its channel bits as its modulator holds them: preamble, sync word, PHR and codewords, or the SUN-FSK PPDU (R246). -/
  bits : List Bool
  /-- Those bits mapped onto the air, and the shift to the channel centre from the window centre, Hz (R176, R246). -/
  air : List Symbol
  shift : Int
  /-- KIND of a `TX_TEST`: an unmodulated carrier, or back-to-back PN9 frames (R277). -/
  pn9 : Bool
  /-- Transmit corrections in force for its channel (R134). -/
  corr : Corrections
  /-- Sub-bands to which its charge was committed at t0, each with the bucket period of its account (R265). -/
  committed : List (Fin 16 × Nat)
  /-- Network time in ns at which its ramp-up started. -/
  rampAt : Nat
  /-- An acknowledgement has been built (R258). -/
  built : Bool
  /-- The received frame that it acknowledges, if any. -/
  acks : Option Nat
  /-- Number of the long command of a `TX_TEST`. -/
  long : Nat
  /-- Interval of its booking, network time in ns (R249). -/
  bookFrom : Nat
  bookTo : Nat
  deriving DecidableEq, Repr

/-- The account of one sub-band (R264 to R268). -/
structure Account where
  /-- The current bucket and the 64 before it, µs. -/
  buckets : List Nat
  /-- Bucket periods begun so far. -/
  period : Nat
  /-- Spring count at which the current bucket began. -/
  movedAt : BitVec 48
  reserved : Nat
  /-- `EV_DUTY_NEAR_LIMIT` has been raised and USED has not fallen below 80 %. -/
  near : Bool
  deriving DecidableEq, Repr

/-- The running state of one gate list (R260 to R262). -/
structure GateRun where
  /-- Activation ASN of the committed list, if it is enabled. -/
  activation : Option Nat
  /-- The list still in force while a changed list waits for its activation: header and entries. -/
  old : Option (List Bytes)
  /-- Activation ASN of the old list. -/
  oldAt : Nat
  /-- Open queues, bit q. -/
  openMask : BitVec 16
  deriving DecidableEq, Repr

/-- The transmit path (function 0x0500). -/
structure Sluice where
  accounts : Vector Account 16
  /-- COLD_PRELOAD_PCT is still owed (R266). -/
  preloadOwed : Bool
  /-- Sub-bands whose counts a warm start has kept, until a commit takes them over (R472). -/
  keptBands : NMap Bytes
  gates : Vector GateRun 3
  /-- Queued downlinks and parent uplinks, oldest first. -/
  queued : List DlFrame
  /-- Queued broadcasts, oldest first. -/
  broadcasts : List DlFrame
  launches : List Launch
  /-- Numbers given to frames and launches. -/
  nextId : Nat
  /-- Transmission is inhibited by a supply dip (R269), and the dip has met its recovery condition (R270). -/
  inhibit : Bool
  recovered : Bool
  /-- Air time charged to each radio in one second of Spring time, µs, and that second (R267). -/
  secondCharge : Vector Nat 3
  second : Nat
  deriving DecidableEq, Repr

end Sys2Proof.Machine
end

