-- ==== Sys2Proof/Machine/StateRx.lean ====
section
/-!
DEFINITION. State of the receive path: lanes, capture lanes, frames in reception, the Riffle pool and the release
gate (chapters 05 and 06).
-/

namespace Sys2Proof.Machine

/-- What a channel's lane and filter keep (R181, R191, R194, R196, R201). -/
structure Chan where
  /-- The lane searches: a listening interval is open. -/
  listening : Bool
  /-- Noise floor, 0.25 dB; none is 0x8000. -/
  floor : Option Int
  /-- Consecutive eligible blocks below the threshold, and above it while dead. -/
  low : Nat
  high : Nat
  dead : Bool
  lastRssi : Int
  lastLqi : Nat
  lastEvm : Nat
  shed : Bool
  /-- The channel has changed and has not reloaded. -/
  settling : Bool
  /-- Fabric cycle at which the present listening interval began. -/
  since : BitVec 64
  /-- Receive IQ corrections in force (R133). -/
  iq : Corrections
  /-- Powers of the last blocks of a monitor channel, newest first: 1 ms of them (R203). -/
  blocks : List Int
  deriving DecidableEq, Repr

/-- A channel that has received nothing. -/
def Chan.reset : Chan where
  listening := false
  floor := none
  low := 0
  high := 0
  dead := false
  lastRssi := 0
  lastLqi := 0
  lastEvm := 0
  shed := false
  settling := false
  since := 0
  iq := Corrections.neutral
  blocks := []

/-- State of a codeword job (R211, R221 to R225). -/
inductive JobState where
  | parked
  | queued
  | running
  | converged
  | failed
  deriving DecidableEq, Repr

/-- A codeword of a frame. -/
structure Job where
  state : JobState
  /-- The job runs over the extended matrix (R224). -/
  combined : Bool
  /-- The syndrome checker has disagreed once (R229). -/
  disagreed : Bool
  /-- Information bits, once converged. -/
  info : List Bool
  deriving DecidableEq, Repr

/-- Where a frame stands between its preamble and its record. -/
inductive RxStage where
  /-- Its sync word is searched. -/
  | search
  /-- Its PHR is awaited. -/
  | synced
  /-- Its PSDU is received. -/
  | psdu
  /-- A SUN-FSK frame is being decoded (R189). -/
  | trellis
  /-- Its jobs are in the Riffle pool. -/
  | decode
  /-- A second part whose LLRs wait for the frame that displaced it (R211). -/
  | held
  /-- A twin first half that failed waits for its second part (R224). -/
  | twinWait
  /-- It waits at stage 5 for another frame's verification (R105). -/
  | stage5
  /-- It waits at the release gate (R232). -/
  | gate
  /-- Firmware verifies it (stage 6). -/
  | verify
  /-- Its record is written; a twin's second part still serves its acknowledgement (R100). -/
  | twinAck
  deriving DecidableEq, Repr

/-- How stage 5 classified a frame (R104 to R107). -/
inductive RxClass where
  | none
  | fresh
  | reacked
  | stale
  | join
  | rejected
  /-- A parent beacon or a group acknowledgement. -/
  | control
  deriving DecidableEq, Repr

/-- A frame in reception. -/
structure RxFrame where
  id : Nat
  ch : Nat
  generation : BitVec 32
  asn : Nat
  stage : RxStage
  /-- The capture lane that receives it; none for the channel's own lane. -/
  lane : Option Nat
  /-- The cells whose windows hold its start; those of its slot before its sync word. -/
  cells : List SlotCell
  /-- The cell to which it is attributed (R188). -/
  cell : Option SlotCell
  /-- Fabric cycle of its preamble detection. -/
  began : BitVec 64
  /-- RSSI, 0.25 dB; before the PHR, the power estimate of its preamble. -/
  rssi : Int
  floor : Option Int
  lqi : Nat
  evm : Nat
  /-- Measured arrival error, µs; end of its sync word in fast ticks from the slot start, and in Spring ticks. -/
  err : Int
  syncOffset : Nat
  syncSpring : BitVec 48
  /-- Network time in ns at the end of its sync word. -/
  syncNs : Nat
  /-- Its AFC value, frozen at the end of its sync word, Hz from the centre of the search (R184). -/
  afc : Int
  /-- A SUN-FSK frame with FEC, one with a 4-byte FCS, and one that is whitened. -/
  coded : Bool
  fcs4 : Bool
  white : Bool
  /-- KIND, LENGTH and TWIN_TAG of its PHR. -/
  kind : Nat
  len : Nat
  tag : Nat
  /-- Bytes reserved in the LLR store, and the LLRs; a SUN-FSK frame's soft symbols (R189). -/
  reserved : Nat
  llr : List Int
  /-- LLRs of the second part that wait, once handed off. -/
  second : Option (List Int)
  /-- Its sync word is that of beacons (R90). -/
  beacon : Bool
  /-- For a second part: the frame that is its first half (R99). -/
  mate : Option Nat
  /-- The frame that displaced it and is unresolved or not yet subtracted (R211). -/
  parkedBy : Option Nat
  captured : Bool
  sic : Bool
  combined : Bool
  jobs : List Job
  /-- Fabric cycle of the latest hand-off (R228). -/
  handedAt : BitVec 64
  /-- Stamp, network time in ns (R230), and release flow: neighbour index, or 2³² + group (R231). -/
  stamp : Nat
  flow : Nat
  /-- The frame stands in the order of the release gate. -/
  ordered : Bool
  psdu : Bytes
  /-- Outcome of its record. -/
  reason : Nat
  cls : RxClass
  srcExt : BitVec 64
  counter : BitVec 32
  nb : Option Nat
  /-- Its acknowledgement's launch, and whether it has been built. -/
  ack : Option Nat
  ackSent : Bool
  /-- A twin frame that stage 5 has accepted for an acknowledgement, not yet built (R100). -/
  wantAck : Bool
  groupQueued : Bool
  pendingBit : Bool
  /-- For a first half: nothing more comes of its second part, whose window has closed or which came after it had decoded
  (R99, R224). -/
  secondOver : Bool
  deriving DecidableEq, Repr

/-- What a capture lane does (R209, R211 to R213). -/
inductive CapturePhase where
  /-- It receives its frame, which is then decoded. -/
  | frame
  /-- Its frame has decoded and is being subtracted. -/
  | subtract
  /-- The subtraction is complete and the re-demodulation has not started. -/
  | ready
  | redemod
  deriving DecidableEq, Repr

/-- What is subtracted from a history ring (R212): a frame's channel bits from `first` on, modulated in `mode` with the AFC
value `afc` from the fabric cycle `from_` of its preamble start, and scaled by an amplitude and a phase for each 64 bits. -/
structure Subtraction where
  mode : Nat
  afc : Int
  from_ : BitVec 64
  first : Nat
  bits : List Bool
  /-- The bits in its mode, and its recovered timing. -/
  symbols : List Symbol
  timing : BitVec 16
  scale : List (BitVec 16 × BitVec 16)
  deriving DecidableEq, Repr

/-- What the lane of a displaced frame stores (R211). -/
structure Checkpoint where
  /-- Fabric cycle of the preamble start of the frame that displaces it. -/
  at_ : BitVec 64
  /-- Timing phase and carrier phase. -/
  timing : BitVec 16
  carrier : BitVec 16
  /-- Frozen AFC value, Hz. -/
  afc : Int
  /-- LLRs written so far. -/
  llrs : Nat
  deriving DecidableEq, Repr

/-- A capture lane that is taken. -/
structure Capture where
  frame : Nat
  ch : Nat
  phase : CapturePhase
  /-- The frame displaced by its frame, and its checkpoint. -/
  below : Option Nat
  checkpoint : Checkpoint
  /-- Generation of the frame it received. -/
  generation : BitVec 32
  /-- Its frame rebuilt from the decoded bits, once it has decoded (R212). -/
  rebuilt : Option Subtraction
  deriving DecidableEq, Repr

/-- One engine of the Riffle pool (R225 to R229). -/
structure Engine where
  /-- The frame and codeword in decoding. -/
  job : Option (Nat × Nat)
  /-- Iteration cap at the start of the job, and whether the governor set it (R222). -/
  cap : Nat
  governed : Bool
  out : Bool
  gated : Bool
  /-- Cycles that a steal and a restart add to the job (R227). -/
  extra : Nat
  /-- It holds a completed frame while the release buffer is full (R233). -/
  stalled : Bool
  /-- Verdict of the syndrome checker on the result that it holds. -/
  agreed : Bool
  /-- Fabric cycle at which it last ran out of work (R227). -/
  idleAt : BitVec 64
  deriving DecidableEq, Repr

/-- An idle engine. -/
def Engine.reset : Engine := ⟨none, 0, false, false, true, 0, false, true, 0⟩

/-- The two levels of a cluster's queue: frame and codeword, head first (R225). -/
structure JobQueue where
  ack : List (Nat × Nat)
  normal : List (Nat × Nat)
  deriving DecidableEq, Repr

/-- The history ring of a channel (R206, R207, R212): the samples of its listening time since it was last empty, less what has
been subtracted from them.  The samples themselves come from outside and are no state of the model (log entry 126). -/
structure Ring where
  kb : Nat
  /-- Fabric cycle at which it was last empty. -/
  since : BitVec 64
  /-- Intervals, in fabric cycles, in which the channel listened since, newest first: it holds the samples of these (R206). -/
  heard : List (BitVec 64 × BitVec 64)
  subtracted : List Subtraction
  deriving DecidableEq, Repr

/-- A channel without a ring. -/
def Ring.none : Ring := ⟨0, 0, [], []⟩

/-- The receive path. -/
structure Rx where
  /-- Channels by device channel; an absent one is as after a start. -/
  chans : NMap Chan
  /-- Lowest PRIORITY class presently shed, 4 for none, as the governor last set it (R196). -/
  shedFrom : Nat
  frames : List RxFrame
  captures : Vector (Option Capture) 64
  /-- The history ring of each channel (R206). -/
  rings : NMap Ring
  queues : Vector JobQueue 4
  engines : Vector Engine 48
  /-- Number of the next frame. -/
  nextId : Nat
  deriving DecidableEq, Repr

/-- The receive path after a start. -/
def Rx.reset : Rx where
  chans := []
  shedFrom := 4
  frames := []
  captures := Vector.replicate 64 none
  rings := []
  queues := Vector.replicate 4 ⟨[], []⟩
  engines := Vector.replicate 48 Engine.reset
  nextId := 0

end Sys2Proof.Machine
end

