-- ==== Sys2Proof/Machine/StateSafety.lean ====
section
/-!
DEFINITION. State of Confluence (chapter 17).
-/

namespace Sys2Proof.Machine

/-- A fault record (R556). -/
structure FaultRec where
  source : Nat
  severity : Nat
  overflow : Bool
  injected : Bool
  first : Bool
  asleep : Bool
  target : Nat
  overflowSource : Nat
  generation : BitVec 32
  /-- Merged raises, saturating at 0xFFFF. -/
  consequential : Nat
  firstConseq : Nat
  fabric : BitVec 64
  asn : BitVec 64
  spring : BitVec 48
  detail : BitVec 64
  reactionUs : Nat
  startNo : BitVec 32
  deriving DecidableEq, Repr

/-- A reaction whose shadow window is open (R549, R552, R554). -/
structure Reaction where
  /-- The number of its fault record (the value of LOG_COUNT that the record made). -/
  recNo : Nat
  source : Nat
  severity : Nat
  /-- The sources it merges (R552). -/
  shadow : List Nat
  /-- Function reset by it, or 0. -/
  target : Nat
  consequential : Nat
  firstConseq : Nat
  raisedAt : BitVec 64
  /-- The reaction has ended, at fabric cycle `endedAt`; its window closes 50 µs later. -/
  ended : Bool
  endedAt : BitVec 64
  /-- Its reset was abandoned to a wider reset (R447, R554). -/
  abandoned : Bool
  deriving DecidableEq, Repr

/-- The open S0/S1 report interval of one source (R549). -/
structure Report where
  /-- Fabric cycle of the report that opened the interval. -/
  since : BitVec 64
  /-- Raises counted in the interval. -/
  count : Nat
  /-- DETAIL and INJECTED of the first raise counted. -/
  detail : BitVec 64
  injected : Bool
  deriving DecidableEq, Repr

/-- Confluence (function 0x0F00). -/
structure Safety where
  latch : Option FaultRec
  /-- Number of the latched record. -/
  latchNo : Nat
  /-- The 16 newest records with their numbers, newest first. -/
  log : List (Nat × FaultRec)
  /-- LOG_COUNT: records written since the start. -/
  logCount : BitVec 64
  /-- Raises of each source. -/
  counts : NMap Nat
  reports : NMap Report
  reactions : List Reaction
  /-- The safe state is in force (R538). -/
  safeState : Bool
  /-- S4_HELD (R550, Spring domain). -/
  s4Held : Bool
  /-- An S3 warm restart is pending (R549). -/
  restartPending : Bool
  /-- SPRING_FIRST_SOURCE (R551). -/
  springFirst : BitVec 16
  /-- Starts since POR (R556). -/
  startNo : BitVec 32
  /-- SAFE_OK carries its wave (R539). -/
  safeOk : Bool
  /-- FAULT_N is asserted (R540). -/
  faultN : Bool
  /-- The last token accepted by the safety loop, and whether the present one is missing or wrong (R539). -/
  token : BitVec 32
  tokenGood : Bool
  /-- Fabric cycle of the last good token. -/
  tokenAt : BitVec 64
  /-- Consecutive readbacks in which a ball differs, for SAFE_OK, FAULT_N, PA_EN and TR_SW of radios A to C, and
  consecutive broadband readings above the limit, by radio (R540). -/
  mismatch : Vector Nat 8
  breach : Vector Nat 3
  deriving DecidableEq, Repr

end Sys2Proof.Machine
end

