-- ==== Sys2Proof/Machine/StateThermal.lean ====
section
/-!
DEFINITION. State of the thermal sensors, the governor, the telemetry ring and the stress account (chapter 18).
-/

namespace Sys2Proof.Machine

/-- What a telemetry record covers, since the previous one (R567). -/
structure TelSpan where
  /-- Highest and lowest Tj sampled. -/
  tjMax : Option Int
  tjMin : Option Int
  dip : Bool
  /-- Minimum and rail of the dip reported, if any. -/
  dipMin : Option (Nat × Nat)
  framesOk : Nat
  framesFailed : Nat
  airUs : Nat
  dozeUs : Nat
  faults : Nat
  /-- Seconds that have ended in DOZE. -/
  seconds : Nat
  /-- Riffle engine busy time, in Riffle cycles. -/
  busyCycles : Nat
  deriving DecidableEq, Repr

/-- A span in which nothing has happened. -/
def TelSpan.reset : TelSpan := ⟨none, none, false, none, 0, 0, 0, 0, 0, 0, 0⟩

/-- The thermal part of function 0x1000. -/
structure Thermal where
  /-- Last readings of the sensors, 0.125 °C. -/
  readings : Vector Int 8
  /-- Sensors that are invalid, bit n (R568). -/
  invalid : BitVec 8
  /-- Governor step, and the time since its last change in ms of samples (R571). -/
  step : Nat
  changeMs : Option Nat
  /-- Time for which Tj has been at or below 100 °C, in ms of samples. -/
  coolMs : Option Nat
  /-- Time in the bands of R574, ms. -/
  bandMs : Vector Nat 8
  /-- Lifetime limits reached at the last LIFE_STRESS, and the Spring count then (R574). -/
  lifeLimits : Nat
  lifeAt : BitVec 48
  /-- Newest stress record in the NOR flash: the band totals in ms, and the records written (R575). -/
  stored : Option (Vector Nat 8)
  records : Nat
  /-- The telemetry ring: records by sequence number, and the next number (R567). -/
  ring : NMap Bytes
  seq : Nat
  span : TelSpan
  deriving DecidableEq, Repr

/-- The thermal part after POR. -/
def Thermal.reset : Thermal where
  readings := Vector.replicate 8 0
  invalid := 0
  step := 0
  changeMs := none
  coolMs := none
  bandMs := Vector.replicate 8 0
  lifeLimits := 0
  lifeAt := 0
  stored := none
  records := 0
  ring := []
  seq := 0
  span := TelSpan.reset

end Sys2Proof.Machine
end

