-- ==== Sys2Proof/Machine/StateTime.lean ====
section
/-!
DEFINITION. State of the time unit and of the slot clock (chapter 10, and R82 to R84 of chapter 03).
-/

namespace Sys2Proof.Machine

/-- STATE of R378. -/
inductive TimeState where
  | invalid
  | freerun
  | locked
  | holdover
  | holdoverExpired
  | refused
  deriving DecidableEq, Repr

/-- A PTP Sync taken and not yet completed to a sample (R359).  Instants in ns. -/
structure PtpSync where
  seqId : Nat
  /-- t1, known at a one-step Sync or from Follow_Up. -/
  t1 : Option Int
  t2 : Int
  /-- correctionField of Sync and Follow_Up, ns. -/
  correction : Int
  /-- t3 of the Delay_Req sent for it and its sequence number. -/
  t3 : Option Int
  reqSeq : Nat
  /-- Ethernet port on which the Sync arrived. -/
  port : Fin 2
  deriving DecidableEq, Repr

/-- The snapshot that bridges a sleep (R370). -/
structure Snapshot where
  spring : BitVec 48
  netNs : Nat
  slotBase : Vector (BitVec 64) 3
  fabric : BitVec 64
  wasValid : Bool
  /-- The ASN at the snapshot. -/
  asn : Option Nat
  deriving DecidableEq, Repr

/-- The time unit (function 0x0D00). -/
structure Time where
  /-- Spring counter. -/
  spring : BitVec 48
  /-- Fabric cycle counter. -/
  fabric : BitVec 64
  /-- Network time: TAI seconds, nanoseconds and 32-bit fraction of a nanosecond. -/
  seconds : BitVec 64
  nanos : BitVec 32
  frac : BitVec 32
  /-- Slot time bases A, B, C in fast ticks, and the accumulated rate correction in 10⁻⁹ fast ticks. -/
  slotBase : Vector (BitVec 64) 3
  slotCorr : Int
  /-- Phase of the reference clock and of the Spring clock against the fabric clock. -/
  refPhase : Nat
  springPhase : Nat
  state : TimeState
  /-- Source in force, code of R353. -/
  source : Nat
  freqEst : Int
  phaseTerm : Int
  springPpb : Int
  /-- SPRING_DISC_VALID and the seconds measured since it was cleared. -/
  springDisc : Bool
  springSeconds : Nat
  lastOffset : Int
  /-- Magnitude of the offset of the last sample applied (R378). -/
  applied : Nat
  /-- ERR_BOUND_NS at the fabric cycle `errSince`, from which it grows (R378). -/
  errBase : Nat
  errSince : BitVec 64
  lastWakeBound : BitVec 32
  /-- Fabric cycle at which HOLDOVER was entered (R368). -/
  holdSince : BitVec 64
  /-- Fabric cycle since which the primary has given usable samples while another source is in force (R354). -/
  primaryAt : Option (BitVec 64)
  /-- A jump-refused episode has been reported (R362). -/
  jumpEpisode : Bool
  /-- The followed PTP time transmitter (R356). -/
  ptpTx : Option Nat
  ptpSync : Option PtpSync
  /-- logMinDelayReqInterval of the last Delay_Resp; fabric cycle and port of the last Delay_Req sent (R356). -/
  delayLog : Int
  delayAt : Option (BitVec 64)
  delayPort : Option (Fin 2)
  /-- The last 8 delay measurements, newest first, ns. -/
  ptpDelays : List Int
  /-- Fabric cycles of the Syncs taken in the last second, newest first. -/
  syncTimes : List (BitVec 64)
  /-- Fabric cycle of the backup's last usable sample (R354). -/
  backupAt : Option (BitVec 64)
  /-- Network time of the last accepted PPS edge, ns. -/
  ppsLast : Option Nat
  /-- PPS present: an edge has been accepted and the source has not been lost since (R353, R378). -/
  ppsPresent : Bool
  /-- PPS_HOST: whole second assigned to the last accepted edge; armed value of `TIME_SET` mode 1. -/
  ppsSecond : Option Nat
  ppsArmed : Option Nat
  ppsArmedForce : Bool
  /-- Fabric cycle of the `TIME_SET` that armed it. -/
  armedAt : BitVec 64
  ppsOut : Bool
  /-- Fabric cycle of the last rise of PPS_OUT (R361). -/
  ppsOutAt : BitVec 64
  snapshot : Option Snapshot
  /-- ASN of the slot in progress by the slot time bases; none before an ASN is established (R84). -/
  asn : Option Nat
  /-- ASN_FLOOR (R365, Backwater). -/
  asnFloor : BitVec 48
  /-- An idling episode has been reported (R365). -/
  idling : Bool
  /-- A step has moved network time and the slot time bases realign at the next boundary (R364). -/
  realign : Bool
  /-- The instant E of the last step, in the network time that the step set, until the slot that begins at B ends (R364). -/
  stepEnd : Option Nat
  deriving DecidableEq, Repr

end Sys2Proof.Machine
end

