-- ==== Sys2Proof/Machine/State.lean ====
section
/-!
DEFINITION. The state of the block, its stops and its reset state.
-/

namespace Sys2Proof.Machine

/-- The state of the block. -/
structure State where
  /-- Commands that wait, first in, first out (the model's own field). -/
  pending : List Instr
  kci : Kci
  coh : Coherence
  boot : Boot
  safety : Safety
  time : Time
  power : Power
  supply : Supply
  radios : Radios
  sluice : Sluice
  cipher : Cipher
  link : Link
  rx : Rx
  router : Router
  thermal : Thermal
  mem : Memory
  cluster : Cluster
  timers : Vector Timer 16
  /-- The counters of every function (R9), keyed by `counterKey`; a counter at zero is not listed. -/
  counters : NMap Nat
  /-- Index of the next free value (the model's own field). -/
  freeCount : Nat
  deriving DecidableEq, Repr

/-- Reasons for a stop in which the machine itself stops. -/
inductive Fault where
  /-- Nobody raises it: the block reports every failure in its own state, and no step ends in a fault (safe). -/
  | none
  deriving DecidableEq, Repr

/-- Reasons for which the model gives a command no meaning. -/
inductive Refusal where
  /-- Raised by the dispatch for a command whose meaning is not written yet (safe). -/
  | notModelled (mnemonic : String)
  deriving DecidableEq, Repr

/-- A mailbox after reset (R44). -/
def Mbx.reset : Mbx where
  reqTail := 0
  reqHead := 0
  rspTail := 0
  rspHead := 0
  error := false
  waiting := []
  rspOut := []
  rspHeld := []

/-- An MSI-X vector after reset (R44); its table entry is masked (PRESUMED, log entry 113). -/
def Vec.reset : Vec where
  holdoff := 0
  armed := true
  elapsed := true
  sent := 0
  last := none
  msgAddr := 0
  msgData := 0
  masked := true
  pba := false

/-- The host control block after reset (R44, R57). -/
def Kci.reset : Kci where
  mbx := Vector.replicate 4 Mbx.reset
  dbgLo := 0
  dbgHi := 0
  dbgOpen := false
  dbgMap := 0
  evtTail := 0
  evtHead := 0
  dropped := 0
  droppedHi := 0
  droppedSince := 0
  intMode := false
  globalEn := false
  intPending := 0
  intEnable := 0
  intVector := []
  vecs := Vector.replicate 32 Vec.reset
  executing := none
  lastServed := 3
  longs := []
  longNext := 0
  seq := 1
  bar0 := []
  bar2 := []
  ringHost := Vector.replicate 16 0
  ringDev := Vector.replicate 16 0
  starved := []
  ringWait := []
  hostMem := []
  spiOut := []
  config := []
  readOut := 0

/-- What the control processor keeps for a function after reset (R471). -/
def FnState.reset : FnState where
  epoch := 0
  inReset := false
  settling := false
  held := false

/-- Default sets, generation 0 (R34, R471). -/
def Coherence.reset : Coherence where
  active := []
  staged := []
  writes := []
  past := []
  generation := 0
  slotGen := 0
  lastSlot := none
  commit := none
  fns := []
  resets := []

/-- An erased image slot (R464). -/
def ImageSlot.reset : ImageSlot where
  content := []

/-- Fuses before the fuse load of a start (R458 step 0x01). -/
def FuseSet.reset : FuseSet where
  keyHash := none
  provisioned := false
  secFloor := 0
  avsCeil := 0
  serial := 0
  avsTable := []

/-- BOOT_STATUS and BOOT_REASON after reset (R44, R45); a cold start is due. -/
def Boot.reset : Boot where
  phase := .due .cold false
  ready := false
  startKind := .cold
  hostSel := false
  imageSlot := false
  fallback := false
  padHold := true
  warmFails := 0
  coldFails := 0
  step := 0
  reasonStep := 0
  reasonCode := 0
  refSel := false
  springExt := false
  testMode := false
  fuses := FuseSet.reset
  fused := false
  slot0 := ImageSlot.reset
  slot1 := ImageSlot.reset
  perstLow := false
  readyAt := 0

/-- Confluence after POR, with FAULT_N asserted (R551, R556, R591). -/
def Safety.reset : Safety where
  latch := none
  latchNo := 0
  log := []
  logCount := 0
  counts := []
  reports := []
  reactions := []
  safeState := false
  s4Held := false
  restartPending := false
  springFirst := 0xFFFF
  startNo := 0
  safeOk := false
  faultN := true
  token := 0
  tokenGood := true
  tokenAt := 0
  mismatch := Vector.replicate 8 0
  breach := Vector.replicate 3 0

/-- The time unit after POR (R472). -/
def Time.reset : Time where
  spring := 0
  fabric := 0
  seconds := 0
  nanos := 0
  frac := 0
  slotBase := Vector.replicate 3 0
  slotCorr := 0
  refPhase := 0
  springPhase := 0
  state := .invalid
  source := 0
  freqEst := 0
  phaseTerm := 0
  springPpb := 0
  springDisc := false
  springSeconds := 0
  lastOffset := 0
  applied := 0
  errBase := 0
  errSince := 0
  holdSince := 0
  primaryAt := none
  lastWakeBound := 0
  jumpEpisode := false
  ptpTx := none
  ptpSync := none
  delayLog := -4
  delayAt := none
  delayPort := none
  ptpDelays := []
  syncTimes := []
  backupAt := none
  ppsLast := none
  ppsPresent := false
  ppsSecond := none
  ppsArmed := none
  ppsArmedForce := false
  armedAt := 0
  ppsOut := false
  ppsOutAt := 0
  snapshot := none
  asn := none
  asnFloor := 0
  idling := false
  realign := false
  stepEnd := none

/-- The power manager after POR (R420). -/
def Power.reset : Power where
  state := .run
  phase := .awake
  target := .run
  commanded := false
  wakeMask := 0
  wakeSpring := none
  lastWake := 0
  lastState := 0
  lastRefuser := 0
  lastExitUs := 0
  aborts := 0
  abortFirst := 0
  refusedGap := none
  wakeNeed := none
  wakePending := none
  wakeAt := 0
  held := []
  hibInd := false
  refEn := true
  since := 0
  sealed := none
  isolated := []
  selfRefresh := false
  retention := false
  contextsSaved := false
  pllsStopped := false
  sleptNs := 0
  hostHeld := []
  savedConfig := none

/-- A rail at its nominal voltage (R425). -/
def Rail.at (mv : Nat) : Rail where
  target := mv
  present := mv
  warn := false
  minimum := none

/-- The rails at the core reset release, VDD_CLUSTER at the voltage of its 400 MHz point (R425, R428). -/
def railsReset : Vector Rail 10 :=
  #v[Rail.at 750, Rail.at 650, Rail.at 800, Rail.at 800, Rail.at 1000, Rail.at 1800, Rail.at 1800, Rail.at 3300,
    Rail.at 1100, Rail.at 600]

/-- Supplies and clocks after POR (R425, R428). -/
def Supply.reset : Supply where
  rails := railsReset
  warnBall := false
  dip := none
  configured := false
  opp := 0
  mhz := 400
  oppNext := none
  settling := []
  removed := []
  writes := []
  pmic := []
  refPresent := true
  pllFaults := []
  springRuns := true
  watchdog := 0

/-- A window of a radio that has not been configured. -/
def Window.reset : Window where
  gain := 0
  peak := none
  fresh := true
  clipAt := none
  toneAt := none

/-- A radio after reset: off, balls deasserted (R142, R163). -/
def Radio.reset : Radio where
  synth := .off
  lo := 0
  loNext := 0
  forced := false
  powered := false
  temp := 0
  windows := Vector.replicate 2 Window.reset
  blanked := false
  change := none
  hostCal := none
  hostItems := []
  bgCal := none
  calQueue := []
  starved := false
  owed := true
  calCount := 0
  calSecond := 0
  onSince := 0
  staticDrive := 0
  trSw := false
  paEn := false
  txActive := false
  rxActive := false
  strikes := []
  unlocked := false
  trim := Corrections.neutral

/-- The radios after reset, with an empty calibration store (R152). -/
def Radios.reset : Radios where
  unit := Vector.replicate 3 Radio.reset
  store := []
  obsServes := none

/-- An account with nothing charged (R266). -/
def Account.reset : Account where
  buckets := List.replicate 65 0
  period := 0
  movedAt := 0
  reserved := 0
  near := false

/-- No gate list: every queue open (R260). -/
def GateRun.reset : GateRun where
  activation := none
  old := none
  oldAt := 0
  openMask := 0xFFFF

/-- The transmit path after a cold start (R266). -/
def Sluice.reset : Sluice where
  accounts := Vector.replicate 16 Account.reset
  preloadOwed := true
  keptBands := []
  gates := Vector.replicate 3 GateRun.reset
  queued := []
  broadcasts := []
  launches := []
  nextId := 0
  inhibit := false
  recovered := false
  secondCharge := Vector.replicate 3 0
  second := 0

/-- The block right after POR, before its cold start has run a step. -/
def State.reset : State where
  pending := []
  kci := Kci.reset
  coh := Coherence.reset
  boot := Boot.reset
  safety := Safety.reset
  time := Time.reset
  power := Power.reset
  supply := Supply.reset
  radios := Radios.reset
  sluice := Sluice.reset
  cipher := Cipher.reset
  link := Link.reset
  rx := Rx.reset
  router := Router.reset
  thermal := Thermal.reset
  mem := Memory.reset
  cluster := Cluster.reset
  timers := Vector.replicate 16 Timer.reset
  counters := []
  freeCount := 0

/-- What a meaning answers. -/
abbrev Out := Host.Outcome State Fault Refusal

end Sys2Proof.Machine
end

