-- ==== Sys2Proof/Machine/Ops.lean ====
section
/-!
DEFINITION. Named operations over the state that every chapter's meanings use: parts of configuration sets,
functions and their members, counters, free values, time stamps, events and interrupts.
-/

namespace Sys2Proof.Machine

/-! ### Updates of one component -/

def State.onKci (s : State) (f : Kci → Kci) : State := { s with kci := f s.kci }
def State.onCoh (s : State) (f : Coherence → Coherence) : State := { s with coh := f s.coh }
def State.onBoot (s : State) (f : Boot → Boot) : State := { s with boot := f s.boot }
def State.onSafety (s : State) (f : Safety → Safety) : State := { s with safety := f s.safety }
def State.onTime (s : State) (f : Time → Time) : State := { s with time := f s.time }

def State.onPower (s : State) (f : Power → Power) : State := { s with power := f s.power }
def State.onSupply (s : State) (f : Supply → Supply) : State := { s with supply := f s.supply }
def State.onRadios (s : State) (f : Radios → Radios) : State := { s with radios := f s.radios }
def State.onSluice (s : State) (f : Sluice → Sluice) : State := { s with sluice := f s.sluice }
def State.onCipher (s : State) (f : Cipher → Cipher) : State := { s with cipher := f s.cipher }
def State.onLink (s : State) (f : Link → Link) : State := { s with link := f s.link }
def State.onRx (s : State) (f : Rx → Rx) : State := { s with rx := f s.rx }
def State.onRouter (s : State) (f : Router → Router) : State := { s with router := f s.router }
def State.onThermal (s : State) (f : Thermal → Thermal) : State := { s with thermal := f s.thermal }
def State.onMem (s : State) (f : Memory → Memory) : State := { s with mem := f s.mem }
def State.onCluster (s : State) (f : Cluster → Cluster) : State := { s with cluster := f s.cluster }
def State.onTimer (s : State) (t : Fin 16) (f : Timer → Timer) : State :=
  { s with timers := s.timers.set t (f s.timers[t]) }

/-- Radio `r`, and the state with it changed by `f`. -/
def State.radio (s : State) (r : Fin 3) : Radio := s.radios.unit[r]
def State.onRadio (s : State) (r : Fin 3) (f : Radio → Radio) : State :=
  s.onRadios fun x => { x with unit := x.unit.set r (f x.unit[r]) }

/-- The device-owned fields of neighbour entry `i`, and the state with them changed by `f`. -/
def State.nb (s : State) (i : Nat) : NbState := mgetD s.link.nb i (NbState.cleared 0)
def State.onNb (s : State) (i : Nat) (f : NbState → NbState) : State :=
  s.onLink fun l => { l with nb := mmod (NbState.cleared 0) l.nb i f }

/-- The frame in reception with number `f`, and the state with it changed by `g`. -/
def State.rxFrame (s : State) (f : Nat) : Option RxFrame := s.rx.frames.find? fun x => x.id == f
def State.onRxFrame (s : State) (f : Nat) (g : RxFrame → RxFrame) : State :=
  s.onRx fun x => { x with frames := x.frames.map fun y => if y.id == f then g y else y }

/-! ### Functions (R63) -/

/-- The function IDs that R63 lists, rising. -/
def allFunctions : List Nat :=
  [0x0000, 0x0100, 0x0101, 0x0102] ++ (List.range 8).map (0x0200 + ·) ++ [0x0300, 0x0400, 0x0500, 0x0600, 0x0700]
    ++ (List.range 32).map (0x0720 + ·) ++ [0x0800, 0x0810, 0x0811, 0x0900, 0x0910, 0x0911]
    ++ (List.range 8).map (0x0A00 + ·) ++ [0x0B00, 0x0C00] ++ (List.range 16).map (0x0C10 + ·)
    ++ [0x0D00, 0x0E00, 0x0F00, 0x1000]

/-- The ID names a function of R63. -/
def knownFn (fn : Nat) : Bool := allFunctions.contains fn

/-- Members reset and committed with a function (R63, R65). -/
def members (fn : Nat) : List Nat :=
  if fn = 0x0700 then (List.range 32).map (0x0720 + ·)
  else if fn = 0x0800 then [0x0810, 0x0811]
  else if fn = 0x0900 then [0x0910, 0x0911]
  else if fn = 0x0C00 then (List.range 16).map (0x0C10 + ·)
  else []

/-- The functions whose members include `fn`. -/
def owners (fn : Nat) : List Nat :=
  [0x0700, 0x0800, 0x0900, 0x0C00].filter fun o => (members o).contains fn

/-- What the control processor keeps for function `fn`. -/
def State.fnState (s : State) (fn : Nat) : FnState := mgetD s.coh.fns fn FnState.reset

/-- The record of function `fn` changed by `f`. -/
def State.onFn (s : State) (fn : Nat) (f : FnState → FnState) : State :=
  s.onCoh fun c => { c with fns := mmod FnState.reset c.fns fn f }

/-- The function is IN_RESET. -/
def State.inReset (s : State) (fn : Nat) : Bool := (s.fnState fn).inReset

/-! ### Configuration sets (R25, R616) -/

/-- The key of one part of a set: function, staging opcode, selector (below 256) and index (below 2^20). -/
def cfgKey (fn op sel idx : Nat) : Nat := ((fn * 65536 + op) * 256 + sel) * 1048576 + idx

/-- The staging opcodes whose entry writes that wait for a commit are limited (R119, R299, R339). -/
def limitedOps : List Nat := [0x0604, 0x0702, 0x0802]

/-- Staged entry writes of opcode `op` that wait for a commit. -/
def State.writesOf (s : State) (op : Nat) : Nat := mgetD s.coh.writes op 0

/-- `n` entry writes of opcode `op` have been staged. -/
def addWrites (op n : Nat) (s : State) : State :=
  s.onCoh fun c => { c with writes := msetD 0 c.writes op (mgetD c.writes op 0 + n) }

/-- The function that a part belongs to. -/
def cfgKeyFn (k : Nat) : Nat := k / (65536 * 256 * 1048576)

/-- The opcode, selector and index of a part. -/
def cfgKeyOp (k : Nat) : Nat := k / (256 * 1048576) % 65536
def cfgKeySel (k : Nat) : Nat := k / 1048576 % 256
def cfgKeyIdx (k : Nat) : Nat := k % 1048576

/-- The content of one part of a set: as listed, or its default. -/
def part (m : NMap Bytes) (fn op sel idx : Nat) : Bytes :=
  (mget m (cfgKey fn op sel idx)).getD (defaultPart fn op sel idx)

/-- A set with one part written; a part equal to its default is not listed. -/
def setPart (m : NMap Bytes) (fn op sel idx : Nat) (b : Bytes) : NMap Bytes :=
  msetD (defaultPart fn op sel idx) m (cfgKey fn op sel idx) b

/-- One part of the active set of `fn`. -/
def State.active (s : State) (fn op sel idx : Nat) : Bytes := part s.coh.active fn op sel idx

/-- The active set of generation `g`, under which its work completes (R36). -/
def State.setOf (s : State) (g : BitVec 32) : NMap Bytes :=
  if g = s.coh.generation then s.coh.active else (mget s.coh.past g.toNat).getD s.coh.active

/-- One part of the staged set of `fn`. -/
def State.staged (s : State) (fn op sel idx : Nat) : Bytes := part s.coh.staged fn op sel idx

/-- Write one part of the staged set (R25). -/
def State.stage (s : State) (fn op sel idx : Nat) (b : Bytes) : State :=
  s.onCoh fun c => { c with staged := setPart c.staged fn op sel idx b }

/-- The parts of function `fn` in a set. -/
def partsOf (m : NMap Bytes) (fn : Nat) : NMap Bytes := m.filter fun e => cfgKeyFn e.1 == fn

/-- A set with the parts of `fn` taken from another set. -/
def copyParts (dst src : NMap Bytes) (fn : Nat) : NMap Bytes :=
  (partsOf src fn).foldl (fun m e => mset m e.1 e.2) (dst.filter fun e => cfgKeyFn e.1 != fn)

/-- The enable bit of `fn` in a set; Confluence is always enabled (R26, R471). -/
def enabledIn (m : NMap Bytes) (fn : Nat) : Bool := fn == 0x0F00 || u8 (part m fn 0x0010 0 0) 0 == 1

/-- The function is enabled. -/
def State.enabled (s : State) (fn : Nat) : Bool := enabledIn s.coh.active fn

/-- The function works: enabled, not in reset, not held. -/
def State.works (s : State) (fn : Nat) : Bool := s.enabled fn && !(s.fnState fn).inReset && !(s.fnState fn).held

/-! ### Counters and free values -/

/-- The key of counter `i` (from 1, in the order its chapter lists) of function `fn`. -/
def counterKey (fn i : Nat) : Nat := fn * 64 + i

/-- Counter `i` of function `fn`. -/
def State.counter (s : State) (fn i : Nat) : Nat := mgetD s.counters (counterKey fn i) 0

/-- Add `n` to counter `i` of function `fn`. -/
def State.countN (s : State) (fn i n : Nat) : State :=
  { s with counters := mmod 0 s.counters (counterKey fn i) (· + n) }

/-- Count one. -/
def State.count (s : State) (fn i : Nat) : State := s.countN fn i 1

/-- Set counter `i` of `fn` to the larger of its value and `v`. -/
def State.countMax (s : State) (fn i v : Nat) : State :=
  { s with counters := mmod 0 s.counters (counterKey fn i) (max · v) }

/-! ### Performance counters (R523 to R526) -/

/-- A counter counts an event of code `code` and class `cls`. -/
def pmcCounts (p : Pmc) (code cls : Nat) : Bool :=
  if p.filter.getLsbD 0 then p.event.toNat == cls else p.event.toNat == code

/-- `n` events of code `code` and class `cls` occur on bank `b`, for the counters whose filters `pass` lets by. -/
def pmuEventIf (pass : Pmc → Bool) (b : Fin 13) (code cls n : Nat) (s : State) : State :=
  let hit (p : Pmc) : Pmc := if pmcCounts p code cls && pass p then { p with value := p.value + BitVec.ofNat 64 n } else p
  s.onCluster fun x => { x with banks := x.banks.set b { x.banks[b] with counters := x.banks[b].counters.map hit } }

/-- `n` events that no filter keeps from counting. -/
def pmuEvent (b : Fin 13) (code cls n : Nat) (s : State) : State := pmuEventIf (fun _ => true) b code cls n s

/-- PRIV of a counter lets an event in user or supervisor privilege by (R524). -/
def pmcPriv (user : Bool) (p : Pmc) : Bool :=
  match bits p.filter.toNat 2 1 with
  | 1 => user
  | 2 => !user
  | _ => true

/-- MASTER_ID and the address range of a counter let an access by `master` at `pa` by (R524). -/
def pmcAccess (master pa : Nat) (p : Pmc) : Bool :=
  (p.master == 0xFF || p.master.toNat == master)
    && ((p.base == 0 && p.limit == 0) || (decide (p.base.toNat ≤ pa / 4096) && decide (pa / 4096 ≤ p.limit.toNat)))

/-- The banks of the blocks (R523). -/
def pmuRiffle : Fin 13 := 8
def pmuDelta : Fin 13 := 9
def pmuDram : Fin 13 := 10
def pmuRouter : Fin 13 := 11
def pmuWeir : Fin 13 := 12

/-- The next free value, and the state that has used it. -/
def State.free (s : State) : Nat × State := (Config.freeValue s.freeCount, { s with freeCount := s.freeCount + 1 })

/-! ### Time stamps -/

/-- The ASN in force: none before an ASN is established, ASN_FLOOR while slots are idled (R365). -/
def State.asnInForce (s : State) : Option Nat := s.time.asn.map fun n => max n s.time.asnFloor.toNat

/-- The ASN in force as 64 bits, all ones if none is established. -/
def State.asn64 (s : State) : BitVec 64 :=
  match s.asnInForce with
  | some n => BitVec.ofNat 64 n
  | none => 0xFFFFFFFFFFFFFFFF

/-- Network time in ns. -/
def State.netNs (s : State) : Nat := s.time.seconds.toNat * 1000000000 + s.time.nanos.toNat

/-- Network time is valid. -/
def State.timeValid (s : State) : Bool := s.time.state != .invalid

/-- The device is past P of a sleep entry, asleep or waking (R409). -/
def State.asleep (s : State) : Bool :=
  match s.power.phase with
  | .awake => false
  | .voting _ => false
  | _ => true

/-- The cluster PLL relocks: the cores are held (R430). -/
def State.relocking (s : State) : Bool :=
  match s.supply.oppNext with
  | some c => decide ((s.time.fabric - c.relockAt).toNat < 2 ^ 63)
  | none => false

/-! ### Interrupts (R76) -/

/-- The MSI-X vector of source `n`: bits [4:0] of its INT_VECTOR byte (R44). -/
def vectorOf (k : Kci) (n : Nat) : Nat := (mgetD k.intVector n 0).toNat % 32

/-- Sources that are pending and enabled. -/
def firing (k : Kci) : BitVec 256 := k.intPending &&& k.intEnable

/-- Vector `v` is active: an enabled pending source maps to it (INT_VEC_ACTIVE). -/
def vecActive (k : Kci) (v : Nat) : Bool :=
  (List.range 256).any fun n => (firing k).getLsbD n && vectorOf k n == v

/-- IRQ_N is asserted. -/
def irqAsserted (k : Kci) : Bool := !k.intMode && k.globalEn && firing k != 0

/-- The message of a vector goes out with the address and data of its table entry. -/
def Vec.send (x : Vec) : Vec :=
  { x with elapsed := x.holdoff == 0, sent := x.sent + 1, last := some (x.msgAddr, x.msgData) }

/-- Send the messages that are due: one for each active, armed vector whose holdoff has elapsed; the pending-bit array
keeps that of a masked vector (PRESUMED, log entry 113). -/
def sendMsix (k : Kci) : Kci :=
  if k.intMode && k.globalEn then
    { k with vecs := k.vecs.mapIdx fun v x =>
        if !vecActive k v then (if x.pba then { x with armed := true, pba := false } else x)
        else if x.pba then (if x.masked then x else { x.send with pba := false })
        else if x.armed && x.elapsed then
          if x.masked then { x with armed := false, pba := true } else { x.send with armed := false }
        else x }
  else k

/-- Set the pending bit of source `n`. -/
def setPendingBit (k : Kci) (n : Nat) : Kci :=
  sendMsix { k with intPending := k.intPending ||| BitVec.ofNat 256 (2 ^ n) }

/-! ### Events (R73, R74, R615) -/

/-- A record of 32 bytes of the event ring. -/
def eventBytes (num fn : Nat) (gen : BitVec 32) (fabric asn : BitVec 64) (payload : Nat) : Bytes :=
  leBytes 2 num ++ leBytes 2 fn ++ leBytes 4 gen.toNat ++ leBytes 8 fabric.toNat ++ leBytes 8 asn.toNat
    ++ leBytes 8 payload

/-- Records in the event ring. -/
def evtUsed (k : Kci) : Nat := (k.evtTail - k.evtHead).toNat

/-- Offset in BAR0 of the event ring entry that the pointer names. -/
def evtAddr (p : BitVec 11) : Nat := 0x8000 + 32 * (p.toNat % 1024)

/-- Write a record, or count it as dropped when the ring is full. -/
def putEvent (k : Kci) (rec : Bytes) : Kci :=
  if evtUsed k ≥ 1024 then { k with dropped := k.dropped + 1, droppedSince := k.droppedSince + 1 }
  else { k with bar0 := memWrites k.bar0 (evtAddr k.evtTail) rec, evtTail := k.evtTail + 1 }

/-- Events that set their pending bit only. -/
def recordless (num : Nat) : Bool := num ≤ 3 || num == 10 || num == 11

/-- The numbers that R614 reserves. -/
def reservedEvent (num : Nat) : Bool :=
  (14 ≤ num && num ≤ 31) || (38 ≤ num && num ≤ 63) || (69 ≤ num && num ≤ 95) || (99 ≤ num && num ≤ 127)
    || (131 ≤ num && num ≤ 143) || (146 ≤ num && num ≤ 159) || (168 ≤ num && num ≤ 175)
    || (196 ≤ num && num ≤ 199) || (202 ≤ num && num ≤ 207) || (211 ≤ num && num ≤ 223)
    || (227 ≤ num && num ≤ 231) || 239 ≤ num

/-- The event is raised: its number is not reserved, its owner is enabled, and READY is 1 for events 0–13. -/
def eventAllowed (s : State) (num fn : Nat) : Bool :=
  !reservedEvent num && (if num ≤ 13 then s.boot.ready else fn == 0 || s.enabled fn)

/-- Raise event `num` of function `fn` with an explicit generation and ASN. -/
def raiseEventAt (num fn : Nat) (gen : BitVec 32) (asn : BitVec 64) (payload : Nat) (s : State) : State :=
  if eventAllowed s num fn then
    s.onKci fun k =>
      setPendingBit (if recordless num then k
        else putEvent k (eventBytes num fn gen s.time.fabric asn payload)) num
  else s

/-- Raise event `num` of function `fn`. -/
def raiseEvent (num fn payload : Nat) (s : State) : State :=
  raiseEventAt num fn s.coh.generation s.asn64 payload s

end Sys2Proof.Machine
end

