-- ==== Sys2Proof/Machine/Rails.lean ====
section
/-!
DEFINITION. The rails: the configuration of the supplies, targets and the levels taken from them, and the writes to the PMIC
(R425, R428, R432, R433, R449, R450).  Voltages are in mV.
-/

namespace Sys2Proof.Machine

/-! ### Configuration (R449, R450) -/

def supplyPart (m : NMap Bytes) : Bytes := part m 0x1000 0x1001 0 0
def avsEn (m : NMap Bytes) : Bool := bit (u8 (supplyPart m) 0) 0
def oppCount (m : NMap Bytes) : Nat := u8 (supplyPart m) 1
def avsMin (m : NMap Bytes) : Nat := u16 (supplyPart m) 2
def avsMax (m : NMap Bytes) : Nat := u16 (supplyPart m) 4
def sramRet (m : NMap Bytes) : Nat := u16 (supplyPart m) 6
def slewUv (m : NMap Bytes) : Nat := u16 (supplyPart m) 8
def oppMhz (m : NMap Bytes) (i : Nat) : Nat := u16 (supplyPart m) (12 + 4 * i)
def oppMv (m : NMap Bytes) (i : Nat) : Nat := u16 (supplyPart m) (14 + 4 * i)

/-- The PMIC map entry of a rail. -/
def pmicEntry (m : NMap Bytes) (r : Nat) : Bytes := slice (supplyPart m) (44 + 8 * r) 8

/-- Frequency of the cluster in MHz: 400 until `SUPPLY_CONFIG` is committed (R428). -/
def clusterMhz (s : State) : Nat := s.supply.mhz

/-! ### Rails and their levels (R425, R432, R433) -/

/-- The rail is removed at the PMIC. -/
def railRemoved (s : State) (r : Nat) : Bool := s.supply.removed.contains r

/-- Target of a rail. -/
def railTarget (s : State) (r : Fin 10) : Nat := (s.supply.rails[r]).target

/-- A rail at `mv` lies within 2 % of its target. -/
def nearTarget (s : State) (r : Fin 10) (mv : Nat) : Bool :=
  let t := (s.supply.rails[r]).target
  decide (98 * t ≤ 100 * mv) && decide (100 * mv ≤ 102 * t)

/-- 200 µs have passed since the change: by the fabric clock, or by the Spring clock, 7 ticks of it, while that is stopped. -/
def settleOver (s : State) (x : Settle) : Bool :=
  decide (80000 ≤ (s.time.fabric - x.at_).toNat) || (s.asleep && decide (7 ≤ (s.time.spring - x.spring).toNat))

/-- The target from which a rail's levels are taken: the lower of the old and the new one while the rail settles (R433). -/
def levelTarget (s : State) (r : Fin 10) : Nat :=
  match mget s.supply.settling r.val with
  | some x => if nearTarget s r (s.supply.rails[r]).present then railTarget s r else min (railTarget s r) x.old
  | none => railTarget s r

def State.onRail (s : State) (r : Fin 10) (f : Rail → Rail) : State :=
  s.onSupply fun x => { x with rails := x.rails.set r (f x.rails[r]) }

/-! ### PMIC writes (R428, R450) -/

/-- Write to the PMIC for rail `r`; nothing is written until `SUPPLY_CONFIG` has been committed, nor for a rail that is not
controlled. -/
def writePmic (r reg : Nat) (d : PmicData) (s : State) : State :=
  let e := pmicEntry s.coh.active r
  if !s.supply.configured || u8 e 0 % 128 = 0 then s
  else s.onSupply fun x => { x with writes := x.writes ++ [⟨r, u8 e 0 % 128, reg, d⟩] }

/-- Write the voltage code of `mv` to the VSEL_REG of rail `r`. -/
def writeVsel (r mv : Nat) (s : State) : State :=
  let e := pmicEntry s.coh.active r
  if u8 e 3 = 0xFF then s else writePmic r (u8 e 3) (.code ((mv - u16 e 4) * 1000 / max 1 (u16 e 6))) s

/-- Switch rail `r` at the PMIC by its EN_BIT; it is removed from the write on (DEDUCED, log entry 167). -/
def switchRail (on : Bool) (s : State) (r : Nat) : State :=
  let e := pmicEntry s.coh.active r
  if !s.supply.configured || u8 e 2 = 0xFF then s
  else
    (writePmic r (u8 e 1) (.enable (u8 e 2) on) s).onSupply fun x =>
      { x with removed := if on then x.removed.filter (· != r) else r :: x.removed.filter (· != r) }

/-- A new target, written to the PMIC; the levels follow it as R433 says. -/
def setTarget (r : Fin 10) (mv : Nat) (s : State) : State :=
  if (s.supply.rails[r]).target = mv then s
  else
    writeVsel r.val mv ((s.onSupply fun x =>
      { x with settling := mset x.settling r.val ⟨levelTarget s r, s.time.fabric, s.time.spring⟩ }).onRail r fun y =>
        { y with target := mv })

/-- Entry to DOZE or HIBERNATE, once the domains are isolated: VDD_CLUSTER is removed and VDD_SRAM lowered to SRAM_RET_MV
(R408, R425); nothing is written before the first commit (R428). -/
def lowerRails (s : State) : State :=
  if s.supply.configured then setTarget 3 (sramRet s.coh.active) (switchRail false s 1) else s

/-- HIBERNATE removes VDD_CORE, the analog rails and those of DRAM too (R425). -/
def dropRails (s : State) : State := ([9, 8, 5, 4, 0] : List Nat).foldl (switchRail false) s

/-- The rails that are removed return, in the order of R426, and VDD_SRAM goes back to 800 mV (R410, R415, R444). -/
def restoreRails (s : State) : State :=
  let s := (([0, 1, 5, 4, 8, 9] : List Nat).filter (railRemoved s)).foldl (switchRail true) s
  if s.supply.configured then setTarget 3 800 s else s

end Sys2Proof.Machine
end

