-- ==== Sys2Proof/Machine/Plan.lean ====
section
/-!
DEFINITION. Reading a configuration set as a radio, channel and slot plan: bandwidths and modes (R172, R175, R177),
air time (R179, R180), channels and windows (R125, R126, R198, R199), slot template, slotframes, cells and hopping
(R82 to R87).  Every function takes the set it reads, so that a commit can be checked before it is applied.
-/

namespace Sys2Proof.Machine

/-! ### Bandwidths, modes and air time -/

/-- Bandwidth B in Hz of a BW code (R172). -/
def bwHz (code : Nat) : Nat := if code ≤ 8 then 6250 * 2 ^ code else 0

/-- Channel units of a BW code (R172). -/
def bwUnits (code : Nat) : Nat := if code ≤ 4 then 1 else 2 ^ (code - 4)

/-- Filter delay 6 / B in ns (R172). -/
def filterDelayNs (code : Nat) : Nat := if code ≤ 8 then 960000 / 2 ^ code else 0

/-- An Oxgon PHY mode (R175): nominal BW code, channel-bit rate in b/s, codeword length n and information bits k,
preamble length P and AFC range in Hz. -/
structure OxMode where
  bw : Nat
  rate : Nat
  n : Nat
  k : Nat
  preamble : Nat
  afc : Nat
  deriving DecidableEq, Repr

/-- The modes O1 to O7 by MODE code. -/
def oxMode (mode : Nat) : Option OxMode :=
  match mode with
  | 1 => some ⟨2, 900, 576, 192, 64, 1500⟩
  | 2 => some ⟨2, 3600, 576, 192, 64, 1500⟩
  | 3 => some ⟨2, 9600, 576, 288, 48, 3000⟩
  | 4 => some ⟨3, 28800, 1152, 768, 96, 6000⟩
  | 5 => some ⟨5, 92160, 1152, 960, 96, 40000⟩
  | 6 => some ⟨5, 300000, 1152, 768, 96, 5000⟩
  | 7 => some ⟨6, 600000, 1152, 768, 128, 10000⟩
  | _ => none

/-- Data rate in b/s of a SUN-FSK mode (R177). -/
def sunRate (mode : Nat) : Option Nat :=
  match mode with
  | 0x11 => some 50000
  | 0x12 => some 100000
  | 0x13 => some 150000
  | 0x14 => some 200000
  | _ => none

/-- Nominal BW code of a supported mode. -/
def nominalBw (mode : Nat) : Option Nat :=
  match oxMode mode with
  | some m => some m.bw
  | none => if mode = 0x11 then some 5 else if 0x12 ≤ mode && mode ≤ 0x14 then some 6 else none

/-- AFC range in Hz of a mode on a channel of bandwidth code `bw` (R175, R177, R178). -/
def afcRange (mode bw : Nat) : Nat :=
  match nominalBw mode with
  | none => 0
  | some nb =>
    (match oxMode mode with
      | some m => m.afc
      | none => if mode = 0x11 then 20000 else 40000)
      + (bwHz bw - bwHz nb) / 2

/-- Codewords of an Oxgon PSDU of `len` bytes (R179). -/
def codewords (m : OxMode) (len : Nat) : Nat := ceilDiv (8 * len) m.k

/-- Air time in µs of an Oxgon frame (R179); `second` for a twin second part. -/
def oxAirUs (m : OxMode) (len : Nat) (second : Bool) : Nat :=
  ceilDiv ((m.preamble + 96 + codewords m len * (if second then m.n / 2 else m.n)) * 1000000) m.rate

/-- Air time in µs of a SUN-FSK frame (R180). -/
def sunAirUs (rate len preamble : Nat) (fec : Bool) : Nat :=
  let d := if fec then 2 * (16 + 8 * len + 3 + (if len % 2 = 1 then 5 else 13)) else 16 + 8 * len
  ceilDiv ((8 * preamble + 16 + d) * 1000000) rate

/-! ### Radios and windows -/

def radioPart (m : NMap Bytes) (r : Nat) : Bytes := part m (0x0100 + r) 0x0101 0 0
def pinsPart (m : NMap Bytes) (r : Nat) : Bytes := part m (0x0100 + r) 0x0102 0 0

/-- The radio runs RF sampling (R160). -/
def rfSampling (m : NMap Bytes) (r : Nat) : Bool := u8 (radioPart m r) 0 == 1
def windowCount (m : NMap Bytes) (r : Nat) : Nat := u8 (radioPart m r) 1

/-- Centre and width in Hz of window `w`. -/
def windowCentre (m : NMap Bytes) (r w : Nat) : Nat := u32 (radioPart m r) (4 + 8 * w)
def windowWidth (m : NMap Bytes) (r w : Nat) : Nat := u32 (radioPart m r) (8 + 8 * w)
def windowGain (m : NMap Bytes) (r w : Nat) : Nat := u8 (radioPart m r) (20 + w)

def trLead (m : NMap Bytes) (r : Nat) : Nat := u16 (pinsPart m r) 16
def paLead (m : NMap Bytes) (r : Nat) : Nat := u16 (pinsPart m r) 18
def paLag (m : NMap Bytes) (r : Nat) : Nat := u16 (pinsPart m r) 20
def trLag (m : NMap Bytes) (r : Nat) : Nat := u16 (pinsPart m r) 22
def rxLead (m : NMap Bytes) (r : Nat) : Nat := u16 (pinsPart m r) 24

/-! ### Groups and channels (R171, R198, R199) -/

/-- The group header in the form of R198 (offsets 0 to 15). -/
def groupPart (m : NMap Bytes) (g : Nat) : Bytes := part m (0x0200 + g) 0x0201 0 0
def groupRadio (m : NMap Bytes) (g : Nat) : Nat := u8 (groupPart m g) 0
def groupWindow (m : NMap Bytes) (g : Nat) : Nat := u8 (groupPart m g) 1
def groupEnabled (m : NMap Bytes) (g : Nat) : Bool := enabledIn m (0x0200 + g)

/-- The entry of device channel `ch` in the form of R199; empty when the group has no such channel. -/
def chanPart (m : NMap Bytes) (ch : Nat) : Bytes := part m (0x0200 + ch / 32) 0x0201 1 (ch % 32)

/-- The channel exists in its group's plan. -/
def chanExists (m : NMap Bytes) (ch : Nat) : Bool := ch < 256 && !(chanPart m ch).isEmpty
def chanCentre (m : NMap Bytes) (ch : Nat) : Nat := u32 (chanPart m ch) 0
def chanMonitor (m : NMap Bytes) (ch : Nat) : Bool := u8 (chanPart m ch) 4 == 1
def chanBw (m : NMap Bytes) (ch : Nat) : Nat := u8 (chanPart m ch) 5
def chanMode (m : NMap Bytes) (ch : Nat) : Nat := u8 (chanPart m ch) 6
def chanFlags (m : NMap Bytes) (ch : Nat) : Nat := u8 (chanPart m ch) 7
def chanRadio (m : NMap Bytes) (ch : Nat) : Nat := groupRadio m (ch / 32)
def chanWindow (m : NMap Bytes) (ch : Nat) : Nat := groupWindow m (ch / 32)

/-- The channel exists for cells: demodulating, of an enabled group (R171, R174). -/
def chanUsable (m : NMap Bytes) (ch : Nat) : Bool :=
  chanExists m ch && groupEnabled m (ch / 32) && !chanMonitor m ch

/-- The channels of group `g`. -/
def groupChans (m : NMap Bytes) (g : Nat) : List Nat :=
  ((List.range 32).map (32 * g + ·)).filter (chanExists m)

/-- The channels of enabled groups on radio `r`. -/
def radioChans (m : NMap Bytes) (r : Nat) : List Nat :=
  ((List.range 8).filter fun g => groupEnabled m g && groupRadio m g == r).flatMap (groupChans m)

/-- Air time in µs of a frame of `len` bytes on a channel. -/
def airUs (m : NMap Bytes) (ch len : Nat) : Nat :=
  match oxMode (chanMode m ch) with
  | some x => oxAirUs x len false
  | none =>
    match sunRate (chanMode m ch) with
    | some r => sunAirUs r len (u8 (chanPart m ch) 16) (bit (chanFlags m ch) 5)
    | none => 0

/-- The transmit LO of a channel: the centre of its window (R128). -/
def chanLo (m : NMap Bytes) (ch : Nat) : Nat := windowCentre m (chanRadio m ch) (chanWindow m ch)

/-- The channel lies with its bandwidth inside its window and clear of the LO zone (R126). -/
def chanInWindow (m : NMap Bytes) (ch : Nat) : Bool :=
  let r := chanRadio m ch
  let w := chanWindow m ch
  let c : Int := windowCentre m r w
  let h : Int := windowWidth m r w
  let x : Int := chanCentre m ch
  let b : Int := bwHz (chanBw m ch)
  decide (w < windowCount m r) && decide (2 * (c - x) + b ≤ h) && decide (2 * (x - c) + b ≤ h)
    && (decide (2 * x + b ≤ 2 * (c - 25000)) || decide (2 * (c + 25000) ≤ 2 * x - b))

/-! ### Link configuration (R84, R116) -/

def linkPart (m : NMap Bytes) : Bytes := part m 0x0600 0x0601 0 0
def linkRelay (m : NMap Bytes) : Bool := u8 (linkPart m) 0 == 1
def recordRing (m : NMap Bytes) : Nat := u8 (linkPart m) 1
def networkId (m : NMap Bytes) : Nat := u16 (linkPart m) 2

/-- L in Spring ticks; 32,768 is coded 0 (R116). -/
def slotTicks (m : NMap Bytes) : Nat := if u16 (linkPart m) 4 = 0 then 32768 else u16 (linkPart m) 4
def txOffset (m : NMap Bytes) : Nat := u32 (linkPart m) 8
def guardUs (m : NMap Bytes) : Nat := u32 (linkPart m) 12
def turnaround (m : NMap Bytes) : Nat := u32 (linkPart m) 16
def ackGuard (m : NMap Bytes) : Nat := u32 (linkPart m) 20
def ownExt (m : NMap Bytes) : Nat := u64 (linkPart m) 24
def beaconKey (m : NMap Bytes) : Nat := u32 (linkPart m) 32
def groupKey (m : NMap Bytes) : Nat := u32 (linkPart m) 36
def parentIdx (m : NMap Bytes) : Nat := u32 (linkPart m) 40
def keyIdPage (m : NMap Bytes) : Nat := u16 (linkPart m) 46

/-- L in µs (R101). -/
def slotUs (m : NMap Bytes) : Nat := slotTicks m * 1000000 / 32768

/-- Start of slot `n` in network time, ns (R82). -/
def slotStartNs (m : NMap Bytes) (n : Nat) : Nat := n * slotTicks m * 1000000000 / 32768

/-- Fast tick of slot `n`'s start on a slot time base (R83). -/
def slotStartTick (m : NMap Bytes) (n : Nat) : Nat := n * slotTicks m * 9375 / 8

/-! ### Time sources (R353, R357) -/

def timePart (m : NMap Bytes) : Bytes := part m 0x0D00 0x0D01 0 0
def primarySource (m : NMap Bytes) : Nat := u8 (timePart m) 0
def backupSource (m : NMap Bytes) : Nat := u8 (timePart m) 1

/-- PRIMARY or BACKUP takes PTP messages (R357). -/
def usesPtp (m : NMap Bytes) : Bool :=
  [1, 2].contains (primarySource m) || [1, 2].contains (backupSource m)

/-! ### Hopping sets and slotframes (R85 to R87, R117, R118) -/

/-- Channels of a hopping set. -/
def hopSet (m : NMap Bytes) (set : Nat) : List Nat := (part m 0x0600 0x0602 set 0).map BitVec.toNat

/-- Slotframe header: ENABLE, HOPSET, LENGTH (4 bytes), TOTAL (4 bytes). -/
def sfPart (m : NMap Bytes) (sf : Nat) : Bytes := part m 0x0600 0x0603 sf 0
def sfEnabled (m : NMap Bytes) (sf : Nat) : Bool := u8 (sfPart m sf) 0 == 1
def sfHopset (m : NMap Bytes) (sf : Nat) : Nat := u8 (sfPart m sf) 1
def sfLength (m : NMap Bytes) (sf : Nat) : Nat := u32 (sfPart m sf) 2
def sfTotal (m : NMap Bytes) (sf : Nat) : Nat := u32 (sfPart m sf) 6

/-- Cell `i` of slotframe `sf` (R87); a cell lies in the part with selector 16 + slotframe. -/
def cellPart (m : NMap Bytes) (sf i : Nat) : Bytes := part m 0x0600 0x0603 (16 + sf) i

/-- The listed cells of slotframe `sf`, with their indexes. -/
def sfCells (m : NMap Bytes) (sf : Nat) : List (Nat × Bytes) :=
  m.filterMap fun e =>
    if cfgKeyFn e.1 == 0x0600 && cfgKeyOp e.1 == 0x0603 && cfgKeySel e.1 == 16 + sf then
      some (cfgKeyIdx e.1, e.2)
    else none

def cellSlot (c : Bytes) : Nat := u16 c 0
def cellChanOffset (c : Bytes) : Nat := u8 c 2
def cellUse (c : Bytes) : Nat := u8 c 3 % 8
def cellFixed (c : Bytes) : Bool := bit (u8 c 3) 3
def cellTwinFirst (c : Bytes) : Bool := bit (u8 c 3) 4
def cellTwinSecond (c : Bytes) : Bool := bit (u8 c 3) 5
/-- ACK of a cell: 0 none, 1 immediate, 2 group. -/
def cellAck (c : Bytes) : Nat := u8 c 3 / 64
def cellNeighbour (c : Bytes) : Nat := u32 c 4
def cellMaxLen (c : Bytes) : Nat := u16 c 8
def cellTwinIndex (c : Bytes) : Nat := u32 c 12

/-- The device transmits in the cell: downlink, beacon and group acknowledgement, and in relay role parent uplink (R87). -/
def cellTransmits (m : NMap Bytes) (c : Bytes) : Bool :=
  [2, 3, 4].contains (cellUse c) || (linkRelay m && cellUse c == 6)

/-- The device receives in the cell: uplink, and in relay role parent beacon and parent downlink (R87). -/
def cellReceives (m : NMap Bytes) (c : Bytes) : Bool :=
  [0, 1].contains (cellUse c) || (linkRelay m && (cellUse c == 5 || cellUse c == 7))

/-- One step of the shuffle's generator (R86). -/
def xorshift32 (x : Nat) : Nat :=
  let a := x ^^^ (x * 8192 % 4294967296)
  let b := a ^^^ (a / 131072)
  b ^^^ (b * 32 % 4294967296)

/-- The Fisher-Yates shuffle of R86: position `i` counts down to 1. -/
def hopShuffle : Nat → Nat → List Nat → List Nat
  | 0, _, p => p
  | i + 1, x, p =>
    let x := xorshift32 x
    let j := x % (i + 2)
    let a := p.getD (i + 1) 0
    let b := p.getD j 0
    hopShuffle i x ((p.set (i + 1) b).set j a)

/-- The channel of a hopping set at ASN `a` with channel offset `c` (R86). -/
def hopChannel (netId a c : Nat) (set : List Nat) : Option Nat :=
  let h := set.length
  if h = 0 then none
  else
    let key := netId * 65536 + a / h % 65536
    let key := if key = 0 then 0x4F584731 else key
    let p := hopShuffle (h - 1) key (List.range h)
    set[p.getD ((a + c) % h) 0]?

/-- Device channel of a cell of slotframe `sf` at ASN `a` (R86). -/
def cellChannel (m : NMap Bytes) (sf : Nat) (c : Bytes) (a : Nat) : Option Nat :=
  if cellFixed c then some (u8 c 10) else hopChannel (networkId m) a (cellChanOffset c) (hopSet m (sfHopset m sf))

/-- Every device channel that a cell can use. -/
def cellChannels (m : NMap Bytes) (sf : Nat) (c : Bytes) : List Nat :=
  if cellFixed c then [u8 c 10] else hopSet m (sfHopset m sf)

/-- The cell is active in the slot with ASN `a` (R85). -/
def cellActive (m : NMap Bytes) (sf : Nat) (c : Bytes) (a : Nat) : Bool :=
  sfEnabled m sf && sfLength m sf != 0 && a % sfLength m sf == cellSlot c

/-- The cells active in slot `a`: slotframe, index and entry. -/
def activeCells (m : NMap Bytes) (a : Nat) : List (Nat × Nat × Bytes) :=
  (List.range 8).flatMap fun sf =>
    (sfCells m sf).filterMap fun e => if cellActive m sf e.2 a then some (sf, e.1, e.2) else none

/-- Bytes of the longest immediate acknowledgement of a cell on channel `ch`: 27 in shared cells, 19 otherwise (R96); on
SUN-FSK one byte more or less, as the channel sends an FCS of 4 or 2 bytes (R113). -/
def ackLen (m : NMap Bytes) (c : Bytes) (ch : Nat) : Nat :=
  let n := if cellUse c = 1 then 27 else 19
  if (sunRate (chanMode m ch)).isNone then n else if bit (chanFlags m ch) 4 then n + 1 else n - 1

/-- A_f of R84 for a cell on channel `ch`, µs.  A twin second cell carries only the further parity. -/
def cellAirUs (m : NMap Bytes) (c : Bytes) (ch : Nat) : Nat :=
  match oxMode (chanMode m ch) with
  | some x => oxAirUs x (cellMaxLen c) (cellTwinSecond c)
  | none => airUs m ch (cellMaxLen c)

/-- A_ack of R84, µs.  The acknowledgement of a twin frame is sent in its second cell (R100); beacons and group
acknowledgements carry none. -/
def cellAckUs (m : NMap Bytes) (c : Bytes) (ch : Nat) : Nat :=
  if cellAck c = 1 && !cellTwinFirst c && !(3 ≤ cellUse c && cellUse c ≤ 5) then turnaround m + airUs m ch (ackLen m c ch) else 0

/-! ### Powers in steps of 0.25 dB -/

/-- 10^(i/40) × 10⁹ for i = 0 to 39. -/
def pow40Table : List Nat :=
  [1000000000, 1059253725, 1122018454, 1188502227, 1258925412, 1333521432, 1412537545, 1496235656, 1584893192,
    1678804018, 1778279410, 1883649089, 1995262315, 2113489040, 2238721139, 2371373706, 2511886432, 2660725060,
    2818382931, 2985382619, 3162277660, 3349654392, 3548133892, 3758374043, 3981071706, 4216965034, 4466835922,
    4731512590, 5011872336, 5308844442, 5623413252, 5956621435, 6309573445, 6683439176, 7079457844, 7498942093,
    7943282347, 8413951416, 8912509381, 9440608763]

/-- A power of `q` × 0.25 dB as a number, with 0 dB at 10¹⁹. -/
def powerOf (q : Int) : Nat :=
  let n := (q + 400).toNat
  pow40Table.getD (n % 40) 0 * 10 ^ (n / 40)

/-- The largest level in 0.25 dB, from `q` up, that does not exceed a power. -/
def compositeQ (sum : Nat) : Nat → Int → Int
  | 0, q => q
  | fuel + 1, q => if powerOf (q + 1) ≤ sum then compositeQ sum fuel (q + 1) else q

/-- The mean of powers, rounded down to a step; they lie within 100 dB of the largest. -/
def meanQ (l : List Int) : Int :=
  let top := l.foldl max (l.headD 0)
  compositeQ ((l.map fun q => powerOf (q - top)).foldl (· + ·) 0 / max 1 l.length) 40 (-40) + top

/-! ### Transmit configuration (R274 to R276) -/

def sluicePart (m : NMap Bytes) : Bytes := part m 0x0500 0x0501 0 0
def launchRing (m : NMap Bytes) : Nat := u8 (sluicePart m) 0
def ackRecords (m : NMap Bytes) : Bool := bit (u8 (sluicePart m) 1) 0
def setupSlots (m : NMap Bytes) : Nat := u8 (sluicePart m) 2
def nbQueueMax (m : NMap Bytes) : Nat := u8 (sluicePart m) 3
def dlLifetimeMs (m : NMap Bytes) : Nat := u32 (sluicePart m) 4
def dlAttempts (m : NMap Bytes) : Nat := u8 (sluicePart m) 8
def modLimit (m : NMap Bytes) (r : Nat) : Nat := u8 (sluicePart m) (12 + 8 * r)
def txPowerQ (m : NMap Bytes) (r : Nat) : Int := i16 (sluicePart m) (14 + 8 * r)
def dlLateTol (m : NMap Bytes) (r : Nat) : Nat := u16 (sluicePart m) (16 + 8 * r)
def beaconLateTol (m : NMap Bytes) (r : Nat) : Nat := u16 (sluicePart m) (18 + 8 * r)

/-- Sub-band `i` in the form of R276; empty when absent. -/
def bandPart (m : NMap Bytes) (i : Nat) : Bytes := part m 0x0500 0x0503 0 i
def bandExists (m : NMap Bytes) (i : Nat) : Bool := i < 16 && !(bandPart m i).isEmpty
def bandLow (m : NMap Bytes) (i : Nat) : Nat := u32 (bandPart m i) 0
def bandHigh (m : NMap Bytes) (i : Nat) : Nat := u32 (bandPart m i) 4
def bandWindow (m : NMap Bytes) (i : Nat) : Nat := u16 (bandPart m i) 12

/-- The budget of a sub-band, µs (R264). -/
def bandBudget (m : NMap Bytes) (i : Nat) : Nat := u32 (bandPart m i) 8 * bandWindow m i

/-- Two intervals share an interval of non-zero width (R265); edges in half-Hz. -/
def overlaps (a b c d : Nat) : Bool := decide (max a c < min b d)

/-- The sub-bands of set `b` that a channel of set `m` overlaps (R265). -/
def bandsOf (m b : NMap Bytes) (ch : Nat) : List (Fin 16) :=
  (List.finRange 16).filter fun i =>
    bandExists b i.val
      && overlaps (2 * chanCentre m ch - bwHz (chanBw m ch)) (2 * chanCentre m ch + bwHz (chanBw m ch))
        (2 * bandLow b i.val) (2 * bandHigh b i.val)

/-- The sub-bands that a channel overlaps. -/
def chanBands (m : NMap Bytes) (ch : Nat) : List (Fin 16) := bandsOf m m ch

/-- Gate list header in the form of R275 (16 bytes) and entry `i`. -/
def gatePart (m : NMap Bytes) (l : Nat) : Bytes := part m 0x0500 0x0502 l 0
def gateEntry (m : NMap Bytes) (l i : Nat) : Bytes := part m 0x0500 0x0502 (16 + l) i
def gateEnabled (m : NMap Bytes) (l : Nat) : Bool := u8 (gatePart m l) 1 == 1
def gateCount (m : NMap Bytes) (l : Nat) : Nat := u16 (gatePart m l) 2
def gateBase (m : NMap Bytes) (l : Nat) : Nat := u64 (gatePart m l) 4
def gateCycle (m : NMap Bytes) (l : Nat) : Nat := u32 (gatePart m l) 12

end Sys2Proof.Machine
end

