-- ==== Sys2Proof/Machine/Ldpc.lean ====
section
/-!
DEFINITION. The Oxgon codes and their decoder: base matrices (R216 to R218), division into codewords (R219), layered
normalised min-sum (R221, R222), and the check sums of frames (R91, R93).
-/

namespace Sys2Proof.Machine

/-- A code of R216: circulant size, base rows, information columns and column weight. -/
structure LdpcCode where
  z : Nat
  mb : Nat
  kb : Nat
  dv : Nat
  deriving DecidableEq, Repr

/-- The code of an Oxgon mode (R216). -/
def modeCode (mode : Nat) : LdpcCode :=
  match mode with
  | 1 | 2 => ⟨24, 16, 8, 6⟩
  | 3 => ⟨24, 12, 12, 4⟩
  | 5 => ⟨48, 4, 20, 3⟩
  | _ => ⟨48, 8, 16, 3⟩

/-- Codeword length n and information bits k. -/
def LdpcCode.n (c : LdpcCode) : Nat := 24 * c.z
def LdpcCode.k (c : LdpcCode) : Nat := c.kb * c.z

/-- `base_entry` of R217; none is a zero block. -/
def baseEntry (c : LdpcCode) (i j : Nat) : Option Nat :=
  if j < c.kb then
    ((List.range c.dv).find? fun t => i == (j + t * (c.mb / c.dv)) % c.mb).map fun t =>
      ((t + 1) * (j + 1) * (j + 1) + 11 * t) % c.z
  else if j = c.kb then
    if i = 0 || i + 1 = c.mb then some 1 else if i = c.mb / 2 then some 0 else none
  else if i + c.kb + 1 = j || i + c.kb = j then some 0
  else none

/-- `ext_entry` of R218. -/
def extEntry (c : LdpcCode) (u j : Nat) : Option Nat :=
  if j < c.kb then (if (j + u) % 3 = 0 then some (((u + 3) * (j + 2) + 5 * u) % c.z) else none)
  else if j = c.kb + u % c.mb then some ((7 * u) % c.z)
  else if j = 24 + u then some 0
  else none

/-- The non-zero blocks of a row: column and shift. -/
def rowOf (cols : Nat) (f : Nat → Option Nat) : List (Nat × Nat) :=
  (List.range cols).filterMap fun j => (f j).map (j, ·)

/-- The layers of a single job, or of a combined one (R221). -/
def layersOf (c : LdpcCode) (combined : Bool) : List (List (Nat × Nat)) :=
  (List.range c.mb).map (fun i => rowOf 24 (baseEntry c i))
    ++ (if combined then (List.range 12).map (fun u => rowOf 36 (extEntry c u)) else [])

/-- Saturate to ± `m`. -/
def satInt (m : Nat) (x : Int) : Int := if x > (m : Int) then m else if x < -(m : Int) then -(m : Int) else x

/-- The position in the posterior array that row `r` of a block in column `j` with shift `s` touches (R216). -/
def bitPos (z : Nat) (r : Nat) (e : Nat × Nat) : Nat := e.1 * z + (r + e.2) % z

/-- The message that a check sends to each of its bits: the smallest magnitude among the others, scaled by 0.75 toward
zero and held in 7 bits, with the product of their signs (R221). -/
def checkMessages (qs : List Int) : List Int :=
  let neg := qs.countP (· < 0)
  qs.mapIdx fun i q =>
    let others := qs.eraseIdx i
    let m := others.foldl (fun a x => min a x.natAbs) 1000000
    let mag : Int := min 63 (3 * m / 4)
    if (neg - flag (decide (q < 0))) % 2 = 1 then -mag else mag

/-- Posteriors and check messages of a job. -/
structure DecState where
  post : Array Int
  msgs : Array Int

/-- One check of a layer: `base` is the index of its first message. -/
def doCheck (z : Nat) (layer : List (Nat × Nat)) (base r : Nat) (d : DecState) : DecState :=
  let w := layer.length
  let ps := layer.map (bitPos z r)
  let old := (List.range w).map fun i => d.msgs.getD (base + r * w + i) 0
  let qs := List.zipWith (fun p m => d.post.getD p 0 - m) ps old
  let new := checkMessages qs
  let post := (ps.zip (List.zipWith (fun q m => satInt 511 (q + m)) qs new)).foldl
    (fun a x => a.setIfInBounds x.1 x.2) d.post
  let msgs := ((List.range w).zip new).foldl (fun a x => a.setIfInBounds (base + r * w + x.1) x.2) d.msgs
  ⟨post, msgs⟩

/-- One iteration over all layers; `base` counts the messages before the layer. -/
def doLayers (z : Nat) : List (List (Nat × Nat)) → Nat → DecState → DecState
  | [], _, d => d
  | l :: ls, base, d =>
    doLayers z ls (base + l.length * z) ((List.range z).foldl (fun d r => doCheck z l base r d) d)

/-- Unsatisfied checks of the hard decisions. -/
def unsatisfied (z : Nat) (layers : List (List (Nat × Nat))) (post : Array Int) : Nat :=
  (layers.map fun l => (List.range z).countP fun r =>
    (l.countP fun e => post.getD (bitPos z r e) 0 < 0) % 2 == 1).foldl (· + ·) 0

/-- How a job ends. -/
structure JobResult where
  converged : Bool
  iterations : Nat
  aborted : Bool
  /-- Hard decisions of the information positions. -/
  info : List Bool

/-- Iterations until the syndrome is zero, the cap is reached, or the early abort of R222 applies.  `hist` holds the
counts of unsatisfied checks, newest first. -/
def iterate (z : Nat) (layers : List (List (Nat × Nat))) (early : Bool) :
    Nat → Nat → List Nat → DecState → Bool × Nat × Bool × Array Int
  | 0, done, _, d => (false, done, false, d.post)
  | left + 1, done, hist, d =>
    let d := doLayers z layers 0 d
    let u := unsatisfied z layers d.post
    let done := done + 1
    if u = 0 then (true, done, false, d.post)
    else if early && 8 ≤ done && (hist.getD 3 0) ≤ u then (false, done, true, d.post)
    else iterate z layers early left done (u :: hist) d

/-- Decode one codeword (R221, R222): channel values, the number of information bits that are no pads, cap and
EARLY_ABORT. -/
def decodeJob (c : LdpcCode) (combined : Bool) (llr : List Int) (used cap : Nat) (early : Bool) : JobResult :=
  let init := (llr.mapIdx fun i x => if used ≤ i && i < c.k then 127 else x).toArray
  let layers := layersOf c combined
  let total := (layers.map fun l => l.length * c.z).foldl (· + ·) 0
  let r := iterate c.z layers early cap 0 [] ⟨init, Array.replicate total 0⟩
  { converged := r.1, iterations := r.2.1, aborted := r.2.2.1
    info := (List.range used).map fun i => decide (r.2.2.2.getD i 0 < 0) }

/-- Information bits of codeword `i` of a PSDU of `len` bytes (R219). -/
def wordBits (k len i : Nat) : Nat :=
  let total := 8 * len
  let ncw := ceilDiv total k
  total / ncw + flag (decide (i < total % ncw))

/-- Bits in transmission order as bytes: least significant bit first (R90). -/
def packBits : Nat → List Bool → Bytes
  | 0, _ => []
  | n + 1, b =>
    BitVec.ofNat 8 ((b.take 8).foldr (fun x a => 2 * a + flag x) 0) :: packBits n (b.drop 8)

/-! ### Check sums -/

/-- CRC-8 of the PHR over [31:8], most significant bit first (R91). -/
def hcrc (phr : BitVec 32) : Nat := crc8 24 (phr.toNat / 256)

/-- One byte into a reflected CRC with polynomial `poly`. -/
def crcByte (poly : Nat) (r : Nat) (b : Byte) : Nat :=
  (List.range 8).foldl (fun r _ => if r % 2 = 1 then (r / 2) ^^^ poly else r / 2) (r ^^^ b.toNat)

/-- CRC-32 of IEEE 802.3 (R93). -/
def crc32 (bs : Bytes) : Nat := (bs.foldl (crcByte 0xEDB88320) 0xFFFFFFFF) ^^^ 0xFFFFFFFF

/-- The 2-byte FCS of IEEE 802.15.4: CRC of x¹⁶ + x¹² + x⁵ + 1 with initial value 0 (log entry 18). -/
def crc16 (bs : Bytes) : Nat := bs.foldl (crcByte 0x8408) 0

/-- A PSDU whose last 4 bytes, or 2, are its FCS. -/
def fcsOk (bs : Bytes) (fcs4 : Bool) : Bool :=
  let n := if fcs4 then 4 else 2
  n ≤ bs.length && field bs (bs.length - n) n == (if fcs4 then crc32 else crc16) (bs.take (bs.length - n))

/-- A frame with its FCS appended. -/
def withFcs (bs : Bytes) (fcs4 : Bool) : Bytes :=
  if fcs4 then bs ++ leBytes 4 (crc32 bs) else bs ++ leBytes 2 (crc16 bs)

end Sys2Proof.Machine
end

