-- ==== Sys2Proof/Machine/Air.lean ====
section
/-!
DEFINITION. What goes on air: preamble, sync word, PHR and codewords of an Oxgon frame (R90, R91, R176, R216 to R219), and
the PPDU of a SUN-FSK frame with its whitening, convolutional code and interleaver (R112, R177, R189).
-/

namespace Sys2Proof.Machine

/-- The `n` low bits of `v`, most significant first. -/
def msbBits (n v : Nat) : List Bool := (List.range n).map fun i => bit v (n - 1 - i)

/-- The bits of octets in transmission order: least significant bit first (R90). -/
def airBits (bs : Bytes) : List Bool := bs.flatMap fun b => (List.range 8).map b.getLsbD

/-- Exclusive or, bit by bit. -/
def xorBits (a b : List Bool) : List Bool := List.zipWith xor a b

/-- The number of places in which two words of `n` bits differ. -/
def bitErrors (n a b : Nat) : Nat := popcount n (a ^^^ b)

/-! ### Sync words (R90, R177, R182) -/

/-- The sync word of beacons, and of all other frames (R90). -/
def syncWord (beacon : Bool) : Nat := if beacon then 0x58C62F49 else 0x7A0ED3B5

/-- The SFD of a SUN_SFD_SET for coded and for uncoded frames, as IEEE 802.15.4 defines them (PRESUMED, log entry 125). -/
def sunSfd (set : Nat) (coded : Bool) : Nat :=
  if set = 0 then (if coded then 0x6F4E else 0x904E) else if coded then 0x632D else 0x7A0E

/-! ### The Oxgon frame (R90, R91, R176, R219) -/

/-- The preamble of a mode, in channel bits (R175, R176). -/
def preambleBits (mode : Nat) : List Bool :=
  let unit : List Bool := match mode with
    | 1 | 2 => [false]
    | 3 => [false, true]
    | 4 | 5 => [false, true, true, true]
    | _ => [false, false, true, true]
  (List.range ((oxMode mode).map (·.preamble) |>.getD 0)).map fun i => unit.getD (i % unit.length) false

/-- The PHR of a frame with its HCRC (R91). -/
def phrOf (kind len tag : Nat) : BitVec 32 :=
  let v : BitVec 32 := BitVec.ofNat 32 (2 ^ 30 + kind * 2 ^ 27 + len * 2 ^ 16 + tag * 2 ^ 8)
  v + BitVec.ofNat 32 (hcrc v)

/-- A block of `z` bits as a circulant with shift `s` sees it: row i takes bit (i + s) mod Z (R216). -/
def shifted (s : Nat) (b : List Bool) : List Bool := b.drop s ++ b.take s

/-- The sum of the shifted blocks of a row that `blocks` holds. -/
def rowSum (z : Nat) (row : List (Nat × Nat)) (blocks : List (List Bool)) : List Bool :=
  row.foldl (fun a e => match blocks[e.1]? with
    | some b => xorBits a (shifted e.2 b)
    | none => a) (List.replicate z false)

/-- The parity blocks of the information blocks `info`: the first is the sum of all rows, the others follow down the
staircase (R217). -/
def parityBlocks (c : LdpcCode) (info : List (List Bool)) : List (List Bool) :=
  let rows := (List.range c.mb).map fun i => rowSum c.z ((rowOf c.kb (baseEntry c i))) info
  let p := rows.foldl xorBits (List.replicate c.z false)
  let first (i : Nat) (a : List Bool) : List Bool :=
    match baseEntry c i c.kb with
    | some s => xorBits a (shifted s p)
    | none => a
  -- row i holds p_i and p_(i+1), row 0 only p_1
  let chain := (rows.take (c.mb - 1)).foldl (fun (st : Nat × List Bool × List (List Bool)) r =>
    let q := xorBits (first st.1 r) st.2.1
    (st.1 + 1, q, st.2.2 ++ [q])) (0, List.replicate c.z false, [])
  p :: chain.2.2

/-- The blocks of a codeword whose `k` information bits are given (R216, R217). -/
def encodeBlocks (c : LdpcCode) (bits : List Bool) : List (List Bool) :=
  let info := (List.range c.kb).map fun j => (bits.drop (j * c.z)).take c.z
  info ++ parityBlocks c info

/-- The further parity of a twin second part (R218). -/
def twinBits (c : LdpcCode) (blocks : List (List Bool)) : List Bool :=
  (List.range 12).flatMap fun u => rowSum c.z (rowOf 24 (extEntry c u)) blocks

/-- The information bits of codeword `i` of a PSDU, padded with zeros to k (R219). -/
def wordInfo (c : LdpcCode) (psdu : Bytes) (i : Nat) : List Bool :=
  let from_ := ((List.range i).map (wordBits c.k psdu.length)).foldl (· + ·) 0
  let n := wordBits c.k psdu.length i
  ((airBits psdu).drop from_).take n ++ List.replicate (c.k - n) false

/-- The coded bits of a PSDU: its codewords, or for a twin second part their further parity (R219). -/
def codedBits (mode : Nat) (psdu : Bytes) (second : Bool) : List Bool :=
  let c := modeCode mode
  (List.range (ceilDiv (8 * psdu.length) c.k)).flatMap fun i =>
    let b := encodeBlocks c (wordInfo c psdu i)
    if second then twinBits c b else b.flatten

/-- The channel bits of a frame: preamble, sync word, PHR and its inverted copy, codewords (R90). -/
def frameBits (mode : Nat) (beacon : Bool) (kind tag : Nat) (psdu : Bytes) : List Bool :=
  let phr := msbBits 32 (phrOf kind psdu.length tag).toNat
  preambleBits mode ++ msbBits 32 (syncWord beacon) ++ phr ++ phr.map not ++ codedBits mode psdu (kind == 2)

/-- Pairs of bits, the first more significant. -/
def dibits : List Bool → List Nat
  | a :: b :: l => (2 * flag a + flag b) :: dibits l
  | _ => []

/-- Chips on I and Q: the even ones on I, the odd ones on Q, each for two chip periods, Q one chip period later. -/
def offsetChips (chips : List Bool) : List Symbol :=
  (List.range (chips.length + 1)).map fun k =>
    .chip chips[k / 2 * 2]? (if k = 0 then none else chips[(k - 1) / 2 * 2 + 1]?)

/-- The symbols of channel bits (R176, R177). -/
def modulate (mode : Nat) (bits : List Bool) : List Symbol :=
  let levels (f : Int → Symbol) := (dibits bits).map fun d => f ([1, 3, -1, -3].getD d 0)
  let fsk (dev : Int) := bits.map fun b => Symbol.deviation (if b then dev else -dev)
  match mode with
  | 1 => offsetChips (bits.flatMap fun b => (msbBits 16 0x3A95).map fun x => xor x b)
  | 2 => offsetChips (bits.flatMap fun b => (msbBits 4 0xD).map fun x => xor x b)
  | 3 => fsk 2400
  | 4 => levels fun k => .deviation (2400 * k)
  | 5 => levels fun k => .deviation (7680 * k)
  | 6 | 7 => levels .phase
  -- 2-FSK with modulation index h: the deviation is h / 2 of the rate
  | 0x11 => fsk 25000
  | 0x12 => fsk 50000
  | 0x13 => fsk 37500
  | 0x14 => fsk 50000
  | _ => []

/-! ### The SUN-FSK PPDU (R112, R113, R177)

The convolutional codes, the interleaver, the pad bits and the whitening sequence are those of IEEE 802.15.4 (PRESUMED, log
entry 125). -/

/-- The whitening sequence: nine ones seed it, and each further bit is the sum of those 9 and 4 places before. -/
def pn9 (n : Nat) : List Bool :=
  ((List.range n).foldl (fun (st : List Bool × List Bool) _ =>
    -- the nine latest bits, oldest first
    let b := xor (st.1.getD 0 false) (st.1.getD 5 false)
    (st.1.drop 1 ++ [b], st.2 ++ [b])) (List.replicate 9 true, [])).2

/-- A PSDU whitened, or restored. -/
def whiten (psdu : Bytes) : Bytes := packBits psdu.length (xorBits (airBits psdu) (pn9 (8 * psdu.length)))

/-- The pad bits after the tail of a coded frame with a PSDU of `len` octets (R180). -/
def sunPad (len : Nat) : List Bool := if len % 2 = 1 then msbBits 5 0x0B else msbBits 13 0x0B0B

/-- One step of the rate-1/2 code, constraint length 4: the next state and the two bits sent.  The state holds the latest
bit at its top.  `rsc` selects the recursive systematic code; the bits of the other code are sent inverted. -/
def convStep (rsc : Bool) (m : Nat) (b : Bool) : Nat × Bool × Bool :=
  let m1 := bit m 2
  let m2 := bit m 1
  let m3 := bit m 0
  if rsc then
    let fb := xor b (xor m1 (xor m2 m3))
    (flag fb * 4 + m / 2, b, xor fb (xor m2 m3))
  else (flag b * 4 + m / 2, !(xor b (xor m1 (xor m2 m3))), !(xor b (xor m2 m3)))

/-- Encode bits from state `m`. -/
def convEncode (rsc : Bool) : Nat → List Bool → List Bool × Nat
  | m, [] => ([], m)
  | m, b :: bs =>
    let s := convStep rsc m b
    let t := convEncode rsc s.1 bs
    (s.2.1 :: s.2.2 :: t.1, t.2)

/-- The three tail bits that bring the code back to state 0. -/
def convTail (rsc : Bool) : Nat → Nat → List Bool
  | 0, _ => []
  | n + 1, m =>
    let b := rsc && xor (bit m 2) (xor (bit m 1) (bit m 0))
    b :: convTail rsc n (convStep rsc m b).1

/-- Code symbols of two bits interleaved in blocks of 16: place i holds symbol 15 − 4 (i mod 4) − i / 4.  The same rule
restores the order. -/
def interleave {α : Type} (d : α) (l : List α) : List α :=
  (List.range l.length).map fun i =>
    let s := i / 2 % 16
    l.getD (i / 32 * 32 + 2 * (15 - 4 * (s % 4) - s / 4) + i % 2) d

/-- PHR of a SUN-FSK frame, first bit in bit 15: Mode Switch 0, FCS Type, Data Whitening, Frame Length. -/
def sunPhr (fcs4 white : Bool) (len : Nat) : Nat := flag (!fcs4) * 2 ^ 12 + flag white * 2 ^ 11 + len

/-- The channel bits of a SUN-FSK frame: preamble, SFD, PHR and PSDU; `fec` holds SUN_FEC of the group. -/
def sunBits (preamble sfdSet fec : Nat) (coded fcs4 white : Bool) (psdu : Bytes) : List Bool :=
  let head := (List.replicate (4 * preamble) [false, true]).flatten ++ msbBits 16 (sunSfd sfdSet coded)
  let data := msbBits 16 (sunPhr fcs4 white psdu.length) ++ airBits (if white then whiten psdu else psdu)
  if coded then
    let rsc := bit fec 0
    let m := (convEncode rsc 0 data).2
    let out := (convEncode rsc 0 (data ++ convTail rsc 3 m ++ sunPad psdu.length)).1
    head ++ (if bit fec 1 then interleave false out else out)
  else head ++ data

/-- The best path into each state: its metric and its bits, newest first. -/
abbrev Trellis := List (Int × List Bool)

/-- One step of the trellis decoder on two soft symbols, positive for bit 0. -/
def trellisStep (rsc : Bool) (t : Trellis) (y : Int × Int) : Trellis :=
  let gain (v : Int) (b : Bool) : Int := if b then -v else v
  let paths := (List.range 16).map fun i =>
    let m := i / 2
    let b := i % 2 == 1
    let s := convStep rsc m b
    let p := t.getD m (-1000000, [])
    (s.1, p.1 + gain y.1 s.2.1 + gain y.2 s.2.2, b :: p.2)
  (List.range 8).map fun k =>
    (paths.filter fun p => p.1 == k).foldl (fun (a : Int × List Bool) p => if a.1 < p.2.1 then p.2 else a) (-100000000, [])

/-- Pairs of soft symbols. -/
def softPairs : List Int → List (Int × Int)
  | a :: b :: l => (a, b) :: softPairs l
  | _ => []

/-- The bits that a run of soft symbols of the coded part of a frame most likely carries. -/
def trellisDecode (rsc : Bool) (soft : List Int) : List Bool :=
  let start : Trellis := (List.range 8).map fun k => if k = 0 then (0, []) else (-1000000, [])
  let t := (softPairs soft).foldl (trellisStep rsc) start
  (t.foldl (fun (a : Int × List Bool) p => if a.1 < p.1 then p else a) (-100000000, [])).2.reverse

/-- The PSDU of `len` octets of a SUN-FSK frame from the soft symbols of its PHR and PSDU: coded symbols pass the
interleaver and the trellis decoder, uncoded ones are cut to bits; whitening is undone (R112, R177, R189). -/
def sunPsdu (fec : Nat) (coded white : Bool) (len : Nat) (soft : List Int) : Bytes :=
  let bits := if coded then trellisDecode (bit fec 0) (if bit fec 1 then interleave 0 soft else soft)
    else soft.map fun v => decide (v < 0)
  let psdu := packBits len (bits.drop 16)
  if white then whiten psdu else psdu

end Sys2Proof.Machine
end

