-- ==== Sys2Proof/Machine/Reasons.lean ====
section
/-!
DEFINITION. The reason codes of R80 and of the chapters that add to it.
-/

namespace Sys2Proof.Machine

/-- `RC_OK`. -/
abbrev rcOk : Nat := 0x0000
/-- `RC_LATE_ACTIVATION`. -/
abbrev rcLateActivation : Nat := 0x0101
/-- `RC_DUP_REACKED`. -/
abbrev rcDupReacked : Nat := 0x0102
/-- `RC_ACCEPTED_PENDING`. -/
abbrev rcAcceptedPending : Nat := 0x0103
/-- `RC_NOTHING_STAGED`. -/
abbrev rcNothingStaged : Nat := 0x0104
/-- `RC_CAL_STALE_USED`. -/
abbrev rcCalStaleUsed : Nat := 0x0105
/-- `RC_JOIN_CANDIDATE`. -/
abbrev rcJoinCandidate : Nat := 0x0106
/-- `RC_DUP_STALE`. -/
abbrev rcDupStale : Nat := 0x0107
/-- `RC_BAD_OPCODE`. -/
abbrev rcBadOpcode : Nat := 0x1001
/-- `RC_UNKNOWN_FUNCTION`. -/
abbrev rcUnknownFunction : Nat := 0x1002
/-- `RC_BAD_LENGTH`. -/
abbrev rcBadLength : Nat := 0x1003
/-- `RC_RESERVED_NONZERO`. -/
abbrev rcReservedNonzero : Nat := 0x1004
/-- `RC_FIELD_RANGE`. -/
abbrev rcFieldRange : Nat := 0x1005
/-- `RC_WRONG_MAILBOX`. -/
abbrev rcWrongMailbox : Nat := 0x1006
/-- `RC_OPCODE_FUNCTION`. -/
abbrev rcOpcodeFunction : Nat := 0x1007
/-- `RC_TRANSPORT_UNSUPPORTED`. -/
abbrev rcTransportUnsupported : Nat := 0x1008
/-- `RC_COMMIT_HORIZON`. -/
abbrev rcCommitHorizon : Nat := 0x1010
/-- `RC_LOWPAN_DECODE`. -/
abbrev rcLowpanDecode : Nat := 0x1020
/-- `RC_SEVERITY_FLOOR`. -/
abbrev rcSeverityFloor : Nat := 0x1030
/-- `RC_DEPENDENCY_DISABLED`. -/
abbrev rcDependencyDisabled : Nat := 0x2001
/-- `RC_AIR_INTERFACE`. -/
abbrev rcAirInterface : Nat := 0x2002
/-- `RC_CHAN_OUTSIDE_WINDOW`. -/
abbrev rcChanOutsideWindow : Nat := 0x2003
/-- `RC_GROUP_UNITS_EXCEEDED`. -/
abbrev rcGroupUnitsExceeded : Nat := 0x2004
/-- `RC_SLOTFRAME_OVERFLOW`. -/
abbrev rcSlotframeOverflow : Nat := 0x2005
/-- `RC_EDDY_HISTORY_EXCEEDED`. -/
abbrev rcEddyHistoryExceeded : Nat := 0x2006
/-- `RC_SHAPER_SUM`. -/
abbrev rcShaperSum : Nat := 0x2007
/-- `RC_PAGE_OWNERSHIP`. -/
abbrev rcPageOwnership : Nat := 0x2008
/-- `RC_GATE_CYCLE_ZERO`. -/
abbrev rcGateCycleZero : Nat := 0x2009
/-- `RC_RING_OVERLAP`. -/
abbrev rcRingOverlap : Nat := 0x200A
/-- `RC_CLOCK_RATIO`. -/
abbrev rcClockRatio : Nat := 0x2010
/-- `RC_DOMAIN_VOLTAGE_SPREAD`. -/
abbrev rcDomainVoltageSpread : Nat := 0x2011
/-- `RC_SLOT_TEMPLATE`. -/
abbrev rcSlotTemplate : Nat := 0x2020
/-- `RC_HOPSET_INVALID`. -/
abbrev rcHopsetInvalid : Nat := 0x2021
/-- `RC_CELL_CONFLICT`. -/
abbrev rcCellConflict : Nat := 0x2022
/-- `RC_TWIN_PAIR`. -/
abbrev rcTwinPair : Nat := 0x2023
/-- `RC_RELAY_PARENT`. -/
abbrev rcRelayParent : Nat := 0x2024
/-- `RC_SHORT_ADDR_DUP`. -/
abbrev rcShortAddrDup : Nat := 0x2025
/-- `RC_KEY_ID_PAGE`. -/
abbrev rcKeyIdPage : Nat := 0x2026
/-- `RC_WINDOW_RANGE`. -/
abbrev rcWindowRange : Nat := 0x2030
/-- `RC_WINDOW_COUNT`. -/
abbrev rcWindowCount : Nat := 0x2031
/-- `RC_FE_PIN_MAP`. -/
abbrev rcFePinMap : Nat := 0x2032
/-- `RC_OBS_RANGE`. -/
abbrev rcObsRange : Nat := 0x2033
/-- `RC_GAIN_RANGE`. -/
abbrev rcGainRange : Nat := 0x2034
/-- `RC_MODE_BANDWIDTH`. -/
abbrev rcModeBandwidth : Nat := 0x2040
/-- `RC_WINDOW_GROUPS`. -/
abbrev rcWindowGroups : Nat := 0x2041
/-- `RC_CAPTURE_RESERVE`. -/
abbrev rcCaptureReserve : Nat := 0x2050
/-- `RC_GATE_ENTRY`. -/
abbrev rcGateEntry : Nat := 0x2060
/-- `RC_DUTY_BAND`. -/
abbrev rcDutyBand : Nat := 0x2061
/-- `RC_TX_NO_SUBBAND`. -/
abbrev rcTxNoSubband : Nat := 0x2062
/-- `RC_TX_POWER_FLOOR`. -/
abbrev rcTxPowerFloor : Nat := 0x2063
/-- `RC_TX_KEYS_EXCEEDED`. -/
abbrev rcTxKeysExceeded : Nat := 0x2070
/-- `RC_KEY_REFERENCE`. -/
abbrev rcKeyReference : Nat := 0x2071
/-- `RC_ROUTE_DUP`. -/
abbrev rcRouteDup : Nat := 0x2080
/-- `RC_ROUTE_TARGET`. -/
abbrev rcRouteTarget : Nat := 0x2081
/-- `RC_QUEUE_MEMORY`. -/
abbrev rcQueueMemory : Nat := 0x2082
/-- `RC_PORT_MODE`. -/
abbrev rcPortMode : Nat := 0x2083
/-- `RC_TIME_THRESHOLDS`. -/
abbrev rcTimeThresholds : Nat := 0x2090
/-- `RC_TIME_SOURCE_ROLE`. -/
abbrev rcTimeSourceRole : Nat := 0x2091
/-- `RC_TIME_SOURCE_PATH`. -/
abbrev rcTimeSourcePath : Nat := 0x2092
/-- `RC_TIMER_BALL`. -/
abbrev rcTimerBall : Nat := 0x20A0
/-- `RC_DOZE_GAP`. -/
abbrev rcDozeGap : Nat := 0x20B0
/-- `RC_POWER_BALL`. -/
abbrev rcPowerBall : Nat := 0x20B1
/-- `RC_OPP_TABLE`. -/
abbrev rcOppTable : Nat := 0x20C0
/-- `RC_AVS_RANGE`. -/
abbrev rcAvsRange : Nat := 0x20C1
/-- `RC_PMIC_MAP`. -/
abbrev rcPmicMap : Nat := 0x20C2
/-- `RC_DRAM_REQUIRED`. -/
abbrev rcDramRequired : Nat := 0x20D0
/-- `RC_SPARE_UNAVAILABLE`. -/
abbrev rcSpareUnavailable : Nat := 0x20D1
/-- `RC_RECORDER_RANGE`. -/
abbrev rcRecorderRange : Nat := 0x20D2
/-- `RC_RECORDER_RATE`. -/
abbrev rcRecorderRate : Nat := 0x20D3
/-- `RC_AFFINITY`. -/
abbrev rcAffinity : Nat := 0x20E0
/-- `RC_BIND_TARGET`. -/
abbrev rcBindTarget : Nat := 0x20E1
/-- `RC_OPP_LIMITS`. -/
abbrev rcOppLimits : Nat := 0x20E2
/-- `RC_QUEUE_CORES`. -/
abbrev rcQueueCores : Nat := 0x20E3
/-- `RC_REACTION_TARGET`. -/
abbrev rcReactionTarget : Nat := 0x20F0
/-- `RC_FUNCTION_DISABLED`. -/
abbrev rcFunctionDisabled : Nat := 0x3001
/-- `RC_SAFE_HOLD_DIAG_ONLY`. -/
abbrev rcSafeHoldDiagOnly : Nat := 0x3002
/-- `RC_TAG_IN_USE`. -/
abbrev rcTagInUse : Nat := 0x3003
/-- `RC_GENERATION_MISMATCH`. -/
abbrev rcGenerationMismatch : Nat := 0x3004
/-- `RC_BUSY_CAL`. -/
abbrev rcBusyCal : Nat := 0x3005
/-- `RC_COMMIT_PENDING`. -/
abbrev rcCommitPending : Nat := 0x3010
/-- `RC_FUNCTION_IN_RESET`. -/
abbrev rcFunctionInReset : Nat := 0x3011
/-- `RC_COMMIT_ABANDONED`. -/
abbrev rcCommitAbandoned : Nat := 0x3012
/-- `RC_NO_SLOT_TIME`. -/
abbrev rcNoSlotTime : Nat := 0x3013
/-- `RC_DISCARDED_RESET`. -/
abbrev rcDiscardedReset : Nat := 0x3014
/-- `RC_NOT_RESETTABLE`. -/
abbrev rcNotResettable : Nat := 0x3015
/-- `RC_TX_RADIO_SCHEDULED`. -/
abbrev rcTxRadioScheduled : Nat := 0x3020
/-- `RC_QUARANTINE_HELD`. -/
abbrev rcQuarantineHeld : Nat := 0x3030
/-- `RC_TIME_SOURCE_ACTIVE`. -/
abbrev rcTimeSourceActive : Nat := 0x3040
/-- `RC_TIME_NOT_VALID`. -/
abbrev rcTimeNotValid : Nat := 0x3041
/-- `RC_PADS_HELD`. -/
abbrev rcPadsHeld : Nat := 0x3050
/-- `RC_IMAGE_UNCONFIRMED`. -/
abbrev rcImageUnconfirmed : Nat := 0x3051
/-- `RC_THREAD_STATE`. -/
abbrev rcThreadState : Nat := 0x3060
/-- `RC_CORE_MODE`. -/
abbrev rcCoreMode : Nat := 0x3061
/-- `RC_FLOW_TICKET`. -/
abbrev rcFlowTicket : Nat := 0x3062
/-- `RC_EVENT_HELD`. -/
abbrev rcEventHeld : Nat := 0x3063
/-- `RC_NO_EVENT_HELD`. -/
abbrev rcNoEventHeld : Nat := 0x3064
/-- `RC_REACTION_ACTIVE`. -/
abbrev rcReactionActive : Nat := 0x3070
/-- `RC_RADIO_SETTLING`. -/
abbrev rcRadioSettling : Nat := 0x3080
/-- `RC_LONG_LIMIT`. -/
abbrev rcLongLimit : Nat := 0x4001
/-- `RC_TABLE_FULL`. -/
abbrev rcTableFull : Nat := 0x4002
/-- `RC_CAPTURED_OUT`. -/
abbrev rcCapturedOut : Nat := 0x4003
/-- `RC_DECODE_TIMEOUT`. -/
abbrev rcDecodeTimeout : Nat := 0x4004
/-- `RC_QUEUE_FULL`. -/
abbrev rcQueueFull : Nat := 0x4005
/-- `RC_CAL_FAILED`. -/
abbrev rcCalFailed : Nat := 0x4006
/-- `RC_LLR_STORE_FULL`. -/
abbrev rcLlrStoreFull : Nat := 0x4010
/-- `RC_FCS_FAIL`. -/
abbrev rcFcsFail : Nat := 0x4011
/-- `RC_DECODE_FAIL`. -/
abbrev rcDecodeFail : Nat := 0x4012
/-- `RC_TWIN_MISSING`. -/
abbrev rcTwinMissing : Nat := 0x4013
/-- `RC_DL_EXPIRED`. -/
abbrev rcDlExpired : Nat := 0x4020
/-- `RC_TX_BOOKING`. -/
abbrev rcTxBooking : Nat := 0x4021
/-- `RC_DL_TOO_LONG`. -/
abbrev rcDlTooLong : Nat := 0x4022
/-- `RC_JOURNAL_FAIL`. -/
abbrev rcJournalFail : Nat := 0x4030
/-- `RC_JOURNAL_WAIT`. -/
abbrev rcJournalWait : Nat := 0x4031
/-- `RC_NO_ROUTE`. -/
abbrev rcNoRoute : Nat := 0x4040
/-- `RC_POLICED`. -/
abbrev rcPoliced : Nat := 0x4041
/-- `RC_HOP_LIMIT`. -/
abbrev rcHopLimit : Nat := 0x4042
/-- `RC_MTU_EXCEEDED`. -/
abbrev rcMtuExceeded : Nat := 0x4043
/-- `RC_DRAM_TRAIN_FAIL`. -/
abbrev rcDramTrainFail : Nat := 0x4050
/-- `RC_MEM_UE`. -/
abbrev rcMemUe : Nat := 0x4060
/-- `RC_AUTH_FAIL`. -/
abbrev rcAuthFail : Nat := 0x5001
/-- `RC_NONCE_EXHAUSTED`. -/
abbrev rcNonceExhausted : Nat := 0x5002
/-- `RC_TAG_FAIL`. -/
abbrev rcTagFail : Nat := 0x5003
/-- `RC_REPLAY`. -/
abbrev rcReplay : Nat := 0x5004
/-- `RC_PAGE_ACCESS`. -/
abbrev rcPageAccess : Nat := 0x5005
/-- `RC_SEC_LEVEL`. -/
abbrev rcSecLevel : Nat := 0x5006
/-- `RC_UNKNOWN_NEIGHBOUR`. -/
abbrev rcUnknownNeighbour : Nat := 0x5007
/-- `RC_NETWORK_MISMATCH`. -/
abbrev rcNetworkMismatch : Nat := 0x5008
/-- `RC_KEY_ABSENT`. -/
abbrev rcKeyAbsent : Nat := 0x5009
/-- `RC_KEY_USAGE`. -/
abbrev rcKeyUsage : Nat := 0x500A
/-- `RC_UNWRAP_FAIL`. -/
abbrev rcUnwrapFail : Nat := 0x500B
/-- `RC_TIMER_OWNER`. -/
abbrev rcTimerOwner : Nat := 0x500C
/-- `RC_IMAGE_ROLLBACK`. -/
abbrev rcImageRollback : Nat := 0x5010
/-- `RC_LAUNCH_MISSED_SYNTH`. -/
abbrev rcLaunchMissedSynth : Nat := 0x6004
/-- `RC_DUTY_BUDGET`. -/
abbrev rcDutyBudget : Nat := 0x6005
/-- `RC_TIME_JUMP_REFUSED`. -/
abbrev rcTimeJumpRefused : Nat := 0x6006
/-- `RC_COMMIT_BOUNDARY_PAST`. -/
abbrev rcCommitBoundaryPast : Nat := 0x6010
/-- `RC_SYNTH_UNLOCK`. -/
abbrev rcSynthUnlock : Nat := 0x6020
/-- `RC_NO_ACK`. -/
abbrev rcNoAck : Nat := 0x6030
/-- `RC_TIME_STEP_CANCEL`. -/
abbrev rcTimeStepCancel : Nat := 0x6040
/-- `RC_START_TIMEOUT`. -/
abbrev rcStartTimeout : Nat := 0x6050
/-- `RC_WAIT_TIMEOUT`. -/
abbrev rcWaitTimeout : Nat := 0x6060
/-- `RC_SLEEP_REFUSED`. -/
abbrev rcSleepRefused : Nat := 0x7001
/-- `RC_TX_ABORT_SUPPLY`. -/
abbrev rcTxAbortSupply : Nat := 0x7002
/-- `RC_THERMAL_SHED`. -/
abbrev rcThermalShed : Nat := 0x7003
/-- `RC_WAKE_TOO_SOON`. -/
abbrev rcWakeTooSoon : Nat := 0x7020
/-- `RC_NO_WAKE_SOURCE`. -/
abbrev rcNoWakeSource : Nat := 0x7021
/-- `RC_SUPPLY_LOW`. -/
abbrev rcSupplyLow : Nat := 0x7030
/-- `RC_SAFE_STATE`. -/
abbrev rcSafeState : Nat := 0x8001
/-- `RC_OBS_REJECT`. -/
abbrev rcObsReject : Nat := 0x8002
/-- `RC_BIST_FAIL`. -/
abbrev rcBistFail : Nat := 0x8010
/-- `RC_MONITOR_SELFTEST`. -/
abbrev rcMonitorSelftest : Nat := 0x8011
/-- `RC_BACKWATER_CHECK`. -/
abbrev rcBackwaterCheck : Nat := 0x8012
/-- `RC_DL_PATH_CHECK`. -/
abbrev rcDlPathCheck : Nat := 0x8020
/-- `RC_INTERNAL`. -/
abbrev rcInternal : Nat := 0xF001

/-- The codes of class Parameter (R81). -/
def parameterReasons : List Nat :=
  [rcBadOpcode, rcUnknownFunction, rcBadLength, rcReservedNonzero, rcFieldRange, rcWrongMailbox, rcOpcodeFunction,
    rcTransportUnsupported, rcCommitHorizon, rcLowpanDecode, rcSeverityFloor]

/-- The codes of class Consistency (R81). -/
def consistencyReasons : List Nat :=
  [rcDependencyDisabled, rcAirInterface, rcChanOutsideWindow, rcGroupUnitsExceeded, rcSlotframeOverflow,
    rcEddyHistoryExceeded, rcShaperSum, rcPageOwnership, rcGateCycleZero, rcRingOverlap, rcClockRatio,
    rcDomainVoltageSpread, rcSlotTemplate, rcHopsetInvalid, rcCellConflict, rcTwinPair, rcRelayParent,
    rcShortAddrDup, rcKeyIdPage, rcWindowRange, rcWindowCount, rcFePinMap, rcObsRange, rcGainRange, rcModeBandwidth,
    rcWindowGroups, rcCaptureReserve, rcGateEntry, rcDutyBand, rcTxNoSubband, rcTxPowerFloor, rcTxKeysExceeded,
    rcKeyReference, rcRouteDup, rcRouteTarget, rcQueueMemory, rcPortMode, rcTimeThresholds, rcTimeSourceRole,
    rcTimeSourcePath, rcTimerBall, rcDozeGap, rcPowerBall, rcOppTable, rcAvsRange, rcPmicMap, rcDramRequired,
    rcSpareUnavailable, rcRecorderRange, rcRecorderRate, rcAffinity, rcBindTarget, rcOppLimits, rcQueueCores,
    rcReactionTarget]

/-- The codes of class State (R81). -/
def stateReasons : List Nat :=
  [rcFunctionDisabled, rcSafeHoldDiagOnly, rcTagInUse, rcGenerationMismatch, rcBusyCal, rcCommitPending,
    rcFunctionInReset, rcCommitAbandoned, rcNoSlotTime, rcDiscardedReset, rcNotResettable, rcTxRadioScheduled,
    rcQuarantineHeld, rcTimeSourceActive, rcTimeNotValid, rcPadsHeld, rcImageUnconfirmed, rcThreadState, rcCoreMode,
    rcFlowTicket, rcEventHeld, rcNoEventHeld, rcReactionActive, rcRadioSettling]

/-- The codes of class Resource (R81). -/
def resourceReasons : List Nat :=
  [rcLongLimit, rcTableFull, rcCapturedOut, rcDecodeTimeout, rcQueueFull, rcCalFailed, rcLlrStoreFull, rcFcsFail,
    rcDecodeFail, rcTwinMissing, rcDlExpired, rcTxBooking, rcDlTooLong, rcJournalFail, rcJournalWait, rcNoRoute,
    rcPoliced, rcHopLimit, rcMtuExceeded, rcDramTrainFail, rcMemUe]

/-- The codes of class Security (R81). -/
def securityReasons : List Nat :=
  [rcAuthFail, rcNonceExhausted, rcTagFail, rcReplay, rcPageAccess, rcSecLevel, rcUnknownNeighbour,
    rcNetworkMismatch, rcKeyAbsent, rcKeyUsage, rcUnwrapFail, rcTimerOwner, rcImageRollback]

/-- The codes of class Timing (R81). -/
def timingReasons : List Nat :=
  [rcLaunchMissedSynth, rcDutyBudget, rcTimeJumpRefused, rcCommitBoundaryPast, rcSynthUnlock, rcNoAck,
    rcTimeStepCancel, rcStartTimeout, rcWaitTimeout]

/-- The codes of class Power (R81). -/
def powerReasons : List Nat :=
  [rcSleepRefused, rcTxAbortSupply, rcThermalShed, rcWakeTooSoon, rcNoWakeSource, rcSupplyLow]

/-- The codes of class Safety (R81). -/
def safetyReasons : List Nat :=
  [rcSafeState, rcObsReject, rcBistFail, rcMonitorSelftest, rcBackwaterCheck, rcDlPathCheck]

/-- The codes of class Internal (R81). -/
def internalReasons : List Nat :=
  [rcInternal]

/-- The codes that say that something failed (R80). -/
def failureReasons : List Nat :=
  parameterReasons ++ consistencyReasons ++ stateReasons ++ resourceReasons ++ securityReasons ++ timingReasons
    ++ powerReasons ++ safetyReasons ++ internalReasons

/-- One of the codes that say that something failed, as a free value picks it (log entry 84). -/
def someReason (v : Nat) : Nat := failureReasons.getD (v % failureReasons.length) rcInternal

end Sys2Proof.Machine
end

