-- ==== Sys2Proof/Machine/Kci.lean ====
section
/-!
DEFINITION. Requests and responses of the Kilusk Command Interface: the rings, the order in which requests are taken,
the checks that every request passes, and the response (R46 to R61, R610 to R613).
-/

namespace Sys2Proof.Machine

/-! ### The command table (R613) -/

/-- Kind of a command (R613). -/
inductive CmdKind where
  | staging
  | long
  | immediate
  deriving DecidableEq, Repr

/-- One row of R613: the mailboxes as numbers (0 urgent, 1 control, 2 bulk, 3 diagnostic); `base` is the length of the
fixed part of the body, or of the whole body where nothing follows it; `starts` marks a command that starts work in
its target (R72). -/
structure CmdInfo where
  mailboxes : List Nat
  base : Nat
  kind : CmdKind
  starts : Bool
  deriving DecidableEq, Repr

/-- The row of R613 for an opcode. -/
def cmdInfo (op : Nat) : Option CmdInfo :=
  match op with
  | 0x0001 => some ⟨[0, 3], 0, .immediate, false⟩
  | 0x0002 => some ⟨[0, 3], 4, .immediate, false⟩
  | 0x0003 => some ⟨[0, 3], 4, .immediate, false⟩
  | 0x0004 => some ⟨[3], 0, .immediate, false⟩
  | 0x0005 => some ⟨[3], 4, .immediate, false⟩
  | 0x0010 => some ⟨[1], 4, .staging, false⟩
  | 0x0011 => some ⟨[1], 0, .staging, false⟩
  | 0x0012 => some ⟨[1], 12, .immediate, false⟩
  | 0x0013 => some ⟨[0], 0, .immediate, false⟩
  | 0x0014 => some ⟨[1], 16, .immediate, false⟩
  | 0x0020 => some ⟨[0], 0, .immediate, false⟩
  | 0x0040 => some ⟨[1], 8, .staging, false⟩
  | 0x0101 => some ⟨[1], 36, .staging, false⟩
  | 0x0102 => some ⟨[1], 28, .staging, false⟩
  | 0x0103 => some ⟨[1], 8, .long, true⟩
  | 0x0104 => some ⟨[0], 4, .immediate, true⟩
  | 0x0105 => some ⟨[2], 4, .immediate, false⟩
  | 0x0201 => some ⟨[2], 40, .staging, false⟩
  | 0x0301 => some ⟨[1], 32, .staging, false⟩
  | 0x0401 => some ⟨[1], 16, .staging, false⟩
  | 0x0501 => some ⟨[1], 36, .staging, false⟩
  | 0x0502 => some ⟨[2], 16, .staging, false⟩
  | 0x0503 => some ⟨[1], 4, .staging, false⟩
  | 0x0504 => some ⟨[3], 8, .long, true⟩
  | 0x0601 => some ⟨[1], 48, .staging, false⟩
  | 0x0602 => some ⟨[1], 4, .staging, false⟩
  | 0x0603 => some ⟨[2], 20, .staging, false⟩
  | 0x0604 => some ⟨[2], 8, .staging, false⟩
  | 0x0605 => some ⟨[2], 8, .immediate, false⟩
  | 0x0606 => some ⟨[0], 0, .immediate, true⟩
  | 0x0701 => some ⟨[1], 4, .staging, false⟩
  | 0x0702 => some ⟨[2], 8, .staging, false⟩
  | 0x0703 => some ⟨[1], 4, .staging, false⟩
  | 0x0704 => some ⟨[2], 8, .immediate, false⟩
  | 0x0705 => some ⟨[2], 8, .immediate, true⟩
  | 0x0706 => some ⟨[3], 4, .immediate, false⟩
  | 0x0801 => some ⟨[1], 248, .staging, false⟩
  | 0x0802 => some ⟨[2], 8, .staging, false⟩
  | 0x0803 => some ⟨[1], 268, .staging, false⟩
  | 0x0804 => some ⟨[2], 8, .staging, false⟩
  | 0x0805 => some ⟨[3], 8, .immediate, false⟩
  | 0x0806 => some ⟨[1], 16, .staging, false⟩
  | 0x0901 => some ⟨[1], 16, .staging, false⟩
  | 0x0902 => some ⟨[1], 0, .long, true⟩
  | 0x0903 => some ⟨[1], 0, .long, true⟩
  | 0x0904 => some ⟨[1], 16, .staging, false⟩
  | 0x0905 => some ⟨[2], 12, .immediate, false⟩
  | 0x0906 => some ⟨[3], 0, .immediate, false⟩
  | 0x0B01 => some ⟨[1], 396, .staging, false⟩
  | 0x0B02 => some ⟨[2], 8, .staging, false⟩
  | 0x0B03 => some ⟨[0], 12, .immediate, true⟩
  | 0x0B04 => some ⟨[2], 8, .immediate, true⟩
  | 0x0B05 => some ⟨[3], 4, .immediate, false⟩
  | 0x0B06 => some ⟨[3], 16, .immediate, false⟩
  | 0x0B07 => some ⟨[1], 132, .immediate, true⟩
  | 0x0B08 => some ⟨[3], 4, .immediate, false⟩
  | 0x0C01 => some ⟨[1], 24, .staging, false⟩
  | 0x0C02 => some ⟨[0], 8, .immediate, true⟩
  | 0x0D01 => some ⟨[1], 48, .staging, false⟩
  | 0x0D02 => some ⟨[0], 16, .immediate, true⟩
  | 0x0D03 => some ⟨[0], 0, .immediate, false⟩
  | 0x0E01 => some ⟨[1], 16, .staging, false⟩
  | 0x0E02 => some ⟨[1], 12, .immediate, true⟩
  | 0x0F01 => some ⟨[1], 8, .staging, false⟩
  | 0x0F02 => some ⟨[3], 0, .immediate, false⟩
  | 0x0F03 => some ⟨[3], 0, .immediate, true⟩
  | 0x0F04 => some ⟨[3], 12, .immediate, true⟩
  | 0x0F05 => some ⟨[0], 12, .immediate, true⟩
  | 0x1001 => some ⟨[1], 128, .staging, false⟩
  | 0x1002 => some ⟨[1], 4, .immediate, true⟩
  | 0x1003 => some ⟨[1], 0, .immediate, true⟩
  | 0x1004 => some ⟨[2], 8, .long, true⟩
  | 0x1005 => some ⟨[1], 0, .immediate, true⟩
  | 0x1006 => some ⟨[1], 0, .immediate, false⟩
  | 0x1007 => some ⟨[3], 16, .immediate, false⟩
  | 0x1008 => some ⟨[3], 0, .immediate, false⟩
  | 0x1009 => some ⟨[1], 24, .staging, false⟩
  | _ => none

/-- The command applies to the function it names: the Target column of R613. -/
def targetOk (op fn : Nat) : Bool :=
  match op with
  | 0x0001 | 0x0002 | 0x0003 | 0x0004 | 0x0005 | 0x0012 | 0x0013 => fn == 0
  | 0x0010 => fn != 0 && fn != 0x0F00
  | 0x0011 | 0x0014 => fn != 0
  | 0x0020 => true
  | 0x0040 => fn == 0x0800
  | 0x0101 | 0x0102 | 0x0103 | 0x0104 => 0x0100 ≤ fn && fn ≤ 0x0102
  | 0x0201 => 0x0200 ≤ fn && fn ≤ 0x0207
  | 0x0701 | 0x0705 => 0x0720 ≤ fn && fn ≤ 0x073F
  | 0x0803 => fn == 0x0800 || fn == 0x0500
  | 0x0806 => fn == 0x0810 || fn == 0x0811
  | 0x0902 | 0x0903 => fn == 0x0910 || fn == 0x0911
  | 0x0C01 | 0x0C02 => 0x0C10 ≤ fn && fn ≤ 0x0C1F
  | _ => fn == op / 256 * 256

/-- Bytes of the variable part that follows the fixed part, as the fixed part tells them; none for a command whose
variable part is a run of data bytes of any length (R55, R613). -/
def varLen (op : Nat) (body : Bytes) : Option Nat :=
  match op with
  | 0x0002 | 0x0003 => some (2 * u8 body 0)
  | 0x0004 | 0x0B04 | 0x1004 => none
  | 0x0012 => some (2 * u8 body 1)
  | 0x0201 => some (28 * u8 body 3)
  | 0x0502 => some (16 * u16 body 2)
  | 0x0503 => some (16 * u8 body 0)
  | 0x0602 => some (u8 body 1)
  | 0x0603 => some (16 * u32 body 12)
  | 0x0604 => some (64 * u16 body 4)
  | 0x0702 => some ((if u8 body 0 = 2 then 64 else 56) * u16 body 2)
  | 0x0703 => some (4 * u16 body 0)
  | 0x0705 => some (48 * u8 body 1)
  | 0x0802 => some (32 * u16 body 4)
  | 0x0804 => some (24 * u16 body 2)
  | 0x0B02 => some (32 * u16 body 2)
  | 0x0F01 => some (28 * u16 body 2)
  | _ => some 0

/-! ### Flags of a request (R54) -/

def Req.isStaged (r : Req) : Bool := bit r.flags 0
def Req.expectsGen (r : Req) : Bool := bit r.flags 1
def Req.indirect (r : Req) : Bool := bit r.flags 2

/-- The body with its variable part: inline, or from the host buffer with BUF_INDIRECT (R55). -/
def fullBody (r : Req) (buf : Bytes) : Bytes :=
  if r.indirect then
    match varLen r.opcode r.body with
    | some v => r.body ++ slice buf 0 v
    | none => r.body ++ slice buf 0 r.bufLen
  else r.body

/-! ### Rings (R46, R51, R52) -/

/-- Ring entries that a request or response with a body of `n` bytes occupies (R51). -/
def entriesFor (n : Nat) : Nat := min 16 (ceilDiv (32 + n) 256)

/-- Offset in BAR0 of byte `k` of what starts at ring index `idx` of the ring at `base`. -/
def ringByte (base idx k : Nat) : Nat := base + (idx * 256 + k) % 65536

def reqRingBase (m : Nat) : Nat := 0x10000 + m * 0x20000
def rspRingBase (m : Nat) : Nat := 0x20000 + m * 0x20000

/-- `n` bytes of a ring from byte `k` on. -/
def ringRead (mem : Mem) (base idx : Nat) : Nat → Nat → Bytes
  | _, 0 => []
  | k, n + 1 => memRead mem (ringByte base idx k) :: ringRead mem base idx (k + 1) n

/-- Bytes written to a ring from byte `k` on. -/
def ringWrite (mem : Mem) (base idx : Nat) : Nat → Bytes → Mem
  | _, [] => mem
  | k, b :: bs => ringWrite (memWrite mem (ringByte base idx k) b) base idx (k + 1) bs

/-- The request whose first entry is at `idx` of mailbox `m`'s request ring (R54). -/
def readReq (mem : Mem) (m idx : Nat) : Req :=
  let h := ringRead mem (reqRingBase m) idx 0 32
  let n := u16 h 10
  { opcode := u16 h 0, flags := u16 h 2, tag := u32 h 4, fn := u16 h 8, length := n, expectGen := u32 h 12
    bufAddr := u64 h 16, bufLen := u32 h 24, reserved := u32 h 28
    body := if n ≤ 4064 then ringRead mem (reqRingBase m) idx 32 n else [] }

/-- The requests that fill exactly `d` entries from index `idx` on; none when they end inside a request. -/
def readReqs (mem : Mem) (m : Nat) : Nat → Nat → Nat → Option (List Req)
  | _, _, 0 => some []
  | 0, _, _ + 1 => none
  | fuel + 1, idx, d + 1 =>
    let r := readReq mem m idx
    let n := entriesFor r.length
    if n > d + 1 then none
    else (readReqs mem m fuel ((idx + n) % 256) (d + 1 - n)).map (r :: ·)

/-- Mailbox `m` changed by `f`. -/
def State.onMbx (s : State) (m : Fin 4) (f : Mbx → Mbx) : State :=
  s.onKci fun k => { k with mbx := k.mbx.set m (f k.mbx[m]) }

/-- Entries in use in the response ring. -/
def rspUsed (b : Mbx) : Nat := (b.rspTail - b.rspHead).toNat

/-- STALLED: the response ring is full, or a response waits for space in it (R47, R58). -/
def stalled (b : Mbx) : Bool := rspUsed b ≥ 256 || !b.rspHeld.isEmpty

/-- A pointer error stops the mailbox and is reported (R52); `reg` is 1 for MBX_RSP_HEAD. -/
def ringError (m : Fin 4) (v : BitVec 9) (reg : Nat) (s : State) : State :=
  raiseEvent 4 0 (m.val + v.toNat * 2 ^ 16 + reg * 2 ^ 31) (s.onMbx m fun b => { b with error := true })

/-! ### Responses (R52, R56, R57) -/

/-- The header and body of a response. -/
def rspBytes (req : Req) (rc detail : Nat) (gen : BitVec 32) (seq : BitVec 64) (body : Bytes) : Bytes :=
  leBytes 2 req.opcode ++ leBytes 2 req.flags ++ leBytes 4 req.tag ++ leBytes 2 req.fn ++ leBytes 2 body.length
    ++ leBytes 2 rc ++ leBytes 2 detail ++ leBytes 4 gen.toNat ++ zeros 4 ++ leBytes 8 seq.toNat ++ body

/-- Write one response to the ring, advance MBX_RSP_TAIL, then set the mailbox's pending bit (R52). -/
def putRsp (m : Fin 4) (bytes : Bytes) (s : State) : State :=
  let b := s.kci.mbx[m]
  let n := entriesFor (bytes.length - 32)
  let s := s.onKci fun k =>
    { k with bar0 := ringWrite k.bar0 (rspRingBase m.val) (b.rspTail.toNat % 256) 0 bytes }
  let s := s.onMbx m fun b => { b with rspTail := b.rspTail + BitVec.ofNat 9 n, rspOut := b.rspOut ++ [n] }
  raiseEvent m.val 0 0 s

/-- The response has room in the ring. -/
def rspFits (b : Mbx) (bytes : Bytes) : Bool := rspUsed b + entriesFor (bytes.length - 32) ≤ 256

/-- Write the held responses that have room, oldest first. -/
def flushRsp (m : Fin 4) : List Bytes → State → State
  | [], s => s
  | b :: bs, s =>
    if rspFits s.kci.mbx[m] b then
      flushRsp m bs (putRsp m b (s.onMbx m fun x => { x with rspHeld := x.rspHeld.drop 1 }))
    else s

/-- Answer `req` of mailbox `m`: the response takes the next SEQ and is written, or held while the ring has no room. -/
def respond (m : Fin 4) (req : Req) (rc detail : Nat) (body : Bytes) (s : State) : State :=
  let bytes := rspBytes req rc detail s.coh.generation s.kci.seq body
  let s := s.onKci fun k => { k with seq := k.seq + 1 }
  if (s.kci.mbx[m]).rspHeld.isEmpty && rspFits s.kci.mbx[m] bytes then putRsp m bytes s
  else s.onMbx m fun b => { b with rspHeld := b.rspHeld ++ [bytes] }

/-! ### Taking requests (R58) -/

/-- The mailbox has a request that the control processor may take. -/
def canTake (b : Mbx) : Bool := !b.error && !stalled b && !b.waiting.isEmpty

/-- The mailbox served next: the urgent one first, then control, bulk and diagnostic in rotation (R58).
None while READY is 0, a command is executing or the control processor sleeps. -/
def nextMbx (s : State) : Option (Fin 4) :=
  if !s.boot.ready || s.kci.executing.isSome || s.asleep then none
  else if canTake s.kci.mbx[0] then some 0
  else
    let order : List (Fin 4) :=
      if s.kci.lastServed = 1 then [2, 3, 1] else if s.kci.lastServed = 2 then [3, 1, 2] else [1, 2, 3]
    order.find? fun m => canTake s.kci.mbx[m]

/-- The request that is taken next, with its mailbox. -/
def nextReq (s : State) : Option (Fin 4 × Req) :=
  match nextMbx s with
  | none => none
  | some m => (s.kci.mbx[m]).waiting.head?.map (m, ·)

/-- Take the next request of mailbox `m`: MBX_REQ_HEAD passes it. -/
def takeReq (m : Fin 4) (req : Req) (s : State) : State :=
  let s := s.onMbx m fun b =>
    { b with waiting := b.waiting.drop 1, reqHead := b.reqHead + BitVec.ofNat 9 (entriesFor req.length) }
  if m = 0 then s else s.onKci fun k => { k with lastServed := m.val }

/-! ### Checks that every request passes -/

/-- The commands that SAFE_HOLD serves (R470). -/
def safeHoldServes (op : Nat) : Bool := op == 1 || op == 2 || op == 3 || op == 4

/-- The body has the length of its command (R51, R55, R613). -/
def lengthOk (info : CmdInfo) (r : Req) : Bool :=
  match varLen r.opcode r.body with
  | none => if r.indirect then r.length == info.base else info.base ≤ r.length
  | some v =>
    if r.indirect then r.length == info.base && v ≤ r.bufLen
    else r.length == info.base + v

/-- Refusals that depend on the device and the header alone: reason and DETAIL.
The order of the tests is DEDUCED (log entry 6). -/
def headerCheck (s : State) (m : Fin 4) (r : Req) : Option (Nat × Nat) :=
  match cmdInfo r.opcode with
  | none =>
    if s.safety.s4Held && m != 3 && s.boot.phase != .safeHold then some (rcSafeState, 0) else some (rcBadOpcode, 0)
  | some info =>
    if s.boot.phase == .safeHold && !(m == 3 && safeHoldServes r.opcode) then some (rcSafeHoldDiagOnly, 0)
    else if s.safety.s4Held && m != 3 then some (rcSafeState, 0)
    else if r.flags / 8 != 0 || r.reserved != 0 then some (rcReservedNonzero, 0)
    else if r.length > 4064 then some (rcBadLength, 0)
    else if !knownFn r.fn then some (rcUnknownFunction, 0)
    else if r.indirect && m != 2 then some (rcWrongMailbox, 0)
    else if r.indirect && s.boot.hostSel then some (rcTransportUnsupported, 0)
    else if r.indirect && (r.bufAddr % 8 != 0 || r.bufLen > 0x100000) then some (rcFieldRange, 0)
    else if !r.indirect && !info.mailboxes.contains m.val then some (rcWrongMailbox, 0)
    else if !targetOk r.opcode r.fn then some (rcOpcodeFunction, 0)
    else none

/-- Long commands accepted and not yet done (R59). -/
def outstanding (k : Kci) : List LongCmd := k.longs.filter fun l => !l.quiet

/-- Refusals that depend on the target, the outstanding commands and the generation. -/
def stateCheck (s : State) (r : Req) (info : CmdInfo) : Option (Nat × Nat) :=
  if info.starts && s.inReset r.fn then some (rcFunctionInReset, r.fn)
  else if info.kind == .long && (outstanding s.kci).length ≥ 16 then some (rcLongLimit, 0)
  else if info.kind == .long && (outstanding s.kci).any (fun l => l.req.tag == r.tag) then some (rcTagInUse, 0)
  else if r.expectsGen && r.opcode != 0x0012 && r.expectGen != s.coh.generation.toNat then
    some (rcGenerationMismatch, 0)
  else none

/-- All refusals that are common to every command. -/
def commonCheck (s : State) (m : Fin 4) (r : Req) : Option (Nat × Nat) :=
  match headerCheck s m r with
  | some e => some e
  | none =>
    match cmdInfo r.opcode with
    | none => some (rcBadOpcode, 0)
    | some info => if lengthOk info r then stateCheck s r info else some (rcBadLength, 0)

/-! ### Running a command -/

/-- What a command's own meaning answers. -/
inductive Reply where
  /-- Refused by the command's own rules: reason, DETAIL and response body; nothing has changed. -/
  | refuse (rc detail : Nat) (body : Bytes)
  /-- The command took effect: the state after it, the reason, DETAIL, and the fixed and variable parts of the
  response body (R55). -/
  | done (s : State) (rc detail : Nat) (fixed var : Bytes)
  /-- The command executes and its response follows later. -/
  | defer (s : State)

/-- The own meaning of a command: state with the request taken, mailbox, request, whole body. -/
abbrev Meaning := State → Fin 4 → Req → Bytes → Reply

/-- A refusal without DETAIL or body. -/
def no (rc : Nat) : Reply := .refuse rc 0 []

/-- `RC_OK` without a body. -/
def ok (s : State) : Reply := .done s rcOk 0 [] []

/-- Deliver a reply: the response inline, or its variable part in the host buffer with BUF_INDIRECT (R55).  A body that
fits neither is refused with `RC_BAD_LENGTH`. -/
def deliver (s0 : State) (m : Fin 4) (req : Req) : Reply → State
  | .refuse rc d b => respond m req rc d b s0
  | .defer s => s.onKci fun k => { k with executing := some ⟨m, req⟩ }
  | .done s rc d fixed var =>
    if req.indirect then
      if var.length > req.bufLen then respond m req rcBadLength 0 [] s0
      else respond m req rc d fixed
        (if var.isEmpty then s else s.onKci fun k => { k with hostMem := memWrites k.hostMem req.bufAddr var })
    else if fixed.length + var.length > 4064 then respond m req rcBadLength 0 [] s0
    else respond m req rc d (fixed ++ var) s

/-- Execute a taken request. -/
def execute (s0 : State) (m : Fin 4) (req : Req) (buf : Bytes) (f : Meaning) : State :=
  match commonCheck s0 m req with
  | some (rc, d) => respond m req rc d [] s0
  | none => deliver s0 m req (f s0 m req (fullBody req buf))

/-- The control processor takes its next request and executes it, when that request has opcode `op`; otherwise
the command does not occur. -/
def runKci (op : Nat) (buf : Bytes) (f : Meaning) (s : State) : State :=
  match nextReq s with
  | none => s
  | some (m, req) => if req.opcode = op then execute (takeReq m req s) m req buf f else s

/-- A long command joins those that run, under the number that its work keeps (R59). -/
def addLong (m : Fin 4) (req : Req) (body : Bytes) (k : Kci) : Kci :=
  { k with longs := k.longs ++ [⟨k.longNext, m, req, body, false⟩], longNext := k.longNext + 1 }

/-- Accept a long command (R59). -/
def acceptLong (s : State) (m : Fin 4) (req : Req) (body : Bytes) : Reply :=
  .done (s.onKci (addLong m req body)) rcAcceptedPending 0 [] []

/-- Long command number `id` ends: `EV_CMD_DONE` with its tag and the final reason, unless the command was discarded (R57, R59). -/
def longDone (id rc : Nat) (s : State) : State :=
  match s.kci.longs.find? fun l => l.id == id with
  | none => s
  | some l =>
    let t := s.onKci fun k => { k with longs := k.longs.erase l }
    if l.quiet then t else raiseEvent 6 l.req.fn (l.req.tag + rc * 2 ^ 32 + l.req.opcode * 2 ^ 48) t

/-- Send the response of the executing command, if it has opcode `op`. -/
def finishExecuting (op rc detail : Nat) (body : Bytes) (s : State) : State :=
  match s.kci.executing with
  | none => s
  | some e =>
    if e.req.opcode = op then
      respond e.mbx e.req rc detail body (s.onKci fun k => { k with executing := none })
    else s

/-! ### Checks of body fields -/

/-- What the check of a field requires. -/
inductive FieldRule where
  /-- A reserved field: zero, else `RC_RESERVED_NONZERO` (R7). -/
  | zero
  /-- An unsigned value within a range, else `RC_FIELD_RANGE`. -/
  | range (lo hi : Nat)
  /-- A signed value within a range. -/
  | srange (lo hi : Int)
  /-- One of a list of values. -/
  | oneOf (vs : List Nat)
  /-- Flag bits: those above `n` are reserved. -/
  | flags (n : Nat)
  /-- A multiple of `k`. -/
  | multiple (k : Nat)
  /-- Within a range, or one special value. -/
  | rangeOr (lo hi special : Nat)

/-- A field of a body: offset, size and rule. -/
structure FieldSpec where
  off : Nat
  size : Nat
  rule : FieldRule

/-- The refusal of one field, if any. -/
def checkField (b : Bytes) (f : FieldSpec) : Option Nat :=
  let v := field b f.off f.size
  match f.rule with
  | .zero => if v == 0 then none else some rcReservedNonzero
  | .range lo hi => if lo ≤ v && v ≤ hi then none else some rcFieldRange
  | .srange lo hi =>
    let x := signed (8 * f.size) v
    if lo ≤ x && x ≤ hi then none else some rcFieldRange
  | .oneOf vs => if vs.contains v then none else some rcFieldRange
  | .flags n => if v / 2 ^ n == 0 then none else some rcReservedNonzero
  | .multiple k => if v % k == 0 then none else some rcFieldRange
  | .rangeOr lo hi sp => if v == sp || (lo ≤ v && v ≤ hi) then none else some rcFieldRange

/-- The first refusal among the fields, in offset order. -/
def checkFields (b : Bytes) (fs : List FieldSpec) : Option Nat := fs.findSome? (checkField b)

/-- Reply of a staging command that writes one part after its fields pass. -/
def stageOne (op sel idx : Nat) (fs : List FieldSpec) : Meaning := fun s _ req body =>
  match checkFields body fs with
  | some rc => no rc
  | none => ok (s.stage req.fn op sel idx body)

/-- Stage a run of entries as parts FIRST, FIRST + 1 and so on. -/
def stageRun (fn op sel first : Nat) : List Bytes → State → State
  | [], s => s
  | e :: es, s => stageRun fn op sel (first + 1) es (s.stage fn op sel first e)

end Sys2Proof.Machine
end

