-- ==== Sys2Proof/Machine/Weir.lean ====
section
/-!
DEFINITION. Weir's egress scheduling: rate buckets, strict and weighted queues, deficit-weighted round robin
(R331 to R333).  Egresses 0 and 1 are the ports, 2 to 4 the radios, 5 the host ring.
-/

namespace Sys2Proof.Machine

/-- Configuration of egress `e` in the form of R340. -/
def weirPart (m : NMap Bytes) (e : Nat) : Bytes := part m (if 2 ≤ e && e ≤ 4 then 0x0500 else 0x0800) 0x0803 e 0

/-- A field of the block of queue `q`. -/
def queueField (m : NMap Bytes) (e q off n : Nat) : Nat := field (weirPart m e) (12 + 16 * q + off) n
def queueWeight (m : NMap Bytes) (e q : Nat) : Nat := max 1 (queueField m e q 0 1)
def queueYellow (m : NMap Bytes) (e q : Nat) : Nat := queueField m e q 1 1
def queueLimitKb (m : NMap Bytes) (e q : Nat) : Nat := queueField m e q 2 2
def queueMinRate (m : NMap Bytes) (e q : Nat) : Nat := if q < 4 then 0 else queueField m e q 4 4
def queueMaxRate (m : NMap Bytes) (e q : Nat) : Nat := queueField m e q 8 4
def shapeRate (m : NMap Bytes) (e : Nat) : Nat := u32 (weirPart m e) 4
def overheadAdj (m : NMap Bytes) (e : Nat) : Int := i16 (weirPart m e) 8

def isRadioEgress (e : Nat) : Bool := 2 ≤ e && e ≤ 4

/-- Quantum of a queue, bytes or µs (R332). -/
def queueQuantum (m : NMap Bytes) (e q : Nat) : Nat := queueWeight m e q * (if isRadioEgress e then 1000 else 512)

/-- Bucket units of one byte, or of one µs of air: a rate of 1 adds one unit per fabric cycle. -/
def bucketUnit (e : Nat) : Nat := if isRadioEgress e then 400000000 else 3200000

/-- Depth of a queue's buckets: BURST, or 16 quanta (R340). -/
def bucketDepth (m : NMap Bytes) (e q : Nat) : Nat :=
  let b := queueField m e q 12 4
  (if b = 0 then 16 * queueQuantum m e q else b) * bucketUnit e

/-- A bucket brought to the present. -/
def refillTokens (t : Tokens) (rate depth : Nat) (now : BitVec 64) : Tokens :=
  ⟨min (depth : Int) (t.level + (now - t.at_).toNat * rate), now⟩

/-- The queue with its buckets brought to the present. -/
def refillQueue (m : NMap Bytes) (e q : Nat) (now : BitVec 64) (x : EgQueue) : EgQueue :=
  { x with minTokens := refillTokens x.minTokens (queueMinRate m e q) (bucketDepth m e q) now
           maxTokens := refillTokens x.maxTokens (queueMaxRate m e q) (bucketDepth m e q) now }

/-- The queues of an egress with their buckets brought to the present. -/
def refillEgress (m : NMap Bytes) (e : Nat) (now : BitVec 64) (g : Egress) : Egress :=
  { g with queues := g.queues.mapIdx fun q x => refillQueue m e q now x }

def qIdx (q : Nat) : Fin 16 := Fin.ofNat 16 q

/-- A queue with a frame is eligible: its MAX bucket is not negative (R331). -/
def weirEligible (m : NMap Bytes) (e : Nat) (g : Egress) (q : Nat) : Bool :=
  queueMaxRate m e q == 0 || decide (0 ≤ (g.queues[qIdx q]).maxTokens.level)

/-- The first of a list in cyclic order over 4 to 15, from `start` on. -/
def cyclicFirst (start : Nat) (qs : List Nat) : Option Nat :=
  ((List.range 12).map fun i => 4 + (start - 4 + i) % 12).find? qs.contains

/-- Queue `q` of an egress changed by `f`. -/
def Egress.onQueue (g : Egress) (q : Nat) (f : EgQueue → EgQueue) : Egress :=
  let x := f g.queues[qIdx q]
  { g with queues := g.queues.set (qIdx q) x }

/-- A bucket of rate `rate` charged by `u`; a queue has no bucket for a rate of 0 (R340). -/
def Tokens.charge (t : Tokens) (rate : Nat) (u : Int) : Tokens := if rate = 0 then t else ⟨t.level - u, t.at_⟩

/-- Charge a frame of length `l` to every bucket of queue `q`, and to the deficit of a weighted one (R331). -/
def chargeQueue (m : NMap Bytes) (e q l : Nat) (g : Egress) : Egress :=
  let u : Int := l * bucketUnit e
  g.onQueue q fun x =>
    { x with minTokens := x.minTokens.charge (queueMinRate m e q) u, maxTokens := x.maxTokens.charge (queueMaxRate m e q) u
             deficit := if q < 4 then x.deficit else x.deficit - l }

/-- Set the deficit of queue `q`. -/
def setDeficit (q : Nat) (d : Int) (g : Egress) : Egress := g.onQueue q fun x => { x with deficit := d }

/-- Deficit-weighted round robin over the eligible weighted heads (R332 step 3); the frame is charged by `chargeQueue`. -/
def drrPick (m : NMap Bytes) (e : Nat) (heads : List (Nat × Nat)) : Nat → Egress → Option (Nat × Egress)
  | 0, _ => none
  | fuel + 1, g =>
    let next := if g.turn < 15 then g.turn + 1 else 4
    match heads.find? fun h => h.1 == g.turn with
    | none => drrPick m e heads fuel { g with turn := next, added := false }
    | some h =>
      let d := (g.queues[qIdx h.1]).deficit + (if g.added then 0 else (queueQuantum m e h.1 : Int))
      if (h.2 : Int) ≤ d then some (h.1, { setDeficit h.1 d g with added := true })
      else drrPick m e heads fuel { setDeficit h.1 d g with turn := next, added := false }

/-- Rounds of quanta after which the first of the offered heads fits its deficit (R333). -/
def roundsNeeded (m : NMap Bytes) (e : Nat) (g : Egress) (heads : List (Nat × Nat)) : Nat :=
  (heads.map fun h => ceilDiv ((h.2 : Int) - (g.queues[qIdx h.1]).deficit).toNat (queueQuantum m e h.1)).min?.getD 0

/-- The same for a radio egress: every offered queue adds its quantum while no offered head fits (R333). -/
def radioDrr (m : NMap Bytes) (e : Nat) (heads : List (Nat × Nat)) (g : Egress) : Option (Nat × Egress) :=
  if heads.isEmpty then none
  else
    let k := roundsNeeded m e g heads
    let g := heads.foldl (fun g h => setDeficit h.1 ((g.queues[qIdx h.1]).deficit + k * queueQuantum m e h.1) g) g
    let fit := heads.filter fun h => (h.2 : Int) ≤ (g.queues[qIdx h.1]).deficit
    (cyclicFirst g.turn (fit.map (·.1))).map fun q => (q, { g with turn := q, added := true })

/-- One decision (R332): `heads` holds, rising, the queues that have a frame with the length of its head frame.  The
answer is the queue chosen and the egress with the frame charged. -/
def weirPick (m : NMap Bytes) (e : Nat) (now : BitVec 64) (heads : List (Nat × Nat)) (g : Egress) :
    Option (Nat × Egress) :=
  let g := refillEgress m e now g
  let el := heads.filter fun h => weirEligible m e g h.1
  let pay (r : Nat × Egress) : Nat × Egress :=
    (r.1, chargeQueue m e r.1 (((el.find? fun h => h.1 == r.1).map (·.2)).getD 0) r.2)
  match el.find? fun h => h.1 < 4 with
  | some h => some (pay (h.1, g))
  | none =>
    let guar := el.filter fun h => queueMinRate m e h.1 != 0 && decide (0 ≤ (g.queues[qIdx h.1]).minTokens.level)
    match cyclicFirst (if g.minLast < 15 then max 4 (g.minLast + 1) else 4) (guar.map (·.1)) with
    | some q => some (pay (q, { g with minLast := q }))
    | none =>
      let r := if isRadioEgress e then radioDrr m e el g
        else drrPick m e el (12 * (roundsNeeded m e g el + 2)) g
      r.map pay

/-- Egress `e` changed by `f`. -/
def State.onEgress (s : State) (e : Fin 6) (f : Egress → Egress) : State :=
  s.onRouter fun r => { r with egress := r.egress.set e (f r.egress[e]) }

/-- The egresses `l` with their buckets brought to the present at the rates of the set `m`: before a commit changes the rates
(R334). -/
def settleEgress (m : NMap Bytes) (l : List (Fin 6)) (s : State) : State :=
  l.foldl (fun s e => s.onEgress e (refillEgress m e.val s.time.fabric)) s

/-- The deficit of radio queue `q` returns to zero at every radio (R332). -/
def emptyRadioQueue (q : Nat) (s : State) : State :=
  ([2, 3, 4] : List (Fin 6)).foldl (fun s e => s.onEgress e (setDeficit q 0)) s

end Sys2Proof.Machine
end

