-- ==== Sys2Proof/Machine/Rings.lean ====
section
/-!
DEFINITION. Frame descriptor rings (R77 to R79): index arithmetic, delivery of frames and records to the host on
rings 0–7, and return of the host's own descriptors on rings 8–15.
-/

namespace Sys2Proof.Machine

/-- The staged body of ring `r` in a set (R77). -/
def ringPart (m : NMap Bytes) (r : Nat) : Bytes := part m 0x0800 0x0040 r 0
def ringEnabled (m : NMap Bytes) (r : Nat) : Bool := u8 (ringPart m r) 1 == 1

/-- Descriptors of ring `r`. -/
def ringSize (m : NMap Bytes) (r : Nat) : Nat := 2 ^ u8 (ringPart m r) 2
def ringOffset (m : NMap Bytes) (r : Nat) : Nat := u32 (ringPart m r) 4

/-- Place of an index register in a count of two rounds: the phase selects the round (R46, R77). -/
def ringPos (n : Nat) (p : BitVec 13) : Nat := (p.toNat / 4096) * n + p.toNat % 4096 % n

/-- The index register for a place. -/
def ringIdx (n pos : Nat) : BitVec 13 := BitVec.ofNat 13 (pos / n % 2 * 4096 + pos % n)

/-- Descriptors of ring `r` that RING_HOST_IDX has passed and the device has not returned. -/
def ringHanded (s : State) (r : Fin 16) : Nat :=
  let n := ringSize s.coh.active r.val
  (ringPos n s.kci.ringHost[r] + 2 * n - ringPos n s.kci.ringDev[r]) % (2 * n)

/-- Offset in BAR2 of the descriptor at a place of ring `r`. -/
def descAddr (m : NMap Bytes) (r pos : Nat) : Nat := ringOffset m r + 32 * (pos % ringSize m r)

/-- FLAGS of a descriptor (R78). -/
def descFlags (s : State) (a : Nat) : Nat := leNat (memReads s.kci.bar2 (a + 10) 2)

/-- Of the next `handed` descriptors of ring `r` from place `pos` on, those before the first one without OWN. -/
def ownRun (s : State) (r : Nat) : Nat → Nat → Nat
  | 0, _ => 0
  | handed + 1, pos => if bit (descFlags s (descAddr s.coh.active r pos)) 15 then ownRun s r handed (pos + 1) + 1 else 0

/-- Descriptors of ring `r` that the device owns: OWN is set and RING_HOST_IDX has passed them (R78). -/
def ringOwned (s : State) (r : Fin 16) : Nat :=
  ownRun s r.val (ringHanded s r) (ringPos (ringSize s.coh.active r.val) s.kci.ringDev[r])

/-- Buffer capacity of a descriptor; a value above 16,384 counts as 16,384. -/
def descCap (s : State) (a : Nat) : Nat := min 16384 (leNat (memReads s.kci.bar2 (a + 8) 2))

/-- Data written to the buffer of a descriptor: host memory on PCIe, the device buffer pool on SPI.  BUF_ADDR is used as it
stands, aligned or not, on SPI modulo the 1 MB of the pool, past whose end a buffer runs on (DESIGN CHOICE, log
entry 121). -/
def bufWrite (s : State) (a : Nat) (data : Bytes) : State :=
  let addr := leNat (memReads s.kci.bar2 a 8)
  if s.boot.hostSel then
    s.onKci fun k => { k with bar2 := memWrites k.bar2 (0x100000 + addr % 0x100000) data }
  else s.onKci fun k => { k with hostMem := memWrites k.hostMem addr data }

/-- Return the descriptor at the device index of ring `r`: write back, clear OWN, advance RING_DEV_IDX. -/
def returnDesc (r : Fin 16) (len : Option Nat) (flags : Nat) (reason : Nat) (gen : BitVec 32) (queue : Nat)
    (s : State) : State :=
  let n := ringSize s.coh.active r.val
  let pos := ringPos n s.kci.ringDev[r]
  let a := descAddr s.coh.active r.val pos
  s.onKci fun k =>
    let m := match len with
      | some l => memWrites k.bar2 (a + 8) (leBytes 2 l)
      | none => k.bar2
    let m := memWrites m (a + 10) (leBytes 2 (flags % 32768))
    let m := memWrites m (a + 16) (leBytes 2 queue ++ leBytes 2 reason ++ leBytes 4 gen.toNat)
    { k with bar2 := m, ringDev := k.ringDev.set r (ringIdx n (pos + 1)) }

/-- Write an item into as many descriptors as it needs.  `first` marks its first descriptor. -/
def fillDescs (r : Fin 16) (it : RingItem) : Nat → Bool → Bytes → State → State
  | 0, _, _, s => s
  | fuel + 1, first, data, s =>
    let n := ringSize s.coh.active r.val
    let a := descAddr s.coh.active r.val (ringPos n s.kci.ringDev[r])
    let cap := descCap s a
    let irq := bit (descFlags s a) 2
    let piece := data.take cap
    let rest := data.drop cap
    let s := bufWrite s a piece
    let flags := it.kind + 4 * flag irq + 8192 * flag rest.isEmpty + 16384 * flag first
    let s := returnDesc r (some piece.length) flags it.reason it.generation 0 s
    let s := if irq then raiseEvent 10 0 0 s else s
    if rest.isEmpty then s else fillDescs r it fuel false rest s

/-- Whether `len` bytes fit in the next `owned` descriptors of ring `r` from place `pos` on. -/
def fitsDescs (s : State) (r : Nat) : Nat → Nat → Nat → Bool
  | 0, _, _ => false
  | owned + 1, pos, len =>
    let cap := descCap s (descAddr s.coh.active r pos)
    if len ≤ cap then true else fitsDescs s r owned (pos + 1) (len - cap)

/-- The link to the host is down: PCIE_PERST_N is low on PCIe (R445). -/
def linkDown (s : State) : Bool := s.boot.perstLow && !s.boot.hostSel

/-- Deliver the items that wait on ring `r` while the device owns enough descriptors (R78, R79). -/
def pumpRing (r : Fin 16) : Nat → State → State
  | 0, s => s
  | fuel + 1, s =>
    match s.kci.ringWait.find? fun it => it.ring == r.val with
    | none => s
    | some it =>
      let n := ringSize s.coh.active r.val
      let owned := ringOwned s r
      if ringEnabled s.coh.active r.val && !linkDown s
          && fitsDescs s r.val owned (ringPos n s.kci.ringDev[r]) it.data.length then
        let s := s.onKci fun k => { k with ringWait := k.ringWait.erase it, starved := mdel k.starved r.val }
        pumpRing r fuel (fillDescs r it owned true it.data s)
      else if owned == 0 && !mgetD s.kci.starved r.val false then
        let held := (s.kci.ringWait.filter fun x => x.ring == r.val).length
        raiseEvent 12 0 (r.val + held * 256) (s.onKci fun k => { k with starved := mset k.starved r.val true })
      else s

/-! ### The host-ring egress queues (R79, R334, R335) -/

def routerPart (m : NMap Bytes) : Bytes := part m 0x0800 0x0801 0 0
def hostQueueRing (m : NMap Bytes) (q : Nat) : Nat := u8 (routerPart m) (36 + q)

/-- Bytes held by a queue. -/
def queueBytes (x : EgQueue) : Nat := (x.packets.map (·.data.length)).foldl (· + ·) 0

/-- A packet is dropped at a full queue; the first drop of a second is kept for the event (R334). -/
def dropAtQueue (e : Fin 6) (q : Nat) (s : State) : State :=
  let s := s.onRouter fun r =>
    { r with drops := r.drops + 1, dropEgress := if r.drops = 0 then e.val else r.dropEgress
             dropQueue := if r.drops = 0 then q else r.dropQueue }
  let s := s.count 0x0800 13
  if e = 5 then s.count 0x0800 20 else s

/-- The host-ring queue in which a record due on ring `r` stays while the ring is starved: the lowest one that delivers to the
ring, else queue 0 (DESIGN CHOICE, log entry 54). -/
def waitQueue (m : NMap Bytes) (r : Nat) : Nat := ((List.range 16).find? fun q => hostQueueRing m q == r).getD 0

/-- Bytes that wait in host-ring queue `q`: its packets and the records that stay there. -/
def waitBytes (s : State) (q : Nat) : Nat :=
  ((s.kci.ringWait.filter fun x => waitQueue s.coh.active x.ring == q).map (·.data.length)).foldl (· + ·) 0
    + queueBytes (s.router.egress[(5 : Fin 6)]).queues[qIdx q]

/-- A frame or record is due on ring `r` (0–7): it stays in its host-ring queue while the ring is starved, and is dropped where
that is full (R79, R334). -/
def toRing (r kind reason : Nat) (gen : BitVec 32) (data : Bytes) (s : State) : State :=
  let it : RingItem := ⟨r, kind, reason, gen, data⟩
  let s := s.onKci fun k => { k with ringWait := k.ringWait ++ [it] }
  let s := pumpRing (Fin.ofNat 16 r) s.kci.ringWait.length s
  let q := waitQueue s.coh.active r
  if kind != 0 && s.kci.ringWait.getLast? == some it && decide (queueLimitKb s.coh.active 5 q * 1024 < waitBytes s q) then
    dropAtQueue 5 q (s.onKci fun k => { k with ringWait := k.ringWait.dropLast })
  else s

end Sys2Proof.Machine
end

