-- ==== Sys2Proof/Machine/Duty.lean ====
section
/-!
DEFINITION. The air-time accountant (R264 to R268), the launch record (R272) and the ending of launches before their
time (R139, R142, R265, R269, R271, R618).
-/

namespace Sys2Proof.Machine

/-- USED of an account (R264). -/
def usedUs (a : Account) : Nat := a.buckets.foldl (· + ·) 0

/-- Account `i` changed by `f`. -/
def State.onAccount (s : State) (i : Fin 16) (f : Account → Account) : State :=
  s.onSluice fun x => { x with accounts := x.accounts.set i (f x.accounts[i]) }

/-- The whole microseconds of the budget that a launch may use: all of it for an immediate acknowledgement, the budget less
ack_reserve otherwise (R265). -/
def usableBudget (m : NMap Bytes) (i : Nat) (isAck : Bool) : Nat :=
  if isAck then bandBudget m i else bandBudget m i - ceilDiv (u8 (bandPart m i) 14 * bandBudget m i) 1000

/-- The charge `c` fits the account of sub-band `i` (R265). -/
def bandGrants (s : State) (i : Fin 16) (c : Nat) (isAck : Bool) : Bool :=
  let a := s.sluice.accounts[i]
  usedUs a + a.reserved + c ≤ usableBudget s.coh.active i.val isAck

/-- The accountant grants `c` µs in every sub-band of a list: those that a channel overlaps. -/
def dutyGrants (s : State) (l : List (Fin 16)) (c : Nat) (isAck : Bool) : Bool := l.all fun i => bandGrants s i c isAck

/-- Report a rise through 90 % of the budget, once until USED has fallen below 80 % (R268). -/
def nearCheck (i : Fin 16) (s : State) : State :=
  let a := s.sluice.accounts[i]
  let budget := bandBudget s.coh.active i.val
  if !a.near && 10 * usedUs a ≥ 9 * budget && budget != 0 then
    raiseEvent 98 0x0500 (i.val + min (usedUs a) 0xFFFFFFFF * 2 ^ 32) (s.onAccount i fun a => { a with near := true })
  else if a.near && 10 * usedUs a < 8 * budget then s.onAccount i fun a => { a with near := false }
  else s

/-- Add `c` µs to the current bucket of every sub-band in the list. -/
def chargeBands (c : Nat) : List (Fin 16) → State → State
  | [], s => s
  | i :: is, s =>
    chargeBands c is (nearCheck i (s.onAccount i fun a =>
      { a with buckets := match a.buckets with
          | [] => [c]
          | b :: bs => (b + c) :: bs }))

/-- Add `c` µs to RESERVED of every sub-band in the list. -/
def reserveBands (c : Nat) (l : List (Fin 16)) (s : State) : State :=
  l.foldl (fun s i => s.onAccount i fun a => { a with reserved := a.reserved + c }) s

/-- Take `c` µs from RESERVED of every sub-band in the list. -/
def refundBands (c : Nat) (l : List (Fin 16)) (s : State) : State :=
  l.foldl (fun s i => s.onAccount i fun a => { a with reserved := a.reserved - c }) s

/-- Charge of R265 for an air time on radio `r`, µs. -/
def chargeUs (m : NMap Bytes) (r air : Nat) : Nat := trLead m r + 16 + air + 16 + trLag m r

/-- The launch with number `l`. -/
def findLaunch (s : State) (l : Nat) : Option Launch := s.sluice.launches.find? fun x => x.id == l

/-- The launch with number `l` changed by `f`. -/
def State.onLaunch (s : State) (l : Nat) (f : Launch → Launch) : State :=
  s.onSluice fun x => { x with launches := x.launches.map fun y => if y.id == l then f y else y }

/-- Remove launch `l` from its radio: its booking ends and its modulator is free. -/
def dropLaunch (l : Nat) (s : State) : State :=
  s.onSluice fun x => { x with launches := x.launches.filter fun y => y.id != l }

/-- The sub-bands in force that the channel of a launch overlaps; the channel is that of the launch's generation (R36,
R266). -/
def launchBands (s : State) (x : Launch) : List (Fin 16) := bandsOf (s.setOf x.generation) s.coh.active x.channel

/-- Refund the reserved charge of a launch that is not made (R265). -/
def refundLaunch (x : Launch) (s : State) : State :=
  if x.reserved then
    (refundBands x.charge (launchBands s x) s).onLaunch x.id fun y => { y with reserved := false }
  else s

/-- Take `c` µs from the bucket at place `k`, and what it does not hold from the newer ones: the buckets that are left and
what is still owed. -/
def takeBack : Nat → Nat → List Nat → List Nat × Nat
  | _, c, [] => ([], c)
  | k, c, b :: bs =>
    let t := if k = 0 then (bs, c) else takeBack (k - 1) c bs
    ((b - min b t.2) :: t.1, t.2 - min b t.2)

/-- Refund `c` µs of a charge that was committed: each sub-band gives it back from the bucket that took it (R265). -/
def refundCommitted (x : Launch) (c : Nat) (s : State) : State :=
  x.committed.foldl (fun s e =>
    nearCheck e.1 (s.onAccount e.1 fun a => { a with buckets := (takeBack (a.period - e.2) c a.buckets).1 })) s

/-- TYPE of a launch record. -/
def launchType : LaunchKind → Nat
  | .downlink => 0
  | .parentUplink => 1
  | .ack => 2
  | .groupAck => 3
  | .beacon => 4
  | .gate => 5
  | .test => 0

/-- The 48 bytes of a launch record (R272). -/
def launchRecord (cookie : BitVec 64) (nb reason type path : Nat) (asn : BitVec 64) (counter : BitVec 32) (ch : Nat)
    (power : Int) (flags late : Nat) (gen : BitVec 32) (charged : Nat) : Bytes :=
  leBytes 8 cookie.toNat ++ leBytes 4 nb ++ leBytes 2 reason ++ leBytes 1 type ++ leBytes 1 path
    ++ leBytes 8 asn.toNat ++ leBytes 4 counter.toNat ++ leBytes 1 ch ++ leInt 1 power ++ leBytes 2 flags
    ++ leBytes 2 (min late 0xFFFF) ++ zeros 2 ++ leBytes 4 gen.toNat ++ leBytes 4 charged ++ zeros 4

/-- PATH of a launch: radio, window, modulator. -/
def launchPath (x : Launch) : Nat := x.radio.val + x.window * 4 + x.modulator * 8

/-- FLAGS of a launch record. -/
def recordFlags (truncated pending requeued : Bool) (launches : Nat) : Nat :=
  flag truncated + 2 * flag pending + 4 * flag requeued + 8 * min launches 15

/-- Write the record of a launch that carries no queued frame, where R272 requires one. -/
def writeLaunchRecord (x : Launch) (reason : Nat) (truncated : Bool) (charged : Nat) (s : State) : State :=
  let wanted := match x.kind with
    | .ack => reason != rcOk || truncated || ackRecords (s.setOf x.generation)
    | .test => false
    | _ => true
  if wanted then
    toRing (launchRing (s.setOf x.generation)) 3 reason x.generation
      (launchRecord 0 x.neighbour reason (launchType x.kind) (launchPath x) (BitVec.ofNat 64 x.asn) x.counter x.channel
        x.power (recordFlags truncated x.pendingBit false (if x.step = .onAir || x.step = .rampDown then 1 else 0))
        x.lateUs x.generation charged) s
  else s

/-- The counter that a refusal on radio `r` advances (R157, R265, R267, R269). -/
def countRefusal (r : Fin 3) (reason : Nat) (s : State) : State :=
  if reason = rcBusyCal then s.count (0x0100 + r.val) 9
  else if reason = rcTxAbortSupply then s.count 0x0500 18
  else if reason = rcDutyBudget then s.count 0x0500 15
  else if reason = rcThermalShed then s.count 0x0500 16
  else s

/-- The record of a frame that stays queued when its launch is refused: a gate launch (R272), or a downlink refused by a
host calibration (R157). -/
def refusalRecord (x : Launch) (f : DlFrame) (reason : Nat) (s : State) : State :=
  toRing (launchRing (s.setOf x.generation)) 3 reason x.generation
    (launchRecord f.cookie x.neighbour reason (launchType x.kind) (launchPath x) (BitVec.ofNat 64 x.asn) f.counter x.channel
      x.power (recordFlags false x.pendingBit f.requeued f.launches) 0 x.generation 0) s

/-- OFFSET_US of the neighbour whose frame `f` was accepted last: 0 when its acknowledgement is sent, else the measured
arrival error (R102). -/
def ackOffset (f : Nat) (n : Option Nat) (sent : Bool) (s : State) : State :=
  match n with
  | none => s
  | some n =>
    if (s.nb n).errFrame = some f then s.onNb n fun d => { d with offsetUs := if sent then 0 else d.err } else s

/-- The acknowledgement of launch `x` is not sent: the frame it answers has none, and its arrival error stays. -/
def unsendAck (x : Launch) (s : State) : State :=
  match x.acks with
  | some f => ackOffset f (some x.neighbour) false (s.onRxFrame f fun y => { y with ack := none, ackSent := false })
  | none => s

/-- The launch record of a queued frame (R272). -/
def queuedRecord (f : DlFrame) (reason : Nat) (truncated pending : Bool) (s : State) : State :=
  let type := if f.neighbour = 0xFFFFFFFF then 5
    else if linkRelay s.coh.active && f.neighbour == parentIdx s.coh.active then 1 else 0
  let asn := match f.lastAsn with
    | some n => BitVec.ofNat 64 n
    | none => s.asn64
  toRing (launchRing (s.setOf f.generation)) 3 reason f.generation
    (launchRecord f.cookie f.neighbour reason type f.lastPath asn f.counter f.lastChannel f.lastPower
      (recordFlags truncated pending f.requeued f.launches) f.lastLate f.generation f.charged) s

/-- Remove a queued frame with its final reason: its record is written and nothing of it stays queued (R272). -/
def removeFrame (f : DlFrame) (reason : Nat) (truncated pending : Bool) (s : State) : State :=
  let s := if f.taken && f.launches == 0 then s.count 0x0700 8 else s
  let s := s.onSluice fun x =>
    { x with queued := x.queued.filter (fun y => y.id != f.id)
             broadcasts := x.broadcasts.filter (fun y => y.id != f.id) }
  let s := if s.sluice.queued.any fun y => y.queue == f.queue then s else emptyRadioQueue f.queue s
  queuedRecord f reason truncated pending s

/-- The lifetime of a queued frame has ended (R254). -/
def expireFrame (f : DlFrame) (s : State) : State := removeFrame f rcDlExpired false f.pendingBit (s.count 0x0500 6)

/-- A frame that is back in its list unlaunched, or cut, goes if its lifetime ended in flight (R254). -/
def dropExpired (f : Nat) (s : State) : State :=
  match s.sluice.queued.find? fun y => y.id == f && y.expired with
  | some y => expireFrame y s
  | none => s

/-- The queued frame with number `f`. -/
def findFrame (s : State) (f : Nat) : Option DlFrame :=
  (s.sluice.queued ++ s.sluice.broadcasts).find? fun x => x.id == f

/-- The queued frame with number `f` changed by `g`. -/
def State.onFrame (s : State) (f : Nat) (g : DlFrame → DlFrame) : State :=
  s.onSluice fun x =>
    { x with queued := x.queued.map (fun y => if y.id == f then g y else y)
             broadcasts := x.broadcasts.map (fun y => if y.id == f then g y else y) }

/-- What a launch that ends before its time may do with the frame it carries. -/
inductive CutFate where
  /-- The frame stays queued, or returns once to the head of its list; a second cut removes it (R269, R618). -/
  | requeue
  /-- The frame is removed with the reason of the cut (R139, R145, R271). -/
  | remove
  deriving DecidableEq, Repr

/-- A launch that ends before its ramp-up: refunded and recorded; the frame that it carries stays queued, or is removed where
`remove` says so.  The counter of a beacon or group acknowledgement that is not sent is skipped (R302). -/
def endLaunch (x : Launch) (reason : Nat) (remove : Bool) (s : State) : State :=
  let s := countRefusal x.radio reason (dropLaunch x.id (refundLaunch x s))
  match x.frame with
  | none =>
    let s := unsendAck x s
    let s := if x.kind = .beacon || x.kind = .groupAck then s.count 0x0700 8 else s
    if x.kind = .test then longDone x.long reason s else writeLaunchRecord x reason false 0 s
  | some f =>
    match findFrame s f with
    | none => s
    | some y =>
      let y := { y with inFlight := false }
      let y := if y.lastAsn.isNone then { y with lastPath := launchPath x, lastChannel := x.channel, lastPower := x.power } else y
      let s := s.onFrame f fun _ => y
      if remove then removeFrame y reason false y.pendingBit s
      else dropExpired f (if x.kind = .gate || reason = rcBusyCal then refusalRecord x y reason s else s)

/-- Charge of a frame cut after its ramp-up started: TR_LEAD + the time from ramp-up start + TR_LAG (R265). -/
def cutCharge (s : State) (x : Launch) : Nat :=
  let m := s.setOf x.generation
  trLead m x.radio.val + ceilDiv (s.netNs - x.rampAt) 1000 + trLag m x.radio.val

/-- Add `c` µs to what radio `r` has been charged in the present second (R267). -/
def addSecond (r : Fin 3) (c : Nat) (s : State) : State :=
  let now := s.time.spring.toNat / 32768
  s.onSluice fun x =>
    let v := if x.second = now then x.secondCharge else Vector.replicate 3 0
    { x with second := now, secondCharge := v.set r (v[r] + c) }

/-- Take `c` µs from what radio `r` has been charged in the present second, if the launch was charged in it: its t0 lies
`ns` back. -/
def giveBackSecond (r : Fin 3) (c ns : Nat) (s : State) : State :=
  let now := s.time.spring.toNat / 32768
  if s.sluice.second = now && (s.time.spring.toNat - ns * 32768 / 1000000000) / 32768 = now then
    s.onSluice fun x => { x with secondCharge := x.secondCharge.set r (x.secondCharge[r] - c) }
  else s

/-- End one launch whose ramp-up has started. -/
def cutLaunch (x : Launch) (reason : Nat) (fate : CutFate) (s : State) : State :=
  let bands := launchBands s x
  let c := min (cutCharge s x) x.charge
  -- before t0 the reservation is exchanged for the cut's charge; after t0 the rest of C is given back
  let s := if x.reserved then addSecond x.radio c (chargeBands c bands (refundLaunch x s))
    else refundCommitted x (x.charge - c) (giveBackSecond x.radio (x.charge - c) (s.netNs - (x.t0 + x.lateUs * 1000)) s)
  let s := (dropLaunch x.id s).countN 0x0500 21 c
  let s := s.onThermal fun t => { t with span := { t.span with airUs := t.span.airUs + c } }
  match x.frame with
  | none => writeLaunchRecord x reason true c s
  | some f =>
    match findFrame s f with
    | none => s
    | some y =>
      let y := { y with inFlight := false, launches := y.launches + 1, lastAsn := some x.asn, lastPath := launchPath x,
                        lastChannel := x.channel, lastPower := x.power, charged := y.charged + c, lastLate := x.lateUs }
      let s := s.onFrame f fun _ => y
      if fate = .requeue && !y.requeued && x.kind != .gate then
        let y := { y with requeued := true }
        -- a reset of the radio has a record of every frame that it cuts (R618)
        let s := if reason = rcDiscardedReset then queuedRecord y reason true x.pendingBit s else s
        dropExpired f ((s.onFrame f fun _ => y).count 0x0500 19)
      else removeFrame y reason true x.pendingBit s

/-- PA_EN of radio `r` deasserts; TR_SW and TX_ACTIVE follow at `TR_SW_DEASSERT`, TR_LAG − PA_LAG later (R142). -/
def restBalls (r : Fin 3) (s : State) : State := s.onRadio r fun x => { x with paEn := false }

/-- The launch's ramp-up has started. -/
def launchLive (x : Launch) : Bool := x.step == .ramping || x.step == .onAir || x.step == .rampDown

/-- The launch has turned its radio around and waits for its ramp-up. -/
def launchTurning (x : Launch) : Bool := x.step == .trOn || x.step == .paOn

/-- The driver of radio `r` goes off: every launch whose ramp-up has started is cut with `reason`, and one that has turned the
radio around for its ramp-up is not made, with the same reason (DESIGN CHOICE, log entry 128). -/
def cutRadio (r : Fin 3) (reason : Nat) (fate : CutFate) (s : State) : State :=
  let mine := s.sluice.launches.filter fun x => x.radio == r
  let s := (mine.filter launchLive).foldl (fun s x =>
    let s := cutLaunch x reason fate s
    if x.kind = .test then longDone x.long reason s else s) (restBalls r s)
  (mine.filter launchTurning).foldl (fun s x => endLaunch x reason false s) s

/-- Frames that radio `r` has on air. -/
def onAirCount (s : State) (r : Fin 3) : Nat :=
  (s.sluice.launches.filter fun x => x.radio == r && launchLive x).length

end Sys2Proof.Machine
end

