-- ==== Sys2Proof/Machine/Governor.lean ====
section
/-!
DEFINITION. The limits of each governor step (R570).
-/

namespace Sys2Proof.Machine

/-- Transmit duty cap per radio in percent; 0 is none. -/
def govDuty (step : Nat) : Nat := if step = 0 then 0 else if step = 1 then 50 else if step ≤ 4 then 20 else 10

/-- Riffle iteration cap; 0 is none. -/
def govIter (step : Nat) : Nat := if step ≤ 2 then 0 else if step = 3 then 12 else if step ≤ 5 then 8 else 6

/-- Lowest PRIORITY class shed; 4 is none. -/
def govShed (step : Nat) : Nat := if step ≤ 3 then 4 else 7 - step

/-- Highest cluster OPP index allowed; none is no cap. -/
def govOpp (step : Nat) : Option Nat := if step ≤ 2 then none else if step = 3 then some 1 else some 0

end Sys2Proof.Machine
end

