-- ==== Sys2Proof/Machine/RxBase.lean ====
section
/-!
DEFINITION. The parts of the receive path that other blocks act on: its configuration, frames in reception and their records,
the queues of the Riffle pool, capture lanes, and the ends of frames (R114, R136, R206 to R214, R225 to R227).
-/

namespace Sys2Proof.Machine

def eddyFn : Nat := 0x0300
def riffleFn : Nat := 0x0400
def groupFn (ch : Nat) : Nat := 0x0200 + ch / 32

/-! ### Configuration (R198, R199, R206, R237, R238) -/

def chanPriority (m : NMap Bytes) (ch : Nat) : Nat := bits (chanFlags m ch) 2 1
def captureEn (m : NMap Bytes) (ch : Nat) : Bool := bit (chanFlags m ch) 0

/-- CAPTURE_MARGIN_Q: 0 stands for 24. -/
def captureMargin (m : NMap Bytes) (ch : Nat) : Nat :=
  let q := u16 (chanPart m ch) 10
  if q = 0 then 24 else q

/-- Detection threshold of a channel, 0.25 dB: its own, or that of its group (R182, R199). -/
def detectQ (m : NMap Bytes) (ch : Nat) : Nat :=
  let q := u16 (chanPart m ch) 8
  if q = 0 then u16 (groupPart m (ch / 32)) 8 else q

def sunSfdSet (m : NMap Bytes) (ch : Nat) : Nat := u8 (groupPart m (ch / 32)) 14
def sunFec (m : NMap Bytes) (ch : Nat) : Nat := u8 (groupPart m (ch / 32)) 15

/-- Channel-bit rate, and preamble length in channel bits; on SUN-FSK the channel's own transmit preamble (log entry 34). -/
def chanRate (m : NMap Bytes) (ch : Nat) : Nat :=
  match oxMode (chanMode m ch) with
  | some o => o.rate
  | none => (sunRate (chanMode m ch)).getD 1
def preambleLen (m : NMap Bytes) (ch : Nat) : Nat :=
  match oxMode (chanMode m ch) with
  | some o => o.preamble
  | none => 8 * u8 (chanPart m ch) 16

def afcBias (m : NMap Bytes) (ch : Nat) : Int := i32 (chanPart m ch) 12
def rssiOffset (m : NMap Bytes) (g : Nat) : Int := i16 (groupPart m g) 12
def isSun (m : NMap Bytes) (ch : Nat) : Bool := (sunRate (chanMode m ch)).isSome

def eddyPart (m : NMap Bytes) : Bytes := part m 0x0300 0x0301 0 0
def maxDepth (m : NMap Bytes) : Nat := u8 (eddyPart m) 0
def sicEn (m : NMap Bytes) : Bool := bit (u8 (eddyPart m) 1) 0
def histMs (m : NMap Bytes) (mode : Nat) : Nat := if 1 ≤ mode && mode ≤ 7 then u16 (eddyPart m) (2 + 2 * mode) else 0
def captureReserve (m : NMap Bytes) (g : Nat) : Nat := u8 (eddyPart m) (20 + g)

/-- The history ring of a channel. -/
def State.ring (s : State) (ch : Nat) : Ring := mgetD s.rx.rings ch Ring.none

/-- KB that a set gives a channel's history ring; 0 for a channel without one (R206). -/
def ringKb (m : NMap Bytes) (ch : Nat) : Nat :=
  if chanUsable m ch && enabledIn m eddyFn && captureEn m ch && (oxMode (chanMode m ch)).isSome then
    ceilDiv (bwHz (chanBw m ch) * histMs m (chanMode m ch)) 128000
  else 0

def rifflePart (m : NMap Bytes) : Bytes := part m 0x0400 0x0401 0 0
def iterCap (m : NMap Bytes) (cls : Nat) : Nat := u8 (rifflePart m) cls
def stealMin (m : NMap Bytes) : Nat := u8 (rifflePart m) 4
def stealEn (m : NMap Bytes) : Bool := bit (u8 (rifflePart m) 5) 0
def earlyAbort (m : NMap Bytes) : Bool := bit (u8 (rifflePart m) 5) 1
def llrHeadroom (m : NMap Bytes) : Nat := 1024 * u16 (rifflePart m) 8

/-! ### Channels and frames -/

def State.chan (s : State) (ch : Nat) : Chan := mgetD s.rx.chans ch Chan.reset
def State.onChan (s : State) (ch : Nat) (f : Chan → Chan) : State :=
  s.onRx fun x => { x with chans := mmod Chan.reset x.chans ch f }

/-- Count `i` of the group of channel `ch` (R204), and what the Delta bank counts of it (R525). -/
def countGroup (ch i : Nat) (s : State) : State :=
  let s := s.count (groupFn ch) i
  match i with
  | 1 => pmuEvent pmuDelta 1 0 1 s
  | 8 => pmuEvent pmuDelta 2 0 1 s
  | 11 => pmuEvent pmuDelta 0x10 1 1 s
  | _ => s

/-- The frame is on air, or its symbols are being received. -/
def inProgress (x : RxFrame) : Bool := x.stage == .search || x.stage == .synced || x.stage == .psdu

/-- The frames in progress on a channel, oldest first. -/
def onChannel (s : State) (ch : Nat) : List RxFrame := s.rx.frames.filter fun x => x.ch == ch && inProgress x

/-- The radio that channel `ch` belongs to in a set. -/
def chanRadioFin (m : NMap Bytes) (ch : Nat) : Fin 3 := Fin.ofNat 3 (chanRadio m ch)

/-- The cell to which a frame of neighbour `n` is attributed (R188). -/
def cellFor (cells : List SlotCell) (n : Option Nat) : Option SlotCell :=
  match cells.find? fun c => cellUse c.cell == 0 && n == some (cellNeighbour c.cell) with
  | some c => some c
  | none =>
    match cells.find? fun c => cellUse c.cell == 1 with
    | some c => some c
    | none => cells.head?

/-! ### Frame records (R114) -/

/-- FLAGS of a frame record. -/
def rxFlags (m : NMap Bytes) (x : RxFrame) : Nat :=
  flag x.captured + 2 * flag x.sic + 4 * flag x.combined + 8 * flag x.ackSent + 16 * flag x.groupQueued
    + 32 * flag x.pendingBit + 64 * flag (isSun m x.ch)

/-- The 48 bytes of a frame record, and its payload. -/
def frameRecord (m : NMap Bytes) (x : RxFrame) (reason : Nat) (payload : Bytes) : Bytes :=
  leBytes 8 x.srcExt.toNat ++ leBytes 4 x.counter.toNat ++ leBytes 2 reason
    ++ leBytes 1 (chanRadio m x.ch + 4 * chanWindow m x.ch) ++ leBytes 1 x.ch ++ leBytes 8 x.asn
    ++ leBytes 4 x.generation.toNat ++ leBytes 4 (x.nb.getD 0xFFFFFFFF) ++ leInt 2 x.rssi
    ++ leInt 2 (x.floor.getD (-0x8000)) ++ leBytes 1 x.lqi ++ leBytes 1 x.evm ++ leBytes 2 (rxFlags m x)
    ++ leInt 2 x.err ++ leBytes 2 payload.length ++ leBytes 4 x.syncOffset ++ payload

/-- A record written without a decoded header carries the neighbour of its cell (R223). -/
def headless (x : RxFrame) : RxFrame :=
  let c := match x.cell with
    | some c => some c
    | none => cellFor x.cells none
  { x with srcExt := 0, counter := 0, nb := c.map fun c => cellNeighbour c.cell }

/-- Write the record of a frame. -/
def emitRecord (x : RxFrame) (reason : Nat) (payload : Bytes) (s : State) : State :=
  let m := s.setOf x.generation
  toRing (recordRing m) 1 reason x.generation (frameRecord m x reason payload) s

/-- A frame ends without reaching stage 5, for the telemetry span (R567). -/
def countFailed (s : State) : State :=
  s.onThermal fun t => { t with span := { t.span with framesFailed := t.span.framesFailed + 1 } }

/-! ### The Riffle pool (R225 to R227) -/

/-- The cluster that serves a channel. -/
def clusterOf (ch : Nat) : Fin 4 := Fin.ofNat 4 (ch / 64)

/-- Jobs of a frame in a cell with immediate acknowledgement go to the level ACK. -/
def ackLevel (x : RxFrame) : Bool := x.cells.any fun c => cellAck c.cell == 1

def State.onQueue (s : State) (c : Fin 4) (f : JobQueue → JobQueue) : State :=
  s.onRx fun x => { x with queues := x.queues.set c (f x.queues[c]) }

def State.onEngine (s : State) (e : Fin 48) (f : Engine → Engine) : State :=
  s.onRx fun x => { x with engines := x.engines.set e (f x.engines[e]) }

/-- Put jobs in the queue of a frame's cluster, at the tail of their level, or at its head. -/
def enqueueJobs (x : RxFrame) (js : List Nat) (head : Bool) (s : State) : State :=
  let l := js.map (x.id, ·)
  let put (q : List (Nat × Nat)) := if head then l ++ q else q ++ l
  (s.onRxFrame x.id fun y =>
    { y with jobs := y.jobs.mapIdx fun i j => if js.contains i then { j with state := .queued } else j }).onQueue
      (clusterOf x.ch) fun q => if ackLevel x then { q with ack := put q.ack } else { q with normal := put q.normal }

/-- The engine takes a job: it is free, in service, and holds no result. -/
def engineFree (g : Engine) : Bool := g.job.isNone && !g.out && !g.stalled

/-- Engine `e` starts a job (R222, R227). -/
def startJob (e : Fin 48) (j : Nat × Nat) (stolen : Bool) (s : State) : State :=
  match s.rxFrame j.1 with
  | none => s
  | some x =>
    let m := s.setOf x.generation
    let cap := iterCap m (chanPriority m x.ch)
    let gov := govIter s.thermal.step
    let s := s.onEngine e fun g =>
      { g with job := some j, cap := if gov = 0 then cap else min cap gov, governed := gov != 0 && decide (gov < cap)
               gated := false, extra := (if stolen then 48 else 0) + (if g.gated then 120 else 0) }
    let s := s.onRxFrame j.1 fun y =>
      { y with jobs := y.jobs.mapIdx fun i b => if i == j.2 then { b with state := .running } else b }
    (if stolen then pmuEvent pmuRiffle 0x10 1 1 (s.count riffleFn 13) else s).count riffleFn 1

/-- The local engines that are free take jobs from the head of ACK, then of NORMAL. -/
def feedLocal (s : State) (e : Fin 48) : State :=
  let c : Fin 4 := Fin.ofNat 4 (e.val / 12)
  if !engineFree s.rx.engines[e] then s
  else
    match s.rx.queues[c].ack, s.rx.queues[c].normal with
    | j :: _, _ => startJob e j false (s.onQueue c fun q => { q with ack := q.ack.drop 1 })
    | [], j :: _ => startJob e j false (s.onQueue c fun q => { q with normal := q.normal.drop 1 })
    | [], [] => s

def queueDepth (q : JobQueue) : Nat := q.ack.length + q.normal.length

/-- The other cluster with the most queued jobs, the first counting up from `c` (R226). -/
def stealFrom (s : State) (c : Fin 4) : Option (Fin 4) :=
  ([1, 2, 3].map fun i => (Fin.ofNat 4 (c.val + i) : Fin 4)).foldl (fun (best : Option (Fin 4)) k =>
    match best with
    | none => some k
    | some b => if queueDepth s.rx.queues[b] < queueDepth s.rx.queues[k] then some k else some b) none

/-- A free engine with an empty queue steals a tail job (R226). -/
def feedSteal (s : State) (e : Fin 48) : State :=
  let c : Fin 4 := Fin.ofNat 4 (e.val / 12)
  if !engineFree s.rx.engines[e] || queueDepth s.rx.queues[c] != 0 || !stealEn s.coh.active then s
  else
    match stealFrom s c with
    | none => s
    | some k =>
      let q := s.rx.queues[k]
      if queueDepth q < max 1 (stealMin s.coh.active) then s
      else
        match q.normal.getLast?, q.ack.getLast? with
        | some j, _ => startJob e j true (s.onQueue k fun q => { q with normal := q.normal.dropLast })
        | none, some j => startJob e j true (s.onQueue k fun q => { q with ack := q.ack.dropLast })
        | none, none => s

/-- Every free engine takes a job: local ones first, then thieves. -/
def feedEngines (s : State) : State :=
  if s.works riffleFn then (List.finRange 48).foldl feedSteal ((List.finRange 48).foldl feedLocal s) else s

/-- The jobs of a frame leave the queues and engines. -/
def purgeJobs (f : Nat) (s : State) : State :=
  let keep (q : List (Nat × Nat)) := q.filter fun j => j.1 != f
  s.onRx fun x =>
    { x with queues := x.queues.map fun q => { ack := keep q.ack, normal := keep q.normal }
             engines := x.engines.map fun g =>
               match g.job with
               | some j => if j.1 == f then { g with job := none, stalled := false, idleAt := s.time.fabric } else g
               | none => g }

/-! ### Capture lanes (R209, R211, R214) -/

/-- The lanes that group `g` may take, lowest first: its own reserve and the lanes that no group reserves
(log entry 16). -/
def laneOrder (m : NMap Bytes) (g : Nat) : List Nat :=
  let start := ((List.range g).map (captureReserve m)).foldl (· + ·) 0
  let total := ((List.range 8).map (captureReserve m)).foldl (· + ·) 0
  (List.range 64).filter fun l => decide (total ≤ l) || (decide (start ≤ l) && decide (l < start + captureReserve m g))

/-- The lane that a frame of group `g` takes. -/
def freeCaptureLane (s : State) (m : NMap Bytes) (g : Nat) : Option (Fin 64) :=
  ((laneOrder m g).map (Fin.ofNat 64)).find? fun l => (s.rx.captures[l]).isNone

def setCapture (l : Fin 64) (c : Option Capture) (s : State) : State :=
  s.onRx fun x => { x with captures := x.captures.set l c }

/-- The frame that waits for frame `f`. -/
def belowOf (s : State) (f : Nat) : Option RxFrame := s.rx.frames.find? fun y => y.parkedBy == some f

/-- Frame `f` is gone. -/
def dropRx (f : Nat) (s : State) : State :=
  s.onRx fun x => { x with frames := x.frames.filter fun y => y.id != f }

/-- Queue the combined jobs of the codewords that failed (R224). -/
def startCombined (f : Nat) (s : State) : State :=
  match s.rxFrame f with
  | none => s
  | some x =>
    let js := indices x.jobs.length fun i => (x.jobs[i]?.map (·.state)) == some .failed
    let x := { x with stage := .decode
                      jobs := x.jobs.map fun j => if j.state = .failed then { j with combined := true, disagreed := false } else j }
    feedEngines (enqueueJobs x js false (s.onRxFrame f fun _ => x))

/-- The LLRs of a second part that has been handed off wait with its first half, or serve the combined jobs (R224). -/
def joinLlrs (x : RxFrame) (s : State) : State :=
  match x.mate.bind s.rxFrame with
  | none => s
  | some a =>
    if a.stage = .psdu || a.stage = .decode || a.stage = .twinWait then
      let s := s.onRxFrame a.id fun z =>
        { z with second := some x.llr, reserved := z.reserved + x.reserved, handedAt := x.handedAt, sic := z.sic || x.sic }
      if a.stage = .twinWait then startCombined a.id s else s
    else if a.stage = .twinAck then dropRx a.id s
    -- the first half has decoded: its part has come
    else s.onRxFrame a.id fun z => { z with secondOver := true }

/-- A displaced frame waits no longer: parked jobs enter the queue, and the LLRs of a second part join its first half. -/
def unpark (y : RxFrame) (s : State) : State :=
  let s := s.onRxFrame y.id fun z => { z with parkedBy := none }
  if y.stage = .held then joinLlrs y (dropRx y.id s)
  else
    let js := indices y.jobs.length fun i => (y.jobs[i]?.map (·.state)) == some .parked
    if js.isEmpty then s else enqueueJobs y js false s

/-- A failure ends subtraction for every frame below `f` (R214). -/
def unparkChain : Nat → Nat → State → State
  | 0, _, s => s
  | fuel + 1, f, s =>
    match belowOf s f with
    | none => s
    | some y => unparkChain fuel y.id (unpark y s)

/-- Free the capture lane of frame `x`, if it holds one. -/
def freeLane (x : RxFrame) (s : State) : State :=
  match x.lane with
  | none => s
  | some l =>
    let l : Fin 64 := Fin.ofNat 64 l
    match s.rx.captures[l] with
    | some c => if c.frame = x.id then setCapture l none s else s
    | none => s

/-- The fabric cycle of the start of a preamble that was detected at `t`: 16 channel bits before (R210). -/
def preambleStart (m : NMap Bytes) (ch : Nat) (t : BitVec 64) : BitVec 64 :=
  t - BitVec.ofNat 64 (16 * 400000000 / chanRate m ch)

/-- Frame `x` rebuilt from its decoded PSDU: preamble, sync word, PHR and the codewords encoded again (R212). -/
def rebuild (s : State) (x : RxFrame) : Subtraction :=
  let m := s.setOf x.generation
  let mode := chanMode m x.ch
  let bits := frameBits mode x.beacon x.kind x.tag x.psdu
  { mode := mode, afc := x.afc, from_ := preambleStart m x.ch x.began, first := 0, bits := bits, symbols := modulate mode bits
    timing := 0, scale := [] }

/-- Frame `x` has decoded: it is subtracted for the frame that it displaced, or that frame goes on as it is (R212,
R213). -/
def resolveDecoded (x : RxFrame) (s : State) : State :=
  match x.lane, belowOf s x.id with
  | some l, some y =>
    if sicEn (s.setOf x.generation) && s.works eddyFn then
      let k : Fin 64 := Fin.ofNat 64 l
      setCapture k ((s.rx.captures[k]).map fun c => { c with phase := .subtract, rebuilt := some (rebuild s x) }) s
    else unpark y (freeLane x s)
  | _, _ => unparkChain 3 x.id (freeLane x s)

/-! ### Ends of frames -/

/-- A booked acknowledgement is given up. -/
def releaseBooked (l : Option Nat) (s : State) : State :=
  match l.bind (findLaunch s) with
  | none => s
  | some y => if y.step = .booked then dropLaunch y.id (refundLaunch y s) else s

/-- A frame that is given up takes its booked acknowledgement with it, a second part that of its first half (R100). -/
def releaseAck (x : RxFrame) (s : State) : State :=
  let s := releaseBooked x.ack s
  match x.mate.bind s.rxFrame with
  | none => s
  | some a => (releaseBooked a.ack s).onRxFrame a.id fun y => { y with ack := none, wantAck := false }

/-- A frame that has not been handed off ends: the frame that it displaced goes on as if it had not been (R210). -/
def discardEarly (x : RxFrame) (s : State) : State :=
  let s := releaseAck x (freeLane x s)
  let s := match belowOf s x.id with
    | some y => unpark y s
    | none => s
  feedEngines (dropRx x.id s)

/-- The same with a record. -/
def discardWith (x : RxFrame) (reason : Nat) (s : State) : State :=
  emitRecord (headless x) reason [] (countFailed (discardEarly x s))

/-- A frame that has been handed off ends without reaching stage 5: it waits at the release gate for its record
(R232). -/
def failFrame (f reason : Nat) (s : State) : State :=
  match s.rxFrame f with
  | none => s
  | some x =>
    let s := releaseAck x (purgeJobs f (freeLane x s))
    let s := unparkChain 3 f s
    let s := countFailed (s.onRxFrame f fun y =>
      { y with stage := .gate, reason := reason, reserved := 0, llr := [], second := none, jobs := [], lane := none
               ack := none, parkedBy := none })
    feedEngines s

/-! ### Loss of samples (R136) -/

/-- Reception on radio `r` is lost: frames in progress are dropped without a record (R136). -/
def dropReception (r : Fin 3) (s : State) : State :=
  let l := s.rx.frames.filter fun x => inProgress x && chanRadioFin (s.setOf x.generation) x.ch == r
  l.foldl (fun s x =>
    (discardEarly x s).count (0x0100 + r.val) 12) s

end Sys2Proof.Machine
end

