-- ==== Sys2Proof/Machine/Faults.lean ====
section
/-!
DEFINITION. Raising a fault source and what follows: merging, latching, reactions, the safe state and the start of a
function reset (R32, R70, R409, R538, R549 to R556).
-/

namespace Sys2Proof.Machine

/-- The active entry of source `n` in the form of R558. -/
def faultEntry (s : State) (n : Nat) : Bytes := s.active 0x0F00 0x0F01 0 n

/-- Severity of source `n`. -/
def severity (s : State) (n : Nat) : Nat := u8 (faultEntry s n) 0

/-- The function resets of `fn` may name: not 0x0000, not 0x0F00 (R544). -/
def resettable (fn : Nat) : Bool := knownFn fn && fn != 0 && fn != 0x0F00

/-- Reset target of a raise of source `n` that names function `named` (R544). -/
def resetTarget (s : State) (n named : Nat) : Nat :=
  let t := u16 (faultEntry s n) 2
  if t = 0xFFFF then
    match defaultTarget n with
    | .fn f => f
    | .byRaise => named
    | .nothing => 0
  else t

/-- Shadow set of source `n`; an entry that equals its default has the default set, whose parts that follow the
configuration are taken at the raise (DESIGN CHOICE, log entry 152).  The default sets of the observation sources hold FLOOR_DEAD of the groups on their radio
(R555), and FS_018 shadows the sources of the radio that the raise names (R169). -/
def shadowOf (s : State) (n named : Nat) : List Nat :=
  let e := faultEntry s n
  let l := shadowList (e.drop 4)
  if e.drop 4 == (defaultFaultEntry n).drop 4 then
    if n = 0 || n = 6 || n = 12 then
      l ++ ((List.range 8).filter fun g => groupEnabled s.coh.active g && groupRadio s.coh.active g == n / 6).map
        (19 + 3 * ·)
    else if n = 18 && 0x0100 ≤ named && named ≤ 0x0102 then
      (List.range 6).map (6 * (named - 0x0100) + ·)
    else l
  else l

/-- Write a fault record to the log of 16 (R556). -/
def logRecord (r : FaultRec) (s : State) : State :=
  s.onSafety fun x =>
    { x with log := ((x.logCount.toNat, r) :: x.log).take 16, logCount := x.logCount + 1 }

/-- A fault record of a raise now. -/
def newRecord (s : State) (n sev target : Nat) (detail : BitVec 64) (injected : Bool) : FaultRec :=
  { source := n, severity := sev, overflow := false, injected := injected, first := false, asleep := s.asleep
    target := target, overflowSource := 0xFFFF, generation := s.coh.generation, consequential := 0
    firstConseq := 0xFFFF, fabric := s.time.fabric, asn := s.asn64, spring := s.time.spring, detail := detail
    reactionUs := 0, startNo := s.safety.startNo }

/-- Payload of `EV_FAULT` (R563). -/
def faultPayload (r : FaultRec) (tail : Nat) : Nat :=
  r.source + r.severity * 2 ^ 8 + flag r.overflow * 2 ^ 11 + flag r.injected * 2 ^ 12 + flag r.first * 2 ^ 13
    + r.target * 2 ^ 16 + tail * 2 ^ 32

/-- Change the log's copy and the latch's copy of record number `no` (R556). -/
def State.onRecord (s : State) (no : Nat) (f : FaultRec → FaultRec) : State :=
  s.onSafety fun x =>
    { x with log := x.log.map (fun e => if e.1 == no then (e.1, f e.2) else e)
             latch := if x.latchNo == no then x.latch.map f else x.latch }

/-! ### S0 and S1 -/

/-- Report `count` raises of source `n`: record, `EV_FAULT`, and a new 1 s interval (R549). -/
def reportNote (n sev count : Nat) (detail : BitVec 64) (injected : Bool) (s : State) : State :=
  let r := newRecord s n sev 0 detail injected
  let s := (logRecord r s).onSafety fun x => { x with reports := mset x.reports n ⟨s.time.fabric, 0, 0, false⟩ }
  raiseEvent 224 0x0F00 (faultPayload r (foldSat 32 count)) s

/-- A raise at S0 or S1: reported at once where no report came in the preceding 1 s, else counted in the open interval (R549). -/
def noteRaise (n sev : Nat) (detail : BitVec 64) (injected : Bool) (s : State) : State :=
  match mget s.safety.reports n with
  | none => reportNote n sev 1 detail injected s
  | some p =>
    if p.count = 0 && 400000000 ≤ (s.time.fabric - p.since).toNat then reportNote n sev 1 detail injected s
    else
      let q : Report := if p.count = 0 then ⟨p.since, 1, detail, injected⟩ else { p with count := p.count + 1 }
      s.onSafety fun x => { x with reports := mset x.reports n q }

/-! ### Merging (R552) -/

/-- The shadow set of a reaction holds source `n` of a raise that names `named`.  By the default sets FS_018 belongs, at each
raise, to the radio that the raise names (R169, R555). -/
def shadows (s : State) (r : Reaction) (n named : Nat) : Bool :=
  let own := (faultEntry s r.source).drop 4 == (defaultFaultEntry r.source).drop 4
  if n = 18 && r.source < 18 && own && 0x0100 ≤ named && named ≤ 0x0102 then sourceOwner r.source == named
  else r.shadow.contains n

/-- The shadow window of a reaction is over: it ended 50 µs ago or longer (R552). -/
def windowOver (s : State) (r : Reaction) : Bool := r.ended && 20000 ≤ (s.time.fabric - r.endedAt).toNat

/-- The earliest open shadow window that takes a raise of source `n` at severity `sev`. -/
def mergeInto (s : State) (n named sev : Nat) : Option Reaction :=
  s.safety.reactions.find? fun r => !windowOver s r && shadows s r n named && sev ≤ r.severity

/-- Count a merged raise in its reaction's record. -/
def mergeRaise (r : Reaction) (n : Nat) (s : State) : State :=
  let c := min (r.consequential + 1) 0xFFFF
  let f := if r.firstConseq = 0xFFFF then n else r.firstConseq
  let s := s.onSafety fun x =>
    { x with reactions := x.reactions.map fun y =>
        if y.recNo == r.recNo then { y with consequential := c, firstConseq := f } else y }
  (s.onRecord r.recNo fun z => { z with consequential := c, firstConseq := f }).count 0x0F00 6

/-! ### Reactions -/

/-- A pending commit is cancelled by a cause other than the host (R32): `fn` is the function reset, or 0x0F00. -/
def abandonCommit (fn : Nat) (s : State) : State :=
  match s.coh.commit with
  | none => s
  | some c =>
    let s := s.onCoh fun x => { x with commit := none }
    let s := raiseEvent 8 0 (rcCommitAbandoned + fn * 2 ^ 16 + c.targetGen % 2 ^ 32 * 2 ^ 32) s
    -- a NOW commit still owes its response
    finishExecuting 0x0012 rcCommitAbandoned fn [] s

/-- The functions that a reset of `fn` covers. -/
def resetScope (fn : Nat) : List Nat := fn :: members fn

/-- The radio that a function ID names. -/
def radioOf (fn : Nat) : Option (Fin 3) :=
  if fn = 0x0100 then some 0 else if fn = 0x0101 then some 1 else if fn = 0x0102 then some 2 else none

/-- The outputs of timer unit `t` go to IDLE_LEVELS (R396). -/
def idleTimer (t : Fin 16) (s : State) : State :=
  s.onTimer t fun u => { u with out := BitVec.ofNat 2 (u8 (part s.coh.active (0x0C10 + t.val) 0x0C01 0 0) 20) }

/-- A reset of channel `c` pauses its migration (R490). -/
def pauseMigration (c : Fin 2) (s : State) : State :=
  s.onMem fun m =>
    let x := m.channels[c]
    { m with channels := m.channels.set c { x with migration := x.migration.map fun g =>
        { g with paused := some (g.paused.getD s.time.fabric) } } }

/-- Step 1 of R70: the function's outputs go to their defined values. -/
def clampOutputs (fn : Nat) (s : State) : State :=
  if 0x0C10 ≤ fn && fn ≤ 0x0C1F then idleTimer (Fin.ofNat 16 (fn - 0x0C10)) s
  else
  match radioOf fn with
  | some r =>
    -- its frames in reception are lost, its windows blanked, synthesiser and observation receiver stop (R618)
    let s := dropReception r (cutRadio r rcDiscardedReset .requeue s)
    s.onRadio r fun x => { x with synth := .off, lo := 0, staticDrive := 0, blanked := true, rxActive := false }
  | none =>
    if fn = 0x0500 then
      [0, 1, 2].foldl (fun s r => cutRadio r rcDiscardedReset .remove s) s
    else if fn = 0x0910 then pauseMigration 0 s
    else if fn = 0x0911 then pauseMigration 1 s
    else s

/-- Accept a reset of `fn` (R70): its scope is IN_RESET and clamped, a disabled function only marked (R72); a pending commit that would apply a function of
the scope is abandoned when a reaction asks (R32). -/
def startReset (fn : Nat) (source : Option Nat) (s : State) : State :=
  let s := (resetScope fn).foldl (fun s f => (if s.enabled f then clampOutputs f s else s).onFn f fun x => { x with inReset := true }) s
  let s := s.onCoh fun c => { c with resets := c.resets ++ [⟨fn, source⟩] }
  match s.coh.commit, source with
  | some c, some _ => if (resetScope fn).any c.functions.contains then abandonCommit fn s else s
  | _, _ => s

/-- End a reaction: its record gets the duration; its shadow window closes 50 µs later (R549, R552). -/
def endReaction (recNo : Nat) (s : State) : State :=
  match s.safety.reactions.find? fun r => r.recNo == recNo with
  | none => s
  | some r =>
    let us := min ((s.time.fabric - r.raisedAt).toNat / 400) 0xFFFFFFFF
    (s.onSafety fun x =>
      { x with reactions := x.reactions.map fun y => if y.recNo == recNo then { y with ended := true, endedAt := s.time.fabric } else y }).onRecord
        recNo fun z => { z with reactionUs := us }

/-- Abandon the resets in progress, without their events or response (R447, R554). -/
def abandonResets (s : State) : State :=
  let s := s.coh.resets.foldl (fun s j =>
    (resetScope j.fn).foldl (fun s f => s.onFn f fun x => { x with inReset := false }) s) s
  let s := s.onSafety fun x =>
    { x with reactions := x.reactions.map fun y => if y.severity = 2 && !y.ended then { y with abandoned := true, ended := true, endedAt := s.time.fabric } else y }
  let s := s.onCoh fun c => { c with resets := [] }
  match s.kci.executing with
  | some e => if e.req.opcode = 0x0020 then s.onKci fun k => { k with executing := none } else s
  | none => s

/-- Release every booking and reservation (R538 step 4): launches that are not on air are cancelled. -/
def releaseBookings (reason : Nat) (s : State) : State :=
  (s.sluice.launches.filter fun x => !launchLive x).foldl (fun s x => endLaunch x reason false s) s

/-- The safe state is entered (R538): drivers and balls off, FAULT_N asserted, SAFE_OK stopped, bookings released, a
pending commit cancelled, `EV_SAFE_STATE` raised. -/
def enterSafeState (n : Nat) (s4 hold : Bool) (s : State) : State :=
  let s := [0, 1, 2].foldl (fun s r => cutRadio r rcSafeState .requeue s) s
  let s := releaseBookings rcSafeState s
  let was := s.safety.safeState
  let s := s.onSafety fun x => { x with safeState := true, faultN := true, safeOk := false }
  let s := if was then s else s.count 0x0F00 10
  let s := abandonCommit 0x0F00 s
  raiseEvent 226 0x0F00 (n + flag s4 * 2 ^ 8 + flag hold * 2 ^ 9) s

/-- The functions that an S4 reaction holds: all but Confluence, the power manager and the supply monitor (R549). -/
def s4Holds : List Nat := allFunctions.filter fun f => f != 0 && f != 0x0F00 && f != 0x0E00 && f != 0x1000

/-- Carry out the reaction of record `recNo`. -/
def react (recNo n sev target : Nat) (s : State) : State :=
  if sev = 2 then
    if s.safety.safeState then endReaction recNo s
    else if target != 0 && s.inReset target then
      -- absorbed into the reset in progress (R554)
      s
    else startReset target (some n) s
  else if sev = 3 then
    (enterSafeState n false false (abandonResets s)).onSafety fun x => { x with restartPending := !x.s4Held }
  else
    let s := enterSafeState n true false (abandonResets s)
    let s := s.onSafety fun x => { x with s4Held := true, restartPending := false }
    let s := s4Holds.foldl (fun s f => s.onFn f fun x => { x with held := true }) s
    endReaction recNo s

/-- OVERFLOW is set in the latch; the first source to overflow it is entered (R553). -/
def latchOverflow (n : Nat) (l : FaultRec) : FaultRec :=
  { l with overflow := true, overflowSource := if l.overflowSource = 0xFFFF then n else l.overflowSource }

/-- A raise at S2 to S4 that is not merged: record, latch, event, reaction (R549, R551, R553, R554). -/
def reactRaise (n sev target named : Nat) (detail : BitVec 64) (injected : Bool) (s : State) : State :=
  let no := s.safety.logCount.toNat
  let t := if sev = 2 && !s.safety.safeState then target else 0
  let isFirst := s.safety.latch.isNone
  let r := { newRecord s n sev t detail injected with first := isFirst, overflow := !isFirst }
  let s := logRecord r s
  let s := if isFirst then
      s.onSafety fun x =>
        { x with latch := some r, latchNo := no, springFirst := if sev ≥ 3 then BitVec.ofNat 16 n else x.springFirst }
    else
      (s.onSafety fun x =>
        { x with latch := x.latch.map (latchOverflow n) }).count 0x0F00 7
  let s := raiseEvent 224 0x0F00 (faultPayload r (detail.toNat % 2 ^ 32)) s
  let q : Reaction :=
    { recNo := no, source := n, severity := sev, shadow := shadowOf s n named, target := t, consequential := 0
      firstConseq := 0xFFFF, raisedAt := s.time.fabric, ended := false, endedAt := 0, abandoned := false }
  let s := s.onSafety fun x => { x with reactions := x.reactions ++ [q] }
  react no n sev t s

/-- The severity with which a raise reacts: an S2 raise that names no resettable function reacts as S3 (R544). -/
def reactSeverity (s : State) (n named : Nat) : Nat :=
  let sev := severity s n
  if sev = 2 && !resettable (resetTarget s n named) then 3 else sev

/-- The handling of a raise once it is counted (R549, R552). -/
def handleRaise (n named : Nat) (detail : BitVec 64) (injected : Bool) (s : State) : State :=
  let sev := severity s n
  match mergeInto s n named sev with
  | some r => mergeRaise r n s
  | none =>
    if sev ≤ 1 then noteRaise n sev detail injected s
    else
      reactRaise n (reactSeverity s n named) (resetTarget s n named) named detail injected s

/-- Exit begins: the source is latched and REF_EN asserts; HIBERNATE ends in a warm start (R410, R414). -/
def beginWake (n : Nat) (s : State) : State :=
  let s := s.onPower fun p =>
    { p with phase := .waking, lastWake := BitVec.ofNat 8 n, wakeAt := s.time.spring, refEn := true, wakePending := none
             commanded := p.commanded && (n == 1 || n == 5) }
  -- the Spring domain restores the rails before a start; in DOZE they return once the bases are rebuilt
  if s.power.state = .hibernate then (restoreRails s).onBoot fun b => { b with phase := .due .warm true } else s

/-- A raise after P or in DOZE is a wake source: the entry completes first, and then exit begins (R408, R409). -/
def wakeOnFault (s : State) : State :=
  match s.power.phase with
  | .entering => s.onPower fun p => { p with wakePending := some (p.wakePending.getD 6) }
  | .asleep => beginWake 6 s
  | _ => s

/-- The device is in HIBERNATE: no detector is powered (R412). -/
def hibernating (s : State) : Bool := s.power.phase == .asleep && s.power.state == .hibernate

/-- Raise fault source `n`, naming function `named`.  Reserved sources are never raised (R546).  While the device is
asleep an S3 or S4 raise drives FAULT_N and SAFE_OK at once, and every raise is handled when RUN is reached (R409). -/
def raiseFault (n named : Nat) (detail : BitVec 64) (injected : Bool) (s : State) : State :=
  if reservedSource n || hibernating s then s
  else if s.asleep then
    let s := wakeOnFault (s.onPower fun p =>
      { p with held := p.held ++ [⟨n, named, detail, injected, s.time.fabric, s.asn64, s.time.spring⟩] })
    if reactSeverity s n named ≥ 3 then s.onSafety fun x => { x with faultN := true, safeOk := false } else s
  else
    let s := { s with safety := { s.safety with counts := mmod 0 s.safety.counts n (· + 1) } }
    let s := s.count 0x0F00 (1 + severity s n)
    let s := s.onThermal fun t => { t with span := { t.span with faults := t.span.faults + 1 } }
    let s := if injected then s.count 0x0F00 8 else s
    let s := if n = 126 then s.count 0x0F00 11 else s
    handleRaise n named detail injected s

/-- Raise source `n` of function `fn` as a detecting block does. -/
def raiseSource (n fn detail : Nat) (s : State) : State := raiseFault n fn (BitVec.ofNat 64 detail) false s

/-- Any reaction is active: raised and not ended. -/
def reactionActive (s : State) : Bool := s.safety.reactions.any fun r => !r.ended

end Sys2Proof.Machine
end

