-- ==== Sys2Proof/Machine/Phys.lean ====
section
/-!
DEFINITION. The physical address map of SRAM and DRAM and who may reach what (R23, R24, R477, R479, R503).
-/

namespace Sys2Proof.Machine

/-- Usable MB per rank and channel of a density in Gb (R477). -/
def usablePerRank (density : Nat) : Nat := 112 * density

/-- Ranks that addresses map to: one when a spare is configured (R480). -/
def mappedRanks (m : Memory) : Nat := if m.spare then min 1 m.ranks else m.ranks

/-- U in MB (R479). -/
def usableMb (m : Memory) : Nat := 2 * mappedRanks m * usablePerRank m.density

def dramBase : Nat := 0x800000000

/-- End of usable DRAM, and of the cluster region below the 512 MB device region (R479). -/
def dramEnd (m : Memory) : Nat := dramBase + usableMb m * 0x100000
def clusterEnd (m : Memory) : Nat := dramEnd m - 0x20000000

/-- `n` bytes from `a` lie in the cluster region. -/
def inCluster (m : Memory) (a n : Nat) : Bool := dramBase ≤ a && a + n ≤ clusterEnd m

/-- `n` bytes from `a` lie in general SRAM (R23). -/
def inGeneral (a n : Nat) : Bool := 0x10700000 ≤ a && a + n ≤ 0x11000000

/-- `n` bytes from `a` lie in Backwater. -/
def inBackwater (a n : Nat) : Bool := 0x10600000 ≤ a && a + n ≤ 0x10700000

/-- `n` bytes from `a` lie in the Eddy buffer or the LLR store. -/
def inSample (a n : Nat) : Bool := 0x10000000 ≤ a && a + n ≤ 0x10600000

/-- `n` bytes from `a` exist: SRAM or usable DRAM. -/
def inMemory (m : Memory) (a n : Nat) : Bool :=
  (0x10000000 ≤ a && a + n ≤ 0x11000000) || (dramBase ≤ a && a + n ≤ dramEnd m)

/-- The master is a core, and the cluster is off: past P of a sleep entry; or it is firmware, whose processor's clock is
stopped while the device sleeps (R22, R408). -/
def coreOff (s : State) : BusMaster → Bool
  | .core _ => s.asleep
  | .firmware => s.power.phase == .asleep
  | _ => false

/-- An access that the map lets a master make (R24, R479, R503). -/
def accessAllowed (m : Memory) (by_ : BusMaster) (write : Bool) (a n : Nat) : Bool :=
  match by_ with
  | .core _ => inGeneral a n || inCluster m a n || (!write && inSample a n)
  | _ => inMemory m a n

/-! ### Tables of Backwater (R149, R300, R416) -/

def calTable : Nat := 0x10600000
def counterTable : Nat := 0x10620000
def keptTable : Nat := 0x10660000
def tablesEnd : Nat := 0x10666000

/-- What the regions of Backwater from 0x6_0000 to 0x6_5FFF hold: DRAM training, duty accounts, the time snapshot with
SPRING_PPB and ASN_FLOOR, timer state, state of the power manager, PCIe configuration space and checksums. -/
structure Kept where
  channels : Vector Channel 2
  accounts : Vector Account 16
  snapshot : Option Snapshot
  springPpb : Int
  asnFloor : BitVec 48
  timers : Vector Timer 16
  target : PowerState
  wakeMask : BitVec 8
  wakeSpring : Option (BitVec 48)
  config : Option Mem
  sums : Option (List Nat)
  deriving DecidableEq, Repr

/-- The spec gives no layout of these regions: the byte at an offset from 0x6_0000 is free (DESIGN CHOICE, log entry 98). -/
opaque Config.keptByte : Kept → Nat → BitVec 8

def State.kept (s : State) : Kept where
  channels := s.mem.channels
  accounts := s.sluice.accounts
  snapshot := s.time.snapshot
  springPpb := s.time.springPpb
  asnFloor := s.time.asnFloor
  timers := s.timers
  target := s.power.target
  wakeMask := s.power.wakeMask
  wakeSpring := s.power.wakeSpring
  config := s.power.savedConfig
  sums := s.power.sealed

/-- The 32 bytes of an entry (R149). -/
def calBytes (e : CalEntry) : Bytes :=
  leBytes 4 e.lo.toNat ++ leBytes 4 e.chan.toNat
    ++ leBytes 1 (e.synth.toNat + 4 * flag e.isChan + 8) ++ leBytes 1 e.vcoBand.toNat ++ leInt 2 e.temp
    ++ leBytes 1 e.loopGain.toNat ++ [0] ++ leBytes 2 e.corrA.toNat ++ leBytes 2 e.corrB.toNat
    ++ leBytes 2 e.corrC.toNat ++ leBytes 2 e.corrD.toNat ++ zeros 2 ++ leBytes 4 e.time.toNat ++ zeros 4

/-- The entry that 32 bytes hold, if VALID is set in them. -/
def calEntry (b : Bytes) : Option CalEntry :=
  if !bit (u8 b 8) 3 then none
  else some
    { lo := BitVec.ofNat 32 (u32 b 0), chan := BitVec.ofNat 32 (u32 b 4), synth := BitVec.ofNat 2 (u8 b 8), isChan := bit (u8 b 8) 2
      vcoBand := BitVec.ofNat 6 (u8 b 9), temp := i16 b 10, loopGain := BitVec.ofNat 8 (u8 b 12)
      corrA := BitVec.ofNat 16 (u16 b 14), corrB := BitVec.ofNat 16 (u16 b 16), corrC := BitVec.ofNat 16 (u16 b 18)
      corrD := BitVec.ofNat 16 (u16 b 20), time := BitVec.ofNat 32 (u32 b 24) }

/-- The 8 bytes of the counter slot of key `k` (R300). -/
def slotBytes (k : Nat) (x : TxSlot) : Bytes := leBytes 8 (k + 2 ^ 18 + flag x.adv * 2 ^ 19 + x.next.toNat * 2 ^ 20)

/-- The 32 bytes at entry `i` of the calibration store; those of an entry that is not valid are plain memory. -/
def State.calRaw (s : State) (i : Nat) : Bytes :=
  match mget s.radios.store i with
  | some e => calBytes e
  | none => memReads s.mem.phys (calTable + 32 * i) 32

/-- The address lies in the Eddy buffer while a channel has a ring, or in the LLR store while a frame holds a reservation
(R23, R206, R220): samples and LLRs stand there. -/
def State.streams (s : State) (a : Nat) : Bool :=
  (decide (0x10000000 ≤ a) && decide (a < 0x10400000) && s.rx.rings.any fun e => e.2.kb != 0)
    || (decide (0x10400000 ≤ a) && decide (a < 0x10600000) && s.rx.frames.any fun x => x.reserved != 0)

/-- A byte of physical memory.  The slots of the counter table stand in the order of their keys (DESIGN CHOICE, log entry
98). -/
def State.byteAt (s : State) (a : Nat) : Byte :=
  if s.streams a then Config.sampleByte s.time.fabric.toNat a
  else if a < calTable || tablesEnd ≤ a then memRead s.mem.phys a
  else if a < counterTable then (s.calRaw ((a - calTable) / 32)).getD (a % 32) 0
  else if keptTable ≤ a then Config.keptByte s.kept (a - keptTable)
  else
    match s.cipher.slots[(a - counterTable) / 8]? with
    | some (k, x) => (slotBytes k x).getD (a % 8) 0
    | none => 0

/-- Write one byte of the tables: the calibration store takes it; the counter table does not (R300), nor do the regions
that the device itself keeps (log entry 98). -/
def State.storeTable (s : State) (a : Nat) (b : Byte) : State :=
  if a < counterTable then
    let i := (a - calTable) / 32
    let raw := patch (s.calRaw i) (a % 32) [b]
    match calEntry raw with
    | some e => s.onRadios fun x => { x with store := mset x.store i e }
    | none => (s.onRadios fun x => { x with store := mdel x.store i }).onMem fun m =>
        { m with phys := memWrites m.phys (calTable + 32 * i) raw }
  else s

/-- Write bytes one by one, where a run meets the tables of Backwater. -/
def State.storeEach (s : State) (a : Nat) : Bytes → State
  | [] => s
  | b :: bs =>
    (if a < calTable || tablesEnd ≤ a then s.onMem fun m => { m with phys := memWrite m.phys a b }
     else s.storeTable a b).storeEach (a + 1) bs

/-- The `n` bytes from `a` on meet no table of Backwater. -/
def offTables (a n : Nat) : Bool := decide (a + n ≤ calTable) || decide (tablesEnd ≤ a)

/-- Write bytes to physical memory.  A word written whole reads well again (R475, R489). -/
def State.store (s : State) (a : Nat) (bs : Bytes) : State :=
  (if offTables a bs.length then s.onMem fun m => { m with phys := memWrites m.phys a bs } else s.storeEach a bs).onMem fun m =>
    { m with poison := m.poison.filter fun e => !(decide (a ≤ e.1) && decide (e.1 + 8 ≤ a + bs.length)) }

/-- The words that `n` bytes from `a` touch and that read as uncorrectable. -/
def poisonsIn (m : Memory) (a n : Nat) : List Nat :=
  (m.poison.map (·.1)).filter fun w => decide (w < a + n) && decide (a < w + 8)

/-- Some word of `n` bytes from `a` reads as uncorrectable. -/
def poisoned (m : Memory) (a n : Nat) : Bool := !(poisonsIn m a n).isEmpty

/-- Read bytes of physical memory. -/
def State.load (s : State) (a n : Nat) : Bytes :=
  if offTables a n && decide (tablesEnd ≤ a) then memReads s.mem.phys a n else (List.range n).map fun i => s.byteAt (a + i)

/-- Offset and size of the regions of Backwater but the last (R416). -/
def backwaterRegions : List (Nat × Nat) :=
  [(0, 0x20000), (0x20000, 0x40000), (0x60000, 0x4000), (0x64000, 0x1000), (0x65000, 0x100), (0x65100, 0x400),
    (0x65500, 0xB00), (0x66000, 0x1A000)]

/-- The checksum table: CRC-32 of each region, of the one that holds the table without it (R417, log entry 98). -/
def backwaterSums (s : State) : List Nat :=
  let s := s.onPower fun p => { p with sealed := none }
  backwaterRegions.map fun r => crc32 (s.load (calTable + r.1) r.2)

end Sys2Proof.Machine
end

