-- ==== Sys2Proof/Machine/Sched.lean ====
section
/-!
DEFINITION. The task scheduler's decisions: threads, dispatch, ordered flows, events, trace and performance counters
(R503 to R526).
-/

namespace Sys2Proof.Machine

def schedFn : Nat := 0x0B00
def coreFn (c : Nat) : Nat := 0x0A00 + c

/-! ### Configuration -/

def schedPart (m : NMap Bytes) : Bytes := part m 0x0B00 0x0B01 0 0
def evpMode (m : NMap Bytes) (c : Nat) : Bool := bit (u8 (schedPart m) 0) c
def traceMode (m : NMap Bytes) : Nat := u8 (schedPart m) 7
def quantumUs (m : NMap Bytes) : Nat := u16 (schedPart m) 8

/-- BIND of source `n`. -/
def bindOf (m : NMap Bytes) (n : Nat) : Nat := u16 (schedPart m) (12 + 2 * n)

/-- The queue word of queue `q` and its fields (R528). -/
def queueWord (m : NMap Bytes) (q : Nat) : Nat := u32 (schedPart m) (140 + 4 * q)
def queueFlow (m : NMap Bytes) (q : Nat) : Nat := bits (queueWord m q) 11 0
def queueDiscipline (m : NMap Bytes) (q : Nat) : Nat := bits (queueWord m q) 13 12
def queuePriority (m : NMap Bytes) (q : Nat) : Nat := bits (queueWord m q) 18 16
def queueServes (m : NMap Bytes) (q c : Nat) : Bool := bit (bits (queueWord m q) 31 24) c

/-- The table entry of thread `t` in the form of R508; empty when there is none. -/
def threadEntry (m : NMap Bytes) (t : Nat) : Bytes := part m 0x0B00 0x0B02 0 t
def threadValid (m : NMap Bytes) (t : Nat) : Bool := bit (u8 (threadEntry m t) 26) 0
def threadAuto (m : NMap Bytes) (t : Nat) : Bool := bit (u8 (threadEntry m t) 26) 1
def threadUser (m : NMap Bytes) (t : Nat) : Bool := bit (u8 (threadEntry m t) 26) 2
def threadToHandler (m : NMap Bytes) (t : Nat) : Bool := bit (u8 (threadEntry m t) 26) 3
def threadAffinity (m : NMap Bytes) (t c : Nat) : Bool := bit (u8 (threadEntry m t) 25) c

/-! ### Access -/

def State.thread (s : State) (t : Nat) : Thread := mgetD s.cluster.threads t Thread.reset
def State.onThread (s : State) (t : Nat) (f : Thread → Thread) : State :=
  s.onCluster fun x => { x with threads := mmod Thread.reset x.threads t f }
def State.core (s : State) (c : Fin 8) : Core := s.cluster.cores[c]
def State.onCore (s : State) (c : Fin 8) (f : Core → Core) : State :=
  s.onCluster fun x => { x with cores := x.cores.set c (f x.cores[c]) }

/-- The core on which thread `t` runs. -/
def runningOn (s : State) (t : Nat) : Option (Fin 8) := (List.finRange 8).find? fun c => (s.core c).thread == some t

/-- The performance counter bank of core `c`. -/
def coreBank (c : Fin 8) : Fin 13 := ⟨c.val, by omega⟩

/-! ### Trace (R522) -/

/-- A trace record. -/
def traceBytes (fabric : BitVec 64) (kind core thread prio cause arg : Nat) : Bytes :=
  leBytes 6 fabric.toNat ++ leBytes 1 kind ++ leBytes 1 core ++ leBytes 2 thread ++ leBytes 1 prio ++ leBytes 1 cause
    ++ leBytes 4 arg

/-- Record a decision. -/
def trace (kind core thread prio cause arg : Nat) (s : State) : State :=
  if traceMode s.coh.active = 0 || s.cluster.traceStopped then s
  else
    let s := s.onCluster fun x =>
      { x with trace := (traceBytes s.time.fabric kind core thread prio cause arg :: x.trace).take 4096
               traceSeq := x.traceSeq + 1 }
    let s := s.count schedFn 13
    if traceMode s.coh.active = 2 && s.cluster.traceSeq ≥ 4096 then
      raiseEvent 238 schedFn s.cluster.traceSeq (s.onCluster fun x => { x with traceStopped := true })
    else s

/-- A decision about thread `t` on core `c` (0xFF for none). -/
def traceThread (kind c t cause arg : Nat) (s : State) : State :=
  trace kind c t (s.thread t).priority.toNat cause arg s

/-! ### Dispatch (R510) -/

/-- Core `c` can run threads now: awake, THREAD mode, working, not idle after a fault (R520), and not held for a relock or a fault of the cluster PLL (R442, R505). -/
def coreUsable (s : State) (c : Fin 8) : Bool :=
  !s.asleep && s.works schedFn && s.works (coreFn c) && !evpMode s.coh.active c && !(s.core c).halted && !s.relocking
    && !s.supply.pllFaults.contains 6

/-- Core `c` is usable and in the AFFINITY of thread `t`. -/
def eligible (s : State) (t : Nat) (c : Fin 8) : Bool := coreUsable s c && threadAffinity s.coh.active t c

/-- An event of thread `t` on core `c` for the performance counters: its privilege is that of the thread. -/
def pmuThread (c : Fin 8) (t code cls : Nat) (s : State) : State :=
  pmuEventIf (pmcPriv (threadUser s.coh.active t)) (coreBank c) code cls 1 s

/-- Thread `t` starts to run on core `c`, displacing thread `old` (0xFFFFFFFF for none). -/
def dispatch (t : Nat) (c : Fin 8) (old cause : Nat) (s : State) : State :=
  let s := s.onThread t fun x => { x with status := .running, waits := .nothing }
  let s := s.onCore c fun x => { x with thread := some t, gated := false, since := s.time.fabric }
  let s := s.onCluster fun x => { x with ready := x.ready.erase t }
  traceThread 1 c t cause old (pmuThread c t 0x20 2 (s.count schedFn 1))

/-- The core whose thread a thread of priority `p` pre-empts: the numerically greatest priority above `p`, the
lowest-numbered core of equals. -/
def victim (s : State) (t p : Nat) : List (Fin 8) → Option (Fin 8 × Nat)
  | [] => none
  | c :: cs =>
    let rest := victim s t p cs
    match (s.core c).thread with
    | none => rest
    | some u =>
      let q := (s.thread u).priority.toNat
      if eligible s t c && decide (p < q) then
        match rest with
        | none => some (c, u)
        | some (d, v) => if (s.thread v).priority.toNat ≤ q then some (c, u) else some (d, v)
      else rest

/-- The running thread `u` leaves core `c` for the head of its list. -/
def preempt (u : Nat) (c : Fin 8) (by_ : Nat) (s : State) : State :=
  let s := s.onThread u fun x => { x with status := .ready }
  let s := s.onCore c fun x => { x with thread := none, since := s.time.fabric }
  let s := s.onCluster fun x => { x with ready := u :: x.ready }
  traceThread 2 c u 0xFF by_ (pmuThread c u 0x21 2 (s.count schedFn 2))

/-- Thread `t` becomes READY and is placed. -/
def place (t cause : Nat) (s : State) : State :=
  match (List.finRange 8).find? fun c => eligible s t c && (s.core c).thread.isNone with
  | some c => dispatch t c 0xFFFFFFFF cause s
  | none =>
    match victim s t (s.thread t).priority.toNat (List.finRange 8) with
    | some (c, u) => dispatch t c u cause (preempt u c t s)
    | none =>
      (s.onThread t fun x => { x with status := .ready, waits := .nothing }).onCluster fun x =>
        { x with ready := x.ready.erase t ++ [t] }

/-- The READY thread that core `c` takes: the first of the lowest-numbered priority. -/
def firstReady (s : State) (c : Fin 8) : List Nat → Option Nat
  | [] => none
  | t :: ts =>
    let rest := firstReady s c ts
    if threadAffinity s.coh.active t c then
      match rest with
      | none => some t
      | some u => if (s.thread t).priority.toNat ≤ (s.thread u).priority.toNat then some t else some u
    else rest

/-- A core that has become free takes its next thread. -/
def refill (c : Fin 8) (s : State) : State :=
  if coreUsable s c && (s.core c).thread.isNone then
    match firstReady s c s.cluster.ready with
    | some t => dispatch t c 0xFFFFFFFF 0xFF s
    | none => s
  else s

/-- Core `c` is freed of its thread and takes the next. -/
def freeCore (c : Fin 8) (s : State) : State :=
  refill c (s.onCore c fun x => { x with thread := none, since := s.time.fabric })

/-- Place every READY thread anew, in list order: after a relock, a commit or the end of a reset. -/
def placeAll (s : State) : State :=
  let s := (List.finRange 8).foldl (fun s c => refill c s) s
  s.cluster.ready.foldl (fun s t => if s.cluster.ready.contains t then place t 0xFF s else s) s

/-- A WAITING thread runs on with a result (R514). -/
def wakeThread (t cause rc : Nat) (s : State) : State :=
  let s := s.onThread t fun x => { x with waits := .nothing, regs := { x.regs with result := BitVec.ofNat 16 rc } }
  place t cause (traceThread 4 0xFF t cause 0 (s.count schedFn 4))

/-! ### Sources (R512) -/

/-- Interrupt source `n` of the scheduler is raised. -/
def raiseSched (n : Nat) (s : State) : State :=
  if !s.works schedFn then s
  else
    let t := bindOf s.coh.active n
    if t = 0xFFFF then s.count schedFn 6
    else if (s.thread t).wake.getLsbD n then s.count schedFn 5
    else
      let s := s.onThread t fun x => { x with wake := x.wake ||| BitVec.ofNat 64 (2 ^ n) }
      match (s.thread t).waits with
      | .wait _ => wakeThread t n rcOk s
      | _ => s

/-! ### Ordered flows (R515, R516) -/

def State.flow (s : State) (f : Nat) : Flow := mgetD s.cluster.flows f Flow.reset

/-- Tickets that are not resolved. -/
def unresolved (s : State) : List Ticket := s.cluster.tickets.filter fun x => !x.resolved

/-- Resolve a ticket. -/
def resolve (f : Nat) (t : BitVec 32) (s : State) : State :=
  s.onCluster fun x => { x with tickets := x.tickets.map fun k =>
    if k.flow == f && k.ticket == t then { k with resolved := true } else k }

/-- The event that core `c` holds ends: the registers read zero, and a hold or ticket is gone (R519). -/
def dropHeld (c : Fin 8) (s : State) : State := s.onCore c fun x => { x with held := none }

/-- ARG of a FLOW_RELEASE or FLOW_DISCARD record. -/
def flowArg (f : Nat) (t : BitVec 32) : Nat := f + t.toNat % 2 ^ 20 * 4096

/-- Number of the core on which thread `t` runs, 0xFF for none. -/
def coreNo (s : State) (t : Nat) : Nat :=
  match runningOn s t with
  | some c => c.val
  | none => 0xFF

/-- Priority of the queue whose event core `c` holds. -/
def heldPriority (s : State) (c : Fin 8) : Nat :=
  match (s.core c).held with
  | some e => queuePriority s.coh.active e.queue
  | none => 0

/-- Record a decision about a holder; `core` is the core of a thread. -/
def traceHolder (kind : Nat) (h : Holder) (core arg : Nat) (s : State) : State :=
  match h with
  | .thread t => traceThread kind core t 0xFF arg s
  | .core c => trace kind c 0xFFFF (heldPriority s (Fin.ofNat 8 c)) 0xFF arg s

/-- The core of a holder that is a thread. -/
def holderCore (s : State) : Holder → Nat
  | .thread t => coreNo s t
  | .core c => c

/-- The holder of a ticket waits for its turn. -/
def waitsTurn (s : State) (k : Ticket) : Bool :=
  match k.holder with
  | .thread t => (s.thread t).waits == .turn k.flow k.ticket.toNat
  | .core c =>
    let x := s.core (Fin.ofNat 8 c)
    x.waits == .turn && (match x.held with
      | some e => e.ticket == some (k.flow, k.ticket)
      | none => false)

/-- A release passes: recorded, counted, resolved. -/
def passTicket (k : Ticket) (s : State) : State :=
  resolve k.flow k.ticket ((traceHolder 8 k.holder (holderCore s k.holder) (flowArg k.flow k.ticket) s).count schedFn 8)

/-- A waiter whose turn has come runs on. -/
def resumeHolder (h : Holder) (s : State) : State :=
  match h with
  | .thread t => wakeThread t 0xFF rcOk s
  | .core c =>
    let c := Fin.ofNat 8 c
    dropHeld c (s.onCore c fun x => { x with waits := .nothing, regs := { x.regs with result := 0 } })

/-- GATE advances past resolved tickets, letting waiters pass in turn. -/
def advanceGate (f : Nat) : Nat → State → State
  | 0, s => s
  | fuel + 1, s =>
    let g := (s.flow f).gate
    match s.cluster.tickets.find? fun k => k.flow == f && k.ticket == g with
    | none => s
    | some k =>
      let step (s : State) : State := s.onCluster fun x =>
        { x with flows := mset x.flows f { mgetD x.flows f Flow.reset with gate := g + 1 }
                 tickets := x.tickets.filter fun y => !(y.flow == f && y.ticket == g) }
      if k.resolved then advanceGate f fuel (step s)
      else if waitsTurn s k then advanceGate f fuel (step (resumeHolder k.holder (passTicket k s)))
      else s

/-- GATE of flow `f` advances as far as it can. -/
def advance (f : Nat) (s : State) : State := advanceGate f (s.cluster.tickets.length + 1) s

/-- Discard the unresolved tickets of a holder, whose core is or was `core` (R516). -/
def discardTickets (h : Holder) (core : Nat) (s : State) : State :=
  (unresolved s).foldl (fun s k =>
    if k.holder == h then
      advance k.flow (resolve k.flow k.ticket ((traceHolder 9 h core (flowArg k.flow k.ticket) s).count schedFn 9))
    else s) s

/-- Issue a ticket to a holder; none when 65,536 are unresolved. -/
def issueTicket (f : Nat) (h : Holder) (s : State) : Option (BitVec 32 × State) :=
  if (unresolved s).length ≥ 65536 then none
  else
    let t := (s.flow f).nextTicket
    some (t, (s.onCluster fun x =>
      { x with flows := mset x.flows f { mgetD x.flows f Flow.reset with nextTicket := t + 1 }
               tickets := x.tickets ++ [⟨f, t, h, false⟩] }).count schedFn 7)

/-! ### Event queues (R518, R519) -/

def queueOf (s : State) (q : Nat) : List (BitVec 64) := mgetD s.cluster.queues q []

/-- Events in all queues. -/
def eventsQueued (s : State) : Nat := s.cluster.queues.foldl (fun n e => n + e.2.length) 0

/-- Another core holds flow `f` as SERIAL. -/
def serialHeld (s : State) (f c : Nat) : Bool :=
  (List.finRange 8).any fun d => d.val != c && (match (s.core d).held with
    | some e => e.serial == some f
    | none => false)

/-- Core `c` may take from queue `q`. -/
def queueEligible (s : State) (c q : Nat) : Bool :=
  let m := s.coh.active
  queueServes m q c && !(queueOf s q).isEmpty && !(queueDiscipline m q == 2 && serialHeld s (queueFlow m q) c)
    && !(queueDiscipline m q == 1 && (unresolved s).length ≥ 65536)

/-- The queue that core `c` takes from next: the highest priority, in rotation after the one last taken at it. -/
def nextQueue (s : State) (c : Fin 8) : Option Nat :=
  (List.range 8).findSome? fun p =>
    let l := mgetD (s.core c).lastTook p 63
    ((List.range 64).map fun i => (l + 1 + i) % 64).find? fun q =>
      queuePriority s.coh.active q == p && queueEligible s c q

/-- Core `c` takes an event, if one can be taken. -/
def takeEvent (c : Fin 8) (s : State) : Option State :=
  match nextQueue s c with
  | none => none
  | some q =>
    match queueOf s q with
    | [] => none
    | e :: es =>
      let m := s.coh.active
      let s := s.onCluster fun x => { x with queues := msetD [] x.queues q es }
      let (tk, s) := if queueDiscipline m q = 1 then
          match issueTicket (queueFlow m q) (.core c) s with
          | some (t, s) => (some (queueFlow m q, t), s)
          | none => (none, s)
        else (none, s)
      let h : HeldEvent :=
        { queue := q, payload := e, ticket := tk, serial := if queueDiscipline m q = 2 then some (queueFlow m q) else none }
      let s := s.onCore c fun x =>
        { x with held := some h, waits := .nothing, gated := false, lastTook := mset x.lastTook (queuePriority m q) q
                 regs := { x.regs with result := 0 } }
      some (trace 11 c 0xFFFF (queuePriority m q) 0xFF q (s.count schedFn 10))

/-- Core `c` blocks in TAKE_EVENT. -/
def waitsTake (x : Core) : Bool :=
  match x.waits with
  | .take _ => true
  | _ => false

/-- Blocked EVP cores take what can now be taken, lowest-numbered first. -/
def feedEvp (s : State) : State :=
  (List.finRange 8).foldl (fun s c =>
    if waitsTake (s.core c) && s.works (coreFn c) then (takeEvent c s).getD s else s) s

/-- Add an event to the tail of a queue; none when 16,384 are queued. -/
def putEvent2 (q : Nat) (e : BitVec 64) (s : State) : Option State :=
  if eventsQueued s ≥ 16384 then none
  else some (feedEvp (s.onCluster fun x => { x with queues := mset x.queues q (mgetD x.queues q [] ++ [e]) }))

/-- The event that core `c` holds ends with DISCARD: its ticket is resolved and its hold freed. -/
def endDiscard (c : Fin 8) (s : State) : State :=
  match (s.core c).held with
  | none => s
  | some e =>
    let s := dropHeld c (s.onCore c fun x => { x with waits := .nothing })
    feedEvp (match e.ticket with
      | some (f, t) => advance f (resolve f t s)
      | none => s)

/-! ### Starts, faults and resets of threads (R508, R509, R516, R517, R520) -/

/-- Thread `t` becomes READY from ENTRY. -/
def startThread (t : Nat) (s : State) : State :=
  let e := threadEntry s.coh.active t
  place t 0xFF (s.onThread t fun x =>
    { x with pc := BitVec.ofNat 64 (u64 e 0), sp := BitVec.ofNat 64 (u64 e 8), arg := BitVec.ofNat 64 (u64 e 16)
             cause := 0, waits := .nothing })

/-- Thread `t` leaves whatever it does, for a state that is not READY or RUNNING; its tickets are discarded. -/
def stopThread (t : Nat) (st : ThreadStatus) (s : State) : State :=
  let c := runningOn s t
  let core := coreNo s t
  let s := s.onThread t fun x => { x with status := st, waits := .nothing }
  let s := s.onCluster fun x => { x with ready := x.ready.erase t }
  let s := match c with
    | some c => s.onCore c fun x => { x with thread := none, since := s.time.fabric }
    | none => s
  let s := feedEvp (discardTickets (.thread t) core s)
  match c with
  | some c => refill c s
  | none => s

/-- Thread `t`, running on core `c`, faults: cause 1 exception, 2 bus error, 3 reset. -/
def faultThread (t : Nat) (c : Fin 8) (cause : Nat) (pc : BitVec 64) (s : State) : State :=
  let s := s.onThread t fun x => { x with cause := BitVec.ofNat 8 cause, faultPc := pc }
  let s := traceThread 7 c t 0xFF cause (s.count schedFn 12)
  let s := raiseEvent 236 schedFn (t + c.val * 2 ^ 16 + cause * 2 ^ 24) s
  stopThread t .faulted s

/-- The context of EVP core `c` faults: its event ends as a reset ends it, and it idles until it is reset. -/
def faultEvp (c : Fin 8) (cause : Nat) (s : State) : State :=
  let s := trace 7 c 0xFFFF (heldPriority s c) 0xFF cause s
  let s := raiseEvent 236 schedFn (0x3FF + c.val * 2 ^ 16 + 2 ^ 19 + cause * 2 ^ 24) s
  let s := dropHeld c (discardTickets (.core c) c (s.onCore c fun x => { x with waits := .nothing }))
  feedEvp (s.onCore c fun x => { x with halted := true, since := s.time.fabric })

/-- A synchronous exception on core `c` (R520). -/
def syncException (c : Fin 8) (bus : Bool) (pc : BitVec 64) (s : State) : State :=
  let s := s.count (coreFn c) 2
  let user := (s.core c).thread.any (threadUser s.coh.active)
  -- the command carries no address, so a counter with an address range does not count it (log entry 151)
  let s := if bus then
      pmuEventIf (fun p => pmcPriv user p && p.base == 0 && p.limit == 0) (coreBank c) 0x12 1 1 (s.count (coreFn c) 3)
    else s
  let cause := if bus then 2 else 1
  match (s.core c).thread with
  | some t => if threadToHandler s.coh.active t then s else faultThread t c cause pc s
  | none => if evpMode s.coh.active c then faultEvp c cause s else s

/-- What a reset of core `c` does to its work (R517). -/
def resetCore (c : Fin 8) (s : State) : State :=
  let s := match (s.core c).thread with
    | some t => faultThread t c 3 (s.thread t).pc s
    | none => s
  let s := s.onCore c fun x => { x with waits := .nothing, halted := false, gated := false, since := s.time.fabric }
  let s := dropHeld c (discardTickets (.core c) c s)
  feedEvp (s.onCore c fun x => { x with regs := SchRegs.reset })

/-- What a reset of the scheduler does (R517). -/
def resetSched (s : State) : State :=
  let n := eventsQueued s
  let s := s.countN schedFn 11 n
  let s := (unresolved s).foldl (fun s k =>
    (traceHolder 9 k.holder (holderCore s k.holder) (flowArg k.flow k.ticket) s).count schedFn 9) s
  let s := s.onCluster fun x =>
    { x with queues := [], tickets := [], ready := []
             flows := x.flows.map (fun e => (e.1, { e.2 with gate := e.2.nextTicket }))
             cores := x.cores.map (fun k =>
              { k with thread := none, held := none, waits := .nothing, since := s.time.fabric, regs := SchRegs.reset })
             threads := x.threads.map (fun e => (e.1, if e.2.status = .free then e.2 else
               { e.2 with status := .dormant, waits := .nothing, wake := 0, posts := 0, regs := SchRegs.reset })) }
  s.cluster.threads.foldl (fun s e =>
    if (s.thread e.1).status = .dormant && threadAuto s.coh.active e.1 then startThread e.1 s else s) s

/-- Voter class 11 refuses to sleep (R521). -/
def clusterBusy (s : State) : Bool :=
  !s.cluster.ready.isEmpty || (List.finRange 8).any (fun c => (s.core c).thread.isSome || (s.core c).held.isSome)
    || eventsQueued s != 0

/-! ### Effects of a commit (R504, R509, R522) -/

/-- Effects on thread `t` of a commit that changed the table from the set `old`. -/
def applyThread (old : NMap Bytes) (t : Nat) (s : State) : State :=
  let m := s.coh.active
  let was := threadValid old t
  let now := threadValid m t
  let prio := BitVec.ofNat 6 (u8 (threadEntry m t) 24)
  if !was && now then
    let s := s.onThread t fun _ => { Thread.reset with status := .dormant, priority := prio }
    if threadAuto m t then startThread t s else s
  else if was && !now then (stopThread t .free s).onThread t fun _ => Thread.reset
  else if now then
    let s := if u8 (threadEntry old t) 24 != u8 (threadEntry m t) 24 then
        (s.onThread t fun x => { x with priority := prio }).onCluster fun x =>
          { x with ready := if x.ready.contains t then x.ready.erase t ++ [t] else x.ready }
      else s
    match runningOn s t with
    | some c => if threadAffinity m t c then s else preempt t c 0xFFFFFFFF s
    | none => s
  else s

/-- The threads that a set names. -/
def tableThreads (m : NMap Bytes) : List Nat :=
  m.filterMap fun e => if cfgKeyFn e.1 == 0x0B00 && cfgKeyOp e.1 == 0x0B02 then some (cfgKeyIdx e.1) else none

/-- The scheduler takes up a commit: mode changes, the thread table, tracing; then every READY thread is placed. -/
def applySched (old : NMap Bytes) (s : State) : State :=
  let m := s.coh.active
  let s := (List.finRange 8).foldl (fun s (c : Fin 8) =>
    if evpMode old c != evpMode m c || !s.works (coreFn c) then
      let s := match (s.core c).thread with
        | some t => preempt t c 0xFFFFFFFF s
        | none => s
      discardTickets (.core c) c (endDiscard c (s.onCore c fun x =>
        { x with waits := .nothing, gated := false, since := s.time.fabric }))
    else s) s
  let ts := tableThreads old ++ (tableThreads m).filter fun t => !(tableThreads old).contains t
  let s := ts.foldl (fun s t => applyThread old t s) s
  let s := if traceMode old = 0 && traceMode m != 0 then
      s.onCluster fun x => { x with trace := [], traceSeq := 0, traceStopped := false }
    else if traceMode old != traceMode m then s.onCluster fun x => { x with traceStopped := false }
    else s
  feedEvp (placeAll s)

end Sys2Proof.Machine
end

