-- ==== Sys2Proof/Machine/Cluster.lean ====
section
/-!
DEFINITION. The commands of the application cluster and task scheduler (R505, R506, R510 to R529).
-/

namespace Sys2Proof.Machine

/-! ### Operations of a core (R513, R514) -/

/-- The context that writes SCH_OP on core `c`: the thread that runs on it, or its EVP context. -/
def schedCtx (s : State) (c : Fin 8) : Option Holder :=
  if s.asleep || !s.works schedFn || !s.works (coreFn c) then none
  else if evpMode s.coh.active c then
    if (s.core c).halted || (s.core c).waits != .nothing then none else some (.core c)
  else (s.core c).thread.map .thread

/-- The scheduler registers of a context. -/
def ctxRegs (s : State) : Holder → SchRegs
  | .thread t => (s.thread t).regs
  | .core c => (s.core (Fin.ofNat 8 c)).regs

def setRegs (h : Holder) (f : SchRegs → SchRegs) (s : State) : State :=
  match h with
  | .thread t => s.onThread t fun x => { x with regs := f x.regs }
  | .core c => s.onCore (Fin.ofNat 8 c) fun x => { x with regs := f x.regs }

/-- SCH_RESULT of a context. -/
def setResult (h : Holder) (rc : Nat) (s : State) : State := setRegs h (fun r => { r with result := BitVec.ofNat 16 rc }) s

/-- An operation valid in both modes: nothing happens on a core without a context. -/
def schedBoth (c : Fin 8) (s : State) (f : Holder → SchRegs → State → State) : State :=
  match schedCtx s c with
  | none => s
  | some h => f h (ctxRegs s h) s

/-- An operation of THREAD mode. -/
def schedThread (c : Fin 8) (s : State) (f : Nat → SchRegs → State → State) : State :=
  schedBoth c s fun h r s =>
    match h with
    | .thread t => f t r s
    | .core _ => setResult h rcCoreMode s

/-- An operation of EVP mode. -/
def schedEvp (c : Fin 8) (s : State) (f : SchRegs → State → State) : State :=
  schedBoth c s fun h r s =>
    match h with
    | .thread _ => setResult h rcCoreMode s
    | .core _ => f r s

/-- A supervisor operation: in user privilege it takes a privilege exception at `userPc`. -/
def privileged (c : Fin 8) (userPc : Option (BitVec 64)) (s : State) (f : State → State) : State :=
  match userPc with
  | none => f s
  | some pc => if (schedCtx s c).isSome then syncException c false pc s else s

/-- `NOP`. -/
def execSchNop (c : Fin 8) (s : State) : Out := .next (schedBoth c s fun h _ s => setResult h rcOk s)

/-- `WAIT`. -/
def execWait (c : Fin 8) (s : State) : Out :=
  .next (schedThread c s fun t r s =>
    let x := s.thread t
    if x.wake != 0 || x.posts != 0 then setResult (.thread t) rcOk s
    else
      let s := traceThread 3 c t 0xFF 0xFFFFFFFF s
      freeCore c (s.onThread t fun y => { y with status := .waiting, waits := .wait r.arg0.toNat, since := s.time.fabric }))

/-- A thread to which nothing can be posted. -/
def noPost (st : ThreadStatus) : Bool := st == .free || st == .dormant || st == .faulted

/-- `POST`. -/
def execPost (c : Fin 8) (s : State) : Out :=
  .next (schedBoth c s fun h r s =>
    let t := r.arg0.toNat
    if 1024 ≤ t || noPost (s.thread t).status then setResult h rcThreadState s
    else
      let s := setResult h rcOk s
      let s := s.onThread t fun x => { x with posts := if x.posts = 0xFFFFFFFF then x.posts else x.posts + 1 }
      match (s.thread t).waits with
      | .wait _ => wakeThread t 64 rcOk s
      | _ => s)

/-- The running thread `t` goes to the tail of its list when a READY thread of equal priority may run on `c`. -/
def sliceOut (c : Fin 8) (t cause : Nat) (s : State) : State :=
  let equal := s.cluster.ready.any fun u =>
    (s.thread u).priority == (s.thread t).priority && threadAffinity s.coh.active u c
  if equal then
    let s := traceThread 5 c t cause 0 (if cause = 66 then s.count schedFn 3 else s)
    let s := s.onThread t fun x => { x with status := .ready }
    freeCore c (s.onCluster fun x => { x with ready := x.ready ++ [t] })
  else s

/-- `YIELD`. -/
def execYield (c : Fin 8) (s : State) : Out :=
  .next (schedThread c s fun t _ s => sliceOut c t 0xFF (setResult (.thread t) rcOk s))

/-- `EXIT`. -/
def execExit (c : Fin 8) (s : State) : Out :=
  .next (schedThread c s fun t _ s =>
    stopThread t .dormant (traceThread 6 c t 0xFF 0 (setResult (.thread t) rcOk s)))

/-- `START`. -/
def execStart (c : Fin 8) (userPc : Option (BitVec 64)) (s : State) : Out :=
  .next (privileged c userPc s fun s => schedBoth c s fun h r s =>
    let t := r.arg0.toNat
    let st := (s.thread t).status
    if decide (t < 1024) && (st == .dormant || st == .faulted) then startThread t (setResult h rcOk s)
    else setResult h rcThreadState s)

/-- `RAISE`. -/
def execRaise (c : Fin 8) (s : State) : Out :=
  .next (schedBoth c s fun h r s =>
    if r.arg0.toNat < 8 then raiseSched (56 + r.arg0.toNat) (setResult h rcOk s) else setResult h rcFieldRange s)

/-- `FLOW_ENTER`; the flow is ARG0 [11:0] (DEDUCED, log entry 7). -/
def execFlowEnter (c : Fin 8) (s : State) : Out :=
  .next (schedBoth c s fun h r s =>
    match issueTicket (r.arg0.toNat % 4096) h s with
    | none => setResult h rcTableFull s
    | some (t, s) => setRegs h (fun x => { x with value := t }) (setResult h rcOk s))

/-- The unresolved ticket that a context names in ARG0 and ARG1 and holds. -/
def heldTicket (s : State) (h : Holder) (r : SchRegs) : Option Ticket :=
  (unresolved s).find? fun k => k.flow == r.arg0.toNat % 4096 && k.ticket == r.arg1 && k.holder == h

/-- `FLOW_RELEASE`. -/
def execFlowRelease (c : Fin 8) (s : State) : Out :=
  .next (schedThread c s fun t r s =>
    match heldTicket s (.thread t) r with
    | none => setResult (.thread t) rcFlowTicket s
    | some k =>
      let s := setResult (.thread t) rcOk s
      if (s.flow k.flow).gate = k.ticket then feedEvp (advance k.flow (passTicket k s))
      else
        let s := traceThread 3 c t 0xFF k.flow s
        freeCore c (s.onThread t fun x => { x with status := .waiting, waits := .turn k.flow k.ticket.toNat }))

/-- `FLOW_DROP`. -/
def execFlowDrop (c : Fin 8) (s : State) : Out :=
  .next (schedBoth c s fun h r s =>
    match heldTicket s h r with
    | none => setResult h rcFlowTicket s
    | some k => feedEvp (advance k.flow (resolve k.flow k.ticket (setResult h rcOk s))))

/-- `TAKE_EVENT`. -/
def execTakeEvent (c : Fin 8) (s : State) : Out :=
  .next (schedEvp c s fun r s =>
    if (s.core c).held.isSome then setResult (.core c) rcEventHeld s
    else
      match takeEvent c s with
      | some s => s
      | none => s.onCore c fun x => { x with waits := .take r.arg0.toNat, since := s.time.fabric })

/-- `PUT_EVENT`. -/
def execPutEvent (c : Fin 8) (s : State) : Out :=
  .next (schedBoth c s fun h r s =>
    if 64 ≤ r.arg0.toNat then setResult h rcFieldRange s
    else
      match putEvent2 r.arg0.toNat (r.arg2 ++ r.arg1) (setResult h rcOk s) with
      | some s => s
      | none => setResult h rcQueueFull s)

/-- `SET_PRIORITY`: a READY thread that may run on the core and now has the higher priority takes it, and the caller is
placed by R510. -/
def execSetPriority (c : Fin 8) (userPc : Option (BitVec 64)) (s : State) : Out :=
  .next (privileged c userPc s fun s => schedThread c s fun t r s =>
    if 64 ≤ r.arg0.toNat then setResult (.thread t) rcFieldRange s
    else
      let s := setResult (.thread t) rcOk s
      let s := s.onThread t fun x => { x with priority := BitVec.ofNat 6 r.arg0.toNat }
      match firstReady s c s.cluster.ready with
      | some u =>
        if (s.thread u).priority.toNat < r.arg0.toNat then place t 0xFF (dispatch u c t 0xFF (preempt t c u s)) else s
      | none => s)

/-- `NOTIFY`. -/
def execNotify (c : Fin 8) (s : State) : Out :=
  .next (schedBoth c s fun h r s =>
    let t := match h with
      | .thread t => t
      | .core _ => 0x3FF
    raiseEvent 237 schedFn (r.arg0.toNat + t * 2 ^ 32 + c.val * 2 ^ 48) (setResult h rcOk s))

/-- `END_EVENT`; an event whose ticket FLOW_DROP has resolved has no turn to wait for. -/
def execEndEvent (c : Fin 8) (s : State) : Out :=
  .next (schedEvp c s fun r s =>
    match (s.core c).held with
    | none => setResult (.core c) rcNoEventHeld s
    | some e =>
      let s := setResult (.core c) rcOk s
      if r.arg0.getLsbD 0 then endDiscard c s
      else
        match e.ticket with
        | none => endDiscard c s
        | some (f, t) =>
          if !((unresolved s).any fun k => k.flow == f && k.ticket == t) then endDiscard c s
          else if (s.flow f).gate = t then
            feedEvp (advance f (dropHeld c (passTicket ⟨f, t, .core c, false⟩ s)))
          else
            (trace 3 c 0xFFFF (queuePriority s.coh.active e.queue) 0xFF f s).onCore c fun x => { x with waits := .turn })

/-! ### Register reads -/

/-- `SCH_WAKE_READ`: the WAKE bits are returned and cleared. -/
def execSchWakeRead (c : Fin 8) (high : Bool) (s : State) : Out :=
  .next (match schedCtx s c with
    | some (.thread t) =>
      let w := (s.thread t).wake.toNat
      let s := s.onKci fun k => { k with readOut := if high then w / 2 ^ 32 else w % 2 ^ 32 }
      s.onThread t fun x => { x with wake := BitVec.ofNat 64 (if high then w % 2 ^ 32 else w / 2 ^ 32 * 2 ^ 32) }
    | _ => s.onKci fun k => { k with readOut := 0 })

/-- `SCH_POSTS_READ`. -/
def execSchPostsRead (c : Fin 8) (s : State) : Out :=
  .next (match schedCtx s c with
    | some (.thread t) =>
      (s.onKci fun k => { k with readOut := (s.thread t).posts.toNat }).onThread t fun x => { x with posts := 0 }
    | _ => s.onKci fun k => { k with readOut := 0 })

/-- The fixed counter of a bank: core cycles, zero for the device banks (R523, R527). -/
def fixedCounter (s : State) (b : Fin 13) : Nat :=
  if h : b.val < 8 then (s.core ⟨b.val, h⟩).cycles / 400 else 0

/-- Counter `n` of a bank, 0 being the fixed one. -/
def pmuValue (s : State) (bank : Fin 13) (n : Fin 9) : Nat :=
  if n.val = 0 then fixedCounter s bank else (s.cluster.banks[bank].counters[Fin.ofNat 8 (n.val - 1)]).value.toNat

/-- The high word of counter `n` is latched for the read that follows. -/
def pmuLatch (bank : Fin 13) (n : Fin 9) (s : State) : State :=
  let high := BitVec.ofNat 32 (pmuValue s bank n / 2 ^ 32)
  let b := s.cluster.banks[bank]
  let b := if n.val = 0 then { b with fixedLatch := high } else
    let i := Fin.ofNat 8 (n.val - 1)
    { b with counters := b.counters.set i { b.counters[i] with latch := high } }
  s.onCluster fun x => { x with banks := x.banks.set bank b }

/-- The plain registers of the scheduler window of core `c`, by offset (R513). -/
def schedReg (s : State) (c : Fin 8) (off : Nat) : Nat :=
  match schedCtx s c with
  | none => 0
  | some h =>
    let r := ctxRegs s h
    let held := (s.core c).held
    if off = 0x04 then r.arg0.toNat
    else if off = 0x08 then r.arg1.toNat
    else if off = 0x0C then r.arg2.toNat
    else if off = 0x10 then r.result.toNat
    else if off = 0x14 then r.value.toNat
    else if off = 0x18 then
      (match h with
        | .thread t => t + (s.thread t).priority.toNat * 2 ^ 10
        | .core _ => 0x3FF + 2 ^ 19) + c.val * 2 ^ 16
    else if off = 0x28 then (held.map (·.payload.toNat % 2 ^ 32)).getD 0
    else if off = 0x2C then (held.map (·.payload.toNat / 2 ^ 32)).getD 0
    else if off = 0x30 then (held.map (·.queue)).getD 0
    else 0

/-- A read of the scheduler window of core `c`, its value left in `readOut`. -/
def execSchRead (c : Fin 8) (off : Nat) (s : State) : Out :=
  if off = 0x1C then execSchWakeRead c false s
  else if off = 0x20 then execSchWakeRead c true s
  else if off = 0x24 then execSchPostsRead c s
  else .next (s.onKci fun k => { k with readOut := schedReg s c off })

/-- A write of SCH_OP on core `c` in supervisor privilege (R514). -/
def execSchOp (c : Fin 8) (op : Nat) (s : State) : Out :=
  match op with
  | 0 => execSchNop c s
  | 1 => execWait c s
  | 2 => execPost c s
  | 3 => execYield c s
  | 4 => execExit c s
  | 5 => execStart c none s
  | 6 => execRaise c s
  | 7 => execFlowEnter c s
  | 8 => execFlowRelease c s
  | 9 => execFlowDrop c s
  | 10 => execTakeEvent c s
  | 11 => execPutEvent c s
  | 12 => execSetPriority c none s
  | 13 => execNotify c s
  | 14 => execEndEvent c s
  | _ => .next (schedBoth c s fun h _ s => setResult h rcFieldRange s)

/-- `PMU_LOW_WORD_READ`: the high word is latched; a user read without PMU_USER takes a privilege exception (R526). -/
def execPmuLowWordRead (c : Fin 8) (userPc : Option (BitVec 64)) (bank : Fin 13) (n : Fin 9) (s : State) : Out :=
  match s.asleep, userPc, s.cluster.banks[bank].user with
  | true, _, _ => .next s
  | _, some pc, false => .next (syncException c false pc s)
  | _, _, _ => .next ((pmuLatch bank n s).onKci fun k => { k with readOut := pmuValue s bank n % 2 ^ 32 })

/-! ### Time-driven decisions -/

/-- `us` µs of fabric time have passed since cycle `t`. -/
def passed (s : State) (t : BitVec 64) (us : Nat) : Bool := decide (us * 400 ≤ (s.time.fabric - t).toNat)

/-- `WAIT_TIMEOUT`: the limit of a WAIT or of a TAKE_EVENT expires. -/
def execWaitTimeout (who : Waiter) (s : State) : Out :=
  .next (match who with
    | .thread t =>
      match (s.thread t).waits with
      | .wait (n + 1) => if passed s (s.thread t).since (n + 1) then wakeThread t 65 rcWaitTimeout s else s
      | _ => s
    | .core c =>
      match (s.core c).waits with
      | .take (n + 1) =>
        if passed s (s.core c).since (n + 1) then
          setResult (.core c) rcWaitTimeout (s.onCore c fun x => { x with waits := .nothing })
        else s
      | _ => s)

/-- `QUANTUM_EXPIRY`: the thread of core `c` has run for QUANTUM_US without a break. -/
def execQuantumExpiry (c : Fin 8) (s : State) : Out :=
  let q := quantumUs s.coh.active
  .next (match (s.core c).thread with
    | some t => if q != 0 && passed s (s.core c).since q then sliceOut c t 66 s else s
    | none => s)

/-- `CORE_CLOCK_GATE`: a core that has had nothing to run for 2 µs is gated (R506). -/
def execCoreClockGate (c : Fin 8) (s : State) : Out :=
  let x := s.core c
  if x.thread.isNone && x.held.isNone && (!evpMode s.coh.active c || waitsTake x || x.halted)
      && passed s x.since 2 then
    .next (s.onCore c fun y => { y with gated := true })
  else .next s

/-- Core `c` executes instructions: a thread runs on it, or its EVP context neither waits nor has faulted. -/
def coreRuns (s : State) (c : Fin 8) : Bool :=
  let x := s.core c
  s.works (coreFn c) && !s.asleep && (x.thread.isSome || (evpMode s.coh.active c && !x.halted && x.waits == .nothing))

/-- `SYNC_EXCEPTION`. -/
def execSyncException (c : Fin 8) (bus : Bool) (pc : BitVec 64) (s : State) : Out :=
  if coreRuns s c then .next (syncException c bus pc s) else .next s

/-- `CORE_HANG`: a running thread or held event that retires nothing for 10 ms. -/
def execCoreHang (c : Fin 8) (s : State) : Out :=
  if s.works (coreFn c) && !s.asleep && ((s.core c).thread.isSome || (s.core c).held.isSome) then
    .next (raiseSource (77 + 3 * c.val) (coreFn c) 0 s)
  else .next s

/-! ### Commands (R527 to R529) -/

/-- Fields of `SCHED_CONFIG` (R528). -/
def schedConfigFields : List FieldSpec :=
  [⟨1, 1, .range 0 1⟩, ⟨5, 1, .range 50 100⟩, ⟨6, 1, .range 0 90⟩, ⟨7, 1, .range 0 2⟩, ⟨8, 2, .rangeOr 100 50000 0⟩,
    ⟨10, 2, .zero⟩]

/-- OPP indexes and bindings in range, DOWN_PCT below UP_PCT, and the reserved bits of the queue words zero. -/
def schedConfigCheck (b : Bytes) : Option Nat :=
  if 8 ≤ u8 b 2 || 8 ≤ u8 b 3 || 8 ≤ u8 b 4 || u8 b 5 ≤ u8 b 6 then some rcFieldRange
  else if (List.range 64).any fun i => 1024 ≤ u16 b (12 + 2 * i) && u16 b (12 + 2 * i) != 0xFFFF then some rcFieldRange
  else
    (List.range 64).findSome? fun q =>
      let w := u32 b (140 + 4 * q)
      if bits w 13 12 = 3 then some rcFieldRange
      else if bits w 15 14 != 0 || bits w 23 19 != 0 then some rcReservedNonzero
      else none

/-- `SCHED_CONFIG`. -/
def execSchedConfig (buf : Bytes) (s : State) : Out :=
  .next (runKci 0x0B01 buf (fun s m req body =>
    match schedConfigCheck body with
    | some rc => no rc
    | none => stageOne 0x0B01 0 0 schedConfigFields s m req body) s)

/-- Check of one thread entry (R508). -/
def threadEntryCheck (e : Bytes) : Option Nat :=
  checkFields e [⟨24, 1, .range 0 63⟩, ⟨26, 1, .flags 4⟩, ⟨27, 5, .zero⟩]

/-- An entry with VALID clear stands for no entry. -/
def threadEntryForm (e : Bytes) : Bytes := if bit (u8 e 26) 0 then e else []

/-- The entries of a run after a header of `h` bytes. -/
def runEntries (h n count : Nat) (b : Bytes) : List Bytes := (List.range count).map fun i => slice b (h + n * i) n

/-- `THREAD_TABLE_LOAD`. -/
def execThreadTableLoad (buf : Bytes) (s : State) : Out :=
  .next (runKci 0x0B02 buf (fun s _ req body =>
    let first := u16 body 0
    let count := u16 body 2
    let es := runEntries 8 32 count body
    if u32 body 4 != 0 then no rcReservedNonzero
    else if count = 0 || 1024 < first + count || (!req.indirect && 126 < count) then no rcFieldRange
    else
      match es.findSome? threadEntryCheck with
      | some rc => no rc
      | none => ok (stageRun 0x0B00 0x0B02 0 first (es.map threadEntryForm) s)) s)

/-- `CLUSTER_POST`. -/
def execClusterPost (buf : Bytes) (s : State) : Out :=
  .next (runKci 0x0B03 buf (fun s _ _ body =>
    let kind := u8 body 0
    let idx := u8 body 1
    if !s.enabled schedFn then no rcFunctionDisabled
    else if u16 body 2 != 0 then no rcReservedNonzero
    else if kind = 0 then
      if 8 ≤ idx || u64 body 4 != 0 then no rcFieldRange else ok (raiseSched (48 + idx) s)
    else if kind = 1 then
      if 64 ≤ idx then no rcFieldRange
      else
        match putEvent2 idx (BitVec.ofNat 64 (u64 body 4)) s with
        | some s => ok s
        | none => no rcQueueFull
    else no rcFieldRange) s)

/-- `CLUSTER_MEM_WRITE`. -/
def execClusterMemWrite (buf : Bytes) (s : State) : Out :=
  .next (runKci 0x0B04 buf (fun s _ _ body =>
    let a := u64 body 0
    let data := body.drop 8
    if inCluster s.mem a data.length then ok (s.store a data) else no rcFieldRange) s)

/-- STATE of a thread (R529). -/
def threadCode : ThreadStatus → Nat
  | .free => 0
  | .dormant => 1
  | .ready => 2
  | .running => 3
  | .waiting => 4
  | .faulted => 5

/-- The 16 bytes of a thread in `THREAD_READ`. -/
def threadBytes (s : State) (t : Nat) : Bytes :=
  let x := s.thread t
  let c := match runningOn s t with
    | some c => c.val
    | none => 0xFF
  leBytes 1 (threadCode x.status) ++ leBytes 1 c ++ leBytes 1 x.priority.toNat ++ leBytes 1 x.cause.toNat
    ++ leBytes 2 (min 0xFFFF ((unresolved s).filter fun k => k.holder == .thread t).length) ++ zeros 2
    ++ leBytes 8 x.faultPc.toNat

/-- `THREAD_READ`. -/
def execThreadRead (buf : Bytes) (s : State) : Out :=
  .next (runKci 0x0B05 buf (fun s _ _ body =>
    let first := u16 body 0
    let count := u16 body 2
    if count = 0 || 253 < count || 1024 < first + count then no rcFieldRange
    else .done s rcOk 0 [] ((List.range count).flatMap fun i => threadBytes s (first + i))) s)

/-- Trace record number `i`, or one of KIND 0 when it is not in the ring. -/
def traceAt (s : State) (i : Nat) : Bytes :=
  let n := s.cluster.traceSeq
  if i < n then (s.cluster.trace[n - 1 - i]?).getD (zeros 16) else zeros 16

/-- `TRACE_READ`. -/
def execTraceRead (buf : Bytes) (s : State) : Out :=
  .next (runKci 0x0B06 buf (fun s _ req body =>
    let start := u64 body 0
    let count := u16 body 8
    if field body 10 6 != 0 then no rcReservedNonzero
    else if count = 0 || (if req.indirect then 4096 else 253) < count then no rcFieldRange
    else
      .done s rcOk 0 (leBytes 8 s.cluster.traceSeq ++ zeros 8)
        ((List.range count).flatMap fun i => traceAt s (start + i))) s)

/-- A counter entry counts events of class 1 (R525). -/
def memoryClass (e : Bytes) : Bool := if bit (u8 e 1) 0 then u8 e 0 == 1 else u8 e 0 / 16 == 1

/-- The filters that a bank supports (R524). -/
def pmcCheck (bank : Nat) (e : Bytes) : Option Nat :=
  let filter := u8 e 1
  let prog := bit filter 3
  let core := decide (bank < 8)
  let dram := bank == 10
  if filter / 16 != 0 || u8 e 3 != 0 || u32 e 12 != 0 then some rcReservedNonzero
  else if !prog then none
  else if bits filter 2 1 = 3 || (!core && bits filter 2 1 != 0) then some rcFieldRange
  else if !dram && u8 e 2 != 0 && u8 e 2 != 0xFF then some rcFieldRange
  else if !dram && !(core && memoryClass e) && (u32 e 4 != 0 || u32 e 8 != 0) then some rcFieldRange
  else none

/-- A counter programmed by an entry restarts at zero; others keep counting. -/
def pmcProgram (e : Bytes) (p : Pmc) : Pmc :=
  if bit (u8 e 1) 3 then
    { event := BitVec.ofNat 8 (u8 e 0), filter := BitVec.ofNat 8 (u8 e 1), master := BitVec.ofNat 8 (u8 e 2)
      base := BitVec.ofNat 32 (u32 e 4), limit := BitVec.ofNat 32 (u32 e 8), value := 0, latch := p.latch }
  else p

/-- `PMU_CONFIG`. -/
def execPmuConfig (buf : Bytes) (s : State) : Out :=
  .next (runKci 0x0B07 buf (fun s _ _ body =>
    if h : u8 body 0 < 13 then
      let bank : Fin 13 := ⟨u8 body 0, h⟩
      let es := runEntries 4 16 8 body
      if u8 body 1 / 2 != 0 || u16 body 2 != 0 then no rcReservedNonzero
      else
        match es.findSome? (pmcCheck bank) with
        | some rc => no rc
        | none =>
          if 8 ≤ bank.val && field body 68 64 != 0 then no rcReservedNonzero
          else
            let b := s.cluster.banks[bank]
            let b : Bank :=
              { user := bit (u8 body 1) 0, fixedLatch := b.fixedLatch
                counters := b.counters.mapIdx fun i p => pmcProgram (es.getD i []) p }
            ok (s.onCluster fun x => { x with banks := x.banks.set bank b })
    else no rcFieldRange) s)

/-- `PMU_READ`. -/
def execPmuRead (buf : Bytes) (s : State) : Out :=
  .next (runKci 0x0B08 buf (fun s _ _ body =>
    if h : u8 body 0 < 13 then
      let bank : Fin 13 := ⟨u8 body 0, h⟩
      if field body 1 3 != 0 then no rcReservedNonzero
      else
        .done s rcOk 0 (leBytes 8 (fixedCounter s bank)
          ++ (s.cluster.banks[bank].counters.toList.flatMap fun p => leBytes 8 p.value.toNat)) []
    else no rcFieldRange) s)

/-! ### Rules and status (R530, R531) -/

/-- Entries of the thread table in a set. -/
def validThreads (m : NMap Bytes) : List Nat := (tableThreads m).filter (threadValid m)

/-- The first rule of R530 that fails; `m` is the set that a commit would produce. -/
def schedRules (m : NMap Bytes) : Option (Nat × Nat) :=
  let threadCore (c : Nat) : Bool := enabledIn m (coreFn c) && !evpMode m c
  let cfg := schedPart m
  if !(validThreads m).all fun t => (List.range 8).any fun c => threadAffinity m t c && threadCore c then
    some (1, rcAffinity)
  else if (List.range 64).any fun n =>
      let t := bindOf m n
      t != 0xFFFF && (!threadValid m t
        || (16 ≤ n && n < 48 && u8 (part m (0x0720 + (n - 16)) 0x0701 0 0) 0 != 2)) then
    some (2, rcBindTarget)
  else if u8 cfg 2 < u8 cfg 3 || u8 cfg 4 < u8 cfg 2 || u8 (part m 0x1000 0x1001 0 0) 1 ≤ u8 cfg 3 then
    some (3, rcOppLimits)
  else if (List.range 64).any fun q => (List.range 8).any fun c =>
      queueServes m q c && !(enabledIn m (coreFn c) && evpMode m c) then
    some (4, rcQueueCores)
  else none

/-- Status of the scheduler. -/
def schedStatus (s : State) : Bytes :=
  let cores := List.finRange 8
  let busy := cores.foldl (fun a c =>
    a + (if (s.core c).thread.isSome || (s.core c).held.isSome then 2 ^ c.val else 0)) 0
  leBytes 2 s.cluster.ready.length ++ leBytes 1 (cores.filter fun c => (s.core c).thread.isSome).length
    ++ leBytes 1 s.supply.opp ++ leBytes 1 busy ++ leBytes 1 (u8 (schedPart s.coh.active) 0) ++ zeros 2
    ++ leBytes 4 (unresolved s).length ++ leBytes 4 (eventsQueued s)

/-- Status of core `c`. -/
def coreStatus (s : State) (c : Fin 8) : Bytes :=
  let x := s.core c
  let busy := x.thread.isSome || x.held.isSome
  let p := match x.thread, x.held with
    | some t, _ => (s.thread t).priority.toNat
    | none, some e => queuePriority s.coh.active e.queue
    | none, none => 0
  leBytes 1 (flag (evpMode s.coh.active c)) ++ leBytes 1 (if s.relocking then 2 else flag busy)
    ++ leBytes 2 (x.thread.getD 0xFFFF) ++ leBytes 1 p ++ zeros 3

end Sys2Proof.Machine
end

