-- ==== Sys2Proof/Machine/Aes.lean ====
section
/-!
DEFINITION. AES (128 and 256-bit keys), the RFC 3394 key wrap and CCM* as the spec uses them (R287, R292, R293, R295).
A block is a run of 16 bytes; internally byte `r + 4c` of the cipher's state is row `r` of column `c`.
-/

namespace Sys2Proof.Machine

/-- Multiplication by x modulo x⁸ + x⁴ + x³ + x + 1. -/
def gfDouble (a : Nat) : Nat := if a < 128 then 2 * a else (2 * a) ^^^ 0x11B

/-- Product in the field of 256 elements, over the low `n` bits of `b`. -/
def gfMulAux : Nat → Nat → Nat → Nat
  | 0, _, _ => 0
  | n + 1, a, b => (if b % 2 = 1 then a else 0) ^^^ gfMulAux n (gfDouble a) (b / 2)

def gfMul (a b : Nat) : Nat := gfMulAux 8 a b

/-- The inverse of `a`, as its 254th power; 0 for 0. -/
def gfInv (a : Nat) : Nat :=
  let a2 := gfMul a a
  let a4 := gfMul a2 a2
  let a8 := gfMul a4 a4
  let a16 := gfMul a8 a8
  let a32 := gfMul a16 a16
  let a64 := gfMul a32 a32
  let a128 := gfMul a64 a64
  gfMul a2 (gfMul a4 (gfMul a8 (gfMul a16 (gfMul a32 (gfMul a64 a128)))))

/-- Rotate a byte left by `k` places. -/
def rotByte (k a : Nat) : Nat := a * 2 ^ k % 256 + a / 2 ^ (8 - k)

/-- The substitution of AES and its inverse. -/
def aesSub (a : Nat) : Nat :=
  let b := gfInv a
  b ^^^ rotByte 1 b ^^^ rotByte 2 b ^^^ rotByte 3 b ^^^ rotByte 4 b ^^^ 0x63

def aesUnsub (a : Nat) : Nat := gfInv (rotByte 1 a ^^^ rotByte 3 a ^^^ rotByte 6 a ^^^ 0x05)

/-- Exclusive or of two runs of numbers. -/
def xorNats (a b : List Nat) : List Nat := List.zipWith (· ^^^ ·) a b

/-- The round constants' powers of x. -/
def aesRcon : Nat → Nat
  | 0 => 1
  | n + 1 => gfDouble (aesRcon n)

/-- The words of the key schedule, newest first: `i` counts words made, `nk` is the key's length in words. -/
def aesExpandAux (nk : Nat) : Nat → Nat → List (List Nat) → List (List Nat)
  | 0, _, ws => ws
  | fuel + 1, i, ws =>
    let t := ws.headD []
    let t := if i % nk = 0 then xorNats ((t.drop 1 ++ t.take 1).map aesSub) [aesRcon (i / nk - 1), 0, 0, 0]
      else if nk = 8 && i % nk == 4 then t.map aesSub
      else t
    aesExpandAux nk fuel (i + 1) (xorNats (ws.getD (nk - 1) []) t :: ws)

/-- Pieces of four. -/
def quads : List Nat → List (List Nat)
  | a :: b :: c :: d :: r => [a, b, c, d] :: quads r
  | _ => []

/-- Rounds of a key of `n` bytes. -/
def aesRounds (n : Nat) : Nat := n / 4 + 6

/-- The round keys, 16 numbers each, first round first. -/
def aesRoundKeys (key : Bytes) : List (List Nat) :=
  let nk := key.length / 4
  let ws := aesExpandAux nk (4 * (aesRounds key.length + 1) - nk) nk (quads (key.map BitVec.toNat)).reverse
  let flat := ws.reverse.flatten
  (List.range (aesRounds key.length + 1)).map fun i => (flat.drop (16 * i)).take 16

/-- Rows rotate left by their number, and right. -/
def shiftRows (s : List Nat) : List Nat := (List.range 16).map fun i => s.getD (i % 4 + 4 * ((i / 4 + i % 4) % 4)) 0
def unshiftRows (s : List Nat) : List Nat :=
  (List.range 16).map fun i => s.getD (i % 4 + 4 * ((i / 4 + 4 - i % 4) % 4)) 0

/-- One output byte of a column product with the circulant of `a b c d`. -/
def mixByte (a b c d : Nat) (col : List Nat) (r : Nat) : Nat :=
  gfMul a (col.getD r 0) ^^^ gfMul b (col.getD ((r + 1) % 4) 0) ^^^ gfMul c (col.getD ((r + 2) % 4) 0)
    ^^^ gfMul d (col.getD ((r + 3) % 4) 0)

def mixColumns (a b c d : Nat) (s : List Nat) : List Nat :=
  (quads s).flatMap fun col => (List.range 4).map (mixByte a b c d col)

/-- The rounds of encryption after the first key addition. -/
def aesEncRounds : List (List Nat) → List Nat → List Nat
  | [], s => s
  | [k], s => xorNats (shiftRows (s.map aesSub)) k
  | k :: ks, s => aesEncRounds ks (xorNats (mixColumns 2 3 1 1 (shiftRows (s.map aesSub))) k)

/-- The rounds of decryption, keys last first. -/
def aesDecRounds : List (List Nat) → List Nat → List Nat
  | [], s => s
  | [k], s => xorNats ((unshiftRows s).map aesUnsub) k
  | k :: ks, s => aesDecRounds ks (mixColumns 14 11 13 9 (xorNats ((unshiftRows s).map aesUnsub) k))

def natsToBytes (l : List Nat) : Bytes := l.map (BitVec.ofNat 8)

/-- E_K of a block of 16 bytes. -/
def aesEnc (key blk : Bytes) : Bytes :=
  match aesRoundKeys key with
  | [] => blk
  | k :: ks => natsToBytes (aesEncRounds ks (xorNats (blk.map BitVec.toNat) k))

/-- D_K of a block of 16 bytes. -/
def aesDec (key blk : Bytes) : Bytes :=
  match (aesRoundKeys key).reverse with
  | [] => blk
  | k :: ks => natsToBytes (aesDecRounds ks (xorNats (blk.map BitVec.toNat) k))

/-! ### RFC 3394 key wrap -/

/-- The initial value of the wrap. -/
def wrapIv : Bytes := List.replicate 8 0xA6

/-- One step of the wrap: step number `t` takes the block at the front to the back. -/
def wrapStep (key : Bytes) (t : Nat) (a : Bytes) (rs : List Bytes) : Bytes × List Bytes :=
  match rs with
  | [] => (a, [])
  | r :: rs =>
    let b := aesEnc key (a ++ r)
    (xorBytes (b.take 8) (beBytes 8 t), rs ++ [b.drop 8])

def wrapLoop (key : Bytes) : Nat → Nat → Bytes → List Bytes → Bytes
  | 0, _, a, rs => a ++ rs.flatten
  | n + 1, t, a, rs =>
    let (a, rs) := wrapStep key t a rs
    wrapLoop key n (t + 1) a rs

/-- Wrap `data`, a multiple of 8 bytes, under `key`. -/
def keyWrap (key data : Bytes) : Bytes :=
  let n := data.length / 8
  wrapLoop key (6 * n) 1 wrapIv (chunks 8 n data)

def unwrapLoop (key : Bytes) : Nat → Bytes → List Bytes → Bytes × List Bytes
  | 0, a, rs => (a, rs)
  | t + 1, a, rs =>
    let r := rs.getLastD []
    let b := aesDec key (xorBytes a (beBytes 8 (t + 1)) ++ r)
    unwrapLoop key t (b.take 8) (b.drop 8 :: rs.dropLast)

/-- Unwrap a blob; none when its integrity check fails. -/
def keyUnwrap (key blob : Bytes) : Option Bytes :=
  let n := blob.length / 8 - 1
  let (a, rs) := unwrapLoop key (6 * n) (blob.take 8) (chunks 8 n (blob.drop 8))
  if a == wrapIv then some rs.flatten else none

/-! ### CCM* on link frames (R292, R293) -/

/-- Pad a run of bytes with zeros to whole blocks. -/
def padBlocks (bs : Bytes) : List Bytes :=
  let n := ceilDiv bs.length 16
  chunks 16 n (bs ++ zeros (16 * n - bs.length))

/-- Chain blocks into X. -/
def cbcMac (key : Bytes) (x : Bytes) (bs : List Bytes) : Bytes := bs.foldl (fun x b => aesEnc key (xorBytes x b)) x

/-- The nonce: source address, counter and level, each most significant octet first (R293). -/
def ccmNonce (src counter level : Nat) : Bytes := beBytes 8 src ++ beBytes 4 counter ++ beBytes 1 level

/-- B0 for a message of `m` bytes and the counter block A_i. -/
def ccmB0 (nonce : Bytes) (m : Nat) : Bytes := [0x59] ++ nonce ++ beBytes 2 m
def ccmA (nonce : Bytes) (i : Nat) : Bytes := [0x01] ++ nonce ++ beBytes 2 i

/-- The blocks that authentication chains: B0, the length and the data, the message. -/
def ccmBlocks (nonce a m : Bytes) : List Bytes :=
  ccmB0 nonce m.length :: (padBlocks (beBytes 2 a.length ++ a) ++ padBlocks m)

/-- The 8-byte MIC. -/
def ccmMic (key nonce a m : Bytes) : Bytes :=
  xorBytes ((cbcMac key (zeros 16) (ccmBlocks nonce a m)).take 8) ((aesEnc key (ccmA nonce 0)).take 8)

/-- Counter mode over a message, from A_1 on. -/
def ccmCtr (key nonce : Bytes) (m : Bytes) : Bytes :=
  ((chunks 16 (ceilDiv m.length 16) m).mapIdx fun i b => xorBytes b (aesEnc key (ccmA nonce (i + 1)))).flatten

/-- Secure a header and payload: payload on air, then the MIC. -/
def ccmSecure (key : Bytes) (src counter level : Nat) (header payload : Bytes) : Bytes :=
  let n := ccmNonce src counter level
  if level = 6 then ccmCtr key n payload ++ ccmMic key n header payload
  else payload ++ ccmMic key n (header ++ payload) []

/-- The plaintext of a received payload and whether its MIC matches. -/
def ccmOpen (key : Bytes) (src counter level : Nat) (header payload mic : Bytes) : Bytes × Bool :=
  let n := ccmNonce src counter level
  if level = 6 then
    let p := ccmCtr key n payload
    (p, ccmMic key n header p == mic)
  else (payload, ccmMic key n (header ++ payload) [] == mic)

/-- AES blocks that securing or opening a frame takes (R294's example). -/
def ccmBlockCount (level header payload : Nat) : Nat :=
  if level = 6 then 1 + ceilDiv (2 + header) 16 + 2 * ceilDiv payload 16 + 1
  else 1 + ceilDiv (2 + header + payload) 16 + 1

end Sys2Proof.Machine
end

