-- ==== Sys2Proof/Machine/Keys.lean ====
section
/-!
DEFINITION. The key store, the transmit counters and the journal (R295 to R306).
-/

namespace Sys2Proof.Machine

def cipherFn : Nat := 0x0700
def pageFn (p : Fin 32) : Nat := 0x0720 + p.val

/-! ### Key store (R295 to R299) -/

/-- The fused device key (R296) and provisioning key as bytes. -/
def deviceKeyBytes : Bytes := (List.range 32).map Config.deviceKey
def provisioningKeyBytes : Bytes := (List.range 32).map Config.provisioningKey

/-- The entry at an index: 64 bytes, or none of them when it is empty. -/
def keyEntry (m : NMap Bytes) (i : Nat) : Bytes := part m 0x0700 0x0702 0 i
def keyValid (m : NMap Bytes) (i : Nat) : Bool := u8 (keyEntry m i) 48 == 1
def keyUsage (m : NMap Bytes) (i : Nat) : Nat := u8 (keyEntry m i) 49

/-- A valid key that verifies received link frames, and one that also secures sent ones (R297). -/
def linkRxKey (m : NMap Bytes) (i : Nat) : Bool := keyValid m i && (keyUsage m i == 1 || keyUsage m i == 3)
def linkTxKey (m : NMap Bytes) (i : Nat) : Bool := keyValid m i && keyUsage m i == 3

/-- The outcome of a check of unwrapped contents. -/
inductive KeyCheck where
  | good (key : Bytes) (usage : Nat)
  | bad (rc : Nat)

/-- Check 40 unwrapped bytes against the index to which they must be bound (R295). -/
def checkKey (d : Bytes) (i : Nat) : KeyCheck :=
  let len := u8 d 36
  let usage := u8 d 37
  if u32 d 32 != i || 1 < len || u16 d 38 != 0 || (len == 0 && leNat (slice d 16 16) != 0) then .bad rcUnwrapFail
  else if !([1, 3, 4, 8].contains usage) then .bad rcKeyUsage
  else .good (d.take (if len = 0 then 16 else 32)) usage

/-- Unwrap and check a blob. -/
def openBlob (kek blob : Bytes) (i : Nat) : KeyCheck :=
  match keyUnwrap kek blob with
  | none => .bad rcUnwrapFail
  | some d => checkKey d i

/-- The key at an index of a store. -/
def openKey (m : NMap Bytes) (i : Nat) : KeyCheck := openBlob deviceKeyBytes ((keyEntry m i).take 48) i

/-- First 4 bytes of E_K(0). -/
def kcv (key : Bytes) : Bytes := (aesEnc key (zeros 16)).take 4

/-- The entry for 40 bytes of key and attributes. -/
def makeEntry (d : Bytes) : Bytes :=
  let key := d.take (if u8 d 36 = 0 then 16 else 32)
  keyWrap deviceKeyBytes d ++ [1] ++ slice d 37 1 ++ slice d 36 1 ++ zeros 5 ++ kcv key ++ zeros 4

/-- The key of a link frame: not valid, not usable, or its bytes (R294). -/
def linkKey (m : NMap Bytes) (i : Nat) : KeyCheck :=
  if linkRxKey m i then openKey m i else .bad rcKeyAbsent

/-- The indexes of a set that `KEY_IMPORT` or `KEY_DELETE` has written. -/
def keyIndexes (m : NMap Bytes) (op : Nat) : List Nat :=
  (partsOf m 0x0700).filterMap fun e => if cfgKeyOp e.1 == op then some (cfgKeyIdx e.1) else none

/-- The marks of the deletions that a commit has frozen (R27): those that are staged later keep theirs. -/
def freezeMarks (m : NMap Bytes) : NMap Bytes :=
  m.map fun e => if cfgKeyFn e.1 == 0x0700 && cfgKeyOp e.1 == 0x0703 then (e.1, [2]) else e

/-- A set without the marks of deletions; `frozen`: without those of the commit that is applied. -/
def dropMarks (frozen : Bool) (m : NMap Bytes) : NMap Bytes :=
  m.filter fun e => !(cfgKeyFn e.1 == 0x0700 && cfgKeyOp e.1 == 0x0703 && (!frozen || e.2 == [2]))

/-! ### Journal (R303, R304) -/

def State.onJournal (s : State) (f : Journal → Journal) : State :=
  s.onCipher fun c => { c with journal := f c.journal }

/-- The word of a record: KEY_INDEX, CEILING_BLOCK, RETIRED and its CRC (R303). -/
def JRecord.word (r : JRecord) : BitVec 64 :=
  let v := r.key % 2 ^ 18 + r.block % 2 ^ 21 * 2 ^ 18 + flag r.retired * 2 ^ 39
  BitVec.ofNat 64 (v + crc8 56 v * 2 ^ 56)

/-- The record that a word holds; none for one that is free or fails its CRC. -/
def readRecord (w : BitVec 64) : Option JRecord :=
  let v := w.toNat % 2 ^ 56
  if crc8 56 v == w.toNat / 2 ^ 56 && bits v 55 40 == 0 then some ⟨bits v 17 0, bits v 38 18, bit v 39, false⟩ else none

/-- The SECTOR_SEQ of a sector whose header passes its check. -/
def Sector.seq (x : Sector) : Option Nat :=
  if u32 x.header 0 == 0x4A524E4C && crc8 248 (beNat (x.header.take 31)) == u8 x.header 31 then some (u32 x.header 4) else none

/-- The sector is erased. -/
def Sector.free (x : Sector) : Bool := x.header.all (· == 0xFF)

/-- The durable records of a sector, newest first. -/
def Sector.records (x : Sector) : List JRecord := x.words.filterMap readRecord

/-- The newest durable record of an index, with the sequence number of its sector. -/
def newestRecord (j : Journal) (k : Nat) : Option (Nat × JRecord) :=
  j.sectors.toList.foldl (fun best x =>
    match x.records.find? fun r => r.key == k with
    | none => best
    | some r =>
      match x.seq, best with
      | some q, some (p, b) => if p ≤ q then some (q, r) else some (p, b)
      | some q, none => some (q, r)
      | none, _ => best) none

/-- The durable reservation of an index in blocks; none without a record, or after a RETIRED one. -/
def durableBlock (j : Journal) (k : Nat) : Option Nat :=
  match newestRecord j k with
  | some (_, r) => if r.retired then none else some r.block
  | none => none

/-- A RETIRED record of an index is not durable yet. -/
def retiring (j : Journal) (k : Nat) : Bool := j.queue.any fun r => r.key == k && r.retired

/-- Append a record unless it is the last one that waits for its index. -/
def appendRecord (r : JRecord) (s : State) : State :=
  if (s.cipher.journal.queue.filter (·.key == r.key)).getLast? == some r then s
  else s.onJournal fun j => { j with queue := j.queue ++ [r] }

/-- Free sectors. -/
def freeSectors (j : Journal) : List Nat := indices 16 fun i => (j.sectors[Fin.ofNat 16 i]).free

/-- The sector with the lowest sequence number other than the head. -/
def oldestSector (j : Journal) : Option Nat :=
  ((List.range 16).foldl (fun (best : Option (Nat × Nat)) i =>
    match (j.sectors[Fin.ofNat 16 i]).seq, best with
    | some q, some (p, b) => if i = j.head || p ≤ q then some (p, b) else some (q, i)
    | some q, none => if i = j.head then none else some (q, i)
    | none, _ => best) none).map (·.2)

/-- A record read from sector `x` is the newest of its index and is not RETIRED (R304). -/
def stillNewest (j : Journal) (x : Sector) (k : Nat) : Option JRecord :=
  match newestRecord j k with
  | some (q, r) => if some q == x.seq && !r.retired then some { r with copied := true } else none
  | none => none

/-- Records of a sector that must be copied forward, oldest first. -/
def copiesOf (j : Journal) (i : Nat) : List JRecord :=
  let x := j.sectors[Fin.ofNat 16 i]
  (x.records.map (·.key)).eraseDups.reverse.filterMap (stillNewest j x)

/-- A copy that waits is dropped once a newer record of its index is durable (R304 step 1). -/
def dropStale (j : Journal) : Journal :=
  match j.reclaim with
  | none => j
  | some i => { j with queue := j.queue.filter fun r => !r.copied || (stillNewest j j.sectors[Fin.ofNat 16 i] r.key == some r) }

/-- Open a free sector when the head is full, and reclaim the oldest when fewer than 2 are free. -/
def turnJournal (j : Journal) : Journal :=
  let h := Fin.ofNat 16 j.head
  let j :=
    if (j.sectors[h]).words.length < 8188 then j
    else
      match freeSectors j with
      | [] => j
      | n :: _ =>
        let x := j.sectors[Fin.ofNat 16 n]
        { j with
          sectors := j.sectors.set (Fin.ofNat 16 n)
            { x with header := sectorHeader (((j.sectors[h]).seq.getD 0 + 1) % 2 ^ 32) x.erases.toNat, words := [] }
          head := n }
  if (freeSectors j).length < 2 && j.reclaim.isNone then
    match oldestSector j with
    | some i => { j with reclaim := some i, queue := j.queue ++ copiesOf j i }
    | none => j
  else j

/-- Program a word at the next free slot of the head sector. -/
def putWord (w : BitVec 64) (j : Journal) : Journal :=
  let h := Fin.ofNat 16 j.head
  { j with sectors := j.sectors.set h { j.sectors[h] with words := w :: (j.sectors[h]).words } }

/-- The head sector has no free slot left: no program is in progress until a sector has been opened (DESIGN CHOICE, log
entry 163). -/
def headFull (j : Journal) : Bool := decide (8188 ≤ (j.sectors[Fin.ofNat 16 j.head]).words.length)

/-- Put the record that has become durable in the head sector. -/
def putRecord (r : JRecord) (j : Journal) : Journal :=
  turnJournal (dropStale { putWord r.word j with queue := j.queue.drop 1, fails := 0, fault := false })

/-- What a slot whose program failed holds: free bits that fail their CRC (DESIGN CHOICE, log entry 138). -/
def failedWord (v : Nat) : BitVec 64 :=
  let b := v % 2 ^ 56
  BitVec.ofNat 64 (b + (crc8 56 b ^^^ 0xFF) * 2 ^ 56)

/-- Sectors that are neither erased nor have a header that passes its check. -/
def badSectors (j : Journal) : List Nat :=
  indices 16 fun i => !(j.sectors[Fin.ofNat 16 i]).free && (j.sectors[Fin.ofNat 16 i]).seq.isNone

/-- A change of the journal; when it opens a sector, the headers are checked, and each that fails raises `EV_JOURNAL_FAULT`
(R313; when they are checked after a start is a DESIGN CHOICE, log entry 163). -/
def stepJournal (f : Journal → Journal) (s : State) : State :=
  let t := s.onJournal f
  if t.cipher.journal.head = s.cipher.journal.head then t
  else (badSectors t.cipher.journal).foldl (fun t i => raiseEvent 130 cipherFn (i + 3 * 2 ^ 8) t) t

/-! ### Transmit counters (R300 to R302, R305) -/

/-- The reservation ceiling of a slot, at most 2³². -/
def slotCeiling (x : TxSlot) : Nat := min (2 ^ 32) ((x.next.toNat / 4096 + 1 + flag x.adv) * 4096)

/-- The ceiling of index `k` is durable; a record of a deleted key does not count while its RETIRED record waits (R305). -/
def ceilingDurable (s : State) (k : Nat) (x : TxSlot) : Bool :=
  match durableBlock s.cipher.journal k with
  | some b => !retiring s.cipher.journal k && decide (slotCeiling x ≤ b * 4096)
  | none => false

def setSlot (k : Nat) (x : TxSlot) (s : State) : State := s.onCipher fun c => { c with slots := mset c.slots k x }

/-- Reserve up to `ceiling` for index `k`; a new key's reservation is appended once the RETIRED record of the key before it
is durable (R305). -/
def reserveCeiling (k ceiling : Nat) (s : State) : State :=
  if retiring s.cipher.journal k then s else appendRecord ⟨k, ceiling / 4096, false, false⟩ s

/-- The advance reservation of R302. -/
def reserveAhead (k : Nat) (x : TxSlot) (s : State) : State :=
  let c := slotCeiling x
  if !x.adv && c < 2 ^ 32 && c ≤ x.next.toNat + 2048 then reserveCeiling k (c + 4096) s else s

/-- What taking a counter gives. -/
inductive CounterResult where
  | taken (c : BitVec 32) (s : State)
  /-- The frame waits for its reservation. -/
  | waits (s : State)
  | refused (rc : Nat) (s : State)

/-- Take the next counter of the key at index `k` for a frame of generation `g` (R301); the key of a frame of a generation
before the slot was opened has been deleted (R305).  Nothing is secured under a key that is not valid or has no
LINK_TX usage (R305); its refusal has RC_KEY_ABSENT or RC_KEY_USAGE (DESIGN CHOICE, log entry 139). -/
def takeCounter (k g : Nat) (s : State) : CounterResult :=
  match mget s.cipher.slots k with
  | none => .refused rcKeyAbsent s
  | some x =>
    if g < x.since then .refused rcKeyAbsent s
    else if !linkTxKey s.coh.active k then .refused (if keyValid s.coh.active k then rcKeyUsage else rcKeyAbsent) s
    else if x.next = 0xFFFFFFFF then
      let s := s.count cipherFn 7
      if s.cipher.exhausted.contains k then .refused rcNonceExhausted s
      else .refused rcNonceExhausted (raiseEvent 129 cipherFn k (s.onCipher fun c => { c with exhausted := k :: c.exhausted }))
    else if !ceilingDurable s k x then
      if s.cipher.journal.fault then .refused rcJournalFail s
      else .waits (reserveCeiling k (slotCeiling x) (s.count cipherFn 10))
    else
      let n := x.next + 1
      let y : TxSlot := { x with next := n, adv := x.adv && n.toNat % 4096 != 0 }
      let s := if x.next = 0xFFF00000 then raiseEvent 128 cipherFn (k + x.next.toNat * 2 ^ 32) s else s
      .taken x.next (reserveAhead k y (setSlot k y s))

/-- A key's deletion: a RETIRED record, and its slot freed (R305). -/
def retireKey (k : Nat) (s : State) : State :=
  if (mget s.cipher.slots k).isNone then s
  else
    let b := if retiring s.cipher.journal k then 1 else (durableBlock s.cipher.journal k).getD 1
    let s := appendRecord ⟨k, b, true, false⟩ s
    s.onCipher fun c => { c with slots := mdel c.slots k, exhausted := c.exhausted.filter (· != k) }

/-- A slot for a key with LINK_TX usage that has none; its first reservation is appended. -/
def openSlot (k : Nat) (s : State) : State :=
  if (mget s.cipher.slots k).isSome then s else reserveCeiling k 4096 (setSlot k ⟨0, false, s.coh.generation.toNat⟩ s)

/-- The key store takes up a commit from the set `old` (R299, R305). -/
def applyKeys (old : NMap Bytes) (s : State) : State :=
  let m := s.coh.active
  let marks := keyIndexes m 0x0703
  let s := marks.foldl (fun s k => retireKey k s) s
  let changed := (keyIndexes m 0x0702).filter fun k => keyEntry old k != keyEntry m k
  let gone := marks ++ changed
  let s := (gone.filter (linkTxKey m)).foldl (fun s k => openSlot k s) s
  let s := s.onCipher fun c => { c with cache := c.cache.filter fun k => !gone.contains k }
  s.onCoh fun c => { c with active := dropMarks false c.active, staged := dropMarks true c.staged }

/-- The counter table that a cold start rebuilds from the journal (R306). -/
def rebuildSlots (j : Journal) : NMap TxSlot :=
  let ks := (j.sectors.toList.flatMap fun x => x.records.map (·.key)).eraseDups
  ks.foldl (fun m k =>
    match durableBlock j k with
    | some b => mset m k ⟨BitVec.ofNat 32 (min 0xFFFFFFFF (b * 4096)), false, 0⟩
    | none => m) []

/-- Counter slots that a set needs (rule 1 of R310): keys with LINK_TX usage, and slots kept without. -/
def slotsNeeded (s : State) (m : NMap Bytes) : Nat :=
  let marks := keyIndexes m 0x0703
  let kept := s.cipher.slots.countP fun e => !marks.contains e.1 && !linkTxKey m e.1
  kept + (keyIndexes m 0x0702).countP (linkTxKey m)

/-! ### Journal commands -/

/-- The first waiting record `r` is durable: it sets ADV unless it is one of a deleted key, and a RETIRED one lets the next key reserve (R302, R305). -/
def recordDurable (r : JRecord) (s : State) : State :=
  let s := (stepJournal (putRecord r) s).count cipherFn (if r.copied then 12 else 9)
  match mget s.cipher.slots r.key with
  | none => s
  | some x =>
    if r.retired then reserveCeiling r.key (slotCeiling x) s
    else if !r.copied && !x.adv && !retiring s.cipher.journal r.key && r.block * 4096 == slotCeiling x + 4096 then setSlot r.key { x with adv := true } s
    else s

/-- The program of the first waiting record has failed: its slot is spent; the fourth failure is a fault (R303). -/
def recordFailed (s : State) : State :=
  let (v, s) := s.free
  let j := s.cipher.journal
  let s := stepJournal (fun j => turnJournal { putWord (failedWord v) j with fails := j.fails + 1 }) s
  if j.fails = 3 && !j.fault then
    let p := j.head + 2 ^ 8
    raiseSource 56 cipherFn p (raiseEvent 130 cipherFn p (s.onJournal fun j => { j with fault := true }))
  else s

/-- `JOURNAL_RETRY`: after a fault the first waiting record is written again. -/
def execJournalRetry (s : State) : Out :=
  if s.cipher.journal.fault then .next (s.onJournal fun j => { j with fails := 3 }) else .next s

/-- `SECTOR_ERASE_DONE`: the reclaimed sector, whose records have been copied, is free. -/
def execSectorEraseDone (ok : Bool) (s : State) : Out :=
  let j := s.cipher.journal
  match j.reclaim with
  | none => .next s
  | some i =>
    if j.queue.any (·.copied) then .next s
    else if ok then
      let e := (j.sectors[Fin.ofNat 16 i]).erases
      .next ((stepJournal (fun j => turnJournal
        { j with sectors := j.sectors.set (Fin.ofNat 16 i) { Sector.reset with erases := e + 1 }, reclaim := none }) s).count
          cipherFn 11)
    else .next (raiseEvent 130 cipherFn (i + 2 * 2 ^ 8) s)

end Sys2Proof.Machine
end

