-- ==== Sys2Proof/Machine/Cipher.lean ====
section
/-!
DEFINITION. The cipher pages: block operations, contexts, the register window and the cipher commands
(R284 to R291, R308 to R311).
-/

namespace Sys2Proof.Machine

def State.page (s : State) (p : Fin 32) : Page := s.cipher.pages[p]
def State.onPage (s : State) (p : Fin 32) (f : Page → Page) : State :=
  s.onCipher fun c => { c with pages := c.pages.set p (f c.pages[p]) }

/-- OWNER of a page: 0 firmware, 1 host, 2 cluster (R284). -/
def pageOwner (m : NMap Bytes) (p : Fin 32) : Nat := u8 (part m (pageFn p) 0x0701 0 0) 0
def pageCores (m : NMap Bytes) (p : Fin 32) : Nat := u8 (part m (pageFn p) 0x0701 0 0) 1

/-- The master may drive the page through its window (R285). -/
def pageAllowed (s : State) (by_ : BusMaster) (p : Fin 32) : Bool :=
  match by_ with
  | .firmware => pageOwner s.coh.active p == 0
  | .core c => pageOwner s.coh.active p == 2 && bit (pageCores s.coh.active p) c.val
  | _ => false

/-- Page and engine work. -/
def pageWorks (s : State) (p : Fin 32) : Bool := s.works cipherFn && s.works (pageFn p)

/-- A denied access is counted and reported (R285). -/
def denyPage (p : Fin 32) (s : State) : State := raiseSource 54 (pageFn p) p.val (s.count cipherFn 13)

/-! ### Operations (R287, R288) -/

/-- The operands of an operation. -/
structure PageOp where
  op : Nat
  block : Nat
  /-- 0 means 16. -/
  len : Nat
  keyIndex : Nat
  tagLen : Nat
  relLen : Nat
  inp : Bytes
  tag : Bytes

def opLen (o : PageOp) : Nat := if o.len = 0 then 16 else o.len

/-- Block `b` of the quarantine over the first LEN bytes, the rest zero. -/
def qBlock (x : Page) (o : PageOp) : Bytes :=
  let n := opLen o
  slice x.q (16 * o.block) n ++ zeros (16 - n)

/-- Zero quarantine, X and OUT. -/
def wipePage (x : Page) : Page := { x with q := zeros 1280, held := false, x := zeros 16, out := zeros 16 }

/-- The usage may be loaded into page `p` (R297). -/
def usageAllowed (m : NMap Bytes) (p : Fin 32) (usage : Nat) : Bool :=
  if usage = 1 || usage = 3 then p.val < 4
  else usage == 4 && (pageOwner m p == 1 || pageOwner m p == 2)

/-- Firmware or the engine loads the key at index `k` into `n` pages, one after the other, and takes `blocks` AES blocks. -/
def useKey (k n blocks : Nat) (s : State) : State :=
  let s := if s.cipher.cache.contains k then s else s.count cipherFn 3
  let s := s.onCipher fun c => { c with cache := (k :: c.cache.filter (· != k)).take 1024 }
  (s.countN cipherFn 2 n).countN cipherFn 1 blocks

/-- KEY_LOAD. -/
def loadKey (p : Fin 32) (i : Nat) (s : State) : Nat × State :=
  let m := s.coh.active
  if !keyValid m i then (rcKeyAbsent, s)
  else if !usageAllowed m p (keyUsage m i) then (rcKeyUsage, s)
  else
    match openKey m i with
    | .bad rc =>
      let s := s.count cipherFn 3
      (rc, if rc = rcUnwrapFail then raiseSource 55 cipherFn i (s.count cipherFn 14) else s)
    | .good key _ =>
      (rcOk, useKey i 1 0 (s.onPage p fun x => { x with key := some (i, key), x := zeros 16 }))

/-- An operation that needs a loaded key and one AES block. -/
def withKey (p : Fin 32) (s : State) (f : Bytes → Page → Page) : Nat × State :=
  match (s.page p).key with
  | none => (rcKeyAbsent, s)
  | some (_, k) => (rcOk, (s.onPage p (f k)).count cipherFn 1)

/-- The tag computed over the page's X: first TAG_LEN bytes of X xor E_K(A0). -/
def pageTag (k : Bytes) (x : Page) (a0 : Bytes) (n : Nat) : Bytes := (xorBytes x.x (aesEnc k a0)).take n

/-- TAG_LEN is one of the lengths of R288. -/
def tagLenOk (n : Nat) : Bool := [4, 6, 8, 10, 12, 14, 16].contains n

/-- The reason for which TAG_VERIFY fails before its comparison, and whether it wipes the page; a LEN above 16 or another
TAG_LEN counts as a field out of range (R289, R290). -/
def verifyRefused (x : Page) (o : PageOp) : Option (Nat × Bool) :=
  if 80 ≤ o.block || 16 < o.len || 1280 < o.relLen || !tagLenOk o.tagLen then some (rcFieldRange, true)
  else if x.key.isNone then some (rcKeyAbsent, false)
  else none

/-- The received tag matches. -/
def tagMatches (x : Page) (o : PageOp) : Bool :=
  match x.key with
  | none => false
  | some (_, k) => pageTag k x o.inp o.tagLen == o.tag.take o.tagLen

/-- An operation other than TAG_VERIFY and the context operations: its reason and the state after it. -/
def runPageOp (p : Fin 32) (o : PageOp) (s : State) : Nat × State :=
  if 80 ≤ o.block || 16 < o.len then (rcFieldRange, s)
  else
    match o.op with
    | 0 => (rcOk, s)
    | 1 => loadKey p o.keyIndex s
    | 2 => withKey p s fun k x => { x with out := aesEnc k o.inp }
    | 3 => withKey p s fun k x => { x with out := aesDec k o.inp }
    | 4 => withKey p s fun k x => { x with x := aesEnc k (xorBytes x.x o.inp) }
    | 5 => if (s.page p).held then (rcQuarantineHeld, s) else (rcOk, s.onPage p fun x => { x with out := x.x })
    | 6 =>
      (rcOk, s.onPage p fun x =>
        { x with q := patch x.q (16 * o.block) (slice o.inp 0 (opLen o) ++ zeros (16 - opLen o)), held := true })
    | 7 => withKey p s fun k x =>
        { x with q := patch x.q (16 * o.block) (xorBytes (slice x.q (16 * o.block) (opLen o)) (aesEnc k o.inp)) }
    | 8 => withKey p s fun k x => { x with x := aesEnc k (xorBytes x.x (qBlock x o)) }
    | 10 => (rcOk, s.onPage p wipePage)
    | _ => (rcFieldRange, s)

/-- The operands that the page's registers hold. -/
def regOp (x : Page) (op block len : Nat) : PageOp where
  op := op
  block := block
  len := len
  keyIndex := x.keyIndex.toNat
  tagLen := x.tagLen.toNat
  relLen := x.relLen.toNat
  inp := x.inp
  tag := x.tag

/-! ### AES cores (R286) -/

/-- An operation that an AES core runs until its end: one that fails takes no core, and TAG_VERIFY's one block ends long
before its verdict. -/
def PageJob.onCore (j : PageJob) : Bool := j.op != 9 && j.reason == rcOk

/-- Page `p` has an operation that waits for a core. -/
def pageWaits (s : State) (p : Fin 32) : Bool :=
  !s.cipher.cores.contains (some p) && s.cipher.pages[p].busy.any (·.onCore)

/-- The page of 0–3, and the page of 4–31, that is next in rotation. -/
def nextLow (s : State) : Option (Fin 32) :=
  ((List.range 4).map fun i => Fin.ofNat 32 ((s.cipher.lastLow.val + 1 + i) % 4)).find? (pageWaits s)
def nextHigh (s : State) : Option (Fin 32) :=
  ((List.range 28).map fun i => Fin.ofNat 32 (4 + (s.cipher.lastHigh.val - 4 + 1 + i) % 28)).find? (pageWaits s)

/-- Core `c`, if it is free and in service, takes an operation: of pages 0–3 first, but after seven such grants in a row of
one of pages 4–31 that waits. -/
def grantCore (s : State) (c : Fin 4) : State :=
  if s.cipher.cores[c].isSome || s.cipher.coresOut.getLsbD c.val then s
  else
    let high := nextHigh s
    let take (p : Fin 32) (low : Bool) : State := s.onCipher fun x =>
      { x with cores := x.cores.set c (some p), lastLow := if low then p else x.lastLow
               lastHigh := if low then x.lastHigh else p, lowRun := if low && high.isSome then x.lowRun + 1 else 0 }
    match nextLow s, high with
    | some p, some q => if 7 ≤ s.cipher.lowRun then take q false else take p true
    | some p, none => take p true
    | none, some q => take q false
    | none, none => s

/-- Every free core takes an operation that waits. -/
def grantCores (s : State) : State := (List.finRange 4).foldl grantCore s

/-- The core that serves page `p`, if one does, is free. -/
def leaveCore (p : Fin 32) (s : State) : State :=
  s.onCipher fun x => { x with cores := x.cores.map fun y => if y == some p then none else y }

/-- Page `p` is busy with an operation that will post `rc`. -/
def beginJob (p : Fin 32) (op rc : Nat) (good : Bool) (s : State) : State :=
  grantCores (s.onPage p fun x =>
    { x with busy := some ⟨op, rc, good, none, x.dest, x.relLen.toNat⟩, done := false })

/-- A write of PG_CMD by `by_`: denied, discarded while BUSY, or `f` runs and gives the reason that its end posts. -/
def issueOp (by_ : BusMaster) (p : Fin 32) (op : Nat) (s : State) (f : State → Nat × State) : State :=
  if coreOff s by_ then s
  else if !pageAllowed s by_ p then denyPage p s
  else if !pageWorks s p then s
  else if (s.page p).busy.isSome then s.count cipherFn 13
  else
    let (rc, t) := f s
    beginJob p op rc false t

/-- Issue a plain operation with the operands of the page's registers. -/
def issuePlain (by_ : BusMaster) (p : Fin 32) (op block len : Nat) (s : State) : State :=
  issueOp by_ p op s fun s => runPageOp p (regOp (s.page p) op block len) s

/-- `KEY_LOAD`. -/
def execKeyLoad (by_ : BusMaster) (p : Fin 32) (s : State) : Out := .next (issuePlain by_ p 1 0 0 s)
/-- `NOP`. -/
def execPageNop (by_ : BusMaster) (p : Fin 32) (s : State) : Out := .next (issuePlain by_ p 0 0 0 s)
/-- `ENC`. -/
def execEnc (by_ : BusMaster) (p : Fin 32) (s : State) : Out := .next (issuePlain by_ p 2 0 0 s)
/-- `DEC`. -/
def execDec (by_ : BusMaster) (p : Fin 32) (s : State) : Out := .next (issuePlain by_ p 3 0 0 s)
/-- `MAC_IN`. -/
def execMacIn (by_ : BusMaster) (p : Fin 32) (s : State) : Out := .next (issuePlain by_ p 4 0 0 s)
/-- `MAC_READ`. -/
def execMacRead (by_ : BusMaster) (p : Fin 32) (s : State) : Out := .next (issuePlain by_ p 5 0 0 s)
/-- `LOAD_Q`. -/
def execLoadQ (by_ : BusMaster) (p : Fin 32) (block : Fin 128) (len : Fin 16) (s : State) : Out :=
  .next (issuePlain by_ p 6 block.val len.val s)
/-- `CTR_Q`. -/
def execCtrQ (by_ : BusMaster) (p : Fin 32) (block : Fin 128) (len : Fin 16) (s : State) : Out :=
  .next (issuePlain by_ p 7 block.val len.val s)
/-- `MAC_Q`. -/
def execMacQ (by_ : BusMaster) (p : Fin 32) (block : Fin 128) (len : Fin 16) (s : State) : Out :=
  .next (issuePlain by_ p 8 block.val len.val s)
/-- `CLEAR`. -/
def execClear (by_ : BusMaster) (p : Fin 32) (s : State) : Out := .next (issuePlain by_ p 10 0 0 s)

/-- PG_DEST of a page lies in general SRAM with its whole release, which the cores may write (R288); a firmware page's fails
in the same way (DESIGN CHOICE, log entry 140). -/
def destOk (s : State) (p : Fin 32) : Bool :=
  pageOwner s.coh.active p == 1 || inGeneral (s.page p).dest.toNat (max 1 (s.page p).relLen.toNat)

/-- A TAG_VERIFY command: the comparison starts; its verdict follows 280 fabric cycles later. -/
def issueVerify (by_ : BusMaster) (p : Fin 32) (block len : Nat) (s : State) : State :=
  let o := regOp (s.page p) 9 block len
  if coreOff s by_ then s
  else if !pageAllowed s by_ p then denyPage p s
  else if !pageWorks s p then s
  else if (s.page p).busy.isSome then s.count cipherFn 13
  else
    match verifyRefused (s.page p) o with
    | some (rc, wipe) => beginJob p 9 rc false (if wipe then s.onPage p wipePage else s)
    | none =>
      if !destOk s p then beginJob p 9 rcPageAccess false (s.onPage p fun x => { x with q := zeros 1280, held := false })
      else beginJob p 9 rcOk (tagMatches (s.page p) o) (s.count cipherFn 1)

/-- `TAG_VERIFY`. -/
def execTagVerify (by_ : BusMaster) (p : Fin 32) (s : State) : Out := .next (issueVerify by_ p 0 0 s)

/-- The verdict of job `j` on page `p`: a match releases, both outcomes wipe. -/
def pageVerdict (p : Fin 32) (j : PageJob) (s : State) : State :=
  let x := s.page p
  let s := if j.good && pageOwner s.coh.active p != 1 then s.store j.dest.toNat (x.q.take j.relLen) else s
  let rc := if j.good then rcOk else rcTagFail
  (s.onPage p fun x => { wipePage x with busy := none, done := true, reason := BitVec.ofNat 16 rc }).count cipherFn
    (if j.good then 4 else 5)

/-- A cluster page's DONE raises its scheduler source (R512). -/
def pageDone (p : Fin 32) (s : State) : State :=
  if pageOwner s.coh.active p = 2 then raiseSched (16 + p.val) s else s

/-- The duplicated datapaths of core `c` disagree: it is out of service, and the page that it served waits for another. -/
def coreFails (c : Fin 4) (s : State) : State :=
  raiseSource 53 cipherFn c.val (grantCores (s.onCipher fun x =>
    { x with coresOut := x.coresOut ||| BitVec.ofNat 4 (2 ^ c.val), cores := x.cores.set c none }))

/-- `PAGE_OPERATION_DONE`: the operation that a core runs, or one that failed, ends.  A disagreement of the duplicated datapaths
takes its core out of service and the operation runs again; the blocks of a `PAGE_RUN` and of a link frame, which run in one
step, may disagree in the same way on a page that is not busy (log entry 141). -/
def execPageOperationDone (p : Fin 32) (disagree : Option (Fin 4)) (s : State) : Out :=
  match disagree, (s.page p).busy with
  | some c, _ => .next (coreFails c (leaveCore p s))
  | none, none => .next s
  | none, some j =>
    if j.op = 9 && j.reason == rcOk || pageWaits s p then .next s
    else
      .next (pageDone p (grantCores (leaveCore p (s.onPage p fun x =>
        { x with busy := none, done := true, reason := BitVec.ofNat 16 j.reason }))))

/-! ### Contexts (R291) -/

/-- `n` free bytes. -/
def freeBytes : Nat → State → Bytes × State
  | 0, s => ([], s)
  | n + 1, s =>
    let (v, s) := s.free
    let (bs, s) := freeBytes n s
    (BitVec.ofNat 8 v :: bs, s)

/-- The address suits the form: Backwater for clear, general SRAM for wrapped. -/
def ctxPlace (wrapped : Bool) (addr : Nat) : Bool := if wrapped then inGeneral addr 72 else inBackwater addr 64

/-- CTX_SAVE: the spec gives the context's length and content but no layout, so the bytes written are free values that
stand for it (log entry 12). -/
def saveCtx (p : Fin 32) (wrapped : Bool) (addr : Nat) (s : State) : Nat × State :=
  let x := s.page p
  if 4 ≤ p.val then (rcPageAccess, s)
  else if x.held then (rcQuarantineHeld, s)
  else if !ctxPlace wrapped addr then (rcPageAccess, s)
  else
    let (blob, s) := freeBytes (if wrapped then 72 else 64) s
    let c : SavedCtx :=
      { blob := blob, wrapped := wrapped, key := x.key, x := x.x, out := x.out, tagLen := x.tagLen, relLen := x.relLen }
    (rcOk, ((s.store addr blob).onCipher fun y => { y with contexts := c :: y.contexts }).count cipherFn 15)

/-- CTX_RESTORE: a wrapped context that the engine did not write under its present context key fails to unwrap; clear bytes
that it did not write load free values. -/
def restoreCtx (p : Fin 32) (wrapped : Bool) (addr : Nat) (s : State) : Nat × State :=
  if 4 ≤ p.val then (rcPageAccess, s)
  else if !ctxPlace wrapped addr then (rcPageAccess, s)
  else
    let blob := s.load addr (if wrapped then 72 else 64)
    match s.cipher.contexts.find? fun c => c.wrapped == wrapped && c.blob == blob with
    | some c =>
      (rcOk, (s.onPage p fun x =>
        { x with key := c.key, x := c.x, out := c.out, tagLen := c.tagLen, relLen := c.relLen }).count cipherFn 16)
    | none =>
      if wrapped then (rcUnwrapFail, s.count cipherFn 14)
      else
        let (k, s) := freeBytes 32 s
        let (i, s) := s.free
        let (a, s) := freeBytes 16 s
        let (b, s) := freeBytes 16 s
        let (t, s) := s.free
        let (l, s) := s.free
        (rcOk, (s.onPage p fun x =>
          { x with key := some (i % 262144, k), x := a, out := b, tagLen := BitVec.ofNat 5 t
                   relLen := BitVec.ofNat 11 l }).count cipherFn 16)

/-- CTX_SAVE or CTX_RESTORE through PG_CMD, which names no address: on a firmware page the context lies at PG_DEST, wrapped
where that is in general SRAM (DESIGN CHOICE, log entry 140). -/
def ctxCommand (p : Fin 32) (op : Nat) (s : State) : Nat × State :=
  let a := (s.page p).dest.toNat
  if op = 11 then saveCtx p (inGeneral a 72) a s else restoreCtx p (inGeneral a 72) a s

/-- `CTX_SAVE`. -/
def execCtxSave (by_ : BusMaster) (p : Fin 32) (wrapped : Bool) (addr : Nat) (s : State) : Out :=
  .next (issueOp by_ p 11 s (saveCtx p wrapped addr))

/-- `CTX_RESTORE`. -/
def execCtxRestore (by_ : BusMaster) (p : Fin 32) (wrapped : Bool) (addr : Nat) (s : State) : Out :=
  .next (issueOp by_ p 12 s (restoreCtx p wrapped addr))

/-! ### Register window (R289) -/

/-- PG_STATUS. -/
def pageStatusWord (x : Page) : Nat :=
  flag x.busy.isSome + 2 * flag x.held + 4 * flag x.key.isSome + 8 * flag x.done + x.reason.toNat * 2 ^ 16

/-- The register at `off`. -/
def pageRead (x : Page) (off : Nat) : Nat :=
  if off = 0x004 then pageStatusWord x
  else if off = 0x008 then x.keyIndex.toNat
  else if off = 0x00C then x.tagLen.toNat
  else if off = 0x010 then x.relLen.toNat
  else if off = 0x018 then x.dest.toNat % 2 ^ 32
  else if off = 0x01C then x.dest.toNat / 2 ^ 32
  else if 0x020 ≤ off && off < 0x030 then u32 x.inp (off / 4 * 4 - 0x020)
  else if 0x030 ≤ off && off < 0x040 then u32 x.out (off / 4 * 4 - 0x030)
  else 0

/-- A write of the register at `off`, PG_CMD apart.  PG_DEST is 8-byte aligned, so its bits [2:0] are not stored (DESIGN
CHOICE, log entry 114). -/
def pageWrite (off : Nat) (v : BitVec 32) (x : Page) : Page :=
  if off = 0x008 then { x with keyIndex := v.setWidth 18 }
  else if off = 0x00C then { x with tagLen := v.setWidth 5 }
  else if off = 0x010 then { x with relLen := v.setWidth 11 }
  else if off = 0x018 then { x with dest := BitVec.ofNat 40 (x.dest.toNat / 2 ^ 32 * 2 ^ 32 + v.toNat / 8 * 8) }
  else if off = 0x01C then { x with dest := BitVec.ofNat 40 (x.dest.toNat % 2 ^ 32 + v.toNat % 256 * 2 ^ 32) }
  else if 0x020 ≤ off && off < 0x030 then { x with inp := patch x.inp (off / 4 * 4 - 0x020) (leBytes 4 v.toNat) }
  else if 0x040 ≤ off && off < 0x050 then { x with tag := patch x.tag (off / 4 * 4 - 0x040) (leBytes 4 v.toNat) }
  else x

/-- A write of PG_CMD: OP, block and LEN; a block beyond 79 fails every operation (R289). -/
def writePgCmd (by_ : BusMaster) (p : Fin 32) (v : Nat) (s : State) : State :=
  let op := bits v 3 0
  let block := bits v 10 4
  let len := bits v 19 16
  if op = 9 then issueVerify by_ p block len s
  else if (op = 11 || op = 12) && block < 80 then issueOp by_ p op s (ctxCommand p op)
  else issuePlain by_ p op block len s

/-- `PAGE_ACCESS`: a denied access reads zero or is discarded and is reported; any other takes place. -/
def execPageAccess (by_ : BusMaster) (p : Fin 32) (offset : Nat) (value : Option (BitVec 32)) (s : State) : Out :=
  if coreOff s by_ then .next s
  else if !pageAllowed s by_ p then
    let s := denyPage p s
    .next (if value.isSome then s else s.onKci fun k => { k with readOut := 0 })
  else
    match value with
    | some v => .next (if offset = 0 then writePgCmd by_ p v.toNat s else s.onPage p (pageWrite offset v))
    | none => .next (s.onKci fun k => { k with readOut := pageRead (s.page p) offset })

/-! ### Commands (R298, R309) -/

/-- `CIPHER_PAGE_CONFIG`. -/
def execCipherPageConfig (buf : Bytes) (s : State) : Out :=
  .next (runKci 0x0701 buf (fun s m req body =>
    if 2 < u8 body 0 || (u8 body 0 == 2) != (u8 body 1 != 0) then no rcFieldRange
    else stageOne 0x0701 0 0 [⟨2, 2, .zero⟩] s m req body) s)

/-- One entry of a `KEY_IMPORT`: the index and the 64 bytes to store. -/
def importEntry (form : Nat) (kek e : Bytes) : Option (Nat × Bytes) × Nat :=
  if form = 2 then
    match keyUnwrap deviceKeyBytes (e.take 48) with
    | none => (none, rcUnwrapFail)
    | some d =>
      match checkKey d (u32 d 32) with
      | .bad rc => (none, rc)
      | .good _ _ => if makeEntry d == e then (some (u32 d 32, e), rcOk) else (none, rcUnwrapFail)
  else
    match keyUnwrap kek (slice e 8 48) with
    | none => (none, rcUnwrapFail)
    | some d =>
      match checkKey d (u32 e 0) with
      | .bad rc => (none, rc)
      | .good _ _ => (some (u32 e 0, makeEntry d), rcOk)

/-- Import a run of entries; the first failure gives its number and reason. -/
def importAll (form : Nat) (kek : Bytes) : Nat → List Bytes → State → Option (Nat × Nat) × State
  | _, [], s => (none, s)
  | n, e :: es, s =>
    match importEntry form kek e with
    | (some (i, b), _) => importAll form kek (n + 1) es (s.stage 0x0700 0x0702 0 i b)
    | (none, rc) => (some (n, rc), s)

/-- The key that unwraps the entries of a form, or the refusal of its WRAP_INDEX. -/
def importKek (s : State) (form wrap : Nat) : KeyCheck :=
  if form = 0 then .good provisioningKeyBytes 8
  else if form = 2 then .good deviceKeyBytes 8
  else if !keyValid s.coh.active wrap then .bad rcKeyAbsent
  else if keyUsage s.coh.active wrap != 8 then .bad rcKeyUsage
  else openKey s.coh.active wrap

/-- `KEY_IMPORT`. -/
def execKeyImport (buf : Bytes) (s : State) : Out :=
  .next (runKci 0x0702 buf (fun s _ req body =>
    let form := u8 body 0
    let count := u16 body 2
    let wrap := u32 body 4
    let size := if form = 2 then 64 else 56
    let es := runEntries 8 size count body
    if u8 body 1 != 0 then no rcReservedNonzero
    else if 2 < form || count = 0 || (if req.indirect then 16384 else if form = 2 then 63 else 72) < count
        || (form != 1 && wrap != 0xFFFFFFFF) then no rcFieldRange
    else if form != 2 && es.any fun e => u32 e 4 != 0 then no rcReservedNonzero
    else if form = 2 && es.any fun e => field e 51 5 != 0 || u32 e 60 != 0 then no rcReservedNonzero
    else if form != 2 && es.any fun e => 262144 ≤ u32 e 0 then no rcFieldRange
    else
      match importKek s form wrap with
      | .bad rc => .refuse rc 0 (leBytes 4 0xFFFFFFFF)
      | .good kek _ =>
        match importAll form kek 0 es s with
        | (some (n, rc), _) =>
          .done (if rc = rcUnwrapFail then s.count cipherFn 14 else s) rc 0 (leBytes 4 n) []
        | (none, t) => if 65536 < s.writesOf 0x0702 + count then no rcTableFull else ok (addWrites 0x0702 count t)) s)

/-- Stage the deletion of a key: its entry empties and its index is marked. -/
def stageDelete (s : State) (i : Nat) : State := (s.stage 0x0700 0x0702 0 i []).stage 0x0700 0x0703 0 i [1]

/-- `KEY_DELETE`. -/
def execKeyDelete (buf : Bytes) (s : State) : Out :=
  .next (runKci 0x0703 buf (fun s _ _ body =>
    let count := u16 body 0
    let is := (List.range count).map fun i => u32 body (4 + 4 * i)
    if u16 body 2 != 0 then no rcReservedNonzero
    else if count = 0 || 1015 < count || is.any (262144 ≤ ·) then no rcFieldRange
    else
      if 65536 < s.writesOf 0x0702 + count then no rcTableFull
      else ok (is.foldl stageDelete (addWrites 0x0702 count s))) s)

/-- `KEY_STORE_READ`. -/
def execKeyStoreRead (buf : Bytes) (s : State) : Out :=
  .next (runKci 0x0704 buf (fun s _ req body =>
    let first := u32 body 0
    let count := u32 body 4
    if count = 0 || (if req.indirect then 16384 else 63) < count || 262144 < first + count then no rcFieldRange
    else .done s rcOk 0 [] ((List.range count).flatMap fun i => slice (keyEntry s.coh.active (first + i)) 0 64)) s)

/-- The operand of one operation of a `PAGE_RUN`. -/
def runOperand (e : Bytes) : PageOp where
  op := u8 e 0
  block := u8 e 1
  len := u8 e 2
  tagLen := u8 e 3
  keyIndex := u32 e 4
  relLen := u16 e 8
  inp := slice e 16 16
  tag := slice e 32 16

/-- One operation of a host page: reason, bytes released, state. -/
def hostOp (p : Fin 32) (o : PageOp) (s : State) : Nat × Bytes × State :=
  if o.op = 9 then
    match verifyRefused (s.page p) o with
    | some (rc, wipe) => (rc, [], if wipe then s.onPage p wipePage else s)
    | none =>
      let x := s.page p
      let good := tagMatches x o
      let s := ((s.onPage p wipePage).count cipherFn 1).count cipherFn (if good then 4 else 5)
      if good then (rcOk, x.q.take o.relLen, s) else (rcTagFail, [], s)
  else if (o.op = 11 || o.op = 12) && o.block < 80 then (rcPageAccess, [], s)
  else
    let (rc, s) := runPageOp p o s
    (rc, [], s)

/-- OUT of an operation in the response. -/
def hostOut (p : Fin 32) (o : PageOp) (rc : Nat) (s : State) : Bytes :=
  if rc == rcOk && (o.op = 2 || o.op = 3 || o.op = 5) then (s.page p).out else zeros 16

/-- Run operations until one does not return `RC_OK`: number run, reason, OUT values, released bytes, state. -/
def hostRun (p : Fin 32) : List PageOp → Nat → Bytes → Bytes → State → Nat × Nat × Bytes × Bytes × State
  | [], n, outs, rel, s => (n, rcOk, outs, rel, s)
  | o :: os, n, outs, rel, s =>
    let (rc, r, s) := hostOp p o s
    let outs := outs ++ hostOut p o rc s
    if rc == rcOk then hostRun p os (n + 1) outs (rel ++ r) s else (n + 1, rc, outs, rel ++ r, s)

/-- The page that a function ID names. -/
def pageOf (fn : Nat) : Fin 32 := Fin.ofNat 32 (fn - 0x0720)

/-- `PAGE_RUN`: a partial effect stands (R290). -/
def execPageRun (buf : Bytes) (s : State) : Out :=
  .next (runKci 0x0705 buf (fun s _ req body =>
    let p := pageOf req.fn
    let count := u8 body 1
    let es := runEntries 8 48 count body
    if u8 body 0 != 0 || field body 2 6 != 0 || es.any fun e => field e 10 6 != 0 then no rcReservedNonzero
    else if count = 0 || 84 < count then no rcFieldRange
    else if !s.enabled req.fn || !s.enabled cipherFn then no rcFunctionDisabled
    else if (s.fnState cipherFn).inReset then no rcFunctionInReset
    else if pageOwner s.coh.active p != 1 then no rcPageAccess
    else
      let (n, rc, outs, rel, t) := hostRun p (es.map runOperand) 0 [] [] s
      let t := t.onPage p fun x => { x with done := true, reason := BitVec.ofNat 16 rc }
      .done t rc 0 (leBytes 1 n ++ zeros 7) (outs ++ rel)) s)

/-- `KEY_COUNTER_READ`. -/
def execKeyCounterRead (buf : Bytes) (s : State) : Out :=
  .next (runKci 0x0706 buf (fun s _ _ body =>
    let k := u32 body 0
    if 262144 ≤ k then no rcFieldRange
    else
      match mget s.cipher.slots k with
      | none => .done s rcOk 0 (zeros 16) []
      | some x =>
        .done s rcOk 0 (leBytes 4 x.next.toNat ++ leBytes 8 (slotCeiling x) ++ leBytes 1 (flag (ceilingDurable s k x))
          ++ zeros 3) []) s)

/-! ### Resets, commits, status -/

/-- A reset of page `p` clears it (R308). -/
def resetPage (p : Fin 32) (s : State) : State := grantCores (leaveCore p (s.onPage p fun _ => Page.reset))

/-- A reset of the engine: cache, context key and cores out of service (R306, R308).  Clear contexts stay in Backwater; with the
context key every wrapped one is lost. -/
def resetCipher (s : State) : State :=
  s.onCipher fun c =>
    { c with coresOut := 0, cores := Vector.replicate 4 none, lastLow := 3, lastHigh := 31, lowRun := 0, cache := []
             contexts := c.contexts.filter fun x => !x.wrapped }

/-- A commit that changes the owner of page `p` clears it (R284). -/
def applyPage (old : NMap Bytes) (p : Fin 32) (s : State) : State :=
  if pageOwner old p != pageOwner s.coh.active p then resetPage p s else s

/-- Status of 0x0700 (R311). -/
def cipherStatus (s : State) : Bytes :=
  let j := s.cipher.journal
  let m := s.coh.active
  let busy := (List.finRange 32).foldl (fun a p => a + flag (s.page p).busy.isSome * 2 ^ p.val) 0
  leBytes 4 ((keyIndexes m 0x0702).countP (keyValid m)) ++ leBytes 4 s.cipher.slots.length ++ leBytes 1 j.head
    ++ leBytes 1 (freeSectors j).length ++ leBytes 1 (if j.fault then 2 else flag j.reclaim.isSome)
    ++ leBytes 1 (popcount 4 s.cipher.coresOut.toNat) ++ leBytes 4 busy

/-- Status of page `p`. -/
def pageStatus (s : State) (p : Fin 32) : Bytes :=
  let x := s.page p
  leBytes 1 (pageOwner s.coh.active p) ++ leBytes 1 (if x.busy.isSome then 1 else 2 * flag x.held) ++ zeros 2
    ++ leBytes 4 (match x.key with
      | some (i, _) => i
      | none => 0xFFFFFFFF)

end Sys2Proof.Machine
end

