-- ==== Sys2Proof/Machine/Sha.lean ====
section
/-!
DEFINITION. SHA-256 (FIPS 180-4) and the verification of ECDSA P-256 signatures (FIPS 186-4), which authenticate
firmware images (R464, R465).  Integers stand in big-endian byte order as those standards give it.
-/

namespace Sys2Proof.Machine

abbrev Word32 := BitVec 32

/-! ### SHA-256 -/

/-- The first `n` bits of the `k`-th root of `x`, found from the top bit down. -/
def rootBits (k x : Nat) : Nat → Nat → Nat
  | 0, r => r
  | n + 1, r => if (r + 2 ^ n) ^ k ≤ x then rootBits k x n (r + 2 ^ n) else rootBits k x n r

/-- The first 32 bits of the fraction of the `k`-th root of `p`. -/
def rootFraction (k p : Nat) : Word32 := BitVec.ofNat 32 (rootBits k (p * 2 ^ (32 * k)) 40 0)

/-- The first 64 primes. -/
def shaPrimes : List Nat := (List.range 312).filter fun n => decide (2 ≤ n) && (List.range n).all fun d => d < 2 || n % d != 0

/-- The round constants: the cube roots of the first 64 primes. -/
def shaRounds : List Word32 := shaPrimes.map (rootFraction 3)

/-- The initial hash value: the square roots of the first 8 primes. -/
def shaStart : List Word32 := (shaPrimes.take 8).map (rootFraction 2)

/-- `n` further words of the message schedule, newest first. -/
def shaExtend : Nat → List Word32 → List Word32
  | 0, w => w
  | n + 1, w =>
    let a := w.getD 14 0
    let b := w.getD 1 0
    let s0 := a.rotateRight 7 ^^^ a.rotateRight 18 ^^^ (a >>> 3)
    let s1 := b.rotateRight 17 ^^^ b.rotateRight 19 ^^^ (b >>> 10)
    shaExtend n ((w.getD 15 0 + s0 + w.getD 6 0 + s1) :: w)

/-- One round on the eight working variables. -/
def shaRound (v : List Word32) (kw : Word32) : List Word32 :=
  match v with
  | [a, b, c, d, e, f, g, h] =>
    let s1 := e.rotateRight 6 ^^^ e.rotateRight 11 ^^^ e.rotateRight 25
    let t1 := h + s1 + ((e &&& f) ^^^ (~~~e &&& g)) + kw
    let s0 := a.rotateRight 2 ^^^ a.rotateRight 13 ^^^ a.rotateRight 22
    let t2 := s0 + ((a &&& b) ^^^ (a &&& c) ^^^ (b &&& c))
    [t1 + t2, a, b, c, d + t1, e, f, g]
  | _ => v

/-- The compression of one 64-byte block. -/
def shaBlock (h : List Word32) (block : Bytes) : List Word32 :=
  let w := (chunks 4 16 block).map fun b => BitVec.ofNat 32 (beNat b)
  let ws := (shaExtend 48 w.reverse).reverse
  let v := (List.zipWith (· + ·) shaRounds ws).foldl shaRound h
  List.zipWith (· + ·) h v

/-- The message with its padding. -/
def shaPad (m : Bytes) : Bytes :=
  m ++ [0x80] ++ zeros ((119 - m.length % 64) % 64) ++ beBytes 8 (8 * m.length)

/-- SHA-256 of a message, 32 bytes. -/
def sha256 (m : Bytes) : Bytes :=
  let p := shaPad m
  ((chunks 64 (p.length / 64) p).foldl shaBlock shaStart).flatMap fun w => beBytes 4 w.toNat

/-! ### P-256 -/

def p256 : Nat := 0xFFFFFFFF00000001000000000000000000000000FFFFFFFFFFFFFFFFFFFFFFFF
def p256Order : Nat := 0xFFFFFFFF00000000FFFFFFFFFFFFFFFFBCE6FAADA7179E84F3B9CAC2FC632551
def p256B : Nat := 0x5AC635D8AA3A93E7B3EBBD55769886BC651D06B0CC53B0F63BCE3C3E27D2604B
def p256Gx : Nat := 0x6B17D1F2E12C4247F8BCE6E563A440F277037D812DEB33A0F4A13945D898C296
def p256Gy : Nat := 0x4FE342E2FE1A7F9B8EE7EB4A7C0F9E162BCE33576B315ECECBB6406837BF51F5

/-- The low `bits` bits of `e` as exponent of `b`, modulo `m`. -/
def powMod (m : Nat) : Nat → Nat → Nat → Nat
  | 0, _, _ => 1 % m
  | n + 1, b, e =>
    let r := powMod m n (b * b % m) (e / 2)
    if e % 2 = 1 then b * r % m else r

/-- Inverse modulo a prime. -/
def invMod (m a : Nat) : Nat := powMod m 256 (a % m) (m - 2)

/-- A point of the curve; none is the point at infinity. -/
abbrev Point := Option (Nat × Nat)

/-- The chord or tangent construction with slope `l`. -/
def slopePoint (l x1 y1 x2 : Nat) : Point :=
  let x := (l * l + 2 * p256 - x1 - x2) % p256
  some (x, (l * (x1 + p256 - x) + p256 - y1) % p256)

/-- Sum of two points. -/
def addPoint : Point → Point → Point
  | none, q => q
  | p, none => p
  | some (x1, y1), some (x2, y2) =>
    if x1 = x2 then
      if (y1 + y2) % p256 = 0 then none
      else slopePoint ((3 * x1 * x1 + p256 - 3) % p256 * invMod p256 (2 * y1) % p256) x1 y1 x2
    else slopePoint ((y2 + p256 - y1) % p256 * invMod p256 (x2 + p256 - x1) % p256) x1 y1 x2

/-- The low `n` bits of `k` times `p`. -/
def mulPoint : Nat → Nat → Point → Point
  | 0, _, _ => none
  | n + 1, k, p =>
    let r := mulPoint n (k / 2) (addPoint p p)
    if k % 2 = 1 then addPoint p r else r

/-- The point lies on the curve, with coordinates in the field. -/
def onCurve (x y : Nat) : Bool :=
  decide (x < p256) && decide (y < p256) && y * y % p256 == (x * x * x + (p256 - 3) * x + p256B) % p256

/-- The signature (`r`, `s`) of the digest verifies under the public key (`x`, `y`). -/
def ecdsaVerify (digest : Bytes) (x y r s : Nat) : Bool :=
  let ok (v : Nat) : Bool := decide (0 < v) && decide (v < p256Order)
  if !onCurve x y || !ok r || !ok s then false
  else
    let w := invMod p256Order s
    let u1 := beNat digest * w % p256Order
    let u2 := r * w % p256Order
    match addPoint (mulPoint 256 u1 (some (p256Gx, p256Gy))) (mulPoint 256 u2 (some (x, y))) with
    | none => false
    | some (px, _) => px % p256Order == r

end Sys2Proof.Machine
end

