-- ==== Sys2Proof/Machine/Memory.lean ====
section
/-!
DEFINITION. On-chip SRAM and the DRAM controller: accesses, errors, scrubbing, refresh, sparing, the sample recorder
and the memory commands (chapter 15, R15 and R24).
-/

namespace Sys2Proof.Machine

def dramFn : Nat := 0x0900
def channelFn (c : Fin 2) : Nat := 0x0910 + c.val

def State.channel (s : State) (c : Fin 2) : Channel := s.mem.channels[c]
def State.onChannel (s : State) (c : Fin 2) (f : Channel → Channel) : State :=
  s.onMem fun m => { m with channels := m.channels.set c (f m.channels[c]) }
def State.onRecorder (s : State) (r : Fin 3) (f : Recorder → Recorder) : State :=
  s.onMem fun m => { m with recorders := m.recorders.set r (f m.recorders[r]) }

def dramPart (m : NMap Bytes) : Bytes := part m 0x0900 0x0901 0 0
def recorderPart (m : NMap Bytes) (r : Nat) : Bytes := part m 0x0900 0x0904 r 0
def recorderSource (m : NMap Bytes) (r : Nat) : Nat := u8 (recorderPart m r) 1
def recorderBase (m : NMap Bytes) (r : Nat) : Nat := u64 (recorderPart m r) 4
def recorderSize (m : NMap Bytes) (r : Nat) : Nat := u32 (recorderPart m r) 12 * 1024

/-! ### Address mapping (R480) -/

/-- Where a physical address lies in the DRAM. -/
structure DramPlace where
  ch : Nat
  rank : Nat
  bank : Nat
  row : Nat
  col : Nat
  /-- Column of the check bytes. -/
  eccCol : Nat
  deriving DecidableEq, Repr

/-- Rows of a rank's bank. -/
def dramRows (density : Nat) : Nat := density * 8192

/-- The rank that takes the place of rank 0 once it is retired. -/
def serviceRank (m : Memory) (ch : Nat) : Nat := flag (if ch = 0 then m.retired0 else m.retired1)

/-- The mapping of an address in usable DRAM. -/
def dramDecode (m : Memory) (pa : Nat) : DramPlace :=
  let o := pa - dramBase
  let g := 2 ^ m.grain.toNat
  let ch := o / g % 2
  let c := o / (2 * g) * g + o % g
  let seg := c / 256
  let page := seg / 7
  let rr := page / 8
  let row := rr % dramRows m.density
  { ch := ch
    rank := if m.spare then serviceRank m ch else rr / dramRows m.density
    bank := (page % 8) ^^^ (row % 8)
    row := row
    col := seg % 7 * 128 + c % 256 / 2
    eccCol := 896 + (seg % 7 * 4 + c % 256 / 64) * 8 / 2 }

/-! ### Errors (R475, R489, R496) -/

/-- MB of the rank that a migration has copied at the instant `now`, at MIGRATE_MB_S of the set `m`, in thousandths. -/
def copiedAt (m : NMap Bytes) (now : BitVec 64) (g : Migration) : Nat :=
  g.base + (g.paused.getD now - g.start).toNat / 400000 * u16 (dramPart m) 6

def copiedKb (s : State) (g : Migration) : Nat := copiedAt s.coh.active s.time.fabric g

/-- Rows of each bank below the copy pointer of a migration (R490). -/
def copiedRows (s : State) (g : Migration) : Nat :=
  copiedKb s g * dramRows s.mem.density / max 1 (usablePerRank s.mem.density * 1000)

/-- Where an access at an address goes now: below the copy pointer of a migration, to the spare rank (R490). -/
def dramPlace (s : State) (pa : Nat) : DramPlace :=
  let p := dramDecode s.mem pa
  match (s.channel (Fin.ofNat 2 p.ch)).migration with
  | some g => if p.row < copiedRows s g then { p with rank := 1 } else p
  | none => p

/-- An entry of the error log. -/
def errEntry (s : State) (type pa fn : Nat) (syndrome : BitVec 8) : Bytes :=
  let p := dramPlace s pa
  leBytes 8 s.time.spring.toNat ++ leBytes 8 pa ++ leBytes 1 type
    ++ (if type ≤ 1 then [0xFF, 0xFF, 0xFF] else leBytes 1 p.ch ++ leBytes 1 p.rank ++ leBytes 1 p.bank)
    ++ leBytes 4 (if type ≤ 1 then 0 else p.row) ++ leBytes 2 (if type ≤ 1 then 0 else p.col) ++ leBytes 2 fn
    ++ leBytes 1 syndrome.toNat ++ zeros 3

/-- Enter an error in the log, whose 32-bit COUNT saturates (R9). -/
def logError (type pa fn : Nat) (syndrome : BitVec 8) (s : State) : State :=
  s.onMem fun m =>
    { m with errLog := (errEntry s type pa fn syndrome :: m.errLog).take 16
             errCount := BitVec.ofNat 32 (foldSat 32 (m.errCount.toNat + 1)) }

/-- Channel `c` can start a migration (R490). -/
def canMigrate (m : Memory) (c : Fin 2) : Bool :=
  m.spare && m.ranks == 2 && !(if c = 0 then m.retired0 else m.retired1) && m.channels[c].migration.isNone

/-- Start migration of channel `c`: cause 0 UE, 1 threshold, 2 command. -/
def startMigration (c : Fin 2) (cause : Nat) (tag : Option Nat) (s : State) : State :=
  raiseEvent 233 dramFn (c.val + cause * 2 ^ 8)
    (s.onChannel c fun x => { x with migration := some ⟨s.time.fabric, cause, tag, 0, none⟩ })

/-- Migration that an error triggers, where a spare is left. -/
def triggerMigration (c : Fin 2) (cause : Nat) (s : State) : State :=
  if canMigrate s.mem c then startMigration c cause none s else s

/-- Spring ticks in 24 h. -/
def dayTicks : Nat := 86400 * 32768

/-- A corrected word of DRAM. -/
def dramCe (pa fn : Nat) (syndrome : BitVec 8) (s : State) : State :=
  let c : Fin 2 := Fin.ofNat 2 (dramDecode s.mem pa).ch
  let s := raiseSource 68 dramFn pa ((logError 2 pa fn syndrome s).count (channelFn c) 7)
  let s := s.onChannel c fun x =>
    { x with ceTimes := s.time.spring :: x.ceTimes.filter fun t => (s.time.spring - t).toNat < dayTicks }
  let limit := u8 (dramPart s.coh.active) 5
  if limit != 0 && limit ≤ (s.channel c).ceTimes.length then triggerMigration c 1 s else s

/-- An uncorrectable word of DRAM: poisoned until it is written whole. -/
def dramUe (pa fn : Nat) (syndrome : BitVec 8) (s : State) : State :=
  let c : Fin 2 := Fin.ofNat 2 (dramDecode s.mem pa).ch
  let s := (logError 3 pa fn syndrome s).count (channelFn c) 8
  let s := s.onMem fun m => { m with poison := mset m.poison (pa / 8 * 8) true }
  let p := pa % 2 ^ 40 + 3 * 2 ^ 40
  triggerMigration c 0 (raiseSource 69 dramFn p (raiseEvent 232 dramFn p s))

/-- A corrected word of SRAM. -/
def sramCe (pa fn : Nat) (syndrome : BitVec 8) (s : State) : State :=
  raiseSource 63 dramFn pa ((logError 0 pa fn syndrome s).count dramFn 1)

/-- The source of an uncorrectable word of SRAM, by region (R475). -/
def sramUeSource (pa : Nat) : Nat :=
  if pa < 0x10400000 then 65 else if pa < 0x10600000 then 66 else if pa < 0x10700000 then 67 else 64

/-- An uncorrectable word of SRAM. -/
def sramUe (pa fn : Nat) (syndrome : BitVec 8) (s : State) : State :=
  let s := (logError 1 pa fn syndrome s).count dramFn 2
  let s := s.onMem fun m => { m with poison := mset m.poison (pa / 8 * 8) true }
  raiseSource (sramUeSource pa) dramFn pa s

/-- A word was read with one or more bits in error. -/
def wordError (pa fn : Nat) (ue : Bool) (syndrome : BitVec 8) (s : State) : State :=
  if pa < dramBase then (if ue then sramUe pa fn syndrome s else sramCe pa fn syndrome s)
  else if ue then dramUe pa fn syndrome s else dramCe pa fn syndrome s

/-! ### Accesses (R24, R479, R481, R482) -/

/-- A device block reads words between `lo` and `hi`: the poisoned word that it meets, if it meets one.  Which words hold
what in the Eddy buffer and the LLR store is open, so a free value decides (log entry 148). -/
def meetPoison (lo hi : Nat) (s : State) : Option Nat × State :=
  let l := (s.mem.poison.map (·.1)).filter fun a => decide (lo ≤ a) && decide (a < hi)
  if l.isEmpty then (none, s)
  else
    let (v, s) := s.free
    (l[v % (l.length + 1)]?, s)

/-- FUNCTION_ID of a requester in the error log: the core's, else 0. -/
def requesterFn : BusMaster → Nat
  | .core c => coreFn c
  | _ => 0

/-- MASTER_ID of a master (R524); a block is named by it. -/
def masterId : BusMaster → Nat
  | .core c => c.val
  | .firmware => 0x08
  | .block id => id
  | .host => 0x100

/-- Row hits and misses of one DRAM access (R482). -/
def rowAccess (by_ : BusMaster) (pa : Nat) (s : State) : State :=
  let p := dramPlace s pa
  let key := (p.ch * 2 + p.rank) * 8 + p.bank
  let idle := u16 (dramPart s.coh.active) 2 * 400 / 1000
  let hit := match mget s.mem.openRows key with
    | some (row, t) => row == p.row && decide ((s.time.fabric - t).toNat ≤ idle)
    | none => false
  let s := if hit then s.count dramFn 12
    else pmuEventIf (pmcAccess (masterId by_) pa) pmuDram 0x10 1 1 (s.count dramFn 13)
  s.onMem fun m =>
    { m with openRows := if u8 (dramPart s.coh.active) 0 = 1 then mdel m.openRows key
               else mset m.openRows key (p.row, s.time.fabric) }

/-- Count a DRAM access of `n` bytes at `pa` (R499), and the 64-byte bursts that it takes (R480, R525). -/
def countDram (by_ : BusMaster) (pa n : Nat) (write : Bool) (s : State) : State :=
  if pa < dramBase then s
  else
    let fn := 0x0910 + (dramDecode s.mem pa).ch
    let bursts := if n = 0 then 0 else (pa + n - 1) / 64 - pa / 64 + 1
    let s := pmuEventIf (pmcAccess (masterId by_) pa) pmuDram (if write then 2 else 1) 0 bursts (rowAccess by_ pa s)
    if write then
      let s := (s.count fn 2).countN fn 4 n
      if pa % 8 != 0 || n % 8 != 0 then s.count fn 5 else s
    else (s.count fn 1).countN fn 3 n

/-- `CONFIG_WRITE_DENIED`: the write is discarded and reported. -/
def execConfigWriteDenied (_c : Fin 8) (fn : Nat) (s : State) : Out := .next (raiseSource 122 fn fn s)

/-! ### Scrubbing (R476, R491) -/

/-- Scrubbers run in RUN and SLOT_IDLE. -/
def scrubRuns (s : State) : Bool := s.power.state == .run || s.power.state == .slotIdle

/-- `SRAM_SCRUB_STEP`. -/
def execSramScrubStep (bad : Fin 3) (syndrome : BitVec 8) (s : State) : Out :=
  if !scrubRuns s then .next s
  else
    let pa := 0x10000000 + s.mem.scrubOffset
    let s := if bad = 2 || mgetD s.mem.poison pa false then sramUe pa dramFn syndrome s
      else if bad = 1 then sramCe pa dramFn syndrome s
      else s
    let o := s.mem.scrubOffset + 8
    if o < 0x1000000 then .next (s.onMem fun m => { m with scrubOffset := o })
    else .next ((s.onMem fun m => { m with scrubOffset := 0, scrubStart := s.time.fabric }).count dramFn 4)

/-- `SRAM_SCRUB_LATE`: the pass has not ended 2 s after its start, in RUN and SLOT_IDLE. -/
def execSramScrubLate (s : State) : Out :=
  if scrubRuns s && 800000000 ≤ (s.time.fabric - s.mem.scrubStart).toNat then .next (raiseSource 72 dramFn 0 s) else .next s

/-- Rows of all ranks of both channels. -/
def totalRows (m : Memory) : Nat := 2 * m.ranks * 8 * dramRows m.density

/-- Spring ticks of the scrub interval. -/
def scrubTicks (m : NMap Bytes) : Nat := u8 (dramPart m) 4 * 3600 * 32768

/-- `DRAM_SCRUB_ROW`: the next row is read and corrected; a pass that ends after SCRUB_HOURS is late. -/
def execDramScrubRow (bad : List BadWord) (s : State) : Out :=
  if s.mem.ranks = 0 || s.asleep then .next s
  else
    let s := bad.foldl (fun s w => wordError w.addr dramFn w.uncorrectable w.syndrome s) s
    let row := s.mem.dramRow + 1
    if row < totalRows s.mem then .next (s.onMem fun m => { m with dramRow := row })
    else
      let late := scrubTicks s.coh.active < (s.time.spring - s.mem.dramStart).toNat
      let s := (s.onMem fun m => { m with dramRow := 0, dramStart := s.time.spring }).count dramFn 5
      .next (if late then raiseSource 72 dramFn 1 (s.count dramFn 6) else s)

/-- DRAM_SCRUB_PERMILLE and the progress due (R491: the pass ends at 90 % of the interval). -/
def scrubPermille (m : Memory) : Nat := if totalRows m = 0 then 0 else m.dramRow * 1000 / totalRows m
def pacePermille (s : State) : Nat :=
  min 1000 ((s.time.spring - s.mem.dramStart).toNat * 10000 / (9 * max 1 (scrubTicks s.coh.active)))

/-! ### Refresh (R483, R484) -/

/-- Some recorder FIFO holds data. -/
def fifoHolds (s : State) : Bool := (List.finRange 3).any fun r => s.mem.recorders[r].fifo != 0

/-- Postpone one per-bank refresh: each eighth adds 1 to the debt; a debt of 8 forces refresh. -/
def postponeRefresh (ch rank : Fin 2) (s : State) : State :=
  let x := s.channel ch
  if x.refBanks[rank] != 7 then
    s.onChannel ch fun x => { x with refBanks := x.refBanks.set rank (x.refBanks[rank] + 1) }
  else
    let s := s.count dramFn 7
    let d := x.debt[rank] + 1
    if d.toNat < 8 then
      s.onChannel ch fun x => { x with refBanks := x.refBanks.set rank 0, debt := x.debt.set rank d }
    else
      (s.onChannel ch fun x => { x with refBanks := x.refBanks.set rank 0, debt := x.debt.set rank 0 }).count dramFn 8

/-- `REFRESH_DUE`.  In self-refresh the devices refresh themselves, and the controller polls and trains nothing (R408, R483). -/
def execRefreshDue (ch rank : Fin 2) (s : State) : Out :=
  if !s.power.selfRefresh && decide (rank.val < s.mem.ranks) && bit (u8 (dramPart s.coh.active) 1) 0 && fifoHolds s then
    .next (postponeRefresh ch rank s)
  else .next s

/-- `REFRESH_DEBT_PAYOFF`. -/
def execRefreshDebtPayoff (s : State) : Out :=
  if s.power.selfRefresh || fifoHolds s then .next s
  else
    .next (s.onMem fun m =>
      { m with channels := m.channels.map fun x =>
                 { x with debt := Vector.replicate 2 0, refBanks := Vector.replicate 2 0 } })

/-- `MR4_POLL`. -/
def execMr4Poll (ch : Fin 2) (factor : Fin 3) (s : State) : Out :=
  .next (if s.power.selfRefresh then s else s.onChannel ch fun x => { x with rate := BitVec.ofNat 8 (2 ^ factor.val) })

/-! ### Training and sparing (R488, R490, R478) -/

/-- `DQS_OSC_READ`: a drift beyond 5 % of a unit interval schedules retraining. -/
def execDqsOscRead (ch : Fin 2) (drift : Nat) (s : State) : Out :=
  if !s.power.selfRefresh && 50 < drift && !(s.channel ch).retrain then
    .next (s.onChannel ch fun x => { x with retrain := true, retrainAt := s.time.fabric })
  else .next s

/-- A scheduled retraining runs now: in a slot without cells, 1 s after it was scheduled, or on command (R488). -/
def retrainDue (s : State) (x : Channel) : Bool :=
  !x.retrainTags.isEmpty || s.time.asn.all (fun a => (activeCells s.coh.active a).isEmpty) || decide (400000000 ≤ (s.time.fabric - x.retrainAt).toNat)

/-- `DRAM_RETRAIN`. -/
def execDramRetrain (ch : Fin 2) (converges : Bool) (s : State) : Out :=
  let x := s.channel ch
  if s.power.selfRefresh || !x.retrain || !retrainDue s x then .next s
  else
    let s := (s.onChannel ch fun x => { x with retrain := false, retrainTags := [] }).count (channelFn ch) 6
    let s := if converges then s else raiseSource 70 (channelFn ch) ch.val s
    .next (x.retrainTags.foldl (fun s t => longDone t (if converges then rcOk else rcDramTrainFail) s) s)

/-- After the reset the migration goes on from its pointer (R490). -/
def resumeMigration (c : Fin 2) (s : State) : State :=
  s.onChannel c fun x => { x with migration := x.migration.map fun g =>
    { g with start := g.start + (s.time.fabric - g.paused.getD s.time.fabric), paused := none } }

/-- What a migration copied at the speed of the set `old` stays copied when another speed is committed. -/
def rebaseMigration (old : NMap Bytes) (c : Fin 2) (s : State) : State :=
  s.onChannel c fun x => { x with migration := x.migration.map fun g =>
    { g with base := copiedAt old s.time.fabric g, start := g.paused.getD s.time.fabric } }

/-- The record of the parameters in force. -/
def presentRecord (m : Memory) : DramRecord where
  grain := m.grain
  rate := m.rate
  spare := m.spare
  retired0 := m.retired0
  retired1 := m.retired1

/-- The record's content with the rank of channel `c` retired. -/
def retire (c : Fin 2) (r : DramRecord) : DramRecord :=
  if c = 0 then { r with retired0 := true } else { r with retired1 := true }

/-- `MIGRATION_COMPLETE`: the whole rank has been copied; a channel that is being reset pauses. -/
def execMigrationComplete (ch : Fin 2) (s : State) : Out :=
  match (s.channel ch).migration with
  | none => .next s
  | some g =>
    if !s.works (channelFn ch) || decide (copiedKb s g < usablePerRank s.mem.density * 1000) then .next s
    else
    let s := s.onChannel ch fun x => { x with migration := none, ceTimes := [] }
    let s := s.onMem fun m =>
      { m with retired0 := m.retired0 || ch == 0, retired1 := m.retired1 || ch == 1
               record := some (retire ch (m.record.getD (presentRecord m))), recordNew := m.recordNew.map (retire ch) }
    let s := raiseEvent 233 dramFn (ch.val + 2 + g.cause * 2 ^ 8) (s.count dramFn 11)
    .next (match g.tag with
      | some t => longDone t rcOk s
      | none => s)

/-- `PARAM_RECORD_DURABLE`. -/
def execParamRecordDurable (s : State) : Out :=
  match s.mem.recordNew with
  | none => .next s
  | some r =>
    .next ((s.onMem fun m => { m with record := some r, recordNew := none }).onFn dramFn fun f =>
      { f with settling := false })

/-! ### Sample recorder (R485 to R487) -/

/-- Bytes that `n` bytes of samples hold as a count of samples. -/
def sampleCount (m : NMap Bytes) (r n : Nat) : Nat :=
  if recorderSource m r = 1 && rfSampling m r then n / 3 * 2 else n / 4

/-- The 64-byte header of a block; GAP_SAMPLES saturates (R9). -/
def blockHeader (m : NMap Bytes) (r : Fin 3) (x : Recorder) (n : Nat) (start asn : BitVec 64) (gen : BitVec 32) : Bytes :=
  leBytes 4 0x53444C42 ++ leBytes 1 r.val ++ leBytes 1 (recorderSource m r)
    ++ leBytes 1 (flag (x.gap != 0) + 2 * flag (x.seq == 0)) ++ leBytes 1 (u8 (recorderPart m r) 3)
    ++ leBytes 8 x.seq.toNat ++ leBytes 8 start.toNat ++ leBytes 8 asn.toNat ++ leBytes 4 (sampleCount m r n)
    ++ leBytes 4 (foldSat 32 x.gap) ++ leBytes 4 gen.toNat ++ zeros 20

/-- `RECORDER_BLOCK_WRITTEN`: the block lies in the ring, WRITE_SEQ advances; in STOP mode the end of the ring stops
the recorder. -/
def execRecorderBlockWritten (r : Fin 3) (samples : Bytes) (start asn : BitVec 64) (gen : BitVec 32) (left : Nat)
    (s : State) : Out :=
  let m := s.coh.active
  let x := s.mem.recorders[r]
  if !x.running then .next s
  else
    let data := samples.take 65472
    let blocks := max 1 (recorderSize m r / 65536)
    let s := s.store (recorderBase m r + x.seq.toNat % blocks * 65536)
      (blockHeader m r x data.length start asn gen ++ data)
    let s := (s.count dramFn 9).countN dramFn 10 x.gap
    let s := s.onRecorder r fun x =>
      { x with seq := x.seq + 1, writeSeq := x.seq + 1, gap := 0, fifo := left
               overrun := x.overrun && decide (131072 ≤ left) }
    if u8 (recorderPart m r) 2 = 1 && decide (blocks ≤ x.seq.toNat + 1) then
      .next (raiseEvent 235 dramFn (r.val + x.seq.toNat % 2 ^ 56 * 2 ^ 8)
        (s.onRecorder r fun x => { x with running := false, stopped := true, fifo := 0 }))
    else .next s

/-- `RECORDER_FIFO_FULL`: samples are dropped; the first drop of an episode is reported. -/
def execRecorderFifoFull (r : Fin 3) (dropped : Nat) (s : State) : Out :=
  let x := s.mem.recorders[r]
  if !x.running then .next s
  else
    let s := s.onRecorder r fun x => { x with fifo := 262144, gap := x.gap + dropped, overrun := true }
    .next (if x.overrun then s else raiseSource 71 dramFn r.val (raiseEvent 234 dramFn r.val s))

/-! ### Commands (R493 to R496) -/

/-- `DRAM_CONFIG`. -/
def execDramConfig (buf : Bytes) (s : State) : Out :=
  .next (runKci 0x0901 buf (stageOne 0x0901 0 0
    [⟨0, 1, .range 0 1⟩, ⟨1, 1, .flags 1⟩, ⟨2, 2, .range 50 2000⟩, ⟨4, 1, .range 1 24⟩, ⟨6, 2, .range 64 2048⟩,
      ⟨8, 1, .range 8 16⟩, ⟨9, 1, .range 0 3⟩, ⟨10, 1, .range 0 1⟩, ⟨11, 5, .zero⟩]) s)

/-- The channel that a function ID names. -/
def channelOf (fn : Nat) : Fin 2 := Fin.ofNat 2 (fn - 0x0910)

/-- `DRAM_TRAIN`. -/
def execDramTrain (buf : Bytes) (s : State) : Out :=
  .next (runKci 0x0902 buf (fun s m req body =>
    acceptLong (s.onChannel (channelOf req.fn) fun x =>
      { x with retrain := true, retrainAt := if x.retrain then x.retrainAt else s.time.fabric
               retrainTags := x.retrainTags ++ [s.kci.longNext] }) m req body) s)

/-- `DRAM_SPARE_MIGRATE`. -/
def execDramSpareMigrate (buf : Bytes) (s : State) : Out :=
  .next (runKci 0x0903 buf (fun s m req body =>
    let c := channelOf req.fn
    if canMigrate s.mem c then acceptLong (startMigration c 2 (some s.kci.longNext) s) m req body
    else no rcSpareUnavailable) s)

/-- `RECORDER_CONFIG`; the ring of a recorder that is off is not checked (DEDUCED, log entry 9). -/
def execRecorderConfig (buf : Bytes) (s : State) : Out :=
  .next (runKci 0x0904 buf (fun s m req body =>
    let src := u8 body 1
    let ring := if src = 0 then [] else [⟨4, 8, .multiple 65536⟩, ⟨12, 4, .multiple 64⟩, ⟨12, 4, .range 1024 0xFFFFFFFF⟩]
    if src != 2 && u8 body 3 != 0 then no rcFieldRange
    else
      stageOne 0x0904 (u8 body 0) 0 ([⟨0, 1, .range 0 2⟩, ⟨1, 1, .range 0 2⟩, ⟨2, 1, .range 0 1⟩] ++ ring) s m req body) s)

/-- `RECORDER_READ`. -/
def execRecorderRead (buf : Bytes) (s : State) : Out :=
  .next (runKci 0x0905 buf (fun s _ req body =>
    let r := u8 body 0
    let off := u32 body 4
    let len := u32 body 8
    if field body 1 3 != 0 then no rcReservedNonzero
    else if 3 ≤ r || recorderSize s.coh.active r < off + len || (if req.indirect then 0x100000 else 4048) < len then
      no rcFieldRange
    else
      let w := (s.mem.recorders[Fin.ofNat 3 r]).writeSeq.toNat
      .done s rcOk 0 (leBytes 8 w ++ leBytes 8 w) (s.load (recorderBase s.coh.active r + off) len)) s)

/-- `MEM_ERROR_LOG_READ`: COUNT is the number of errors since the start; absent entries read as zero
(DEDUCED, log entry 10). -/
def execMemErrorLogRead (buf : Bytes) (s : State) : Out :=
  .next (runKci 0x0906 buf (fun s _ _ _ =>
    .done s rcOk 0 (leBytes 4 s.mem.errCount.toNat) (slice s.mem.errLog.flatten 0 512)) s)

/-! ### Rules, commits and status -/

/-- MT/s of a RATE_CODE. -/
def dataRate (code : Nat) : Nat := [2133, 3200, 3733, 4266].getD code 0

/-- Bytes per second of an enabled recorder. -/
def recorderRate (m : NMap Bytes) (r : Nat) : Nat :=
  match recorderSource m r with
  | 0 => 0
  | 1 => if rfSampling m r then 3686400000 else 245760000
  | _ => 8 * bwHz (chanBw m (u8 (recorderPart m r) 3))

/-- The channel that a recorder with SOURCE 2 names is a monitor channel of an enabled group on its radio. -/
def recorderChannelOk (m : NMap Bytes) (r : Nat) : Bool :=
  let ch := u8 (recorderPart m r) 3
  recorderSource m r != 2
    || (chanExists m ch && chanMonitor m ch && groupEnabled m (ch / 32) && chanRadio m ch == r)

/-- The first rule of R497 that fails. -/
def dramRules (mem : Memory) (m : NMap Bytes) : Option (Nat × Nat) :=
  let on := (List.range 3).filter fun r => recorderSource m r != 0
  let spare := u8 (dramPart m) 10 == 1
  if !(enabledIn m 0x0900 && enabledIn m 0x0910 && enabledIn m 0x0911) then some (1, rcDramRequired)
  else if (spare && mem.ranks != 2) || (!spare && (mem.retired0 || mem.retired1)) then some (2, rcSpareUnavailable)
  else if on.any fun r => !inCluster mem (recorderBase m r) (recorderSize m r) || !recorderChannelOk m r
      || on.any fun q => q < r && overlaps (recorderBase m q) (recorderBase m q + recorderSize m q)
        (recorderBase m r) (recorderBase m r + recorderSize m r) then
    some (3, rcRecorderRange)
  else if 2 * dataRate mem.rate.toNat * 1000000 < on.foldl (fun a r => a + recorderRate m r) 0 then
    some (4, rcRecorderRate)
  else none

/-- The start parameters of a set differ. -/
def startParams (m : NMap Bytes) : Bytes := slice (dramPart m) 8 3

/-- Memory takes up a commit: recorders start and stop; a changed start parameter is written to the record (R478). -/
def applyMemory (old : NMap Bytes) (s : State) : State :=
  let m := s.coh.active
  let s := if u16 (dramPart old) 6 = u16 (dramPart m) 6 then s else rebaseMigration old 1 (rebaseMigration old 0 s)
  let s := (List.finRange 3).foldl (fun s (r : Fin 3) =>
    if recorderPart old r == recorderPart m r then s
    else if recorderSource m r = 0 then s.onRecorder r fun x => { x with running := false, fifo := 0 }
    else s.onRecorder r fun _ => { Recorder.reset with running := true }) s
  if startParams old == startParams m then s
  else
    let b := dramPart m
    let r : DramRecord :=
      { grain := BitVec.ofNat 8 (u8 b 8), rate := BitVec.ofNat 8 (u8 b 9), spare := u8 b 10 == 1
        retired0 := s.mem.retired0, retired1 := s.mem.retired1 }
    (s.onMem fun x => { x with recordNew := some r }).onFn dramFn fun f => { f with settling := true }

/-- START_PENDING: the parameters that will govern differ from what runs. -/
def startPending (m : Memory) : Bool :=
  match m.recordNew, m.record with
  | some r, _ => r != presentRecord m
  | none, some r => r.grain != m.grain || r.rate != m.rate || r.spare != m.spare
  | none, none => false

/-- Status of 0x0900 (R498). -/
def dramStatus (s : State) : Bytes :=
  let m := s.mem
  leBytes 4 (usableMb m) ++ leBytes 1 m.grain.toNat ++ leBytes 1 m.rate.toNat
    ++ leBytes 1 (flag m.spare + 2 * flag m.retired0 + 4 * flag m.retired1) ++ leBytes 1 (flag (startPending m))
    ++ leBytes 4 m.scrubOffset ++ leBytes 2 (scrubPermille m) ++ leBytes 2 (pacePermille s)
    ++ (m.recorders.toList.flatMap fun x => leBytes 8 x.writeSeq.toNat)
    ++ (m.recorders.toList.flatMap fun x => leBytes 1 (x.fifo * 100 / 262144)) ++ zeros 5

/-- Permille of a migration that has run since its start at MIGRATE_MB_S; its one byte saturates
(DEDUCED, log entry 11). -/
def migratePermille (s : State) (g : Migration) : Nat := min 255 (copiedKb s g / max 1 (usablePerRank s.mem.density))

/-- Status of channel `c`. -/
def channelStatus (s : State) (c : Fin 2) : Bytes :=
  let x := s.channel c
  let st := if (s.fnState (channelFn c)).inReset || (s.fnState dramFn).inReset then 3
    else if x.migration.isSome then 2
    else flag (!x.retrainTags.isEmpty)
  leBytes 1 st ++ leBytes 1 (match x.migration with
      | some g => migratePermille s g
      | none => 0)
    ++ leBytes 1 x.debt[0].toNat ++ leBytes 1 x.debt[1].toNat ++ leBytes 1 x.rate.toNat ++ zeros 3

end Sys2Proof.Machine
end

