-- ==== Sys2Proof/Machine/CalStore.lean ====
section
/-!
DEFINITION. Lookups in the calibration store (R149, R150).
-/

namespace Sys2Proof.Machine

/-! ### Calibration store (R149 to R151) -/

/-- The variants of a key: those of synthesiser `synth` at `lo` and `chan` (0 for an LO entry). -/
def variants (st : NMap CalEntry) (synth lo chan : Nat) : NMap CalEntry :=
  st.filter fun e => e.2.synth.toNat == synth && e.2.lo.toNat == lo && e.2.chan.toNat == chan
    && e.2.isChan == (chan != 0)

/-- Absolute difference of two temperatures, 0.125 °C. -/
def tempDiff (a b : Int) : Nat := (a - b).natAbs

/-- The entry of a list whose tag is nearest `t`; of two equally near, the one of the lower number (DESIGN CHOICE, log entry
156: R150 does not say). -/
def nearest (t : Int) : NMap CalEntry → Option (Nat × CalEntry)
  | [] => none
  | e :: es =>
    match nearest t es with
    | none => some e
    | some f => if tempDiff e.2.temp t ≤ tempDiff f.2.temp t then some e else some f

/-- The entry of a list whose tag is farthest from `t`. -/
def farthest (t : Int) : NMap CalEntry → Option (Nat × CalEntry)
  | [] => none
  | e :: es =>
    match farthest t es with
    | none => some e
    | some f => if tempDiff f.2.temp t ≤ tempDiff e.2.temp t then some e else some f

/-- The entry of a list with the oldest CAL_TIME. -/
def oldest : NMap CalEntry → Option (Nat × CalEntry)
  | [] => none
  | e :: es =>
    match oldest es with
    | none => some e
    | some f => if e.2.time.toNat ≤ f.2.time.toNat then some e else some f

/-- Δ of the variant nearest the temperature `t`, if the key has one (R150). -/
def calDelta (st : NMap CalEntry) (synth lo chan : Nat) (t : Int) : Option Nat :=
  (nearest t (variants st synth lo chan)).map fun e => tempDiff e.2.temp t

/-- The class of a key: 15 °C is 120 units of 0.125 °C, 30 °C is 240 (R150). -/
def classOf (d : Option Nat) : CalClass :=
  match d with
  | none => .absent
  | some d => if d ≤ 120 then .valid else if d ≤ 240 then .stale else .absent

/-- Class of the LO entry of radio `r` at `lo` at the present temperature. -/
def loClass (s : State) (r : Fin 3) (lo : Nat) : CalClass :=
  classOf (calDelta s.radios.store r.val lo 0 (s.radio r).temp)

/-- The LOs that radio `r` uses: its window centres. -/
def activeLos (m : NMap Bytes) (r : Nat) : List Nat := (List.range (windowCount m r)).map (windowCentre m r)

/-- The active configuration uses the key of an entry: an LO of its radio, or a channel under the channel's own LO (R151). -/
def keyInUse (m : NMap Bytes) (e : CalEntry) : Bool :=
  (List.range 3).any fun r =>
    enabledIn m (0x0100 + r) && e.synth.toNat == r
      && (if e.isChan then (radioChans m r).any fun ch => chanCentre m ch == e.chan.toNat && chanLo m ch == e.lo.toNat
        else (activeLos m r).contains e.lo.toNat)

/-- The corrections of an entry. -/
def CalEntry.corr (e : CalEntry) : Corrections := ⟨e.corrA, e.corrB, e.corrC, e.corrD⟩

/-- The corrections of the LO entry of radio `r` at `lo`: those of its nearest variant. -/
def loCorr (s : State) (r : Fin 3) (lo : Nat) : Corrections :=
  match nearest (s.radio r).temp (variants s.radios.store r.val lo 0) with
  | some e => e.2.corr
  | none => Corrections.neutral

/-- The channel entries of a synthesiser nearest in frequency to `centre`, within 50 MHz (R150). -/
def nearChans (st : NMap CalEntry) (synth centre : Nat) : NMap CalEntry :=
  let off (e : CalEntry) : Nat := ((e.chan.toNat : Int) - centre).natAbs
  let l := st.filter fun e => e.2.isChan && e.2.synth.toNat == synth && decide (off e.2 ≤ 50000000)
  let best := (l.map fun e => off e.2).foldl min 50000000
  l.filter fun e => off e.2 == best

/-- The corrections of a channel: those of the nearest variant of its entry, else of the nearest channel within 50 MHz, else
neutral ones (R133, R134, R150). -/
def chanCorr (s : State) (r : Fin 3) (lo centre : Nat) : Corrections :=
  let own := variants s.radios.store r.val lo centre
  let l := if own.isEmpty then nearChans s.radios.store r.val centre else own
  match nearest (s.radio r).temp l with
  | some e => e.2.corr
  | none => Corrections.neutral

end Sys2Proof.Machine
end

