-- ==== Sys2Proof/Machine/Frames.lean ====
section
/-!
DEFINITION. The formats of link frames: the MAC header of the Oxgon link (R93, R95) and of IEEE 802.15.4 (R113),
acknowledgements (R96, R97, R113), beacons (R98) and downlinks.
-/

namespace Sys2Proof.Machine

/-- An address of a MAC header: absent, short or extended. -/
inductive Addr where
  | absent
  | short (a : Nat)
  | ext (a : Nat)
  deriving DecidableEq, Repr

/-- Bytes of an address. -/
def Addr.size : Addr → Nat
  | .absent => 0
  | .short _ => 2
  | .ext _ => 8

/-- An address on air (R90). -/
def Addr.bytes : Addr → Bytes
  | .absent => []
  | .short a => leBytes 2 a
  | .ext a => leBytes 8 a

/-- DST_MODE or SRC_MODE of an address. -/
def Addr.mode : Addr → Nat
  | .absent => 0
  | .short _ => 1
  | .ext _ => 2

/-- Read the address of a mode at an offset. -/
def readAddr (mode : Nat) (bs : Bytes) (o : Nat) : Addr :=
  if mode = 1 then .short (u16 bs o) else if mode = 2 then .ext (u64 bs o) else .absent

/-- A received MAC header with the parts that follow it. -/
structure MacFrame where
  /-- FRAME_TYPE codes of R93. -/
  ftype : Nat
  ackMode : Nat
  pending : Bool
  network : Nat
  dst : Addr
  src : Addr
  /-- No SEC_CTRL is level 0. -/
  level : Nat
  keyMode : Nat
  counter : Nat
  keyIndex : Nat
  /-- Sequence number of an IEEE 802.15.4 frame, if present. -/
  seqNo : Option Nat
  /-- The header through FRAME_COUNTER or KEY_INDEX (R292), the payload as received, and the MIC (empty at level 0). -/
  header : Bytes
  payload : Bytes
  mic : Bytes
  /-- The payload begins with payload IEs, which are skipped (R113). -/
  ies : Bool
  /-- A field is out of range: reserved values, wrong version, too short. -/
  bad : Bool
  /-- A security setting is unsupported. -/
  badSec : Bool
  deriving DecidableEq, Repr

/-- Take the payload and MIC from what follows a header of `n` bytes in a frame without its FCS. -/
def splitBody (bs : Bytes) (n level : Nat) : Bytes × Bytes :=
  let rest := bs.drop n
  if level = 0 then (rest, []) else (rest.take (rest.length - 8), rest.drop (rest.length - 8))

/-- Read the MAC header of an Oxgon PSDU without its FCS (R93).  KEY_ID_MODE 2 and 3, to which no key belongs, end in
RC_SEC_LEVEL (DESIGN CHOICE, log entry 119). -/
def readOxgon (bs : Bytes) : MacFrame :=
  let fcf := u16 bs 0
  let t := bits fcf 2 0
  let dst := readAddr (bits fcf 9 8) bs 4
  let src := readAddr (bits fcf 11 10) bs (4 + dst.size)
  let o := 4 + dst.size + src.size
  let sec := t != 2
  let ctrl := if sec then u8 bs o else 0
  let keyMode := bits ctrl 4 3
  let level := bits ctrl 2 0
  let n := if sec then o + 5 + (if keyMode = 1 then 1 else 0) else o
  let (payload, mic) := splitBody bs n level
  { ftype := t, ackMode := bits fcf 5 4, pending := bit fcf 6, network := u16 bs 2, dst := dst, src := src
    level := level, keyMode := keyMode, counter := if sec then u32 bs (o + 1) else 0
    keyIndex := if keyMode = 1 then u8 bs (o + 5) else 0, seqNo := none
    header := bs.take n, payload := payload, mic := mic, ies := false
    bad := decide (4 < t) || bit fcf 3 || decide (1 < bits fcf 5 4) || bit fcf 7 || bits fcf 9 8 == 3
      || bits fcf 11 10 == 3 || bits fcf 13 12 != 0 || bits fcf 15 14 != 1 || (src == .absent && t != 2)
      || bits ctrl 7 5 != 0 || decide (bs.length < n + (if level = 0 then 0 else 8))
    badSec := decide (1 < keyMode) || !(level == 0 || level == 2 || level == 6) }

/-- Bytes of the header IEs from an offset on, up to and with a termination IE (IEEE 802.15.4); the second value says
that payload IEs follow. -/
def headerIes (bs : Bytes) : Nat → Nat → Nat × Bool
  | 0, o => (o, false)
  | fuel + 1, o =>
    if bs.length < o + 2 then (bs.length, false)
    else
      let d := u16 bs o
      let id := bits d 14 7
      if id = 0x7E then (o + 2, true)
      else if id = 0x7F then (o + 2, false)
      else headerIes bs fuel (o + 2 + bits d 6 0)

/-- The payload after its payload IEs. -/
def skipPayloadIes (bs : Bytes) : Nat → Nat → Bytes
  | 0, o => bs.drop o
  | fuel + 1, o =>
    if bs.length < o + 2 then []
    else
      let d := u16 bs o
      if bits d 14 11 = 0xF then bs.drop (o + 2) else skipPayloadIes bs fuel (o + 2 + bits d 10 0)

/-- The addressing fields of an IEEE 802.15.4 frame of version 0b10: effective PAN ID (of the destination where it is
present), destination, source and length (PAN ID compression as the standard's table for version 0b10 gives it).  A frame
that carries no PAN ID has 0xFFFF as its effective one (DESIGN CHOICE, log entry 120). -/
def sunAddressing (bs : Bytes) (o dm sm : Nat) (comp : Bool) : Nat × Addr × Addr × Nat :=
  let dmode := if dm = 3 then 2 else if dm = 2 then 1 else 0
  let smode := if sm = 3 then 2 else if sm = 2 then 1 else 0
  let both := dm != 0 && sm != 0
  let twoExt := dm == 3 && sm == 3
  let dstPan := if dm = 0 && sm = 0 then comp
    else if dm = 0 then false
    else if sm = 0 then !comp
    else if twoExt then !comp
    else true
  let srcPan := if dm = 0 && sm != 0 then !comp else both && !twoExt && !comp
  let n0 := if dstPan then 2 else 0
  let dst := readAddr dmode bs (o + n0)
  let n1 := n0 + dst.size
  let n2 := n1 + (if srcPan then 2 else 0)
  let src := readAddr smode bs (o + n2)
  (if dstPan then u16 bs o else if srcPan then u16 bs (o + n1) else 0xFFFF, dst, src, n2 + src.size)

/-- Read the MAC header of an IEEE 802.15.4 frame without its FCS (R113); none for a frame that is ignored and
discarded.  `relay` admits acknowledgements.  A frame without a security header counts as one with FRAME_COUNTER 0 (DESIGN
CHOICE, log entry 120). -/
def readSun (bs : Bytes) (relay : Bool) : Option MacFrame :=
  let fcf := u16 bs 0
  let t := bits fcf 2 0
  let ftype := if t = 1 then some 0 else if t = 3 then some 4 else if t = 2 && relay then some 2 else none
  match ftype with
  | none => none
  | some ft =>
    let o := if bit fcf 8 then 2 else 3
    let (pan, dst, src, n) := sunAddressing bs o (bits fcf 11 10) (bits fcf 15 14) (bit fcf 6)
    let sec := bit fcf 3
    let ctrl := if sec then u8 bs (o + n) else 0
    let level := bits ctrl 2 0
    let keyMode := bits ctrl 4 3
    let a := o + n + (if sec then 5 + (if keyMode = 1 then 1 else 0) else 0)
    let (h, ies) := if bit fcf 9 then headerIes bs bs.length a else (a, false)
    let (payload, mic) := splitBody bs h level
    some
      { ftype := ft, ackMode := flag (bit fcf 5), pending := bit fcf 4, network := pan, dst := dst, src := src
        level := level, keyMode := keyMode, counter := if sec then u32 bs (o + n + 1) else 0
        keyIndex := if keyMode = 1 then u8 bs (o + n + 5) else 0, seqNo := if bit fcf 8 then none else some (u8 bs 2)
        header := bs.take a, payload := payload, mic := mic, ies := ies
        bad := bits fcf 13 12 != 2 || bits fcf 11 10 == 1 || bits fcf 15 14 == 1
          || decide (bs.length < h + (if level = 0 then 0 else 8)) || (src == .absent && ft != 2)
        badSec := decide (1 < keyMode) || bit ctrl 5 || !(level == 0 || level == 2 || level == 6) }

/-- The payload in clear `plain` of a frame, its payload IEs skipped (R113). -/
def MacFrame.content (f : MacFrame) (plain : Bytes) : Bytes :=
  if f.ies then skipPayloadIes plain plain.length 0 else plain

/-- First 4 bytes of the MIC, as a number; zero at level 0 (R96). -/
def micEcho (f : MacFrame) : BitVec 32 := BitVec.ofNat 32 (u32 f.mic 0)

/-! ### Frames that the device sends -/

/-- Frame Control Field of R93. -/
def fcfOf (ftype ackMode : Nat) (pending : Bool) (dst src : Addr) : Bytes :=
  leBytes 2 (ftype + ackMode * 16 + flag pending * 64 + dst.mode * 256 + src.mode * 1024 + 0x4000)

/-- Body of an immediate acknowledgement (R96). -/
def ackBody (counter echo : BitVec 32) (corr : Int) (flags : BitVec 8) : Bytes :=
  leBytes 4 counter.toNat ++ leBytes 4 echo.toNat ++ leInt 2 corr ++ leBytes 1 flags.toNat

/-- An immediate acknowledgement on an Oxgon channel (R96). -/
def oxgonAck (net : Nat) (dst : Addr) (body : Bytes) : Bytes :=
  withFcs (fcfOf 2 0 (bit (u8 body 10) 0) dst .absent ++ leBytes 2 net ++ dst.bytes ++ body) true

/-- An Enhanced Acknowledgement on a SUN-FSK channel: version 0b10, no IEs, sequence number echoed (R113). -/
def sunAck (net : Nat) (dst : Addr) (seqNo : Option Nat) (body : Bytes) (fcs4 : Bool) : Bytes :=
  let dm := match dst with
    | .absent => 0
    | .short _ => 2
    | .ext _ => 3
  let comp := dst == .absent
  let fcf := 2 + flag (bit (u8 body 10) 0) * 16 + flag comp * 64 + flag seqNo.isNone * 256 + dm * 1024 + 2 * 4096
  withFcs (leBytes 2 fcf ++ (match seqNo with
    | some n => leBytes 1 n
    | none => []) ++ leBytes 2 net ++ dst.bytes ++ body) fcs4

/-- Header of a frame that the device sends: FCF, NETWORK_ID, addresses, SEC_CTRL, counter, key index byte. -/
def sendHeader (ftype ackMode : Nat) (pending : Bool) (net : Nat) (dst : Addr) (own level : Nat)
    (counter : BitVec 32) (key : Option Nat) : Bytes :=
  fcfOf ftype ackMode pending dst (.ext own) ++ leBytes 2 net ++ dst.bytes ++ leBytes 8 own
    ++ leBytes 1 (level + (if key.isSome then 8 else 0)) ++ leBytes 4 counter.toNat
    ++ (match key with
      | some k => leBytes 1 k
      | none => [])

/-- Header of an IEEE 802.15.4 data frame that the device sends on a SUN-FSK channel: version 0b10, sequence number
suppressed, destination PAN ID present. -/
def sunHeader (ackMode : Nat) (pending : Bool) (net : Nat) (dst : Addr) (own level : Nat) (counter : BitVec 32)
    (key : Option Nat) : Bytes :=
  let dm := match dst with
    | .absent => 0
    | .short _ => 2
    | .ext _ => 3
  -- compression leaves exactly one PAN ID in the frame
  let comp := match dst with
    | .short _ => true
    | _ => false
  let pan := leBytes 2 net
  let fcf := 1 + flag (level != 0) * 8 + flag pending * 16 + flag (ackMode == 1) * 32 + flag comp * 64 + 256 + dm * 1024
    + 2 * 4096 + 3 * 16384
  leBytes 2 fcf ++ pan ++ dst.bytes ++ leBytes 8 own
    ++ (if level = 0 then [] else leBytes 1 (level + (if key.isSome then 8 else 0)) ++ leBytes 4 counter.toNat
      ++ (match key with
        | some k => leBytes 1 k
        | none => []))

/-- Body of a beacon (R98). -/
def beaconBody (m : NMap Bytes) (asn depth : Nat) (holdover : Bool) (gen : BitVec 32) : Bytes :=
  leBytes 6 asn ++ leBytes 2 (slotTicks m % 32768) ++ leBytes 4 (txOffset m) ++ leBytes 4 (turnaround m)
    ++ leBytes 1 depth ++ leBytes 1 (u8 (linkPart m) 44 % 2 + 2 * flag holdover) ++ leBytes 2 (gen.toNat % 65536)
    ++ zeros 4

/-- Body of a group acknowledgement (R97). -/
def groupAckBody (asn : Nat) (es : List (Nat × BitVec 32)) : Bytes :=
  leBytes 6 asn ++ leBytes 1 es.length ++ [0] ++ es.flatMap fun e => leBytes 2 e.1 ++ leBytes 4 e.2.toNat

end Sys2Proof.Machine
end

