-- ==== Sys2Proof/Machine/NetTime.lean ====
section
/-!
DEFINITION. Network time: sources, samples, the servo, steps, holdover, PTP, PPS and the time commands (chapter 10).
Instants and offsets are in ns; a positive offset means that network time is ahead of the source.
-/

namespace Sys2Proof.Machine

def timeFn : Nat := 0x0D00

/-- Absolute value of an integer. -/
def absInt (x : Int) : Nat := x.natAbs

/-- `x` held within ± `m`. -/
def clampInt (m : Nat) (x : Int) : Int := if x > (m : Int) then m else if x < -(m : Int) then -(m : Int) else x

def ref10 (m : NMap Bytes) : Bool := bit (u8 (timePart m) 2) 1
def slewLimit (m : NMap Bytes) : Nat := u32 (timePart m) 4
def jumpNs (m : NMap Bytes) : Nat := u32 (timePart m) 8 * 1000
def maxSlew (m : NMap Bytes) : Nat := u32 (timePart m) 12
def ppsOffset (m : NMap Bytes) : Int := i32 (timePart m) 16
def holdoverPpb (m : NMap Bytes) : Nat := u32 (timePart m) 28

/-- FREQ_PPB: the frequency estimate and the phase term (R363). -/
def freqPpb (s : State) : Int := s.time.freqEst + s.time.phaseTerm

/-- SPRING_PPB as it is used: 0 while SPRING_DISC_VALID is clear (R352). -/
def springPpb (s : State) : Int := if s.time.springDisc then s.time.springPpb else 0

/-- Growth of the bound since its base was taken: HOLDOVER_PPB × elapsed time (R378). -/
def boundGrowth (s : State) : Nat :=
  holdoverPpb s.coh.active * (s.time.fabric - s.time.errSince).toNat / 400000000

/-- ERR_BOUND_NS (R378). -/
def errBound (s : State) : Nat :=
  match s.time.state with
  | .invalid => 0xFFFFFFFF
  | .locked => min 0xFFFFFFFF (s.time.applied + s.time.errBase)
  | _ => min 0xFFFFFFFF (s.time.errBase + boundGrowth s)

/-- STATE code of R378. -/
def timeStateCode (t : TimeState) : Nat :=
  match t with
  | .invalid => 0
  | .freerun => 1
  | .locked => 2
  | .holdover => 3
  | .holdoverExpired => 4
  | .refused => 5

/-- The time source is in holdover, for the beacon flag (R98, R362, R368). -/
def holdoverFlag (s : State) : Bool :=
  s.time.state == .holdover || s.time.state == .holdoverExpired || s.time.state == .refused

/-- Enter a state in which the bound grows from its present value. -/
def freezeBound (st : TimeState) (s : State) : State :=
  let b := errBound s
  s.onTime fun t => { t with state := st, errBase := b, errSince := s.time.fabric }

/-- Leave HOLDOVER or HOLDOVER_EXPIRED with its event, which names the source lost (R368, R380). -/
def leaveHoldoverOf (lost : Nat) (s : State) : State :=
  if s.time.state = .holdover || s.time.state = .holdoverExpired then raiseEvent 164 timeFn (lost * 256) s else s

/-- The same for the source in force, which is the one lost until another takes over. -/
def leaveHoldover (s : State) : State := leaveHoldoverOf s.time.source s

/-- Enter HOLDOVER (R354, R368): the phase term goes to zero. -/
def enterHoldover (s : State) : State :=
  if s.time.state = .invalid || s.time.state = .holdover || s.time.state = .holdoverExpired then s
  else
    let s := freezeBound .holdover s
    raiseEvent 164 timeFn (1 + s.time.source * 256)
      ((s.onTime fun t => { t with phaseTerm := 0, jumpEpisode := false, holdSince := t.fabric }).count timeFn 11)

/-- The source in force becomes `k` (R354). -/
def switchSource (k cause : Nat) (s : State) : State :=
  if s.time.source = k then s
  else
    let old := s.time.source
    raiseEvent 163 timeFn (k + old * 256 + cause * 65536)
      ((s.onTime fun t => { t with source := k, backupAt := none, primaryAt := none }).count timeFn 10)

/-! ### Steps (R364) -/

/-- Network time moved by Δ ns. -/
def moveTime (d : Int) (s : State) : State :=
  let t := (s.netNs : Int) + d
  s.onTime fun x =>
    { x with seconds := BitVec.ofInt 64 (t / 1000000000), nanos := BitVec.ofNat 32 (t % 1000000000).toNat
             ppsLast := x.ppsLast.map fun p => ((p : Int) + d).toNat
             stepEnd := x.stepEnd.map fun e => ((e : Int) + d).toNat }

/-- The instant E: the end of the slot in progress, network time before the step; an earlier step whose B has not come has
fixed it. -/
def slotEndNs (s : State) : Option Nat :=
  if s.time.realign then s.time.stepEnd else s.time.asn.map fun a => slotStartNs s.coh.active (a + 1)

/-- Start of slot `a` in network time: of the slot in progress by the old alignment between a step and B (R364). -/
def slotAtNs (s : State) (m : NMap Bytes) (a : Nat) : Nat :=
  match s.time.stepEnd with
  | some e => if s.time.realign && s.time.asn == some a then e + slotStartNs m a - slotStartNs m (a + 1) else slotStartNs m a
  | none => slotStartNs m a

/-- The launches that a step releases: not yet at their ramp, with t0 at or after E. -/
def steppedLaunches (s : State) : List Launch :=
  match slotEndNs s with
  | none => []
  | some e => s.sluice.launches.filter fun x => !launchLive x && e ≤ x.t0 && x.kind != .test

/-- A step of Δ ns (R364): time moves at once, bookings at or after E are released, and the slot time bases realign at
the next boundary.  A step of 0 is none. -/
def stepTime (d : Int) (s : State) : State :=
  if d = 0 then s
  else
    let l := steppedLaunches s
    let s := l.foldl (fun s x => (endLaunch x rcTimeStepCancel false s).count timeFn 14) s
    let s := s.onSluice fun x =>
      { x with launches := x.launches.map fun y =>
          { y with t0 := ((y.t0 : Int) + d).toNat, rampAt := ((y.rampAt : Int) + d).toNat } }
    ((moveTime d (s.onTime fun t => { t with stepEnd := slotEndNs s })).onTime fun t => { t with realign := true }).count timeFn 7

/-- `EV_TIME_STEPPED`. -/
def stepEvent (d : Int) (source : Nat) (forced : Bool) (s : State) : State :=
  raiseEvent 161 timeFn (unsigned 48 (clampInt (2 ^ 47 - 1) d) + source * 2 ^ 48 + flag forced * 2 ^ 56) s

/-! ### Servo and samples (R362, R363) -/

/-- Beacon interval in slots: N_s of the slotframe that holds a parent-beacon cell (R108). -/
def beaconInterval (m : NMap Bytes) : Nat :=
  match (List.range 8).find? fun sf => sfEnabled m sf && (sfCells m sf).any fun e => cellUse e.2 == 5 with
  | some sf => sfLength m sf
  | none => 1

/-- Time constant of the servo, ms. -/
def servoMs (m : NMap Bytes) (source : Nat) : Nat :=
  if source = 1 then 16000 else if source = 4 then 8 * beaconInterval m * slotTicks m * 1000 / 32768 else 8000

/-- The servo takes a sample.  R363 bounds the change of the frequency estimate and states no gain: the change is a free
value within its bound (log entry 20). -/
def servo (off : Int) (s : State) : State :=
  let m := s.coh.active
  let (v, s) := s.free
  let est := if ref10 m then 0 else clampInt 100000 (s.time.freqEst + ((v % 2001 : Nat) : Int) - 1000)
  let ms : Int := max 1 (servoMs m s.time.source)
  s.onTime fun t => { t with freqEst := est, phaseTerm := clampInt (maxSlew m) (-(off * 1000 / ms)) }

/-- A sample of the source in force (R355, R362, R368); the holdover that it ends is that of source `lost`. -/
def applySample (lost : Nat) (off : Int) (s : State) : State :=
  let m := s.coh.active
  let s := s.onTime fun t => { t with lastOffset := clampInt (2 ^ 31 - 1) off }
  let lock (s : State) : State :=
    s.onTime fun t => { t with state := .locked, applied := absInt off, errBase := 0, jumpEpisode := false }
  if s.time.state = .invalid then
    let s := lock (moveTime (-off) s)
    raiseEvent 160 timeFn s.time.source (servo off s)
  else
    let s := leaveHoldoverOf lost s
    if absInt off ≤ slewLimit m then servo off (lock s)
    else if absInt off ≤ jumpNs m then stepEvent (-off) s.time.source false (lock (stepTime (-off) s))
    else
      let first := !s.time.jumpEpisode
      let s := if s.time.state = .refused then s else freezeBound .refused s
      let s := (s.onTime fun t => { t with jumpEpisode := true }).count timeFn 9
      if first then
        raiseEvent 162 timeFn (unsigned 48 (clampInt (2 ^ 47 - 1) off) + s.time.source * 2 ^ 48) s
      else s

/-- A usable sample of source `k`: applied when `k` is in force or ends holdover, tracked when it is the backup
(R354, R368). -/
def sampleFrom (k : Nat) (off : Int) (s : State) : State :=
  let m := s.coh.active
  if k = s.time.source then applySample k off s
  else if (s.time.state = .holdover || s.time.state = .holdoverExpired) && (k == primarySource m || k == backupSource m) then
    applySample s.time.source off (switchSource k (if k = primarySource m then 2 else 1) s)
  else if k = backupSource m then s.onTime fun t => { t with backupAt := some s.time.fabric }
  else if k = primarySource m then s.onTime fun t => { t with primaryAt := some (t.primaryAt.getD t.fabric) }
  else s

/-- The sources lost with source `k`: PPS_PTP goes with PTP, and both PPS sources with the edges (R353). -/
def lostWith (k : Nat) : List Nat := if k = 1 then [1, 2] else if k = 2 || k = 3 then [2, 3] else if k = 4 then [4] else []

/-- Source `k` is lost (R353, R354): what was followed of it goes; where it is in force the backup takes over when it
gave a usable sample in the last 2 s and is not lost too, else holdover. -/
def loseSource (k : Nat) (s : State) : State :=
  let l := lostWith k
  let b := backupSource s.coh.active
  let s := s.onTime fun t =>
    { t with ptpTx := if k = 1 then none else t.ptpTx, ptpSync := if k = 1 then none else t.ptpSync
             ppsLast := if k = 2 || k = 3 then none else t.ppsLast, ppsPresent := t.ppsPresent && !(k == 2 || k == 3)
             backupAt := if l.contains b then none else t.backupAt
             primaryAt := if l.contains (primarySource s.coh.active) then none else t.primaryAt }
  if !l.contains s.time.source then s
  else
    let fresh := match s.time.backupAt with
      | some t => (s.time.fabric - t).toNat ≤ 800000000
      | none => false
    if fresh && b != s.time.source && b ≤ 4 then switchSource b 1 s else enterHoldover s

/-! ### Source events -/

/-- The loss timer of source `k` can have expired: for the PPS edges 2.5 s of network time after the last accepted one, for BEACON
in SEARCH or SCAN; the intervals of PTP are the time transmitter's (R353). -/
def lossDue (k : Nat) (s : State) : Bool :=
  if k = 2 || k = 3 then
    match s.time.ppsLast with
    | some p => decide (p + 2500000000 ≤ s.netNs)
    | none => true
  else if k = 4 then s.link.sync != .synced
  else true

/-- `SOURCE_LOST`: the loss timer of source `k` expires (R353): PTP for k = 1, the PPS edges for k = 2 or 3. -/
def execSourceLost (k : Nat) (s : State) : Out :=
  if s.works timeFn && lossDue k s && (lostWith k).any fun x =>
      x == s.time.source || x == primarySource s.coh.active || x == backupSource s.coh.active then
    .next (loseSource k s)
  else .next s

/-- The primary has been usable for REVERT_S (R354). -/
def revertDue (s : State) : Bool :=
  match s.time.primaryAt with
  | some t => decide (u16 (timePart s.coh.active) 24 * 400000000 ≤ (s.time.fabric - t).toNat)
  | none => false

/-- `SOURCE_REVERT` (R354). -/
def execSourceRevert (s : State) : Out :=
  let m := s.coh.active
  if s.works timeFn && s.time.source != primarySource m && u16 (timePart m) 24 != 0 && revertDue s then
    .next (switchSource (primarySource m) 2 s)
  else .next s

/-- `HOLDOVER_EXPIRY`: HOLDOVER_MAX_S after the entry (R368). -/
def execHoldoverExpiry (s : State) : Out :=
  if s.works timeFn && s.time.state == .holdover
      && decide (u16 (timePart s.coh.active) 26 * 400000000 ≤ (s.time.fabric - s.time.holdSince).toNat) then
    .next (raiseEvent 165 timeFn (errBound s) (s.onTime fun t => { t with state := .holdoverExpired }))
  else .next s

/-! ### PTP (R356 to R359) -/

/-- A PTP message is taken. -/
def ptpTaken (s : State) : Bool := s.works timeFn && usesPtp s.coh.active

/-- The header of a message lies within the scope of R356: versionPTP 2, minorVersionPTP 0 or 1, the transport of PTP_IPV4. -/
def ptpScope (m : NMap Bytes) (x : PtpSender) : Bool :=
  x.version == 2 && decide (x.minor ≤ 1) && x.ipv4 == bit (u8 (timePart m) 2) 2

/-- The message is of the time transmitter that is followed. -/
def ptpFollowed (s : State) (x : PtpSender) : Bool := ptpScope s.coh.active x && s.time.ptpTx == some x.clock.toNat

/-- Least fabric cycles between two Delay_Req: the interval of the last Delay_Resp, at most 16 per second (R356);
before a first Delay_Resp that limit holds (DESIGN CHOICE, log entry 168). -/
def delayGap (s : State) : Nat :=
  max 25000000 (if 0 ≤ s.time.delayLog then 400000000 * 2 ^ s.time.delayLog.toNat else 400000000 / 2 ^ s.time.delayLog.natAbs)

/-- A Delay_Req may be sent. -/
def delayDue (s : State) : Bool :=
  match s.time.delayAt with
  | none => true
  | some t => decide (delayGap s ≤ (s.time.fabric - t).toNat)

/-- `PTP_ANNOUNCE_RX`: selects or refreshes the followed time transmitter (R356). -/
def execPtpAnnounceRx (clock : PtpSender) (domain : BitVec 8) (ptpTimescale : Bool) (s : State) : Out :=
  if ptpTaken s then
    let s := s.count timeFn 1
    let b := timePart s.coh.active
    if ptpScope s.coh.active clock && domain.toNat = u8 b 3 && ptpTimescale && s.time.ptpTx.isNone
        && (u64 b 32 == 0 || u64 b 32 == clock.clock.toNat) then
      .next (s.onTime fun t => { t with ptpTx := some clock.clock.toNat })
    else .next s
  else .next s

/-- `PTP_SYNC_RX`: `stamp` is the ingress time stamp; t2 is it less RX_TS_COMP_NS (R358).  More than 16 in a second are
discarded, and those with a logSyncInterval outside −4 to +1 are ignored (R356). -/
def execPtpSyncRx (clock : PtpSender) (seqId : BitVec 16) (twoStep : Bool) (t1 correction stamp : Int) (s : State) : Out :=
  if ptpTaken s then
    let s := s.count timeFn 1
    let recent := s.time.syncTimes.filter fun t => (s.time.fabric - t).toNat < 400000000
    if ptpFollowed s clock && -4 ≤ clock.interval && clock.interval ≤ 1 && recent.length < 16 then
      .next (s.onTime fun t =>
        { t with
          syncTimes := s.time.fabric :: recent
          ptpSync := some { seqId := seqId.toNat, t1 := if twoStep then none else some t1
                            t2 := stamp - u16 (timePart s.coh.active) 40, correction := correction, t3 := none, reqSeq := 0
                            port := clock.port } })
    else .next s
  else .next s

/-- `PTP_FOLLOW_UP_RX`: supplies t1 of a two-step Sync. -/
def execPtpFollowUpRx (clock : PtpSender) (seqId : BitVec 16) (t1 correction : Int) (s : State) : Out :=
  if ptpTaken s then
    let s := s.count timeFn 1
    match s.time.ptpSync with
    | some y =>
      if ptpFollowed s clock && y.seqId == seqId.toNat && y.t1.isNone then
        .next (s.onTime fun t => { t with ptpSync := some { y with t1 := some t1, correction := y.correction + correction } })
      else .next s
    | none => .next s
  else .next s

/-- `DELAY_REQ_TX`: a Delay_Req for the Sync taken leaves on the port that received it, not before its interval has passed
(R356); t3 is the egress time stamp plus TX_TS_COMP_NS (R358). -/
def execDelayReqTx (seqId : BitVec 16) (stamp : Int) (s : State) : Out :=
  match s.time.ptpSync with
  | none => .next s
  | some y =>
    if ptpTaken s && s.time.ptpTx.isSome && delayDue s then
      .next ((s.count timeFn 2).onTime fun t =>
        { t with delayAt := some t.fabric, delayPort := some y.port
                 ptpSync := some { y with t3 := some (stamp + u16 (timePart s.coh.active) 42), reqSeq := seqId.toNat } })
    else .next s

/-- Smallest element of a list that starts with `d`. -/
def minInt (d : Int) (l : List Int) : Int := l.foldl min d

/-- A complete exchange: its delay measurement enters the last 8; a round trip more than 20 µs above the smallest is
discarded; the rest is a sample (R359).  For PPS_PTP the sample gives the seconds until time is valid. -/
def ptpSample (t1 t2 t3 t4 c1 c2 : Int) (s : State) : State :=
  let delay := ((t2 - t1 - c1) + (t4 - t3 - c2)) / 2
  let ds := (delay :: s.time.ptpDelays).take 8
  let path := minInt delay ds
  let s := s.onTime fun t => { t with ptpDelays := ds, ptpSync := none }
  if 2 * delay > 2 * path + 20000 then s.count timeFn 4
  else
    let off := t2 - t1 - c1 - path
    let s := s.count timeFn 3
    sampleFrom 1 off (if s.time.source = 2 && s.time.state == .invalid then moveTime (-off) s else s)

/-- `PTP_DELAY_RESP_RX`: completes a sample, and gives the interval of the Delay_Req that follow (R356). -/
def execPtpDelayRespRx (clock : PtpSender) (seqId : BitVec 16) (t4 correction : Int) (s : State) : Out :=
  if ptpTaken s then
    let s := s.count timeFn 1
    match s.time.ptpSync with
    | some y =>
      match y.t1, y.t3 with
      | some t1, some t3 =>
        if ptpFollowed s clock && y.reqSeq == seqId.toNat then
          .next (ptpSample t1 y.t2 t3 t4 y.correction correction (s.onTime fun t => { t with delayLog := clock.interval }))
        else .next s
      | _, _ => .next s
    | none => .next s
  else .next s

/-! ### PPS (R360, R361, R369) -/

/-- The reference clock runs: RUN and SLOT_IDLE. -/
def refRuns (s : State) : Bool := s.power.phase == .awake

/-- Reference cycles expected in `n` seconds at the frequency estimate, and whether a count lies within `tol`. -/
def cyclesOk (cycles : Nat) (ppb : Int) (tol : Nat) : Bool :=
  absInt ((cycles : Int) - (38400000 + 38400000 * ppb / 1000000000)) ≤ tol

/-- Deviation in ppb of a count of reference cycles from the count expected at `ppb`. -/
def cyclesPpb (cycles : Nat) (ppb : Int) : Int :=
  ((cycles : Int) - (38400000 + 38400000 * ppb / 1000000000)) * 1000000000 / 38400000

/-- `EV_TIME_PLAUS_FAIL` with the source that it raises. -/
def plausFail (check source cycles : Nat) (ppb : Int) (s : State) : State :=
  let p := check + unsigned 32 (cyclesPpb cycles ppb) * 2 ^ 32
  raiseSource source timeFn p (raiseEvent 166 timeFn p (s.count timeFn 15))

/-- Apply a `TIME_SET` step of Δ ns (R366, R375). -/
def setTime (d : Int) (force : Bool) (s : State) : State :=
  if s.timeValid then
    let s := stepTime d s
    let s := if force && d != 0 then s.count timeFn 8 else s
    let s := if d = 0 then s else stepEvent d 0xFE force s
    if s.time.state = .freerun then s.onTime fun t => { t with errBase := 0, errSince := s.time.fabric }
    else if s.time.state = .refused && force then
      s.onTime fun t => { t with state := .locked, errBase := 0, jumpEpisode := false }
    else s
  else
    let s := moveTime d s
    if s.time.source = 0 then
      raiseEvent 160 timeFn 0 (s.onTime fun t => { t with state := .freerun, errBase := 0, errSince := s.time.fabric })
    else s

/-- Network time at the present fabric cycle, ns: the capture of an edge has a resolution of 2.5 ns (R360). -/
def captureNs (s : State) : Nat := s.netNs + s.time.refPhase * 5 / 24

/-- The PPS sources that are in force or configured. -/
def ppsKinds (s : State) : List Nat :=
  [2, 3].filter fun k => k == s.time.source || k == primarySource s.coh.active || k == backupSource s.coh.active

/-- The whole second of an accepted edge for PPS source `k` (R360): for PPS_PTP, while PTP is not lost (R353), the second nearest to
the capture, once a PTP exchange has given the seconds; for PPS_HOST the count from the value of `TIME_SET` mode 1. -/
def edgeSecond (k capture : Nat) (s : State) : Option Nat :=
  if k = 2 then
    if s.time.ptpTx.isNone || (s.time.state == .invalid && s.time.ptpDelays.isEmpty) then none
    else some ((capture + 500000000) / 1000000000)
  else s.time.ppsSecond

/-- Offset of an edge against its whole second (R360). -/
def edgeOffset (s : State) (capture sec : Nat) : Int := (capture : Int) - ((sec : Int) * 1000000000 + ppsOffset s.coh.active)

/-- An accepted edge as a sample of PPS source `k`. -/
def edgeSample (capture : Nat) (s : State) (k : Nat) : State :=
  match edgeSecond k capture s with
  | some sec => sampleFrom k (edgeOffset s capture sec) s
  | none => s

/-- The edge that `TIME_SET` mode 1 waits for: time is set by a step, never a slew (R366, R375), and the edge is a sample of
PPS_HOST on its second.  Where PPS_HOST is in force and time is not valid it is the first sample (R355); a step above
JUMP_THRESHOLD_US without FORCE is refused as a sample is (R362). -/
def edgeSet (capture sec : Nat) (s : State) : State :=
  let off := edgeOffset s capture sec
  let forced := s.time.ppsArmedForce
  let s := s.onTime fun t => { t with ppsArmed := none, ppsArmedForce := false }
  if s.timeValid && decide (jumpNs s.coh.active < absInt off) && !forced then sampleFrom 3 off s
  else if !s.timeValid && s.time.source == 3 then sampleFrom 3 off s
  else sampleFrom 3 0 (setTime (-off) forced s)

/-- The count of PPS_HOST at an accepted edge: the value set, plus 1 per accepted edge since (R360). -/
def countEdge (s : State) : State :=
  s.onTime fun t => { t with ppsSecond := match t.ppsArmed with
    | some v => some v
    | none => t.ppsSecond.map (· + 1) }

/-- `PPS_IN_EDGE`: `cycles` is the count of reference cycles since the previous accepted edge.  An edge whose interval fails its
check is accepted but no sample (R369); it still sets time where `TIME_SET` mode 1 waits for it (R375). -/
def execPpsInEdge (cycles : Nat) (s : State) : Out :=
  if s.works timeFn && refRuns s then
    let now := captureNs s
    let ok := match s.time.ppsLast with
      | none => true
      | some p => absInt ((now : Int) - p - 1000000000) ≤ 100000
    if !ok then .next (s.count timeFn 6)
    else
      let bad := s.time.ppsLast.isSome && !cyclesOk cycles s.time.freqEst 384
      let s := (s.onTime fun t => { t with ppsLast := some now, ppsPresent := true }).count timeFn 5
      let armed := s.time.ppsArmed
      let s := countEdge s
      let s := if bad then plausFail 1 104 cycles s.time.freqEst s else s
      .next (match armed with
        | some v => edgeSet now v s
        | none => if bad then s else (ppsKinds s).foldl (edgeSample now) s)
  else .next s

/-- `PPS_SET_LAPSE`: 2.5 s without an accepted edge (R375). -/
def execPpsSetLapse (s : State) : Out :=
  if s.time.ppsArmed.isSome && decide (1000000000 ≤ (s.time.fabric - s.time.armedAt).toNat) then
    .next ((s.onTime fun t => { t with ppsArmed := none, ppsArmedForce := false }).count timeFn 17)
  else .next s

/-- Network time is at a whole second, within ±5 ns (R361). -/
def wholeSecond (s : State) : Bool := captureNs s % 1000000000 ≤ 5 || 999999995 ≤ captureNs s % 1000000000

/-- `PPS_OUT_RISE`: at each whole second of network time (R361). -/
def execPpsOutRise (s : State) : Out :=
  if s.works timeFn && refRuns s && s.timeValid && bit (u8 (timePart s.coh.active) 2) 0 && wholeSecond s then
    .next (s.onTime fun t => { t with ppsOut := true, ppsOutAt := t.fabric })
  else .next s

/-- `PPS_OUT_FALL`: the output has been high for PPS_OUT_WIDTH_US (R361). -/
def execPpsOutFall (s : State) : Out :=
  if u32 (timePart s.coh.active) 20 * 400 ≤ (s.time.fabric - s.time.ppsOutAt).toNat then
    .next (s.onTime fun t => { t with ppsOut := false })
  else .next s

/-- `SPRING_MEASUREMENT`: reference cycles in 32,768 Spring ticks.  A second of holdover is counted with it
(log entry 21). -/
def execSpringMeasurement (cycles : Nat) (s : State) : Out :=
  if s.works timeFn && refRuns s then
    let s := if s.time.state = .holdover || s.time.state = .holdoverExpired then s.count timeFn 12 else s
    let s := if absInt ((cycles : Int) - 38400000) > 7680 then plausFail 2 105 cycles 0 s else s
    -- the run lasts t ns of network time; the crystal makes 32,768 × 10⁹ / t ticks per second
    let t : Int := cycles * 1000000000 / 38400000 + (cycles : Int) * freqPpb s / 38400000
    let ppb : Int := if t = 0 then 0 else (1000000000 - t) * 1000000000 / t
    .next (s.onTime fun x =>
      { x with
        springPpb := if x.springSeconds = 0 then ppb else x.springPpb + (ppb - x.springPpb) / 64
        springSeconds := x.springSeconds + 1, springDisc := x.springDisc || decide (64 ≤ x.springSeconds + 1) })
  else .next s

/-! ### Commands (R373 to R376) -/

/-- `TIME_CONFIG`: stages the body (R374). -/
def execTimeConfig (buf : Bytes) (s : State) : Out :=
  .next (runKci 0x0D01 buf (stageOne 0x0D01 0 0
    [⟨0, 1, .range 0 4⟩, ⟨1, 1, .rangeOr 0 4 0xFF⟩, ⟨2, 1, .flags 3⟩, ⟨3, 1, .range 0 127⟩,
      ⟨4, 4, .range 1000 1000000⟩, ⟨8, 4, .range 100 1000000000⟩, ⟨12, 4, .range 1000 100000⟩,
      ⟨16, 4, .srange (-1000000) 1000000⟩, ⟨20, 4, .range 1 500000⟩, ⟨24, 2, .range 0 3600⟩, ⟨26, 2, .range 1 65535⟩,
      ⟨28, 4, .range 1 10000⟩, ⟨40, 2, .range 0 10000⟩, ⟨42, 2, .range 0 10000⟩, ⟨44, 4, .zero⟩]) s)

/-- `TIME_SET` (R366, R375). -/
def execTimeSet (buf : Bytes) (s : State) : Out :=
  .next (runKci 0x0D02 buf (fun s _ _ body =>
    match checkFields body ([⟨0, 1, .range 0 2⟩, ⟨1, 1, .flags 1⟩, ⟨2, 2, .zero⟩]
        ++ (if u8 body 0 = 0 then [⟨12, 4, .range 0 999999999⟩] else [⟨12, 4, .range 0 0⟩])) with
    | some rc => no rc
    | none =>
      let force := bit (u8 body 1) 0
      if !s.enabled timeFn then no rcFunctionDisabled
      else if s.time.source = 4
          || !(s.time.source == 0 || s.time.state == .holdover || s.time.state == .refused || force) then
        no rcTimeSourceActive
      else if u8 body 0 = 1 then
        ok (s.onTime fun t => { t with ppsArmed := some (u64 body 4), ppsArmedForce := force, armedAt := t.fabric })
      else if u8 body 0 = 2 && !s.timeValid then no rcTimeNotValid
      else
        let d : Int := if u8 body 0 = 2 then i64 body 4
          else ((u64 body 4 * 1000000000 + u32 body 12 : Nat) : Int) - s.netNs
        if s.timeValid && absInt d > jumpNs s.coh.active && !force then no rcTimeJumpRefused
        else ok (setTime d force s)) s)

/-- `TIME_READ`: all bases at one fabric instant (R376). -/
def execTimeRead (buf : Bytes) (s : State) : Out :=
  .next (runKci 0x0D03 buf (fun s _ _ _ =>
    let v := s.timeValid
    .done s rcOk 0
      (leBytes 8 (if v then s.time.seconds.toNat else 0) ++ leBytes 4 (if v then s.time.nanos.toNat else 0)
        ++ leBytes 4 (errBound s) ++ leBytes 8 s.time.spring.toNat ++ leBytes 8 s.time.fabric.toNat
        ++ leBytes 8 s.asn64.toNat ++ leBytes 1 (timeStateCode s.time.state) ++ leBytes 1 s.time.source ++ zeros 6) []) s)

/-! ### Commit, reset, rules and status -/

/-- The time unit takes up a commit: a new PRIMARY becomes the source in force (R354, R380). -/
def applyTime (old : NMap Bytes) (s : State) : State :=
  let m := s.coh.active
  let s := s.onTime fun t =>
    { t with ppsOut := t.ppsOut && enabledIn m timeFn && bit (u8 (timePart m) 2) 0
             freqEst := if ref10 m then 0 else t.freqEst
             ptpTx := t.ptpTx.filter fun c => u8 (timePart old) 3 == u8 (timePart m) 3 && (u64 (timePart m) 32 == 0 || u64 (timePart m) 32 == c)
             backupAt := if backupSource old = backupSource m then t.backupAt else none
             primaryAt := if primarySource old = primarySource m then t.primaryAt else none }
  if enabledIn m timeFn && (primarySource old != primarySource m || !enabledIn old timeFn
      || (s.time.source != primarySource m && s.time.source != backupSource m)) then
    let lost := s.time.source
    let s := switchSource (primarySource m) 0 s
    if !s.timeValid then s
    else if s.time.source = 0 then freezeBound .freerun (leaveHoldoverOf lost s)
    else if s.time.state = .freerun then enterHoldover s
    else s
  else s

/-- Reset of the time unit (R372). -/
def resetTime (s : State) : State :=
  let s := s.onTime fun t =>
    { t with ptpTx := none, ptpSync := none, delayLog := -4, delayAt := none, delayPort := none, ptpDelays := [], syncTimes := []
             backupAt := none, primaryAt := none, ppsLast := none
             ppsPresent := false, ppsArmed := none, ppsArmedForce := false, ppsOut := false }
  if s.time.state = .locked || s.time.state = .refused then
    -- FREQ_PPB continues unchanged
    (enterHoldover s).onTime fun t => { t with phaseTerm := s.time.phaseTerm }
  else s

/-- The rules of R377. -/
def timeRules (m : NMap Bytes) : Option (Nat × Nat) :=
  let b := timePart m
  let ptp := usesPtp m
  let router := part m 0x0800 0x0801 0 0
  if u32 b 8 * 1000 ≤ u32 b 4 then some (1, rcTimeThresholds)
  else if (if linkRelay m then primarySource m != 4 else primarySource m == 4 || backupSource m == 4) then
    some (2, rcTimeSourceRole)
  else if ptp && (!enabledIn m 0x0800
      || (if bit (u8 b 2) 2 then u32 router 16 == 0 else leNat (slice router 0 16) == 0)) then
    some (3, rcTimeSourcePath)
  else none

/-- Status of 0x0D00 (R378). -/
def timeStatus (s : State) : Bytes :=
  let t := s.time
  leBytes 1 (timeStateCode t.state) ++ leBytes 1 t.source
    ++ leBytes 1 (flag t.springDisc + 2 * flag t.ppsPresent + 4 * flag t.ptpTx.isSome) ++ [0]
    ++ leInt 4 (freqPpb s) ++ leInt 4 t.lastOffset ++ leInt 4 (springPpb s) ++ leBytes 4 (errBound s)
    ++ leBytes 4 t.lastWakeBound.toNat ++ leBytes 8 t.asnFloor.toNat

end Sys2Proof.Machine
end

