-- ==== Sys2Proof/Machine/Link.lean ====
section
/-!
DEFINITION. The link controller's tables and synchronisation: configuration commands, the neighbour table, receive
windows, lost-sync, the relay's search for its parent, rules and status (chapter 03).
-/

namespace Sys2Proof.Machine

def linkFn : Nat := 0x0600

/-! ### Neighbour table (R110, R111) -/

/-- The host-owned fields of entry `i` in the layout of R110; empty when nothing has been written. -/
def nbPart (m : NMap Bytes) (i : Nat) : Bytes := part m 0x0600 0x0604 0 i
def nbValid (m : NMap Bytes) (i : Nat) : Bool := bit (u8 (nbPart m i) 10) 0
def nbExt (m : NMap Bytes) (i : Nat) : Nat := u64 (nbPart m i) 0
def nbShort (m : NMap Bytes) (i : Nat) : Nat := u16 (nbPart m i) 8
def nbIsParent (m : NMap Bytes) (i : Nat) : Bool := bit (u8 (nbPart m i) 10) 2
def nbMinLevel (m : NMap Bytes) (i : Nat) : Nat := u8 (nbPart m i) 11
def nbKey (m : NMap Bytes) (i : Nat) : Nat := u32 (nbPart m i) 12
def nbDrift (m : NMap Bytes) (i : Nat) : Nat := u8 (nbPart m i) 16

/-- The indexes of the entries that a set lists. -/
def nbIndexes (m : NMap Bytes) : List Nat :=
  m.filterMap fun e => if cfgKeyFn e.1 == 0x0600 && cfgKeyOp e.1 == 0x0604 then some (cfgKeyIdx e.1) else none

/-- The valid entries of a set. -/
def validNbs (m : NMap Bytes) : List Nat := (nbIndexes m).filter (nbValid m)

/-- The valid entry with a source or destination address. -/
def findNb (m : NMap Bytes) (a : Addr) : Option Nat :=
  match a with
  | .absent => none
  | .short x => if x = 0xFFFF then none else (validNbs m).find? fun i => nbShort m i == x
  | .ext x => (validNbs m).find? fun i => nbExt m i == x

/-- The 64 bytes of entry `i` as `NEIGHBOUR_READ` returns them. -/
def nbBytes (s : State) (i : Nat) : Bytes :=
  let h := nbPart s.coh.active i
  let d := s.nb i
  slice h 0 10 ++ leBytes 1 (u8 h 10 % 2 + 2 * flag d.lostSync + 4 * flag (bit (u8 h 10) 2)) ++ slice h 11 6 ++ zeros 3
    ++ leBytes 4 d.win.highest.toNat ++ leBytes 8 d.win.bitmap.toNat ++ leBytes 6 d.lastSync.toNat
    ++ leInt 2 d.offsetUs ++ leBytes 4 d.ackCtr.toNat ++ leInt 2 d.ackCorr ++ leBytes 1 d.ackFlags.toNat ++ [0]
    ++ leBytes 8 d.accepted.toNat ++ leBytes 8 d.duplicate.toNat

/-- The host-owned fields of an entry of `NEIGHBOUR_WRITE`, all others zero; an entry of zeros is as one not written. -/
def nbHost (e : Bytes) : Bytes :=
  let h := slice e 0 10 ++ leBytes 1 (u8 e 10 % 2 + 4 * flag (bit (u8 e 10) 2)) ++ slice e 11 6 ++ zeros 47
  if leNat h = 0 then [] else h

/-- Checks of one entry. -/
def nbFields : List FieldSpec :=
  [⟨10, 1, .flags 3⟩, ⟨11, 1, .oneOf [0, 2, 6]⟩, ⟨12, 4, .range 0 262143⟩, ⟨17, 3, .zero⟩, ⟨47, 1, .zero⟩]

/-! ### Receive windows (R101, R103) -/

/-- Early and late edge of a dedicated cell of neighbour `n` at its slot start, µs, and whether w has reached cap. -/
def rxWindow (s : State) (m : NMap Bytes) (n : Nat) (c : Bytes) (ch : Nat) : Nat × Nat × Bool :=
  let d := s.nb n
  let dt := (s.time.spring - d.lastSync).toNat * 1000000 / 32768
  let w : Int := guardUs m + dt * nbDrift m n / 4000000
  let span : Int := (slotUs m : Int) - cellAirUs m c ch - cellAckUs m c ch
  let centre : Int := (txOffset m : Int) + d.offsetUs
  let cap := max centre (span - centre)
  if d.lostSync || decide (cap ≤ w) then (0, span.toNat, true)
  else ((max 0 (centre - w)).toNat, (min span (centre + w)).toNat, false)

/-- Edges of a shared or parent cell on channel `ch`: TX_OFFSET ± GUARD, doubled in SEARCH for a parent beacon, inside
the span of the cell (R101, R109). -/
def plainWindow (m : NMap Bytes) (c : Bytes) (ch : Nat) (wide : Bool) : Nat × Nat :=
  let w := if wide then 2 * guardUs m else guardUs m
  (txOffset m - w, min (slotUs m - cellAirUs m c ch - cellAckUs m c ch) (txOffset m + w))

/-- Neighbour `n` becomes lost-sync (R103). -/
def markLost (n : Nat) (s : State) : State :=
  if (s.nb n).lostSync then s
  else
    let s := (s.onNb n fun d => { d with lostSync := true }).count linkFn 17
    s.onLink fun l => { l with lostFirst := if l.lostCount = 0 then n else l.lostFirst, lostCount := l.lostCount + 1 }

/-- The window of a receiving cell of generation `g` with channel `ch` in slot `a`, and the state with lost-sync marked; a
dedicated cell whose neighbour's entry is not valid has the window of a shared one (log entry 103). -/
def openCellOf (g : BitVec 32) (sf idx : Nat) (c : Bytes) (ch a : Nat) (s : State) : SlotCell × State :=
  let m := s.setOf g
  let mk (e l : Nat) : SlotCell := ⟨sf, idx, c, ch, e, l, a, g⟩
  if cellUse c = 0 && nbValid m (cellNeighbour c) then
    let (e, l, lost) := rxWindow s m (cellNeighbour c) c ch
    (mk e l, if lost then markLost (cellNeighbour c) s else s)
  else
    let (e, l) := plainWindow m c ch (cellUse c == 5 && s.link.sync == .search)
    (mk e l, s)

/-- The same for a cell of the active set. -/
def openCell (sf idx : Nat) (c : Bytes) (ch a : Nat) (s : State) : SlotCell × State :=
  openCellOf s.coh.generation sf idx c ch a s

/-! ### Synchronisation of a relay (R108, R109) -/

/-- The channels of the hopping set of the slotframe with parent-beacon cells. -/
def scanChannels (m : NMap Bytes) : List Nat :=
  match (List.range 8).find? fun sf => sfEnabled m sf && (sfCells m sf).any fun e => cellUse e.2 == 5 with
  | some sf => (hopSet m (sfHopset m sf)).filter (chanUsable m)
  | none => []

/-! ### Listening intervals (R140, R181, R188) -/

/-- The lanes of a relay in SCAN search this channel without end. -/
def scanning (s : State) (ch : Nat) : Bool :=
  linkRelay s.coh.active && s.link.sync == .scan && (scanChannels s.coh.active).contains ch

/-- The interval in which a lane listens for a cell, network time in ns. -/
def cellSpan (s : State) (c : SlotCell) : Nat × Nat :=
  let m := s.setOf c.generation
  let base := slotAtNs s m c.asn
  let bits (n : Nat) := n * 1000000000 / chanRate m c.ch
  (base + c.early * 1000 - bits (preambleLen m c.ch), base + c.late * 1000 + bits (preambleLen m c.ch + 48))

/-- The receiving cells of the next slot: their intervals may begin before it. -/
def nextCells (s : State) : List SlotCell :=
  let m := s.coh.active
  match s.time.asn with
  | none => []
  | some n => (activeCells m (n + 1)).filterMap fun c =>
    match if cellReceives m c.2.2 then cellChannel m c.1 c.2.2 (n + 1) else none with
    | some ch => if chanUsable m ch then some (openCell c.1 c.2.1 c.2.2 ch (n + 1) s).1 else none
    | none => none

/-- The lane listens for the acknowledgement of a downlink as for a cell whose window is TURNAROUND ± ACK_GUARD (DEDUCED from
R254, log entry 137). -/
def ackSpans (s : State) (ch : Nat) : List (Nat × Nat) :=
  s.sluice.queued.filterMap fun f =>
    let m := s.setOf f.generation
    let bits (n : Nat) := n * 1000000000 / chanRate m ch
    if f.awaiting = some ch then
      some (f.endNs + turnaround m * 1000 - ackGuard m * 1000 - bits (preambleLen m ch),
        f.endNs + (turnaround m + ackGuard m) * 1000 + bits (preambleLen m ch + 48))
    else none

/-- The intervals of a channel.  A channel that is about to reload serves cells of earlier generations only (R201). -/
def listenSpans (s : State) (ch : Nat) : List (Nat × Nat) :=
  ((s.link.slotCells ++ nextCells s).filter fun c =>
      c.ch == ch && (!(s.chan ch).settling || c.generation != s.coh.generation)).map (cellSpan s) ++ ackSpans s ch

/-- The lane of a channel is due to listen: one of its intervals is open, or it is scanned. -/
def listenDue (s : State) (ch : Nat) : Bool :=
  scanning s ch || (listenSpans s ch).any fun e => decide (e.1 ≤ s.netNs) && decide (s.netNs < e.2)

/-- RX_ACTIVE stays asserted while a channel of the radio listens, or is due to within RX_LEAD (R140). -/
def rxDue (s : State) (r : Fin 3) : Bool :=
  let m := s.coh.active
  (radioChans m r.val).any fun ch => !chanMonitor m ch && ((s.chan ch).listening
    || (listenSpans s ch).any fun e => decide (e.1 ≤ s.netNs + rxLead m r.val * 1000) && decide (s.netNs < e.2))

/-- The channel's listening interval begins. -/
def startListening (ch : Nat) (s : State) : State :=
  let m := s.setOf ((s.link.slotCells.find? fun c => c.ch == ch).elim s.coh.generation (·.generation))
  let r := chanRadioFin m ch
  s.onChan ch fun x =>
    { x with listening := true, since := s.time.fabric
             iq := if rfSampling m r.val then Corrections.neutral else chanCorr s r (chanLo m ch) (chanCentre m ch) }

/-- Time since a cycle of the fabric clock, µs. -/
def sinceUs (s : State) (t : BitVec 64) : Nat := (s.time.fabric - t).toNat / 400

/-- The channel's listening interval ends: its time is added to LISTEN_TIME_US, and RX_ACTIVE deasserts where nothing more of
the radio listens. -/
def stopListening (ch : Nat) (s : State) : State :=
  let x := s.chan ch
  if x.listening then
    let r := chanRadioFin s.coh.active ch
    let s := (s.onChan ch fun x => { x with listening := false }).countN (groupFn ch) 16 (sinceUs s x.since)
    -- what was heard stays in the channel's ring (R206)
    let s := if (s.ring ch).kb = 0 then s else s.onRx fun y =>
      { y with rings := mmod Ring.none y.rings ch fun g => { g with heard := ((x.since, s.time.fabric) :: g.heard).take 64 } }
    if rxDue s r then s else s.onRadio r fun y => { y with rxActive := false }
  else s

/-- A lane that can begin to search: its group works, and it is neither shed nor listening. -/
def laneReady (s : State) (ch : Nat) : Bool := s.works (groupFn ch) && !(s.chan ch).shed && !(s.chan ch).listening

/-- Enter SCAN: the lanes of the scanned channels search at once. -/
def enterScan (s : State) : State :=
  let l := scanChannels s.coh.active
  let s := s.onLink fun x => { x with sync := .scan }
  let s := (l.filter fun ch => laneReady s ch && !(s.chan ch).settling).foldl (fun s ch => startListening ch s) s
  raiseEvent 67 linkFn (min l.length 255) s

/-- The enabled slotframes of a set with their cells. -/
def enabledCells (m : NMap Bytes) : List (Nat × Nat × Bytes) :=
  ((List.range 8).filter (sfEnabled m)).flatMap fun sf => (sfCells m sf).map fun e => (sf, e.1, e.2)

/-- ASN of the latest slot up to `a` with a parent-beacon cell: the beacon that is missed (R109, R123). -/
def missedBeacon (m : NMap Bytes) (a : Nat) : Nat :=
  let slots := (enabledCells m).filterMap fun c =>
    let n := sfLength m c.1
    if cellUse c.2.2 = 5 && n != 0 && cellSlot c.2.2 ≤ a then some (a - (a - cellSlot c.2.2) % n) else none
  slots.foldl max 0

/-- `BEACON_MISSED`: SYNCED to SEARCH; SEARCH to SCAN after 4 intervals (R109).  In SEARCH the beacon source is lost
(R353). -/
def execBeaconMissed (s : State) : Out :=
  if s.works linkFn && linkRelay s.coh.active && s.time.asn.isSome then
    let s := s.count linkFn 16
    match s.link.sync with
    | .synced =>
      let s := (s.onLink fun l => { l with sync := .search, missed := 0 }).count linkFn 18
      .next (loseSource 4 (raiseEvent 64 linkFn (missedBeacon s.coh.active (s.time.asn.getD 0)) s))
    | .search =>
      let s := s.onLink fun l => { l with missed := l.missed + 1 }
      .next (if 4 ≤ s.link.missed then enterScan s else s)
    | .scan => .next s
  else .next s

/-- `NEIGHBOUR_LOST_SYNC_REPORT` (R103). -/
def execNeighbourLostSyncReport (s : State) : Out :=
  if s.link.lostCount = 0 then .next s
  else
    .next (raiseEvent 66 linkFn (min s.link.lostCount 0xFFFFFFFF + s.link.lostFirst * 2 ^ 32)
      (s.onLink fun l => { l with lostCount := 0, lostFirst := 0 }))

/-- A step in fast ticks as ns. -/
def ticksNs (t : Int) : Int := t * 625 / 24

/-- An authenticated beacon of the parent with ASN `a`, DEPTH `depth`, received on `ch` with an offset of `off` fast
ticks (R108, R367): the realignment waits for the next slot boundary; the end of a SCAN is reported (R109).  A beacon that ends SCAN raises
EV_LINK_SYNC_REGAINED here, with a step taken modulo 2^32, and again when a step above GUARD is applied (DESIGN CHOICE, log
entry 160). -/
def takeBeacon (a depth ch : Nat) (off : Int) (s : State) : State :=
  let s := s.count linkFn 15
  let scan := s.link.sync == .scan
  let s := s.onLink fun l =>
    { l with parentAsn := some a, parentDepth := depth, realignBy := some (off, ch), sync := .synced, missed := 0 }
  if scan then
    -- lanes that only the SCAN kept searching stop
    let s := ((scanChannels s.coh.active).filter fun k => !listenDue s k).foldl (fun s k => stopListening k s) s
    raiseEvent 65 linkFn (unsigned 32 (-off) + ch * 2 ^ 32) s
  else s

/-! ### Configuration commands (R115 to R119) -/

/-- `LINK_CONFIG`: stages the body (R116). -/
def execLinkConfig (buf : Bytes) (s : State) : Out :=
  .next (runKci 0x0601 buf (fun s m req body =>
    stageOne 0x0601 0 0
      ([⟨0, 1, .range 0 1⟩, ⟨1, 1, .range 0 7⟩, ⟨4, 2, .rangeOr 164 32767 0⟩, ⟨6, 2, .zero⟩, ⟨8, 4, .range 100 500000⟩,
        ⟨12, 4, .range 100 100000⟩, ⟨16, 4, .range 500 20000⟩, ⟨20, 4, .range 50 5000⟩, ⟨32, 4, .range 0 262143⟩,
        ⟨36, 4, .range 0 262143⟩]
        ++ (if u8 body 0 = 1 then [⟨40, 4, .rangeOr 0 262143 0xFFFFFFFF⟩] else [⟨40, 4, .oneOf [0xFFFFFFFF]⟩])
        ++ [⟨44, 1, .flags 1⟩, ⟨45, 1, .zero⟩, ⟨46, 2, .range 0 1023⟩]) s m req body) s)

/-- No element occurs twice. -/
def distinct : List Nat → Bool
  | [] => true
  | x :: xs => !xs.contains x && distinct xs

/-- `HOPSET_LOAD`: stages one hopping set; a count of 0 removes it (R117). -/
def execHopsetLoad (buf : Bytes) (s : State) : Out :=
  .next (runKci 0x0602 buf (fun s _ req body =>
    match checkFields body [⟨0, 1, .range 0 7⟩, ⟨1, 1, .range 0 64⟩, ⟨2, 2, .zero⟩] with
    | some rc => no rc
    | none =>
      let chans := body.drop 4
      if !distinct (chans.map BitVec.toNat) then no rcFieldRange
      else ok (s.stage req.fn 0x0602 (u8 body 0) 0 chans)) s)

/-- Checks of the cell entry `c` (R87) of a slotframe of `n` slots; CHAN_OFFSET is ignored with FIXED, and only the dedicated
uses 0 and 2 name a neighbour. -/
def cellFields (n : Nat) (c : Bytes) : List FieldSpec :=
  [⟨0, 2, .range 0 (n - 1)⟩, ⟨2, 1, .range 0 (if cellFixed c then 255 else 63)⟩, ⟨3, 1, .range 0 191⟩,
    (if cellUse c = 0 || cellUse c = 2 then ⟨4, 4, .range 0 262143⟩ else ⟨4, 4, .oneOf [0xFFFFFFFF]⟩),
    ⟨8, 2, .range 24 1023⟩, ⟨11, 1, .zero⟩, ⟨12, 4, .rangeOr 0 1048575 0xFFFFFFFF⟩]

/-- A set without the parts at selector `sel` of an opcode whose index is `from_` or more. -/
def dropFrom (m : NMap Bytes) (fn op sel from_ : Nat) : NMap Bytes :=
  m.filter fun e => !(cfgKeyFn e.1 == fn && cfgKeyOp e.1 == op && cfgKeySel e.1 == sel && decide (from_ ≤ cfgKeyIdx e.1))

/-- `SLOTFRAME_LOAD`: stages one slotframe header and a run of cells (R118). -/
def execSlotframeLoad (buf : Bytes) (s : State) : Out :=
  .next (runKci 0x0603 buf (fun s _ req body =>
    let sf := u8 body 0
    let first := u32 body 8
    let count := u32 body 12
    let total := u32 body 16
    let cells := chunks 16 count (body.drop 20)
    match checkFields body [⟨0, 1, .range 0 7⟩, ⟨1, 1, .range 0 1⟩, ⟨2, 1, .range 0 7⟩, ⟨3, 1, .zero⟩,
        ⟨4, 4, .range 1 65536⟩, ⟨12, 4, .range 0 (if req.indirect then 65536 else 252)⟩, ⟨16, 4, .range 0 1048576⟩] with
    | some rc => no rc
    | none =>
      if 1048576 < first + count then no rcFieldRange
      else
        match cells.findSome? fun c => checkFields c (cellFields (u32 body 4) c) with
        | some rc => no rc
        | none =>
          let s := stageRun req.fn 0x0603 (16 + sf) first cells s
          let s := s.stage req.fn 0x0603 sf 0 (slice body 1 2 ++ leBytes 4 (u32 body 4) ++ leBytes 4 total)
          ok (s.onCoh fun c => { c with staged := dropFrom c.staged 0x0600 0x0603 (16 + sf) total })) s)

/-- `NEIGHBOUR_WRITE`: stages entries; the device's own fields are ignored (R110, R119). -/
def execNeighbourWrite (buf : Bytes) (s : State) : Out :=
  .next (runKci 0x0604 buf (fun s _ req body =>
    let first := u32 body 0
    let count := u16 body 4
    let es := chunks 64 count (body.drop 8)
    if u16 body 6 != 0 then no rcReservedNonzero
    else if count = 0 || (if req.indirect then 16384 else 63) < count || 262144 < first + count then no rcFieldRange
    else
      match es.findSome? fun e => checkFields e nbFields with
      | some rc => no rc
      | none =>
        if 65536 < s.writesOf 0x0604 + count then no rcTableFull
        else ok (stageRun req.fn 0x0604 0 first (es.map nbHost) (addWrites 0x0604 count s))) s)

/-- `NEIGHBOUR_READ`: active entries as one snapshot (R119). -/
def execNeighbourRead (buf : Bytes) (s : State) : Out :=
  .next (runKci 0x0605 buf (fun s _ req body =>
    let first := u32 body 0
    let count := u16 body 4
    if u16 body 6 != 0 then no rcReservedNonzero
    else if count = 0 || (if req.indirect then 16384 else 63) < count || 262144 < first + count then no rcFieldRange
    else .done s rcOk 0 [] ((List.range count).flatMap fun i => nbBytes s (first + i))) s)

/-- `LINK_RESYNC`: a relay enters SCAN at once (R115).  From SYNCED it counts
SYNC_LOSS_EPISODES and raises no EV_LINK_SYNC_LOST, since no beacon was missed (DESIGN CHOICE, log entry 161). -/
def execLinkResync (buf : Bytes) (s : State) : Out :=
  .next (runKci 0x0606 buf (fun s _ _ _ =>
    if !s.enabled linkFn then no rcFunctionDisabled
    else if !linkRelay s.coh.active then no rcOpcodeFunction
    else
      let s := if s.link.sync = .synced then loseSource 4 (s.count linkFn 18) else s
      ok (if s.link.sync = .scan then s else enterScan s)) s)

/-! ### Commit and reset -/

/-- A committed write clears the device's fields of an entry (R111). -/
def clearsEntry (old new : NMap Bytes) (i : Nat) : Bool :=
  (nbValid new i && !nbValid old i) || nbExt old i != nbExt new i || nbKey old i != nbKey new i

/-- The link controller takes up a commit (R111, R307); LOST_SYNC stays until a frame clears it (R102). -/
def applyLink (old : NMap Bytes) (s : State) : State :=
  let m := s.coh.active
  let gone := (nbIndexes old ++ nbIndexes m).filter (clearsEntry old m)
  let s := gone.foldl (fun s i => s.onNb i fun d => { NbState.cleared s.time.spring with lostSync := d.lostSync }) s
  let s := if gone.contains (parentIdx m) then s.onLink fun l => { l with beaconWin := Replay.reset, groupWin := Replay.reset }
    else s
  -- SEARCH and SCAN are states of a relay
  if linkRelay m then s else s.onLink fun l => { l with sync := .synced, missed := 0 }

/-- Reset of the link controller (R70 step 4): the neighbour table and its windows stay, the work goes. -/
def resetLink (s : State) : State :=
  s.onLink fun l => { l with groupAcks := [], slotCells := [], lostCount := 0, lostFirst := 0, realignBy := none }

/-! ### Rules (R120) -/

/-- Rule 1 for a cell and a channel; a channel that does not exist has no air time. -/
def fitsTemplate (m : NMap Bytes) (c : Bytes) (ch : Nat) : Bool :=
  guardUs m ≤ txOffset m && txOffset m + guardUs m + cellAirUs m c ch + cellAckUs m c ch ≤ slotUs m

/-- Rule 1 for a cell: it holds on every channel that the cell can use, and without one for the template alone. -/
def cellFits (m : NMap Bytes) (sf : Nat) (c : Bytes) : Bool :=
  let chans := cellChannels m sf c
  if chans.isEmpty then guardUs m ≤ txOffset m && txOffset m + guardUs m ≤ slotUs m else chans.all (fitsTemplate m c)

/-- Rule 2 for a slotframe: its hopping set has a channel, one mode, and every CHAN_OFFSET below its count. -/
def hopsetOk (m : NMap Bytes) (sf : Nat) : Bool :=
  let h := hopSet m (sfHopset m sf)
  !h.isEmpty && (h.all fun ch => chanMode m ch == chanMode m (h.headD 0))
    && (sfCells m sf).all fun e => cellFixed e.2 || decide (cellChanOffset e.2 < h.length)

/-- Two cells can fall in one slot. -/
def cellsCoincide (m : NMap Bytes) (a b : Nat × Nat × Bytes) : Bool :=
  let g := Nat.gcd (sfLength m a.1) (sfLength m b.1)
  g != 0 && cellSlot a.2.2 % g == cellSlot b.2.2 % g

/-- The pairs of channels that two cells can have in one slot.  Two hopping cells with sets of one size share the
permutation of R86, so equal offsets meet at equal places of their sets and different offsets at different places; any
other pair of channels can meet (DEDUCED, log entry 124). -/
def channelPairs (m : NMap Bytes) (a b : Nat × Nat × Bytes) : List (Nat × Nat) :=
  let x := cellChannels m a.1 a.2.2
  let y := cellChannels m b.1 b.2.2
  let hop := !cellFixed a.2.2 && !cellFixed b.2.2 && x.length == y.length
  let same := cellChanOffset a.2.2 % x.length == cellChanOffset b.2.2 % x.length
  (List.range x.length).flatMap fun i =>
    ((List.range y.length).filter fun j => !hop || (i == j) == same).map fun j => (x.getD i 0, y.getD j 0)

/-- Rule 3 for a pair: one transmits and the other transmits or receives, and in some slot one radio would hold both. -/
def cellsConflict (m : NMap Bytes) (a b : Nat × Nat × Bytes) : Bool :=
  let active (c : Bytes) := cellTransmits m c || cellReceives m c
  (cellTransmits m a.2.2 || cellTransmits m b.2.2) && active a.2.2 && active b.2.2 && cellsCoincide m a b
    && (channelPairs m a b).any fun e => chanExists m e.1 && chanExists m e.2 && chanRadio m e.1 == chanRadio m e.2

/-- Some pair of a list is in conflict. -/
def anyConflict (m : NMap Bytes) : List (Nat × Nat × Bytes) → Bool
  | [] => false
  | x :: xs => xs.any (cellsConflict m x) || anyConflict m xs

/-- Rule 4 for a cell with a twin option. -/
def twinOk (m : NMap Bytes) (a : Nat × Nat × Bytes) : Bool :=
  let c := a.2.2
  if !cellTwinFirst c && !cellTwinSecond c then cellTwinIndex c == 0xFFFFFFFF
  else
    let p := cellPart m a.1 (cellTwinIndex c)
    let n := sfLength m a.1
    let first := if cellTwinFirst c then c else p
    let second := if cellTwinFirst c then p else c
    let gap := (cellSlot second + n - cellSlot first) % n
    let win (ch : Nat) := (chanRadio m ch, chanWindow m ch)
    -- the slots of one round of hopping in which the pair falls
    let apart := (List.range (max 1 (hopSet m (sfHopset m a.1)).length)).all fun j =>
      match cellChannel m a.1 first (cellSlot first + j * n), cellChannel m a.1 second (cellSlot first + j * n + gap) with
      | some x, some y => !chanExists m x || !chanExists m y || win x != win y
      | _, _ => true
    let modes := (cellChannels m a.1 c).map (chanMode m)
    !p.isEmpty && (cellUse c == 0 || cellUse c == 2) && cellUse p == cellUse c
      && cellTwinIndex p == a.2.1 && cellTwinFirst c != cellTwinSecond c && cellTwinFirst p == cellTwinSecond c
      && cellTwinSecond p == cellTwinFirst c && cellNeighbour p == cellNeighbour c && cellNeighbour c != 0xFFFFFFFF
      && n != 0 && decide (gap ≤ 15) && apart && modes.all fun x => decide (3 ≤ x) && decide (x ≤ 7)

/-- Some short address occurs twice. -/
def shortDup (m : NMap Bytes) : Bool := !distinct (((validNbs m).map (nbShort m)).filter (· != 0xFFFF))

/-- The rules of R120. -/
def linkRules (m : NMap Bytes) : Option (Nat × Nat) :=
  let cs := enabledCells m
  let page := keyIdPage m * 256
  let inPage (k : Nat) := page ≤ k && k ≤ page + 255
  if !cs.all fun c => cellFits m c.1 c.2.2 then
    some (1, rcSlotTemplate)
  else if !((List.range 8).filter (sfEnabled m)).all (hopsetOk m) then some (2, rcHopsetInvalid)
  else if anyConflict m cs then some (3, rcCellConflict)
  else if !cs.all (twinOk m) then some (4, rcTwinPair)
  else if linkRelay m && !(nbValid m (parentIdx m) && nbIsParent m (parentIdx m) && cs.any fun c => cellUse c.2.2 == 5) then
    some (5, rcRelayParent)
  else if shortDup m then some (6, rcShortAddrDup)
  else if !(inPage (beaconKey m) && inPage (groupKey m)) then some (7, rcKeyIdPage)
  else none

/-- Status of 0x0600 (R121). -/
def linkStatus (s : State) : Bytes :=
  let m := s.coh.active
  let sync := if s.time.asn.isNone then 0 else if !linkRelay m then 1 else match s.link.sync with
    | .synced => 1
    | .search => 2
    | .scan => 3
  leBytes 1 (u8 (linkPart m) 0) ++ leBytes 1 sync ++ zeros 2
    ++ leBytes 4 (s.link.nb.countP fun e => e.2.lostSync && nbValid m e.1)
    ++ leBytes 8 (s.link.parentAsn.getD 0xFFFFFFFFFFFFFFFF)

end Sys2Proof.Machine
end

