-- ==== Sys2Proof/Machine/RxCore.lean ====
section
/-!
DEFINITION. The receive path's shared operations: the LLR store, hand-off, the Riffle pool's jobs, the release gate and resets
(R17, R18, R185, R202, R219 to R235).
-/

namespace Sys2Proof.Machine

/-! ### LLR store (R185, R220) -/

/-- Bytes of the LLR store that frames hold. -/
def llrUsed (s : State) : Nat := (s.rx.frames.map (·.reserved)).foldl (· + ·) 0

def llrStoreBytes : Nat := 0x200000

/-- The store grants `n` bytes to a channel of PRIORITY class `cls`. -/
def llrGrants (s : State) (cls n : Nat) : Bool :=
  let free := llrStoreBytes - llrUsed s
  n ≤ free && (cls == 0 || decide (llrHeadroom s.coh.active ≤ free - n))

/-! ### Hand-off and jobs (R186, R211, R219, R223, R224) -/

/-- The code and the number of codewords of an Oxgon frame. -/
def frameCode (s : State) (x : RxFrame) : LdpcCode := modeCode (chanMode (s.setOf x.generation) x.ch)
def frameWords (s : State) (x : RxFrame) : Nat := ceilDiv (8 * x.len) (frameCode s x).k

/-- Stamp of a frame: network time of its last channel bit (R230). -/
def stampOf (s : State) (x : RxFrame) : Nat :=
  match oxMode (chanMode (s.setOf x.generation) x.ch) with
  | some o => x.syncNs + (64 + codewords o x.len * o.n) * 1000000000 / o.rate
  | none => x.syncNs

/-- Release flow of a frame (R231). -/
def flowOf (x : RxFrame) : Nat :=
  match cellFor x.cells none with
  | some c => if cellUse c.cell = 0 then cellNeighbour c.cell else 2 ^ 32 + x.ch / 32
  | none => 2 ^ 32 + x.ch / 32

/-- The jobs of a frame whose LLRs are complete: parked while the frame that displaced it is unresolved. -/
def handOff (f : Nat) (llr : List Int) (s : State) : State :=
  match s.rxFrame f with
  | none => s
  | some x =>
    let n := frameWords s x
    let st : JobState := if x.parkedBy.isSome then .parked else .queued
    let x := { x with stage := .decode, llr := llr, handedAt := s.time.fabric, ordered := true, stamp := stampOf s x
                      flow := flowOf x, jobs := List.replicate n ⟨st, false, false, []⟩ }
    let s := s.onRxFrame f fun _ => x
    if x.parkedBy.isSome then s else feedEngines (enqueueJobs x (List.range n) false s)

/-- The LLRs of codeword `i`: those of the first half, with those of the second part for a combined job. -/
def jobLlr (c : LdpcCode) (x : RxFrame) (i : Nat) (combined : Bool) : List Int :=
  (x.llr.drop (i * c.n)).take c.n
    ++ (if combined then ((x.second.getD []).drop (i * (c.n / 2))).take (c.n / 2) else [])

/-- The PSDU of a frame whose jobs have all converged. -/
def assemble (x : RxFrame) : Bytes := packBits x.len (x.jobs.flatMap (·.info))

/-- A job of the frame runs over the extended matrix. -/
def combining (x : RxFrame) : Bool := x.jobs.any (·.combined)

/-- Every job of a frame has ended: the outcomes of R223 and R224.  A decoded frame stands at stage 5 and keeps its
reservation until it is released (R220); the LLRs of a second part that its first half did not need are discarded. -/
def resolveFrame (f : Nat) (s : State) : State :=
  match s.rxFrame f with
  | none => s
  | some x =>
    if x.jobs.all fun j => j.state == .converged then
      let psdu := assemble x
      let x := { x with psdu := psdu, combined := combining x }
      let s := s.onRxFrame f fun _ => x
      if fcsOk psdu true then
        let s := s.count riffleFn 5
        let s := if x.combined then s.count riffleFn 11 else if x.kind = 1 then s.count riffleFn 9 else s
        resolveDecoded x (s.onRxFrame f fun y =>
          { y with stage := .stage5, reserved := if x.combined then x.reserved else x.llr.length, llr := [], second := none
                   jobs := [] })
      else failFrame f rcFcsFail (s.count riffleFn 6)
    else if x.kind = 1 && !combining x then
      let s := s.count riffleFn 10
      if x.second.isSome then startCombined f s else if x.secondOver then failFrame f rcTwinMissing (s.count riffleFn 12)
      else s.onRxFrame f fun y => { y with stage := .twinWait }
    else failFrame f rcDecodeFail (s.count riffleFn 7)

/-- Frames in the release buffer (R233). -/
def releaseHeld (s : State) : Nat := (s.rx.frames.filter fun x => x.ordered && x.stage == .gate).length

def jobEnded (j : Job) : Bool := j.state == .converged || j.state == .failed

/-- Every other job of the frame has ended. -/
def lastJob (x : RxFrame) (i : Nat) : Bool :=
  (indices x.jobs.length fun k => k != i && !(x.jobs[k]?.any jobEnded)).isEmpty

/-- The end of job `i`, converged or not, brings the frame to the release gate: not where a twin first half then waits for
its second part, or for its combined jobs. -/
def completesFrame (x : RxFrame) (i : Nat) (converged : Bool) : Bool :=
  let good := converged && (indices x.jobs.length fun k => k != i && (x.jobs[k]?.map (·.state)) == some .failed).isEmpty
  lastJob x i && (good || x.kind != 1 || combining x)

/-- Riffle cycles of a job (R227). -/
def jobCycles (c : LdpcCode) (combined : Bool) (iters extra : Nat) : Nat :=
  let layers := layersOf c combined
  let e := (layers.map List.length).foldl (· + ·) 0
  64 + (if combined then 3 * c.n / 2 else c.n) / 16 + iters * (c.z / 12 * e + 4 * layers.length) + extra

/-- The syndrome checker disagrees with engine `e` on job `i` of frame `f` (R229). -/
def checkerDisagrees (e : Fin 48) (x : RxFrame) (i : Nat) (again : Bool) (s : State) : State :=
  let s := (s.onEngine e fun g => { g with job := none, out := true, idleAt := s.time.fabric }).count riffleFn 17
  let s := raiseSource (45 + e.val / 12) riffleFn e.val s
  if again then failFrame x.id rcDecodeFail (s.count riffleFn 7)
  else
    let x := { x with jobs := x.jobs.mapIdx fun k j => if k == i then { j with disagreed := true } else j }
    feedEngines (enqueueJobs x [i] true (s.onRxFrame x.id fun _ => x))

/-- Engine `e` finishes its job; `agrees` is the verdict of the syndrome checker.  An engine that completes a frame
while the release buffer is full holds its result. -/
def completeJob (e : Fin 48) (agrees : Bool) (s : State) : State :=
  let g := s.rx.engines[e]
  match g.job with
  | none => s
  | some (f, i) =>
    match s.rxFrame f with
    | none => feedEngines (s.onEngine e fun g => { g with job := none, idleAt := s.time.fabric })
    | some x =>
      let m := s.setOf x.generation
      let c := frameCode s x
      let combined := (x.jobs[i]?.map (·.combined)).getD false
      let r := decodeJob c combined (jobLlr c x i combined) (wordBits c.k x.len i) g.cap (earlyAbort m)
      if completesFrame x i r.converged && (agrees || !r.converged) && decide (4096 ≤ releaseHeld s) then
        if g.stalled then s else (s.onEngine e fun g => { g with stalled := true, agreed := agrees }).count riffleFn 16
      else
        let busy := jobCycles c combined r.iterations g.extra
        let s := pmuEvent pmuRiffle 2 0 busy (pmuEvent pmuRiffle 1 0 r.iterations (s.countN riffleFn 2 r.iterations))
        let s := s.onThermal fun t => { t with span := { t.span with busyCycles := t.span.busyCycles + busy } }
        if r.converged && !agrees then
          checkerDisagrees e x i ((x.jobs[i]?.map (·.disagreed)).getD false) s
        else
          let s := if r.converged then s.count riffleFn 3
            else
              let s := s.count riffleFn 4
              if r.aborted then s.count riffleFn 14 else if g.governed then s.count riffleFn 15 else s
          let s := s.onEngine e fun g => { g with job := none, stalled := false, idleAt := s.time.fabric }
          let s := s.onRxFrame f fun y =>
            { y with jobs := y.jobs.mapIdx fun k j =>
                if k == i then { j with state := if r.converged then .converged else .failed, info := r.info } else j }
          let s := if lastJob x i then resolveFrame f s else s
          feedEngines s

/-! ### The release gate (R230 to R233) -/

/-- Frame `a` comes before frame `b` (R230). -/
def stampBefore (a b : RxFrame) : Bool :=
  if a.stamp != b.stamp then decide (a.stamp < b.stamp)
  else if a.ch != b.ch then decide (a.ch < b.ch)
  else decide (a.began.toNat < b.began.toNat)

/-- No frame with an earlier stamp holds frame `x` at the gate (R232). -/
def gateOpenFor (s : State) (x : RxFrame) : Bool :=
  !x.ordered || !(s.rx.frames.any fun y =>
    y.id != x.id && y.ordered && stampBefore y x && (y.flow == x.flow || some y.flow == x.nb))

/-! ### Resets (R202, R234, R235) -/

/-- Reset of group `g` (R202). -/
def resetGroup (g : Nat) (s : State) : State :=
  let l := s.rx.frames.filter fun x => x.ch / 32 == g && (inProgress x || x.stage == .trellis)
  let s := l.foldl (fun s x =>
    if x.stage = .search || x.stage = .synced || x.mate.isSome then discardEarly x s
    else discardWith x rcDiscardedReset s) s
  s.onRx fun x =>
    { x with chans := x.chans.map fun e =>
        if e.1 / 32 == g then
          (e.1, { Chan.reset with
            listening := e.2.listening, since := e.2.since, shed := e.2.shed, settling := e.2.settling })
        else e }

/-- Reset of the Riffle pool (R234). -/
def resetRiffle (s : State) : State :=
  let l := s.rx.frames.filter fun x => x.stage == .decode || x.stage == .twinWait
  let s := l.foldl (fun s x => failFrame x.id rcDiscardedReset s) s
  s.onRx fun x => { x with queues := Vector.replicate 4 ⟨[], []⟩, engines := Vector.replicate 48 Engine.reset }

/-- An engine that holds a result has room for its frame again (R233). -/
def resumeStalled (s : State) : State :=
  (List.finRange 48).foldl (fun s e =>
    if (s.rx.engines[e]).stalled then completeJob e (s.rx.engines[e]).agreed s else s) s

/-- Reset of Eddy (R235). -/
def resetEddy (s : State) : State :=
  let l := s.rx.frames.filter fun x => x.lane.isSome && inProgress x
  let s := l.foldl (fun s x => if x.stage = .psdu && x.mate.isNone then discardWith x rcDiscardedReset s else discardEarly x s) s
  let s := s.onRx fun x =>
    { x with captures := Vector.replicate 64 none
             rings := x.rings.map fun e => (e.1, { e.2 with since := s.time.fabric, heard := [], subtracted := [] }) }
  (s.rx.frames.filter fun y => y.parkedBy.isSome).foldl (fun s y => unpark y s) s |> feedEngines

end Sys2Proof.Machine
end

