-- ==== Sys2Proof/Machine/Radio.lean ====
section
/-!
DEFINITION. The radios: receive gain, synthesisers, calibration store, control balls, and their commands
(chapter 04).
-/

namespace Sys2Proof.Machine

def radioFn (r : Fin 3) : Nat := 0x0100 + r.val

/-- Counter `i` of radio `r` (R167). -/
def countRadio (r : Fin 3) (i : Nat) (s : State) : State := s.count (radioFn r) i

/-- Source `i` of radio `r` raised (R169). -/
def raiseRadio (r : Fin 3) (i detail : Nat) (s : State) : State := raiseSource (6 * r.val + i) (radioFn r) detail s

/-- Window `w` of radio `r` changed by `f`. -/
def State.onWindow (s : State) (r : Fin 3) (w : Fin 2) (f : Window → Window) : State :=
  s.onRadio r fun x => { x with windows := x.windows.set w (f x.windows[w]) }

/-! ### Calibration (R150 to R152) -/

/-- The entry number that a new variant takes when its key does not replace one: the lowest free entry (DESIGN CHOICE, log
entry 156: R151 does not say which), or the one evicted; `true` marks an eviction. -/
def calSlot (m : NMap Bytes) (st : NMap CalEntry) (t : Int) : Option (Nat × Bool) :=
  match (List.range 4096).find? fun i => (mget st i).isNone with
  | some i => some (i, false)
  | none =>
    match oldest (st.filter fun e => !keyInUse m e.2) with
    | some e => some (e.1, true)
    | none =>
      let multi := st.filter fun e => (variants st e.2.synth.toNat e.2.lo.toNat e.2.chan.toNat).length > 1
      (farthest t multi).map fun e => (e.1, true)

/-- A finished item as an entry with the temperature of its radio. -/
def calEntryOf (s : State) (c : CalResult) (t : Int) : CalEntry :=
  { lo := BitVec.ofNat 32 c.lo, chan := BitVec.ofNat 32 c.chan, synth := BitVec.ofNat 2 c.synth, isChan := c.chan != 0
    vcoBand := if c.chan = 0 then c.vcoBand else 0, temp := t, loopGain := if c.chan = 0 then c.loopGain else 0
    corrA := c.corrA, corrB := c.corrB, corrC := c.corrC, corrD := c.corrD
    time := BitVec.ofNat 32 (s.time.spring.toNat / 32768) }

/-- Write the variant that a calibration found (R151): it replaces a variant within 10 °C (80 units), or the farthest
of four, or takes a free or evicted entry. -/
def writeVariant (r : Fin 3) (c : CalResult) (s : State) : State :=
  let t := (s.radio r).temp
  let e := calEntryOf s c t
  let vs := variants s.radios.store c.synth c.lo c.chan
  let near := vs.filter fun v => decide (tempDiff v.2.temp t < 80)
  let put (i : Nat) (st : NMap CalEntry) := mset st i e
  match near with
  | (i, _) :: others =>
    s.onRadios fun x => { x with store := put i (others.foldl (fun st v => mdel st v.1) x.store) }
  | [] =>
    if vs.length ≥ 4 then
      match farthest t vs with
      | some (i, _) => s.onRadios fun x => { x with store := put i x.store }
      | none => s
    else
      match calSlot s.coh.active s.radios.store t with
      | none => s
      | some (i, evicted) =>
        let s := s.onRadios fun x => { x with store := put i x.store }
        if evicted then countRadio r 19 s else s

/-- Take the results of finished items: variants written, CAL_FAIL raised for each failure (R162). -/
def takeResults (r : Fin 3) : List CalResult → State → State
  | [], s => s
  | c :: cs, s => takeResults r cs (if c.good then writeVariant r c s else raiseRadio r 5 c.lo s)

/-- Queue a background item unless it is queued already. -/
def queueCal (r : Fin 3) (it : CalItem) (s : State) : State :=
  s.onRadio r fun x => if x.calQueue.contains it then x else { x with calQueue := x.calQueue ++ [it] }

/-- A full recalibration of an LO with the channels under it (R152). -/
def queueFull (r : Fin 3) (lo : Nat) (s : State) : State :=
  let chans := (radioChans s.coh.active r.val).filter fun ch => chanLo s.coh.active ch == lo
  chans.foldl (fun s ch => queueCal r ⟨r.val, lo, chanCentre s.coh.active ch, true⟩ s)
    (queueCal r ⟨r.val, lo, 0, true⟩ s)

/-! ### Synthesisers (R144, R145, R154, R156) -/

/-- The host-commanded calibration of a radio uses the observation synthesiser. -/
def hostTones (x : Radio) : Bool := x.hostCal.isSome && x.hostItems.any fun i => i.full || i.synth == 3

/-- A free observation synthesiser goes to the lowest radio whose host-commanded calibration waits for it (DESIGN CHOICE, log
entry 156: R148 does not say which). -/
def claimObs (s : State) : State :=
  if s.radios.obsServes.isSome then s
  else s.onRadios fun x => { x with obsServes := ([0, 1, 2] : List (Fin 3)).find? fun r => hostTones x.unit[r] }

/-- The observation synthesiser no longer serves radio `r`. -/
def freeObs (r : Fin 3) (s : State) : State :=
  if s.radios.obsServes = some r then claimObs (s.onRadios fun x => { x with obsServes := none }) else s

/-- The background item of radio `r` no longer runs: a synthesiser that it held is locked, or off with its domain. -/
def endItem (x : Radio) : Radio :=
  { x with bgCal := none
           synth := if x.synth = .background then (if x.powered then .locked else .off) else x.synth
           lo := if x.synth = .background && !x.powered then 0 else x.lo }

/-- A background calibration that runs on radio `r` stops and goes back to the head of the queue. -/
def requeueCal (r : Fin 3) (s : State) : State :=
  match (s.radio r).bgCal with
  | none => s
  | some it => (freeObs r s).onRadio r fun x => { endItem x with calQueue := it :: x.calQueue }

/-- The same for the radio's own work, which counts BACKGROUND_PREEMPTED (R156). -/
def preemptCal (r : Fin 3) (s : State) : State :=
  if (s.radio r).bgCal.isNone then s else countRadio r 6 (requeueCal r s)

/-- A forced LO calibration precedes the lock (R150): `EV_CAL_FORCED` with Δ, or 0xFFFF without an entry. -/
def forceCal (r : Fin 3) (lo : Nat) (s : State) : State :=
  let d := calDelta s.radios.store r.val lo 0 (s.radio r).temp
  let s := countRadio r 3 (s.onRadio r fun x => { x with forced := true })
  queueFull r lo (raiseEvent 34 (radioFn r) (lo % 2 ^ 32 + (d.getD 0xFFFF) % 2 ^ 16 * 2 ^ 32) s)

/-- No retune is due: the synthesiser is locked or settles there, or a host-commanded calibration holds it (R144, R157). -/
def tuned (x : Radio) (lo : Nat) : Bool :=
  x.hostCal.isSome || (x.synth == .locked && x.lo == lo) || (x.synth == .settling && x.loNext == lo)

/-- Retune radio `r` to `lo` with an entry of class `c`. -/
def retuneAs (r : Fin 3) (lo : Nat) (c : CalClass) (s : State) : State :=
  if tuned (s.radio r) lo then s
  else
    let s := preemptCal r s
    let s := countRadio r 1 (s.onRadio r fun x => { x with synth := .settling, loNext := lo, forced := false })
    match c with
    | .absent => forceCal r lo s
    | .stale => queueFull r lo (countRadio r 2 s)
    | .valid => countRadio r 2 s

/-- Retune for the radio itself, with the class that the entry has now; a stale entry is counted as used (R150). -/
def startRetune (r : Fin 3) (lo : Nat) (s : State) : State :=
  let c := loClass s r lo
  let s := if c = .stale && !tuned (s.radio r) lo then countRadio r 4 s else s
  retuneAs r lo c s

/-- The entry of a channel of the set `m` is looked up for a window or a launch: a stale one queues its recalibration, an absent one
the full recalibration of its LO (R150). -/
def lookupChan (m : NMap Bytes) (r : Fin 3) (ch : Nat) (s : State) : State :=
  let lo := chanLo m ch
  match classOf (calDelta s.radios.store r.val lo (chanCentre m ch) (s.radio r).temp) with
  | .valid => s
  | .stale => queueCal r ⟨r.val, lo, chanCentre m ch, true⟩ s
  | .absent => queueFull r lo s

/-- The change of radio `r` is complete once its synthesiser is locked, or serves transmission only, and nothing that a
start owes is queued (R147, R460). -/
def changeDone (s : State) (r : Fin 3) : Bool :=
  match (s.radio r).change with
  | none => false
  | some c => c.started && (s.radio r).synth == .locked && (!c.enabling || (s.radio r).calQueue.isEmpty && (s.radio r).bgCal.isNone)

/-- A change of radio `r` is complete: `EV_RADIO_SETTLED` (R147, R618). -/
def completeChange (r : Fin 3) (s : State) : State :=
  let m := match (s.radio r).change with
    | some c => c.modeChanged
    | none => false
  let s := (s.onRadio r fun x => { x with change := none }).onFn (radioFn r) fun f => { f with settling := false }
  raiseEvent 32 (radioFn r) ((s.radio r).lo % 2 ^ 32 + flag m * 2 ^ 32) s

/-- Complete a change that is finished. -/
def settleRadio (r : Fin 3) (s : State) : State := if changeDone s r then completeChange r s else s

/-! ### Background calibration (R152, R460, R565, R566) -/

/-- The head item of radio `r`'s queue starts: it waits for the observation synthesiser when a full calibration needs
its tones and another radio has it. -/
def startBackground (r : Fin 3) (s : State) : State :=
  let x := s.radio r
  match x.calQueue with
  | [] => s
  | it :: rest =>
    if x.bgCal.isSome || x.hostCal.isSome || (it.full && s.radios.obsServes.isSome) then s
    else
      let s := s.onRadio r fun x => { x with bgCal := some it, calQueue := rest, synth := .background, lo := it.lo }
      if it.full then s.onRadios fun y => { y with obsServes := some r } else s

/-- A radio that a commit has enabled runs what it owes without a break (R460). -/
def runOwed (r : Fin 3) (s : State) : State :=
  match (s.radio r).change with
  | some c => if c.enabling && c.started && !(s.fnState (radioFn r)).inReset then startBackground r s else s
  | none => s

/-- The LO that reception needs: the window centre in direct conversion, none in RF sampling (R125). -/
def receiveLo (m : NMap Bytes) (r : Nat) : Option Nat := if rfSampling m r then none else some (windowCentre m r 0)

/-- The LO that a powered radio is due at: its receive LO, or the first lock of a physical change (R147). -/
def dueLo (s : State) (r : Fin 3) : Option Nat :=
  match (s.radio r).change with
  | some c => if c.started then some (windowCentre s.coh.active r.val 0) else none
  | none => receiveLo s.coh.active r.val

/-- A powered radio that no calibration holds goes to the LO that it is due at. -/
def returnLo (r : Fin 3) (s : State) : State :=
  match dueLo s r with
  | some lo =>
    if (s.radio r).powered && !(s.fnState (radioFn r)).inReset && (s.radio r).bgCal.isNone && (s.radio r).hostCal.isNone then
      startRetune r lo s else s
  | none => s

/-- Radio `r` goes on after a calibration, a lock or a power-up: owed items first, those of the other radios that wait
for the observation synthesiser too, then the LO that is due. -/
def resumeRadio (r : Fin 3) (s : State) : State :=
  settleRadio r (returnLo r (([r, 0, 1, 2] : List (Fin 3)).foldl (fun s i => runOwed i s) s))

/-- A change affects window `w`. -/
def RadioChange.affects (c : RadioChange) (w : Nat) : Bool := if w = 0 then c.win0 else c.win1

/-- A physical change of radio `r` affects window `w` (R147). -/
def windowAffected (s : State) (r : Fin 3) (w : Nat) : Bool := (s.radio r).change.any fun c => c.affects w

/-- An affected window still serves an earlier generation: its change has not started, and a frame of that generation is being
received on it or one of its cells is open (R147). -/
def windowHeld (s : State) (r : Fin 3) (w : Nat) : Bool :=
  let on (g : BitVec 32) (ch : Nat) : Bool :=
    g != s.coh.generation && chanRadioFin (s.setOf g) ch == r && chanWindow (s.setOf g) ch == w
  ((s.radio r).change.any fun c => c.affects w && !c.started)
    && (s.link.slotCells.any (fun c => on c.generation c.ch) || s.rx.frames.any fun x => inProgress x && on x.generation x.ch)

/-- Window `w` of radio `r` delivers samples to its lanes. -/
def windowOpen (s : State) (r : Fin 3) (w : Nat) : Bool :=
  let x := s.radio r
  s.enabled (radioFn r) && !(s.fnState (radioFn r)).inReset && !(s.fnState (radioFn r)).held && x.powered && !x.blanked
    && !x.unlocked && x.hostCal.isNone
    && (windowHeld s r w
      || (decide (w < windowCount s.coh.active r.val)
        && (rfSampling s.coh.active r.val || x.synth == .locked || x.synth == .background) && !windowAffected s r w))

/-- RX_ACTIVE follows the windows: it deasserts when none of the radio's windows is open (R140). -/
def closeRx (r : Fin 3) (s : State) : State :=
  if windowOpen s r 0 || windowOpen s r 1 then s else s.onRadio r fun x => { x with rxActive := false }

/-- Window `w` of radio `r` has a receiving cell in the slot in progress. -/
def windowHasCell (s : State) (r : Fin 3) (w : Nat) : Bool :=
  s.link.slotCells.any fun c => chanRadioFin (s.setOf c.generation) c.ch == r && chanWindow (s.setOf c.generation) c.ch == w

/-! ### Gain (R129 to R132) -/

/-- Largest gain of the mode (R125). -/
def maxGain (m : NMap Bytes) (r : Nat) : Nat := if rfSampling m r then 36 else 76

/-- `AGC_CLIP_STEP`: in AUTO the gain drops by CLIP_STEP_DB, at most once per 100 µs and never below 0 dB. -/
def execAgcClipStep (r : Fin 3) (w : Fin 2) (s : State) : Out :=
  let x := (s.radio r).windows[w]
  let spaced := match x.clipAt with
    | none => true
    | some t => 40000 ≤ (s.time.fabric - t).toNat
  let b := radioPart s.coh.active r.val
  if windowOpen s r w.val && u8 b 2 == 0 && spaced && x.gain != 0 then
    .next (countRadio r 11 (s.onWindow r w fun y =>
      { y with gain := y.gain - u8 b 23, clipAt := some s.time.fabric }))
  else .next s

/-- `AGC_PINNED`: at minimum gain with clipping, or at maximum gain below the floor in a slot with a receiving cell (R132). -/
def execAgcPinned (r : Fin 3) (w : Fin 2) (dead : Bool) (s : State) : Out :=
  let x := (s.radio r).windows[w]
  if windowOpen s r w.val
      && (if dead then x.gain == maxGain s.coh.active r.val && windowHasCell s r w.val else x.gain == 0) then
    let p := w.val + 2 * flag dead
    .next (raiseRadio r 3 p (raiseEvent 36 (radioFn r) p s))
  else .next s

/-! ### Latent test (R153, R541) -/

/-- `TEST_TONE_INJECT`: a level outside ±3 dB of the calibrated value fails the test.  The command stands for the whole test,
for which the observation synthesiser must be free (R148; log entry 130). -/
def execTestToneInject (r : Fin 3) (w : Fin 2) (level calibrated : Int) (s : State) : Out :=
  if s.enabled (radioFn r) && decide (w.val < windowCount s.coh.active r.val) && s.radios.obsServes.isNone then
    let s := countRadio r 17 (s.onWindow r w fun y => { y with toneAt := some s.time.fabric })
    if (level - calibrated).natAbs ≤ 12 then .next s
    else
      let p := w.val + unsigned 16 level * 2 ^ 16
      .next (raiseRadio r 4 p (raiseEvent 37 (radioFn r) p (countRadio r 18 s)))
  else .next s

/-- `LATENT_TEST_LATE`: the window's last tone lies 4 s back or more. -/
def execLatentTestLate (r : Fin 3) (w : Fin 2) (s : State) : Out :=
  let late := match ((s.radio r).windows[w]).toneAt with
    | none => true
    | some t => 1600000000 ≤ (s.time.fabric - t).toNat
  if s.enabled (radioFn r) && decide (w.val < windowCount s.coh.active r.val) && late then
    .next (raiseSource 127 (radioFn r) w.val s)
  else .next s

/-! ### Configuration commands -/

/-- Fields of `RADIO_CONFIG` (R160). -/
def radioConfigFields (windows : Nat) : List FieldSpec :=
  [⟨0, 1, .range 0 1⟩, ⟨1, 1, .range 1 2⟩, ⟨2, 1, .range 0 1⟩, ⟨3, 1, .zero⟩,
    ⟨4, 4, .range 140000000 2700000000⟩, ⟨8, 4, .range 1000000 28000000⟩]
    ++ (if windows = 1 then [⟨12, 4, .range 0 0⟩, ⟨16, 4, .range 0 0⟩]
      else [⟨12, 4, .range 140000000 2700000000⟩, ⟨16, 4, .range 1000000 28000000⟩])
    ++ [⟨20, 1, .range 0 76⟩]
    ++ (if windows = 1 then [] else [⟨21, 1, .range 0 76⟩])
    ++ [⟨22, 1, .srange (-30) (-6)⟩, ⟨23, 1, .range 3 12⟩, ⟨24, 2, .srange (-80) 40⟩, ⟨26, 2, .srange (-40) 160⟩,
      ⟨28, 2, .range 40 240⟩, ⟨30, 1, .range 2 12⟩, ⟨31, 1, .range 20 60⟩, ⟨32, 1, .range 1 20⟩, ⟨33, 3, .zero⟩]

/-- `RADIO_CONFIG`: stages the body (R160). -/
def execRadioConfig (buf : Bytes) (s : State) : Out :=
  .next (runKci 0x0101 buf (fun s m req body =>
    stageOne 0x0101 0 0 (radioConfigFields (u8 body 1)) s m req body) s)

/-- Checks of one ball of `RADIO_FE_PINS`: function codes 8–15 are refused, bits [7:6] and [7:2] are reserved. -/
def checkPin (b : Bytes) (i : Nat) : Option Nat :=
  if u8 b (2 * i) % 16 ≥ 8 then some rcFieldRange
  else if u8 b (2 * i) / 64 != 0 || u8 b (2 * i + 1) / 4 != 0 then some rcReservedNonzero
  else none

/-- `RADIO_FE_PINS`: stages the body (R161). -/
def execRadioFePins (buf : Bytes) (s : State) : Out :=
  .next (runKci 0x0102 buf (fun s m req body =>
    match (List.range 8).findSome? (checkPin body) with
    | some rc => no rc
    | none =>
      stageOne 0x0102 0 0 [⟨16, 2, .range 1 50⟩, ⟨18, 2, .range 0 40⟩, ⟨20, 2, .range 0 40⟩, ⟨22, 2, .range 1 50⟩,
        ⟨24, 2, .range 0 500⟩, ⟨26, 2, .zero⟩] s m req body) s)

/-! ### Host-commanded calibration (R157, R162) -/

/-- The items of `RADIO_CALIBRATE` (R162): the LOs of SCOPE, with the channels under them for a full calibration, after the
same LOs of the observation synthesiser where FLAGS bit 0 asks for them. -/
def hostItems (m : NMap Bytes) (r : Fin 3) (scope freq : Nat) (obs : Bool) : List CalItem :=
  let los := if scope = 2 then [freq] else activeLos m r.val
  let full := scope != 0
  (if obs then los.map fun lo => ⟨3, lo, 0, false⟩ else [])
    ++ los.flatMap fun lo => ⟨r.val, lo, 0, full⟩ ::
      (if full then ((radioChans m r.val).filter fun ch => chanLo m ch == lo).map fun ch => ⟨r.val, lo, chanCentre m ch, true⟩
       else [])

/-- `RADIO_CALIBRATE`: long; the radio goes out of service until it is done. -/
def execRadioCalibrate (buf : Bytes) (s : State) : Out :=
  .next (runKci 0x0103 buf (fun s m req body =>
    match checkFields body [⟨0, 1, .range 0 2⟩, ⟨1, 1, .flags 1⟩, ⟨2, 2, .zero⟩] with
    | some rc => no rc
    | none =>
      if u8 body 0 != 2 && u32 body 4 != 0 then no rcFieldRange
      else
        match radioOf req.fn with
        | none => no rcOpcodeFunction
        | some r =>
          if !s.enabled req.fn then no rcFunctionDisabled
          else if (s.radio r).hostCal.isSome then no rcBusyCal
          else
            let s := dropReception r (preemptCal r s)
            let items := hostItems s.coh.active r (u8 body 0) (u32 body 4) (bit (u8 body 1) 0)
            let s := s.onRadio r fun x => { x with hostCal := some s.kci.longNext, hostItems := items, synth := .hostCal }
            acceptLong (countRadio r 7 (closeRx r (claimObs s))) m req body) s)

/-- `RADIO_CALIBRATE_DONE`: `results` are those of the command's items in their order, and a missing one counts as failed.  The
variants are written; `RC_CAL_FAILED` if an item failed.  A calibration that waits for the observation synthesiser is not
done. -/
def execRadioCalibrateDone (r : Fin 3) (results : List CalResult) (s : State) : Out :=
  match (s.radio r).hostCal with
  | none => .next s
  | some tag =>
    let x := s.radio r
    if hostTones x && s.radios.obsServes != some r then .next s
    else
      let rs := x.hostItems.mapIdx fun i it =>
        { (results[i]?).getD ⟨0, 0, 0, false, 0, 0, 0, 0, 0, 0⟩ with synth := it.synth, lo := it.lo, chan := it.chan }
      let s := (takeResults r rs s).onRadio r fun x =>
        { x with hostCal := none, hostItems := [], synth := if x.lo = 0 then .off else .locked, unlocked := false }
      .next (longDone tag (if rs.all (·.good) then rcOk else rcCalFailed) (resumeRadio r (freeObs r s)))

/-! ### Control balls (R140 to R143, R163) -/

/-- Function code of ball `i` of radio `r`. -/
def pinFunction (m : NMap Bytes) (r i : Nat) : Nat := u8 (pinsPart m r) (2 * i) % 16

/-- The internal LNA of radio `r` is bypassed (R131). -/
def lnaBypassed (s : State) (r : Fin 3) : Bool :=
  let x := s.radio r
  let m := s.coh.active
  if rfSampling m r.val then
    (if windowCount m r.val = 2 then min (x.windows[0]).gain (x.windows[1]).gain else (x.windows[0]).gain) ≤ 10
  else (x.windows[0]).gain ≤ 20

/-- Ball `i` of radio `r` is asserted by its function (R140). -/
def pinAsserted (s : State) (r : Fin 3) (i : Nat) : Bool :=
  let x := s.radio r
  match pinFunction s.coh.active r.val i with
  | 1 => x.trSw
  | 2 => x.paEn
  | 3 => lnaBypassed s r
  | 4 => bit (u8 (pinsPart s.coh.active r.val) (2 * i)) 5
  | 5 => x.staticDrive.getLsbD i
  | 6 => x.txActive
  | 7 => x.rxActive
  | _ => false

/-- Level of ball `i`: driven by the committed map once pad hold is released, low while the pad is pulled down. -/
def pinLevel (s : State) (r : Fin 3) (i : Nat) : Bool :=
  if s.boot.padHold || pinFunction s.coh.active r.val i == 0 || 8 ≤ pinFunction s.coh.active r.val i then false
  else pinAsserted s r i != bit (u8 (pinsPart s.coh.active r.val) (2 * i)) 4

/-- Levels of CTL7–CTL0. -/
def pinLevels (s : State) (r : Fin 3) : Nat :=
  (List.range 8).foldl (fun a i => a + flag (pinLevel s r i) * 2 ^ i) 0

/-- `RADIO_PIN_DRIVE`: changes only balls whose function is STATIC (R163). -/
def execRadioPinDrive (buf : Bytes) (s : State) : Out :=
  .next (runKci 0x0104 buf (fun s _ req body =>
    match checkFields body [⟨2, 2, .zero⟩], radioOf req.fn with
    | some rc, _ => no rc
    | none, none => no rcOpcodeFunction
    | none, some r =>
      ok (s.onRadio r fun x =>
        { x with staticDrive := (List.range 8).foldl (fun v i =>
            if bit (u8 body 0) i && pinFunction s.coh.active r.val i == 5 then
              BitVec.ofNat 8 (withBit v.toNat i (bit (u8 body 1) i))
            else v) x.staticDrive })) s)

/-- `CAL_STORE_READ`: entries as one snapshot (R164). -/
def execCalStoreRead (buf : Bytes) (s : State) : Out :=
  .next (runKci 0x0105 buf (fun s _ req body =>
    let first := u16 body 0
    let count := u16 body 2
    if first > 4095 || count = 0 || first + count > 4096 || (!req.indirect && count > 126) then no rcFieldRange
    else
      .done s rcOk 0 [] ((List.range count).flatMap fun i =>
        match mget s.radios.store (first + i) with
        | some e => calBytes e
        | none => zeros 32)) s)

/-! ### Synthesiser events -/

/-- `SYNTH_LOCK`: the synthesiser of a radio reaches lock; a forced calibration writes its variant (R144, R145, R150). -/
def execSynthLock (r : Fin 3) (result : CalResult) (s : State) : Out :=
  let x := s.radio r
  if x.synth = .settling then
    let s := if x.forced then
        takeResults r [{ result with synth := r.val, lo := x.loNext, chan := 0 }] s
      else s
    .next (resumeRadio r (s.onRadio r fun y =>
      { y with synth := .locked, lo := y.loNext, forced := false, unlocked := false, trim := loCorr s r x.loNext }))
  else .next s

/-- Loss of lock of radio `r`'s synthesiser: in transmission the frames end with `RC_SYNTH_UNLOCK`; in both cases the
windows are blanked until it locks again (R145).  `tx`: the radio was transmitting. -/
def loseLock (r : Fin 3) (tx : Bool) (s : State) : State :=
  let s := dropReception r (requeueCal r s)
  let s := if tx then cutRadio r rcSynthUnlock .remove s else s
  let s := s.onRadio r fun y =>
    { y with synth := .settling, loNext := y.lo, forced := false, unlocked := true }
  let p := r.val + flag tx * 2 ^ 8
  raiseRadio r 2 p (raiseEvent 33 (radioFn r) p (countRadio r 16 (closeRx r s)))

/-- The synthesiser of a radio is in lock. -/
def inLock (s : State) (r : Fin 3) : Bool := (s.radio r).synth == .locked || (s.radio r).synth == .background

/-- `SYNTH_UNLOCK`. -/
def execSynthUnlock (r : Fin 3) (s : State) : Out := .next (if inLock s r then loseLock r (onAirCount s r != 0) s else s)

/-- `SYNTH_RELOCK_TIMEOUT`: not relocked 40 µs after an unlock, a forced calibration runs (R145). -/
def execSynthRelockTimeout (r : Fin 3) (s : State) : Out :=
  let x := s.radio r
  if x.unlocked && x.synth == .settling && !x.forced then .next (forceCal r x.loNext s) else .next s

/-- `OBS_SYNTH_UNLOCK`: the test or calibration that used its tone is queued again (R148). -/
def execObsSynthUnlock (s : State) : Out :=
  let r : Fin 3 := s.radios.obsServes.getD 0
  let s := match s.radios.obsServes with
    | none => s
    | some r => requeueCal r s
  -- a host-commanded calibration begins its items again
  .next (raiseSource 18 (radioFn r) 3 (claimObs (s.onRadios fun x => { x with obsServes := none })))

/-- `BACKGROUND_CAL_DONE`: the running item writes its variant, or fails (R151, R152, R162). -/
def execBackgroundCalDone (r : Fin 3) (result : CalResult) (s : State) : Out :=
  match (s.radio r).bgCal with
  | none => .next s
  | some it =>
    let s := takeResults r [{ result with synth := it.synth, lo := it.lo, chan := it.chan }] s
    let s := (freeObs r s).onRadio r fun x => { endItem x with starved := false }
    .next (resumeRadio r (if result.good then countRadio r 5 s else s))

/-- A demodulating channel of radio `r` listens. -/
def radioListens (s : State) (r : Fin 3) : Bool :=
  (radioChans s.coh.active r.val).any fun ch => (s.chan ch).listening && !chanMonitor s.coh.active ch

/-- `BLANKING_END`: 20 µs after TR_SW deasserts the windows receive again (R136), and RX_ACTIVE asserts where a channel
listens (R140). -/
def execBlankingEnd (r : Fin 3) (s : State) : Out :=
  if (s.radio r).trSw then .next s
  else
    let s := s.onRadio r fun x => { x with blanked := false }
    .next (if radioListens s r && (windowOpen s r 0 || windowOpen s r 1) then s.onRadio r fun x => { x with rxActive := true } else s)

/-! ### Power of the analog domain (R402, R403) -/

/-- AUTO_LEVEL (R418). -/
def autoLevel (m : NMap Bytes) : Nat := u8 (part m 0x0E00 0x0E01 0 0) 0

/-- Spring ticks as µs. -/
def springUs (t : BitVec 48) : Nat := t.toNat * 1000000 / 32768

/-- SLOT_IDLE ends: its time is counted (R399, R421). -/
def leaveIdle (s : State) : State :=
  if s.power.state = .slotIdle then
    (s.countN 0x0E00 1 (springUs (s.time.spring - s.power.since))).onPower fun p => { p with state := .run, refusedGap := none }
  else s

/-- SLOT_IDLE is entered while every radio's analog domain is off, at AUTO_LEVEL 1 or more (R399). -/
def enterIdle (s : State) : State :=
  if s.power.state = .run && s.power.phase == .awake && autoLevel s.coh.active != 0
      && s.radios.unit.toList.all (fun x => !x.powered) then
    s.onPower fun p => { p with state := .slotIdle, since := s.time.spring }
  else s

/-- The analog domain of radio `r` is on (R402). -/
def powerRadio (r : Fin 3) (s : State) : State :=
  if (s.radio r).powered then s
  else leaveIdle (s.onRadio r fun y => { y with powered := true, onSince := s.time.fabric })

/-- The analog domain of radio `r` goes off: its time is counted (R403, R421). -/
def unpowerRadio (r : Fin 3) (s : State) : State :=
  if (s.radio r).powered then
    let s := s.countN 0x0E00 5 ((s.time.fabric - (s.radio r).onSince).toNat / 400)
    enterIdle (s.onRadio r fun x => { x with powered := false, synth := .off, lo := 0, rxActive := false, unlocked := false })
  else s

/-- `RADIO_POWER_UP`: the analog domain is powered and its isolation released, and the device is in RUN (step 1 of R402); the
retune comes with `RETUNE_START`. -/
def execRadioPowerUp (r : Fin 3) (s : State) : Out :=
  let x := s.radio r
  if s.enabled (radioFn r) && !x.powered && s.power.phase == .awake then
    .next (powerRadio r s)
  else .next s

/-- Step 2 of R402: the retune of a radio that was powered up for a need starts, with what the radio owes before it. -/
def retunePowered (r : Fin 3) (s : State) : State :=
  if (s.radio r).powered && (s.radio r).synth == .off && s.works (radioFn r) then resumeRadio r s else s

/-- `RX_ACTIVE_ASSERT`: RX_LEAD before a window of the radio opens. -/
def execRxActiveAssert (r : Fin 3) (s : State) : Out :=
  if (s.radio r).powered then .next (s.onRadio r fun x => { x with rxActive := true }) else .next s

/-- Status of a radio (R166). -/
def radioStatus (s : State) (r : Fin 3) : Bytes :=
  let x := s.radio r
  let synth := match x.synth with
    | .off => 0
    | .settling => 1
    | .locked => 2
    | .background => 3
    | .hostCal => 4
  let strikes := (x.strikes.filter fun t => (s.time.fabric - t).toNat < 24000000000).length
  leBytes 1 (u8 (radioPart s.coh.active r.val) 0) ++ leBytes 1 synth ++ leInt 2 x.temp
    ++ leBytes 4 (if x.synth = .off then 0 else x.lo) ++ leBytes 1 (x.windows[0]).gain ++ leBytes 1 (x.windows[1]).gain
    ++ leBytes 2 x.calQueue.length
    ++ leBytes 2 (s.radios.store.filter fun e => e.2.synth.toNat == r.val).length
    ++ leBytes 1 (pinLevels s r) ++ leBytes 1 (min strikes 255)

/-! ### Consistency rules (R165) -/

/-- Window `w` lies, with its full width, in the tuning range of the mode. -/
def windowInRange (m : NMap Bytes) (r w : Nat) : Bool :=
  let hi := if rfSampling m r then 1100000000 else 2700000000
  2 * 140000000 + windowWidth m r w ≤ 2 * windowCentre m r w && 2 * windowCentre m r w + windowWidth m r w ≤ 2 * hi

/-- The two windows overlap. -/
def windowsOverlap (m : NMap Bytes) (r : Nat) : Bool :=
  overlaps (2 * windowCentre m r 0 - windowWidth m r 0) (2 * windowCentre m r 0 + windowWidth m r 0)
    (2 * windowCentre m r 1 - windowWidth m r 1) (2 * windowCentre m r 1 + windowWidth m r 1)

/-- A gain in the mode's range and on its step. -/
def gainOk (m : NMap Bytes) (r w : Nat) : Bool :=
  windowGain m r w ≤ maxGain m r && (rfSampling m r || windowGain m r w % 2 == 0)

/-- The first rule of R165 that fails: its number and reason. -/
def radioRules (m : NMap Bytes) (r : Nat) : Option (Nat × Nat) :=
  let ws := List.range (windowCount m r)
  let pins := (List.range 8).map (pinFunction m r)
  let b := radioPart m r
  let obs := i16 b 24 + i16 b 26 - (u16 b 28 : Int)
  if !ws.all (windowInRange m r) then some (1, rcWindowRange)
  else if (if rfSampling m r then windowCount m r == 2 && windowsOverlap m r else windowCount m r != 1) then
    some (2, rcWindowCount)
  else if !ws.all (gainOk m r) then some (3, rcGainRange)
  else if (pins.filter (· == 1)).length != 1 || (pins.filter (· == 2)).length != 1 || trLead m r ≤ paLead m r
      || trLag m r ≤ paLag m r then
    some (4, rcFePinMap)
  else if obs < -140 || -20 < obs then some (5, rcObsRange)
  else none

end Sys2Proof.Machine
end

