-- ==== Sys2Proof/Machine/Launch.lean ====
section
/-!
DEFINITION. Selection and booking of launches, the checks that refuse them, admission and securing of downlinks, and
the frames that the device builds itself (R246 to R258, R292 to R301).
-/

namespace Sys2Proof.Machine

def sluiceFn : Nat := 0x0500

/-- Count `i` of the transmit path (R280). -/
def countTx (i : Nat) (s : State) : State := s.count sluiceFn i

/-! ### Refusals (R142, R147, R157, R249, R265, R267, R269, R618) -/

/-- Start of the slot after the one in progress, ns; none before an ASN is established. -/
def nextSlotNs (s : State) : Option Nat :=
  if s.time.realign then s.time.stepEnd else s.time.asn.map fun n => slotStartNs s.coh.active (n + 1)

/-- The supply-dip inhibit refuses a launch at `t0`: it ends at the first slot boundary after recovery (R270). -/
def inhibits (s : State) (t0 : Nat) : Bool :=
  s.sluice.inhibit && !(s.sluice.recovered && (match nextSlotNs s with
    | some b => decide (b ≤ t0)
    | none => true))

/-- A physical change, first lock or relock of radio `r` that concerns window `w` is not complete (R147, R618). -/
def radioSettling (s : State) (r : Fin 3) (w : Nat) : Bool :=
  match (s.radio r).change with
  | some c => if w = 0 then c.win0 else c.win1
  | none => (s.fnState (radioFn r)).settling

/-- Why the device cannot transmit on window `w` of radio `r` at `t0`, if it cannot. -/
def txBlocked (s : State) (r : Fin 3) (w t0 : Nat) : Option Nat :=
  if s.inReset sluiceFn || s.inReset (radioFn r) then some rcDiscardedReset
  else if s.boot.padHold then some rcPadsHeld
  else if s.safety.safeState then some rcSafeState
  else if (s.radio r).hostCal.isSome then some rcBusyCal
  else if radioSettling s r w then some rcRadioSettling
  else if inhibits s t0 then some rcTxAbortSupply
  else none

/-- Air time charged or reserved on radio `r` in the present second, µs (R267). -/
def secondCharges (s : State) (r : Fin 3) : Nat :=
  (if s.sluice.second = s.time.spring.toNat / 32768 then s.sluice.secondCharge[r] else 0)
    + ((s.sluice.launches.filter fun x => x.radio == r && x.reserved).map (·.charge)).foldl (· + ·) 0

/-- The governor's cap refuses a charge of `c` µs on radio `r`. -/
def governorRefuses (s : State) (r : Fin 3) (c : Nat) : Bool :=
  let cap := govDuty s.thermal.step
  cap != 0 && decide (cap * 10000 < secondCharges s r + c)

/-- Why the accountant or the governor refuses the charge of a launch, if one does. -/
def chargeRefused (s : State) (x : Launch) (isAck : Bool) : Option Nat :=
  if !dutyGrants s (launchBands s x) x.charge isAck then some rcDutyBudget
  else if governorRefuses s x.radio x.charge then some rcThermalShed
  else none

/-! ### Bookings (R249) -/

/-- Time before t0 at which a retune of radio `r` to `lo` starts, µs; 0 without a retune (R154). -/
def retuneLead (s : State) (r : Fin 3) (lo : Nat) : Nat :=
  if (s.radio r).synth = .locked && (s.radio r).lo == lo then 0
  else if loClass s r lo = .absent then 276 else 66

/-- Start and end of a booking under the set `m`, ns. -/
def bookingOf (s : State) (m : NMap Bytes) (r : Fin 3) (lo t0 late air : Nat) : Nat × Nat :=
  (t0 - max (retuneLead s r lo) (16 + trLead m r.val) * 1000, t0 + (late + air + 16 + trLag m r.val) * 1000)

/-- The bookings of radio `r` that overlap an interval. -/
def bookingsIn (s : State) (r : Fin 3) (a b : Nat) : List Launch :=
  s.sluice.launches.filter fun x => x.radio == r && overlaps x.bookFrom x.bookTo a b

/-- Fewer than MOD_LIMIT bookings overlap the interval at every instant. -/
def bookingFree (s : State) (r : Fin 3) (a b : Nat) : Bool :=
  let l := bookingsIn s r a b
  (a :: l.map fun x => max a x.bookFrom).all fun p =>
    decide ((l.countP fun x => decide (x.bookFrom ≤ p) && decide (p < x.bookTo)) < modLimit s.coh.active r.val)

/-- Every overlapping booking uses window `w`. -/
def bookingWindowOk (s : State) (r : Fin 3) (w a b : Nat) : Bool := (bookingsIn s r a b).all fun x => x.window == w

/-- The lowest-numbered free modulator of radio `r` (R246). -/
def freeModulator (s : State) (r : Fin 3) : Nat :=
  ((List.range 8).find? fun k => !(s.sluice.launches.any fun x => x.radio == r && x.modulator == k)).getD 7

/-! ### Power (R247) -/

/-- 40 log10 of MOD_LIMIT, rounded up. -/
def modLoss (n : Nat) : Int := [0, 0, 13, 20, 25, 28, 32, 34, 37].getD n 37

def txMaxQ (m : NMap Bytes) (r : Nat) : Int := i16 (radioPart m r) 24

/-- Drive power of a frame, 0.25 dB. -/
def drivePower (m : NMap Bytes) (r : Nat) (req : Int) : Int := max (-80) (min req (txMaxQ m r) - modLoss (modLimit m r))

/-! ### Making launches -/

/-- The generation of a launch in slot `a`: that in force when the slot began, or now for a slot that has not (R36; a commit
between the selection and the slot's start is not seen by the launch, log entry 162). -/
def State.slotGen (s : State) (a : Nat) : BitVec 32 := if s.time.asn == some a then s.coh.slotGen else s.coh.generation

/-- Its active set. -/
def State.slotSet (s : State) (a : Nat) : NMap Bytes := s.setOf (s.slotGen a)

/-- A launch on channel `ch` of the set `m`, with its booking; `air` in µs. -/
def newLaunchOf (s : State) (m : NMap Bytes) (kind : LaunchKind) (ch t0 late air asn : Nat) (req : Int) : Launch :=
  let r := chanRadioFin m ch
  let b := bookingOf s m r (chanLo m ch) t0 late air
  { id := s.sluice.nextId, kind := kind, radio := r, window := chanWindow m ch, channel := ch
    modulator := freeModulator s r, t0 := t0, lateTol := late, airUs := air, charge := chargeUs m r.val air
    reserved := false, power := drivePower m r.val req, step := .selected, calClass := .valid, needRetune := false
    lateUs := 0, asn := asn, generation := s.coh.generation, neighbour := 0xFFFFFFFF, counter := 0
    pendingBit := false, frame := none, psdu := [], bits := [], air := [], shift := 0, pn9 := false, corr := chanCorr s r (chanLo m ch) (chanCentre m ch)
    committed := [], rampAt := 0, built := false, acks := none, long := 0, bookFrom := b.1, bookTo := b.2 }

/-- A launch under the active set. -/
def newLaunch (s : State) (kind : LaunchKind) (ch t0 late air asn : Nat) (req : Int) : Launch :=
  { newLaunchOf s (s.slotSet asn) kind ch t0 late air asn req with generation := s.slotGen asn }

/-- A channel sends a 4-byte FCS: every Oxgon frame, and SUN-FSK with SUN_TX_FCS4. -/
def chanFcs4 (m : NMap Bytes) (ch : Nat) : Bool := !isSun m ch || bit (chanFlags m ch) 4

/-- The channel bits that the modulator of a launch makes of its PSDU (R246); those of a test transmission have none. -/
def launchBits (s : State) (x : Launch) : List Bool :=
  let m := s.setOf x.generation
  if x.kind = .test then []
  else if isSun m x.channel then
    sunBits (u8 (chanPart m x.channel) 16) (sunSfdSet m x.channel) (sunFec m x.channel) (bit (chanFlags m x.channel) 5)
      (chanFcs4 m x.channel) (bit (chanFlags m x.channel) 3) x.psdu
  else frameBits (chanMode m x.channel) (x.kind == .beacon) 0 0 x.psdu

/-- The modulator of a launch takes its PSDU (R246). -/
def loadModulator (s : State) (x : Launch) : Launch :=
  let m := s.setOf x.generation
  let bits := launchBits s x
  { x with bits := bits, air := modulate (chanMode m x.channel) bits
           shift := (chanCentre m x.channel : Int) - windowCentre m x.radio.val x.window }

/-- Add a launch to its radio. -/
def addLaunch (x : Launch) (s : State) : State :=
  s.onSluice fun y => { y with launches := y.launches ++ [x], nextId := y.nextId + 1 }

/-- Why a new launch is refused: blocked, not booked, or not granted. -/
def launchRefused (s : State) (x : Launch) (isAck : Bool) : Option Nat :=
  match txBlocked s x.radio x.window x.t0 with
  | some rc => some rc
  | none =>
    if !(bookingFree s x.radio x.bookFrom x.bookTo && bookingWindowOk s x.radio x.window x.bookFrom x.bookTo) then
      some rcTxBooking
    else chargeRefused s x isAck

/-- A granted launch: its modulator encodes it, and its charge is reserved in every sub-band of its channel (R246, R265). -/
def grantLaunch (x : Launch) (s : State) : State :=
  reserveBands x.charge (launchBands s x) (addLaunch { loadModulator s x with reserved := true } s)

/-- A launch that is refused before it is booked: its record with no air time. -/
def refuseLaunch (x : Launch) (reason : Nat) (s : State) : State :=
  writeLaunchRecord x reason false 0 (countRefusal x.radio reason s)

/-! ### Downlink frames (R250, R251, R253, R325) -/

/-- Destination of a downlink: the short address of its neighbour if it has one, else the extended one (R325);
0xFFFF for a broadcast. -/
def dstOf (m : NMap Bytes) (n : Nat) : Addr :=
  if n = 0xFFFFFFFF then .short 0xFFFF
  else if nbShort m n = 0xFFFF then .ext (nbExt m n) else .short (nbShort m n)

/-- Key of a frame to neighbour `n` (R294). -/
def dlKey (m : NMap Bytes) (n : Nat) : Nat := if n = 0xFFFFFFFF then groupKey m else nbKey m n

/-- Level of a frame to neighbour `n`: its MIN_SEC_LEVEL (log entry 19); 6 for a broadcast, which is encrypted. -/
def dlLevel (m : NMap Bytes) (n : Nat) : Nat := if n = 0xFFFFFFFF then 6 else nbMinLevel m n

/-- KEY_INDEX byte: broadcasts carry it, as group acknowledgements do (R94). -/
def dlKeyByte (n key : Nat) : Option Nat := if n = 0xFFFFFFFF then some (key % 256) else none

/-- PSDU bytes of a downlink on an Oxgon channel. -/
def dlLength (m : NMap Bytes) (n payload : Nat) : Nat :=
  17 + (dstOf m n).size + (if n = 0xFFFFFFFF then 1 else 0) + payload + (if dlLevel m n = 0 then 0 else 8) + 4

/-- The cells that can carry a downlink to `n`: its dedicated downlink cells, or for the parent the parent uplink
cells. -/
def dlCells (m : NMap Bytes) (n : Nat) : List Bytes :=
  (List.range 8).flatMap fun sf =>
    ((sfCells m sf).map (·.2)).filter fun c =>
      if linkRelay m && n == parentIdx m then cellUse c == 6 else cellUse c == 2 && cellNeighbour c == n

/-- A frame asks for an acknowledgement when a cell that can carry it has ACK = immediate (log entry 19). -/
def dlAckMode (m : NMap Bytes) (n : Nat) : Bool := (dlCells m n).any fun c => cellAck c == 1

/-- Frames of neighbour `n` that are queued. -/
def nbQueued (s : State) (n : Nat) : List DlFrame := s.sluice.queued.filter fun f => f.neighbour == n

/-- A key that fails to unwrap is counted and reported (R295). -/
def badKey (k rc : Nat) (s : State) : State :=
  if rc = rcUnwrapFail then raiseSource 55 cipherFn k (s.count cipherFn 14) else s

/-- Stage 4 for frame `f`, whose counter is taken: its payload is encrypted on one firmware page and, before the frame enters
its queue, decrypted on a second one and compared by CRC-32 (R19, R548).  PENDING, which R253 fixes at selection, is under the
MIC, so the MIC follows there (log entry 19).  A frame whose encryption or check fails is removed. -/
def sealFrame (f : DlFrame) (s : State) : State :=
  let m := s.setOf f.generation
  match if f.level = 0 then .good [] 0 else openKey m f.key with
  | .bad rc => removeFrame f rc false false (badKey f.key rc s)
  | .good key _ =>
    let n := ccmNonce (ownExt m) f.counter.toNat f.level
    let c := if f.level = 6 then ccmCtr key n f.payload else f.payload
    let back := if f.level = 6 then ccmCtr key n c else c
    let s := if f.level = 0 then s
      else useKey f.key 2 (if f.level = 6 then 2 * ceilDiv f.payload.length 16 else 0) s
    if crc32 back == crc32 f.payload then s.onFrame f.id fun _ => { f with sealed := some (key, c), waiting := false }
    else raiseSource 120 cipherFn f.counter.toNat (removeFrame f rcDlPathCheck false false s)

/-- Take the counter of a queued frame and encrypt it; a refusal removes it with its record (R301).  With the engine disabled or
in reset the frame waits at stage 4 (R308). -/
def takeFor (f : DlFrame) (s : State) : State :=
  if f.taken || !s.works cipherFn then s
  else
    match takeCounter f.key f.generation.toNat s with
    | .taken c s => sealFrame { f with taken := true, counter := c } s
    | .waits s => s.onFrame f.id fun y => { y with waiting := true }
    | .refused rc s => removeFrame f rc false false s

/-- Queued frames that have no counter and do not wait for a reservation are secured, as far as they can be. -/
def takeAll (fs : List DlFrame) (s : State) : State := (fs.filter fun f => !f.waiting).foldl (fun s f => takeFor f s) s

/-- Frames that wait for a reservation are secured, or refused, when they no longer have to wait. -/
def retryWaiting (s : State) : State :=
  ((s.sluice.queued ++ s.sluice.broadcasts).filter (·.waiting)).foldl (fun s f =>
    match mget s.cipher.slots f.key with
    | some x => if !ceilingDurable s f.key x && !s.cipher.journal.fault then s else takeFor f s
    | none => takeFor f s) s

/-- A downlink that is being secured when the engine stops returns to stage 4; its counter is skipped (R308). -/
def unsealFrame (f : DlFrame) (s : State) : State :=
  (s.onFrame f.id fun y => { y with taken := false, waiting := false, sealed := none }).count cipherFn 8

/-- `JOURNAL_PROGRAM_DONE`: the first waiting record is durable, or is written again; the fourth failure is a fault.  Frames
that waited for it go on, or are refused after a fault (R301, R303).  Nothing is programmed while the head sector is full. -/
def execJournalProgramDone (ok : Bool) (s : State) : Out :=
  let j := s.cipher.journal
  match j.queue with
  | [] => .next s
  | r :: _ => if 4 ≤ j.fails || headFull j then .next s else .next (retryWaiting (if ok then recordDurable r s else recordFailed s))

/-- The outcome of admission. -/
inductive Admission where
  | admitted (s : State)
  | refused (rc : Nat)

/-- Admission of a link payload to neighbour `n` in egress queue `q`, or of a broadcast (R250, R251). -/
def admitFrame (n q : Nat) (cookie : BitVec 64) (payload : Bytes) (s : State) : Admission :=
  let m := s.coh.active
  let key := dlKey m n
  let f : DlFrame :=
    { id := s.sluice.nextId, cookie := cookie, neighbour := n, queue := q, ackMode := n != 0xFFFFFFFF && dlAckMode m n
      level := dlLevel m n, key := key, payload := payload, taken := false, counter := 0, waiting := false, sealed := none, micEcho := 0, psdu := none
      pendingBit := false, admitted := s.time.fabric, launches := 0, requeued := false, lastAsn := none, lastPath := 0
      lastChannel := 0, lastPower := 0, charged := 0, lastLate := 0, generation := s.coh.generation, inFlight := false
      awaiting := none, expired := false, endNs := 0 }
  let total := s.sluice.queued.length + s.sluice.broadcasts.length
  let put (b : Bool) : State := pmuEvent pmuWeir 1 0 1 (countTx 1 (s.onSluice fun x =>
    { x with nextId := x.nextId + 1
             queued := if b then x.queued else x.queued ++ [f]
             broadcasts := if b then x.broadcasts ++ [f] else x.broadcasts }))
  if n = 0xFFFFFFFF then
    if 256 ≤ (s.sluice.broadcasts.filter fun x => x.queue == q).length || 65536 ≤ total then .refused rcQueueFull
    else .admitted (takeFor f (put true))
  else if !nbValid m n then .refused rcUnknownNeighbour
  else if maxOr 0 ((dlCells m n).map cellMaxLen) < dlLength m n payload.length then .refused rcDlTooLong
  else if nbQueueMax m ≤ (nbQueued s n).length || 65536 ≤ total then .refused rcQueueFull
  else .admitted (takeFor f (put false))

/-- The MAC header of a downlink on channel `ch` of the set `m`; its addresses and key are those of its own set. -/
def dlHeader (s : State) (m : NMap Bytes) (ch : Nat) (f : DlFrame) (pending : Bool) : Bytes :=
  let g := s.setOf f.generation
  (if isSun m ch then sunHeader else sendHeader 0) (flag f.ackMode) pending (networkId g) (dstOf g f.neighbour) (ownExt g)
    f.level f.counter (dlKeyByte f.neighbour f.key)

/-- PSDU bytes of a downlink on channel `ch`. -/
def frameLength (s : State) (m : NMap Bytes) (ch : Nat) (f : DlFrame) : Nat :=
  match f.psdu with
  | some p => p.length
  | none => (dlHeader s m ch f false).length + f.payload.length + (if f.level = 0 then 0 else 8) + (if chanFcs4 m ch then 4 else 2)

/-- The PSDU of an encrypted downlink on channel `ch` with its MIC, and its MIC_ECHO (R292). -/
def secureFrame (s : State) (m : NMap Bytes) (ch : Nat) (f : DlFrame) (pending : Bool) : Bytes × BitVec 32 :=
  let h := dlHeader s m ch f pending
  let (key, c) := f.sealed.getD ([], f.payload)
  let n := ccmNonce (ownExt (s.setOf f.generation)) f.counter.toNat f.level
  let mic := if f.level = 0 then [] else if f.level = 6 then ccmMic key n h f.payload else ccmMic key n (h ++ f.payload) []
  (withFcs (h ++ c ++ mic) (chanFcs4 m ch), BitVec.ofNat 32 (u32 mic 0))

/-- AES blocks of the MIC of a downlink. -/
def micBlocks (f : DlFrame) (header : Nat) : Nat :=
  ccmBlockCount f.level header f.payload.length - (if f.level = 6 then ceilDiv f.payload.length 16 else 0)

/-- The frame `f` with its PSDU: the one it was launched with, or one that is secured now and counted. -/
def withPsdu (m : NMap Bytes) (ch : Nat) (pending : Bool) (f : DlFrame) (s : State) : DlFrame × State :=
  match f.psdu with
  | some _ => (f, s)
  | none =>
    let p := secureFrame s m ch f pending
    ({ f with psdu := some p.1, micEcho := p.2, pendingBit := pending },
      if f.level = 0 then s
      else (s.countN cipherFn 1 (micBlocks f (dlHeader s m ch f pending).length)).count cipherFn 6)

/-- Queue `q` is open on radio `r` (R260). -/
def queueOpen (s : State) (r : Fin 3) (q : Nat) : Bool := (s.sluice.gates[r]).openMask.getLsbD q

/-- Another frame of `n` is queued in an open queue of radio `r` (R253). -/
def pendingFor (s : State) (r : Fin 3) (n : Nat) (except_ : Option Nat) : Bool :=
  (nbQueued s n).any fun f => some f.id != except_ && queueOpen s r f.queue

/-! ### Frames that the device builds (R97, R98) -/

/-- Header of a beacon (type 1) or group acknowledgement (type 3) at level 2 under the key at index `k`. -/
def controlHeader (m : NMap Bytes) (ftype k : Nat) (counter : BitVec 32) : Bytes :=
  sendHeader ftype 0 false (networkId m) .absent (ownExt m) 2 counter (some (k % 256))

/-- Its PSDU, with `key` the bytes of the key, and the length of that. -/
def controlPsdu (m : NMap Bytes) (ch ftype k : Nat) (key : Bytes) (counter : BitVec 32) (body : Bytes) : Bytes :=
  let h := controlHeader m ftype k counter
  withFcs (h ++ ccmSecure key (ownExt m) counter.toNat 2 h body) (chanFcs4 m ch)
def controlLength (m : NMap Bytes) (ch ftype k : Nat) (body : Bytes) : Nat :=
  (controlHeader m ftype k 0).length + body.length + 8 + (if chanFcs4 m ch then 4 else 2)

/-- DEPTH of the device's own beacons. -/
def ownDepth (s : State) : Nat := if linkRelay s.coh.active then (s.link.parentDepth + 1) % 256 else 0

/-- Frames listed for slotframe `sf`, oldest first. -/
def groupList (s : State) (sf : Nat) : List (Nat × BitVec 32) := mgetD s.link.groupAcks sf []

/-- Entries that fit in a group acknowledgement of `len` bytes. -/
def groupFit (len : Nat) : Nat := (len - 38) / 6

/-! ### Selection (R252, R255, R263) -/

/-- A relay without its parent sends no beacons, group acknowledgements, downlinks or parent uplinks (R109, R252). -/
def searching (s : State) : Bool := linkRelay s.coh.active && s.link.sync != .synced

/-- The heads of neighbour `n`'s lists that fit a cell of `len` bytes on channel `ch`, with their air times. -/
def offeredHeads (s : State) (r : Fin 3) (n ch len : Nat) : List (DlFrame × Nat) :=
  let m := s.coh.active
  (List.range 16).filterMap fun q =>
    if !queueOpen s r q then none
    else
      match (nbQueued s n).find? fun f => f.queue == q with
      | none => none
      | some f =>
        let l := frameLength s m ch f
        if f.taken && !f.inFlight && f.awaiting.isNone && decide (l ≤ len) then some (f, airUs m ch l) else none

/-- The egress of radio `r`. -/
def radioEgress (r : Fin 3) : Fin 6 := ⟨2 + r.val, by omega⟩

/-- Select a downlink or parent uplink for a cell of neighbour `n`; whatever refuses it leaves the frame queued
(R252). -/
def selectDownlink (kind : LaunchKind) (n : Nat) (c : Bytes) (ch t0 asn : Nat) (s : State) : State :=
  let m := s.slotSet asn
  let r := chanRadioFin m ch
  if searching s || (s.nb n).lostSync then s
  else
    let s := takeAll (nbQueued s n) s
    let heads := offeredHeads s r n ch (cellMaxLen c)
    let e := radioEgress r
    match weirPick m e.val s.time.fabric (heads.map fun h => (h.1.queue, h.2)) s.router.egress[e] with
    | none => s
    | some (q, g) =>
      match heads.find? fun h => h.1.queue == q with
      | none => s
      | some (f, air) =>
        let pend := pendingFor s r n (some f.id)
        let x := { newLaunch s kind ch t0 (dlLateTol m r.val) air asn (txPowerQ m r.val) with
          neighbour := n, counter := f.counter, frame := some f.id, pendingBit := f.pendingBit }
        match launchRefused s x false with
        | some rc =>
          let s := countRefusal r rc s
          -- a host-commanded calibration records the refusal (R157); the frame stays queued
          if rc = rcBusyCal then refusalRecord x f rc s else s
        | none =>
          if f.psdu.isNone && f.level != 0 && !s.works cipherFn then unsealFrame f s
          else
          let (f, s) := withPsdu m ch pend f s
          let x := { x with psdu := f.psdu.getD [], pendingBit := f.pendingBit }
          let s := s.onFrame f.id fun _ => { f with inFlight := true, generation := s.slotGen asn }
          (pmuEvent pmuWeir 0x10 1 air (grantLaunch x s)).onEgress e fun _ => g

/-- Select a beacon or a group acknowledgement: `key` is its key, `body` its content.  With the cipher engine in reset it is
refused as discarded by it, with the engine disabled as without a key (DESIGN CHOICE, log entry 139). -/
def selectControl (kind : LaunchKind) (ftype key : Nat) (body : Bytes) (ch t0 asn : Nat) (done : State → State)
    (s : State) : State :=
  let m := s.slotSet asn
  let r := chanRadioFin m ch
  let air := airUs m ch (controlLength m ch ftype key body)
  let x := newLaunch s kind ch t0 (beaconLateTol m r.val) air asn (txPowerQ m r.val)
  match launchRefused s x false with
  | some rc => refuseLaunch x rc s
  | none =>
    if !s.works cipherFn then refuseLaunch x (if s.inReset cipherFn then rcDiscardedReset else rcKeyAbsent) s
    else
      match takeCounter key (s.slotGen asn).toNat s with
      | .waits s => refuseLaunch x rcJournalWait s
      | .refused rc s => refuseLaunch x rc s
      | .taken k s =>
        match openKey m key with
        | .bad rc => refuseLaunch { x with counter := k } rc (badKey key rc (s.count cipherFn 8))
        | .good kb _ =>
          let s := (useKey key 1 (ccmBlockCount 2 (controlHeader m ftype key k).length body.length) s).count cipherFn 6
          done (grantLaunch { x with counter := k, psdu := controlPsdu m ch ftype key kb k body } s)

/-- Nothing is selected in slot `a` at t0: the slot is idled (R365), or after a step its selection instant fell before E and it is not
of the slot then in progress (R364). -/
def selectBarred (s : State) (a t0 : Nat) : Bool :=
  decide (a < s.time.asnFloor.toNat) || (s.time.idling && decide (a ≤ s.time.asnFloor.toNat))
    || match s.time.stepEnd with
      | some e => decide (t0 < e + 1000000) && !(s.time.realign && s.time.asn == some a)
      | none => false

/-- Select for a cell of a slotframe at ASN `a`. -/
def selectCell (sf idx a : Nat) (s : State) : State :=
  let m := s.slotSet a
  let c := cellPart m sf idx
  match cellChannel m sf c a with
  | none => s
  | some ch =>
    let t0 := slotAtNs s m a + txOffset m * 1000
    if !cellActive m sf c a || !chanUsable m ch || selectBarred s a t0 then s
    else
      match cellUse c with
      | 2 => selectDownlink .downlink (cellNeighbour c) c ch t0 a s
      | 6 => if linkRelay m then selectDownlink .parentUplink (parentIdx m) c ch t0 a s else s
      | 3 =>
        if searching s then s
        else selectControl .beacon 1 (beaconKey m) (beaconBody m a (ownDepth s) (holdoverFlag s) (s.slotGen a))
          ch t0 a id s
      | 4 =>
        if searching s then s
        else
          let es := (groupList s sf).take (groupFit (cellMaxLen c))
          selectControl .groupAck 3 (groupKey m) (groupAckBody a es) ch t0 a
            (fun s => s.onLink fun l => { l with groupAcks := mmod [] l.groupAcks sf fun x => x.drop es.length }) s
      | _ => s

/-! ### Gate lists (R260 to R263) -/

/-- The list of radio `r` that is in force in slot `a`, as header and entries: the old one until a changed one takes
over (R261, R262). -/
def gateInForce (s : State) (r : Fin 3) (a : Nat) : Option (Bytes × List Bytes) :=
  let g := s.sluice.gates[r]
  let m := s.coh.active
  match g.activation, g.old with
  | some n, o =>
    if n ≤ a then some (gatePart m r.val, (List.range (gateCount m r.val)).map (gateEntry m r.val))
    else
      match o with
      | some (h :: es) => some (h, es)
      | _ => none
  | none, _ => none

/-- Slot of the cycle of a list at ASN `a`. -/
def gateSlot (h : Bytes) (a : Nat) : Nat := if u32 h 12 = 0 then 0 else (a + (u32 h 12 - u64 h 4 % u32 h 12)) % u32 h 12

/-- The radio has an active cell of some slotframe in slot `a`. -/
def radioHasCell (m : NMap Bytes) (r : Fin 3) (a : Nat) : Bool :=
  (activeCells m a).any fun c =>
    match cellChannel m c.1 c.2.2 a with
    | some ch => chanUsable m ch && chanRadioFin m ch == r
    | none => false

/-- Select for entry `idx` of gate list `r` at ASN `a` (R263). -/
def selectGate (r : Fin 3) (idx a : Nat) (s : State) : State :=
  let m := s.slotSet a
  match gateInForce s r a with
  | none => s
  | some (h, es) =>
    match es[idx]? with
    | none => s
    | some e =>
      let q := u8 e 9
      let ch := u8 e 12
      let late := u16 e 14
      let t0 := slotAtNs s m a + u32 e 4 * 1000
      if u8 e 8 != 1 || gateSlot h a != u32 e 0 || !chanUsable m ch || selectBarred s a t0 then s
      else
        let s := takeAll (s.sluice.broadcasts.filter fun f => f.queue == q) s
        match s.sluice.broadcasts.find? fun f => f.queue == q && !f.inFlight with
        | none => countTx 13 s
        | some f =>
          -- a head whose counter is not durable yet is not launched: the entry is skipped (DESIGN CHOICE, log entry 133)
          if !f.taken then countTx 12 s
          else if f.psdu.isNone && f.level != 0 && !s.works cipherFn then countTx 12 (unsealFrame f s)
          else
          let air := airUs m ch (frameLength s m ch f)
          let x := { newLaunch s .gate ch t0 late air a (signed 8 (u8 e 13)) with
            counter := f.counter, frame := some f.id }
          if radioHasCell m r a || decide (slotAtNs s m a + slotStartNs m (a + 1) - slotStartNs m a < t0 + (late + air + 16 + trLag m r.val) * 1000) then
            countTx 12 s
          else
            match txBlocked s r x.window t0 with
            | some rc => refusalRecord x f rc (countRefusal r rc s)
            | none =>
              match launchRefused s x false with
              | some rc => countTx 12 (refusalRecord x f rc (countRefusal r rc s))
              | none =>
                let (f, s) := withPsdu m ch false f (preemptCal r s)
                grantLaunch { x with psdu := f.psdu.getD [] } (s.onFrame f.id fun _ =>
                  { f with inFlight := true, generation := s.slotGen a })

/-! ### Immediate acknowledgements (R258) -/

/-- Book the acknowledgement of a received frame that ends at `te`, in cell `c`. -/
def bookAck (f : Nat) (c : SlotCell) (te : Nat) (s : State) : State :=
  let m := s.setOf c.generation
  let x := newLaunchOf s m .ack c.ch (te + turnaround m * 1000) 0 (airUs m c.ch (ackLen m c.cell c.ch)) c.asn
    (txPowerQ m (chanRadio m c.ch))
  let x := { x with step := .booked, acks := some f, generation := c.generation }
  let free := bookingFree s x.radio x.bookFrom x.bookTo
  if free && bookingWindowOk s x.radio x.window x.bookFrom x.bookTo then
    (addLaunch x s).onRxFrame f fun y => { y with ack := some x.id }
  else refuseLaunch x rcTxBooking (countTx (if free then 9 else 8) s)

/-- Give up a booked acknowledgement. -/
def dropAck (x : Launch) (s : State) : State := unsendAck x (dropLaunch x.id (refundLaunch x s))

/-- The deadline of a booked acknowledgement: checked and encoded, or dropped (R258 steps 4 and 5). -/
def ackDeadline (x : Launch) (s : State) : State :=
  if !x.built then (dropAck x s).count linkFn 12
  else
    let m := s.setOf x.generation
    let air := airUs m x.channel x.psdu.length
    let x := { x with airUs := air, charge := chargeUs m x.radio.val air }
    let refused := match txBlocked s x.radio x.window x.t0 with
      | some rc => some rc
      | none => chargeRefused s x true
    match refused with
    | some rc => refuseLaunch x rc (dropAck x s)
    | none =>
      reserveBands x.charge (launchBands s x)
        (s.onLaunch x.id fun _ => { loadModulator s x with step := .selected, reserved := true })

end Sys2Proof.Machine
end

