-- ==== Sys2Proof/Machine/Router.lean ====
section
/-!
DEFINITION. The router: ports, forwarding, 6LoWPAN, the relay service, policers, the Ethernet and host-ring egress
queues, and its configuration commands (chapter 09).
-/

namespace Sys2Proof.Machine

def routerFn : Nat := 0x0800
def portFn (p : Fin 2) : Nat := 0x0810 + p.val
def countRouter (i : Nat) (s : State) : State := s.count routerFn i
def countPort (p : Fin 2) (i : Nat) (s : State) : State := s.count (portFn p) i

/-! ### Configuration (R319, R338, R341, R342) -/

def ownIpv6 (m : NMap Bytes) : Nat := beNat (slice (routerPart m) 0 16)
def ownIpv4 (m : NMap Bytes) : Bytes := slice (routerPart m) 16 4
def ipv4NextHop (m : NMap Bytes) : Bytes := slice (routerPart m) 20 6
def excQueue (m : NMap Bytes) : Nat := u8 (routerPart m) 26
def localQueue (m : NMap Bytes) : Nat := u8 (routerPart m) 27
def hostTxPort (m : NMap Bytes) (ring : Nat) : Nat := u8 (routerPart m) (20 + ring)
def dscpColour (m : NMap Bytes) (d : Nat) : Nat := u8 (routerPart m) (184 + d)

/-- The prefix of context `c`; none where it is not valid (R326). -/
def contextOf (m : NMap Bytes) (c : Nat) : Option Bytes :=
  if bit (u16 (routerPart m) 52) c then some (slice (routerPart m) (56 + 8 * c) 8) else none

/-- The lowest-numbered valid context whose prefix is that of an address. -/
def matchContext (m : NMap Bytes) (addr : Bytes) : Option Nat :=
  (List.range 16).find? fun c => contextOf m c == some (addr.take 8)

/-- A forwarding entry as R319 lays it out. -/
def routeEntry (m : NMap Bytes) (i : Nat) : Bytes := part m 0x0800 0x0802 0 i
def routeKind (e : Bytes) : Nat := u8 e 17
def routeLen (e : Bytes) : Nat := u8 e 16

/-- The valid entries of a set. -/
def routes (m : NMap Bytes) : List Bytes :=
  (m.filter fun e => cfgKeyFn e.1 == 0x0800 && cfgKeyOp e.1 == 0x0802).map (·.2) |>.filter fun e => routeKind e != 0

def policerPart (m : NMap Bytes) (i : Nat) : Bytes := part m 0x0800 0x0804 0 i
def policerType (m : NMap Bytes) (i : Nat) : Nat := u8 (policerPart m i) 0

def portPart (m : NMap Bytes) (p : Nat) : Bytes := part m (0x0810 + p) 0x0806 0 0
def portMode (m : NMap Bytes) (p : Nat) : Nat := u8 (portPart m p) 0
def pauseRx (m : NMap Bytes) (p : Nat) : Bool := bit (u8 (portPart m p) 1) 1
def maxFrame (m : NMap Bytes) (p : Nat) : Nat := u16 (portPart m p) 2
def portMac (m : NMap Bytes) (p : Nat) : Bytes := slice (portPart m p) 4 6
def vlanId (m : NMap Bytes) (p : Nat) : Nat := u16 (portPart m p) 10
def portPcp (m : NMap Bytes) (p : Nat) : Nat := u8 (portPart m p) 12

/-! ### Egress queues (R331, R334) -/

/-- Colour of a packet (R329). -/
inductive Colour where
  | green
  | yellow
  | red
  deriving DecidableEq, Repr

/-- Put a packet in queue `q` of egress 0, 1 or 5: the reason with which it ends, and the state (R329, R334). -/
def enqueue (e : Fin 6) (q : Nat) (c : Colour) (x : Packet) (s : State) : Nat × State :=
  let m := s.coh.active
  let held := if e = 5 then waitBytes s q else queueBytes (s.router.egress[e]).queues[qIdx q]
  let limit := queueLimitKb m e.val q * 1024
  if c = .yellow && decide (queueYellow m e.val q * limit ≤ held * 100) then (rcPoliced, pmuEvent pmuWeir 2 0 1 (countRouter 12 s))
  else if limit < held + x.data.length then (rcQueueFull, pmuEvent pmuWeir 2 0 1 (dropAtQueue e q s))
  else (rcOk, pmuEvent pmuWeir 1 0 1 (s.onEgress e fun g => g.onQueue q fun y => { y with packets := y.packets ++ [x] }))

/-- The egress of port `p`, and that of the host ring. -/
def portEgress (p : Fin 2) : Fin 6 := ⟨p.val, by omega⟩
def hostEgress : Fin 6 := 5

/-- Deliver a packet to a host-ring queue. -/
def toHostQueue (q : Nat) (c : Colour) (reason : Nat) (gen : BitVec 32) (data : Bytes) (s : State) : Nat × State :=
  enqueue hostEgress q c ⟨data, reason, gen⟩ s

/-- The exception path (R323). -/
def exceptionPath (m : NMap Bytes) (reason : Nat) (gen : BitVec 32) (packet : Bytes) (s : State) : State :=
  let s := pmuEvent pmuRouter 2 0 1 (countRouter 14 s)
  if excQueue m < 16 then (toHostQueue (excQueue m) .green reason gen packet s).2 else s

/-- A packet ends on the exception path: its counter, if it has one, and the path. -/
def endException (m : NMap Bytes) (reason : Nat) (gen : BitVec 32) (packet : Bytes) (s : State) : Nat × State :=
  let s := if reason = rcNoRoute then countRouter 6 s
    else if reason = rcHopLimit then countRouter 8 s
    else if reason = rcMtuExceeded then countRouter 9 s
    else if reason = rcLowpanDecode then countRouter 5 s
    else s
  (reason, exceptionPath m reason gen packet s)

/-- A frame of port `p` without its FCS, padded to the least length of IEEE 802.3 (R317). -/
def ethFrame (m : NMap Bytes) (p : Fin 2) (dst : Bytes) (etherType : Nat) (data : Bytes) : Bytes :=
  let tag := if vlanId m p.val = 0 then [] else beBytes 2 0x8100 ++ beBytes 2 (portPcp m p.val * 8192 + vlanId m p.val)
  let f := dst ++ portMac m p.val ++ tag ++ beBytes 2 etherType ++ data
  f ++ zeros (60 - f.length)

/-- Send a packet on port `p`: a frame longer than MAX_FRAME is not sent (R317). -/
def sendOnPort (m : NMap Bytes) (p : Fin 2) (q : Nat) (c : Colour) (dst : Bytes) (etherType : Nat) (gen : BitVec 32)
    (packet original : Bytes) (s : State) : Nat × State :=
  if maxFrame m p.val < packet.length + 18 then endException m rcMtuExceeded gen original s
  else enqueue (portEgress p) q c ⟨ethFrame m p dst etherType packet, rcOk, gen⟩ s

/-! ### Policers (R328 to R330) -/

/-- Units of one byte: a rate of 1 kb/s adds one unit per fabric cycle. -/
def byteUnit : Nat := 3200000

/-- A policer with full buckets at fabric cycle `now`; its counts stay. -/
def fullPolicer (m : NMap Bytes) (i : Nat) (now : BitVec 64) (x : PolicerState) : PolicerState :=
  let b := policerPart m i
  { x with committed := ⟨u32 b 12 * byteUnit, now⟩, excess := ⟨u32 b 16 * byteUnit, now⟩ }

/-- The colour that the packet enters with. -/
def preColour (m : NMap Bytes) (i dscp : Nat) : Colour :=
  if !bit (u8 (policerPart m i) 1) 0 then .green
  else if dscpColour m dscp = 0 then .green
  else if dscpColour m dscp = 1 then .yellow
  else .red

/-- Colour of a packet of `n` bytes with its buckets charged: RFC 2697 for TYPE 1, RFC 2698 for TYPE 2. -/
def markPacket (m : NMap Bytes) (i n : Nat) (pre : Colour) (now : BitVec 64) (x : PolicerState) :
    Colour × PolicerState :=
  let b := policerPart m i
  let need : Int := n * byteUnit
  let dt := (now - x.committed.at_).toNat
  let cMax : Int := u32 b 12 * byteUnit
  let eMax : Int := u32 b 16 * byteUnit
  let c := x.committed.level + dt * u32 b 4
  if policerType m i = 1 then
    let e := min eMax (x.excess.level + max 0 (c - cMax))
    let c := min cMax c
    if pre = .green && decide (need ≤ c) then (.green, { x with committed := ⟨c - need, now⟩, excess := ⟨e, now⟩ })
    else if pre != .red && decide (need ≤ e) then
      (.yellow, { x with committed := ⟨c, now⟩, excess := ⟨e - need, now⟩ })
    else (.red, { x with committed := ⟨c, now⟩, excess := ⟨e, now⟩ })
  else
    let e := min eMax (x.excess.level + dt * u32 b 8)
    let c := min cMax c
    if pre = .red || decide (e < need) then (.red, { x with committed := ⟨c, now⟩, excess := ⟨e, now⟩ })
    else if pre = .yellow || decide (c < need) then
      (.yellow, { x with committed := ⟨c, now⟩, excess := ⟨e - need, now⟩ })
    else (.green, { x with committed := ⟨c - need, now⟩, excess := ⟨e - need, now⟩ })

/-- Police a packet of `n` bytes at policer `i`, 0xFFFF for none. -/
def police (m : NMap Bytes) (i n dscp : Nat) (s : State) : Colour × State :=
  if i = 0xFFFF || policerType m i = 0 then (.green, s)
  else
    let x := mgetD s.router.policers i PolicerState.reset
    let (c, x) := markPacket m i n (preColour m i dscp) s.time.fabric x
    let x := match c with
      | .green => { x with green := x.green + 1 }
      | .yellow => { x with yellow := x.yellow + 1 }
      | .red => { x with red := x.red + 1 }
    let s := s.onRouter fun r => { r with policers := mset r.policers i x }
    (c, match c with
      | .green => s
      | .yellow => countRouter 10 s
      | .red => countRouter 11 s)

/-! ### IPv6 packets -/

def ipVersion (p : Bytes) : Nat := u8 p 0 / 16
def ipv6Dst (p : Bytes) : Bytes := slice p 24 16
def ipv6Hop (p : Bytes) : Nat := u8 p 7
def ipv6Class (p : Bytes) : Nat := beNat (slice p 0 2) / 16 % 256
def ipv6Flow (p : Bytes) : Nat := beNat (slice p 0 4) % 1048576

/-- The packet in what a frame or descriptor carries: without padding; none where it is too short. -/
def ipPacket (p : Bytes) : Option Bytes :=
  if ipVersion p = 6 then
    let n := 40 + beNat (slice p 4 2)
    if 40 ≤ p.length && n ≤ p.length then some (p.take n) else none
  else if ipVersion p = 4 then
    let n := beNat (slice p 2 2)
    if 20 ≤ n && n ≤ p.length then some (p.take n) else none
  else none

def isMulticast (dst : Bytes) : Bool := u8 dst 0 == 0xFF
def isLinkLocal (dst : Bytes) : Bool := u8 dst 0 == 0xFE && u8 dst 1 / 64 == 2

/-- An IPv6 destination of the device itself (R322). -/
def isLocalV6 (m : NMap Bytes) (dst : Bytes) : Bool :=
  let a := beNat dst
  a == ownIpv6 m || isLinkLocal dst || a == 0xFF020000000000000000000000000001
    || a / 2 ^ 24 == 0xFF0200000000000000000001FF

def isLocalV4 (m : NMap Bytes) (p : Bytes) : Bool := slice p 16 4 == ownIpv4 m || slice p 16 4 == [255, 255, 255, 255]

/-- The packet with its hop limit decremented. -/
def hopDown (p : Bytes) : Bytes := patch p 7 (leBytes 1 (ipv6Hop p - 1))

/-- The valid entry with the longest prefix that matches a destination (R320). -/
def lookupRoute (m : NMap Bytes) (dst : Bytes) : Option Bytes :=
  let a := beNat dst
  ((routes m).filter fun e => decide (a / 2 ^ (128 - routeLen e) = beNat (slice e 0 16) / 2 ^ (128 - routeLen e))).foldl
    (fun (best : Option Bytes) e =>
      match best with
      | none => some e
      | some b => if routeLen b < routeLen e then some e else some b) none

/-- The neighbour that an interface identifier names (R321). -/
def iidNeighbour (m : NMap Bytes) (dst : Bytes) : Option Nat :=
  let iid := beNat (dst.drop 8)
  if iid / 65536 = 0x000000FFFE00 then findNb m (.short (iid % 65536))
  else findNb m (.ext ((iid ^^^ 2 ^ 57)))

/-! ### 6LoWPAN (R325, R326, RFC 6282) -/

/-- The interface identifier of a link address, 8 bytes. -/
def iidOf (a : Addr) : Bytes :=
  match a with
  | .absent => zeros 8
  | .short x => [0, 0, 0, 0xFF, 0xFE, 0] ++ beBytes 2 x
  | .ext x => beBytes 8 (x ^^^ 2 ^ 57)

/-- TF code and inline bytes of a traffic class and flow label. -/
def packTf (cls flow : Nat) : Nat × Bytes :=
  let dscp := cls / 4
  let ecn := cls % 4
  if cls = 0 && flow = 0 then (3, [])
  else if flow = 0 then (2, leBytes 1 (ecn * 64 + dscp))
  else if dscp = 0 then (1, beBytes 3 (ecn * 2 ^ 22 + flow))
  else (0, beBytes 4 ((ecn * 64 + dscp) * 2 ^ 24 + flow))

/-- HLIM code and inline bytes of a hop limit. -/
def packHop (h : Nat) : Nat × Bytes :=
  if h = 1 then (1, []) else if h = 64 then (2, []) else if h = 255 then (3, []) else (0, leBytes 1 h)

/-- A UDP header whose length is that of its packet, as NHC bytes; none where it cannot be compressed. -/
def packUdp (body : Bytes) : Option Bytes :=
  let sp := beNat (slice body 0 2)
  let dp := beNat (slice body 2 2)
  if body.length < 8 || beNat (slice body 4 2) != body.length then none
  else
    let ports : Bytes :=
      if sp / 16 = 0xF0B && dp / 16 = 0xF0B then [0xF3] ++ leBytes 1 (sp % 16 * 16 + dp % 16)
      else if dp / 256 = 0xF0 then [0xF1] ++ slice body 0 2 ++ leBytes 1 dp
      else if sp / 256 = 0xF0 then [0xF2] ++ leBytes 1 sp ++ slice body 2 2
      else [0xF0] ++ slice body 0 4
    some (ports ++ body.drop 6)

/-- Compress an IPv6 packet to IPHC (R325); `inlineDst` for a relayed packet (R327). -/
def compress (m : NMap Bytes) (inlineDst : Bool) (p : Bytes) : Bytes :=
  let (tf, tfb) := packTf (ipv6Class p) (ipv6Flow p)
  let (hl, hlb) := packHop (ipv6Hop p)
  let src := slice p 8 16
  let dst := ipv6Dst p
  let body := p.drop 40
  let nhc := if u8 p 6 = 17 then packUdp body else none
  let sc := matchContext m src
  let dc := if inlineDst then none else matchContext m dst
  let elide := src.drop 8 == iidOf (.ext (ownExt m))
  let (sac, sam, sb) : Nat × Nat × Bytes := match sc with
    | some _ => if elide then (1, 3, []) else (1, 1, src.drop 8)
    | none => (0, 0, src)
  let (dac, dam, db) : Nat × Nat × Bytes := match dc with
    | some _ => (1, 3, [])
    | none => (0, 0, dst)
  let cidByte := sc.getD 0 * 16 + dc.getD 0
  leBytes 1 (0x60 + tf * 8 + flag nhc.isSome * 4 + hl)
    ++ leBytes 1 (flag (cidByte != 0) * 128 + sac * 64 + sam * 16 + dac * 4 + dam)
    ++ (if cidByte = 0 then [] else leBytes 1 cidByte)
    ++ tfb ++ (if nhc.isSome then [] else slice p 6 1) ++ hlb ++ sb ++ db ++ nhc.getD body

/-- Read the traffic class and flow label of TF code `tf`: class, flow label and rest. -/
def readTf (tf : Nat) (b : Bytes) : Nat × Nat × Bytes :=
  if tf = 3 then (0, 0, b)
  else
    let cls := u8 b 0 % 64 * 4 + u8 b 0 / 64
    if tf = 2 then (cls, 0, b.drop 1)
    else if tf = 1 then (u8 b 0 / 64, beNat (slice b 0 3) % 1048576, b.drop 3)
    else (cls, beNat (slice b 1 3) % 1048576, b.drop 4)

/-- A unicast address of modes `ac` and `am`: the address and the rest; none for an unknown context. -/
def readUnicast (m : NMap Bytes) (ac am ctx : Nat) (iid : Bytes) (b : Bytes) : Option (Bytes × Bytes) :=
  let pfx : Option Bytes := if ac = 0 then some ([0xFE, 0x80] ++ zeros 6) else contextOf m ctx
  match am with
  | 0 => if ac = 0 then some (slice b 0 16, b.drop 16) else some (zeros 16, b)
  | 1 => pfx.map fun x => (x ++ slice b 0 8, b.drop 8)
  | 2 => pfx.map fun x => (x ++ [0, 0, 0, 0xFF, 0xFE, 0] ++ slice b 0 2, b.drop 2)
  | _ => pfx.map fun x => (x ++ iid, b)

/-- A multicast address of modes `ac` and `am`. -/
def readMulticast (m : NMap Bytes) (ac am ctx : Nat) (b : Bytes) : Option (Bytes × Bytes) :=
  if ac = 0 then
    match am with
    | 0 => some (slice b 0 16, b.drop 16)
    | 1 => some ([0xFF] ++ slice b 0 1 ++ zeros 9 ++ slice b 1 5, b.drop 6)
    | 2 => some ([0xFF] ++ slice b 0 1 ++ zeros 11 ++ slice b 1 3, b.drop 4)
    | _ => some ([0xFF, 2] ++ zeros 13 ++ slice b 0 1, b.drop 1)
  else if am = 0 then
    (contextOf m ctx).map fun x => ([0xFF] ++ slice b 0 2 ++ [64] ++ x ++ slice b 2 4, b.drop 6)
  else none

/-- Sum of 16-bit big-endian words. -/
def wordSum : Nat → Bytes → Nat
  | 0, _ => 0
  | fuel + 1, b => if b.isEmpty then 0 else beNat (slice b 0 2) + wordSum fuel (b.drop 2)

/-- The UDP checksum of a datagram whose checksum field is zero. -/
def udpChecksum (src dst udp : Bytes) : Nat :=
  let t := wordSum 8 src + wordSum 8 dst + udp.length + 17 + wordSum udp.length udp
  let t := t % 65536 + t / 65536
  let t := t % 65536 + t / 65536
  let c := 65535 - t % 65536
  if c = 0 then 65535 else c

/-- The UDP header of an NHC encoding with the data behind it. -/
def readUdp (src dst : Bytes) (b : Bytes) : Option Bytes :=
  let h := u8 b 0
  let b := b.drop 1
  let portBytes := b
  let (ports, b) : Bytes × Bytes :=
    if h % 4 = 0 then (slice b 0 4, b.drop 4)
    else if h % 4 = 1 then (slice b 0 2 ++ [0xF0] ++ slice b 2 1, b.drop 3)
    else if h % 4 = 2 then ([0xF0] ++ slice b 0 1 ++ slice b 1 2, b.drop 3)
    else (beBytes 2 (0xF0B0 + u8 b 0 / 16) ++ beBytes 2 (0xF0B0 + u8 b 0 % 16), b.drop 1)
  let elided := bit h 2
  let data := if elided then b else b.drop 2
  let make (sum : Bytes) : Bytes := ports ++ beBytes 2 (8 + data.length) ++ sum ++ data
  if portBytes.length < [4, 3, 3, 1].getD (h % 4) 0 || (!elided && b.length < 2) then none
  else some (make (if elided then beBytes 2 (udpChecksum src dst (make (zeros 2))) else slice b 0 2))

/-- Bytes that an IPHC header's inline fields need. -/
def iphcInline (h0 h1 : Nat) : Nat :=
  let sac := bits h1 6 6
  let sam := bits h1 5 4
  let mc := bits h1 3 3
  let dac := bits h1 2 2
  let dam := bits h1 1 0
  let uni (ac am : Nat) : Nat := if am = 0 then (if ac = 0 then 16 else 0) else if am = 1 then 8 else if am = 2 then 2 else 0
  bits h1 7 7 + [4, 3, 1, 0].getD (bits h0 4 3) 0 + (1 - bits h0 2 2) + (if bits h0 1 0 = 0 then 1 else 0)
    + uni sac sam
    + (if mc = 0 then uni dac dam else if dac = 1 then 6 else [16, 6, 4, 1].getD dam 0)

/-- Rebuild the IPv6 packet of an uplink payload (R326); none where it cannot be decoded. -/
def decompress (m : NMap Bytes) (src : Addr) (p : Bytes) : Option Bytes :=
  if u8 p 0 = 0x41 then
    let q := p.drop 1
    if ipVersion q = 6 && 40 ≤ q.length && q.length == 40 + beNat (slice q 4 2) then some q else none
  else if u8 p 0 < 0x60 || 0x7F < u8 p 0 || p.length < 2 + iphcInline (u8 p 0) (u8 p 1) then none
  else
    let h0 := u8 p 0
    let h1 := u8 p 1
    let b := p.drop 2
    let sci := if bit h1 7 then u8 b 0 / 16 else 0
    let dci := if bit h1 7 then u8 b 0 % 16 else 0
    let b := if bit h1 7 then b.drop 1 else b
    let (cls, flow, b) := readTf (bits h0 4 3) b
    let nhInline := !bit h0 2
    let nh := u8 b 0
    let b := if nhInline then b.drop 1 else b
    let hl := bits h0 1 0
    let hop := if hl = 0 then u8 b 0 else if hl = 1 then 1 else if hl = 2 then 64 else 255
    let b := if hl = 0 then b.drop 1 else b
    match readUnicast m (bits h1 6 6) (bits h1 5 4) sci (iidOf src) b with
    | none => none
    | some (sa, b) =>
      let d := if bit h1 3 then readMulticast m (bits h1 2 2) (bits h1 1 0) dci b
        else if bits h1 2 0 = 4 then none
        else readUnicast m (bits h1 2 2) (bits h1 1 0) dci (iidOf (.ext (ownExt m))) b
      match d with
      | none => none
      | some (da, b) =>
        let body := if nhInline then some b
          else if u8 b 0 / 8 = 0x1E && decide (1 < b.length) then readUdp sa da b
          else none
        body.map fun x =>
          beBytes 4 (6 * 2 ^ 28 + cls * 2 ^ 20 + flow) ++ beBytes 2 x.length
            ++ leBytes 1 (if nhInline then nh else 17) ++ leBytes 1 hop ++ sa ++ da ++ x

/-! ### Forwarding (R320 to R323, R327, R329) -/

/-- Admit a link payload to a radio downlink queue; a refusal is counted. -/
def admitPayload (n q : Nat) (cookie : BitVec 64) (payload : Bytes) (s : State) : Nat × State :=
  match admitFrame n q cookie payload s with
  | .admitted s => (rcOk, s)
  | .refused rc => (rc, countTx 2 s)

/-- Compressed admission of a packet to neighbour `n` (R325, R250). -/
def admitPacket (m : NMap Bytes) (inlineDst : Bool) (n q : Nat) (gen : BitVec 32) (packet original : Bytes) (s : State) :
    Nat × State :=
  let (rc, s) := admitPayload n q 0 (compress m inlineDst packet) (countRouter 3 s)
  if rc = rcDlTooLong || rc = rcUnknownNeighbour then endException m rc gen original s else (rc, s)

/-- A yellow packet finds its neighbour with too many frames queued (R329). -/
def yellowRefused (s : State) (c : Colour) (n : Nat) : Bool :=
  c == .yellow && decide (nbQueueMax s.coh.active ≤ 2 * (nbQueued s n).length)

/-- Hand a packet to the relay service (R327). -/
def toRelay (n q : Nat) (c : Colour) (gen : BitVec 32) (packet : Bytes) (s : State) : Nat × State :=
  if 1024 ≤ s.router.relay.length then (rcQueueFull, countRouter 19 s)
  else (rcOk, s.onRouter fun r => { r with relay := r.relay ++ [⟨n, q, packet, gen, c == .yellow⟩] })

/-- The effect of a forwarding entry on a packet that its policer has marked `c`. -/
def applyRoute (m : NMap Bytes) (gen : BitVec 32) (e : Bytes) (c : Colour) (p : Bytes) (s : State) : Nat × State :=
  let q := u8 e 19 % 16
  match routeKind e with
  | 2 => sendOnPort m (Fin.ofNat 2 (u8 e 18)) q c (slice e 24 6) 0x86DD gen (hopDown p) p s
  | 3 =>
    match iidNeighbour m (ipv6Dst p) with
    | none => endException m rcUnknownNeighbour gen p s
    | some n =>
      if yellowRefused s c n then (rcPoliced, countRouter 12 s) else admitPacket m false n q gen (hopDown p) p s
  | 4 => toHostQueue q c rcOk gen p s
  | _ =>
    toRelay (u32 e 24) q c gen (hopDown p) s

/-- Look a packet up, police it and forward it (R320). -/
def forwardPacket (m : NMap Bytes) (gen : BitVec 32) (p : Bytes) (s : State) : Nat × State :=
  let s := pmuEvent pmuRouter 1 0 1 s
  match lookupRoute m (ipv6Dst p) with
  | none => endException m rcNoRoute gen p s
  | some e =>
    if routeKind e = 1 then (rcOk, countRouter 7 s)
    else if routeKind e != 4 && decide (ipv6Hop p ≤ 1) then endException m rcHopLimit gen p s
    else
      let (c, s) := police m (u16 e 20) p.length (ipv6Class p / 4) s
      if c = .red then (rcPoliced, s)
      else
        let (rc, s) := applyRoute m gen e c p s
        (rc, if rc = rcOk then countRouter 2 s else s)

/-- Delivery to LOCAL_QUEUE (R322). -/
def deliverLocal (m : NMap Bytes) (gen : BitVec 32) (p : Bytes) (s : State) : Nat × State :=
  toHostQueue (localQueue m % 16) .green rcOk gen p (countRouter 15 s)

/-- A UDP datagram to port 319 or 320 and an address at which the time unit takes PTP messages (R357). -/
def isPtp (m : NMap Bytes) (p : Bytes) : Bool :=
  let v4 := ipVersion p == 4
  let h := if v4 then u8 p 0 % 16 * 4 else 40
  let port := beNat (slice p (h + 2) 2)
  let a := beNat (ipv6Dst p)
  u8 p (if v4 then 9 else 6) == 17 && (port == 319 || port == 320)
    && (if v4 then slice p 16 4 == ownIpv4 m || slice p 16 4 == [224, 0, 1, 129]
      else a == ownIpv6 m || a == 0xFF020000000000000000000000000181 || a == 0xFF0E0000000000000000000000000181)

/-- A PTP datagram is one of the messages that the device uses (R356), which the time unit's own commands take and count. -/
def ptpUsed (p : Bytes) : Bool :=
  let h := if ipVersion p == 4 then u8 p 0 % 16 * 4 else 40
  [0, 8, 9, 11].contains (u8 p (h + 8) % 16)

/-- An IP packet arrives at the router from a port or the uplink (R320, R322).  A PTP datagram is the time unit's: one of a message
that is not used ends here, counted in PTP_RX; the time unit's commands take and count the others (R357, log entry 142). -/
def routePacket (m : NMap Bytes) (gen : BitVec 32) (p : Bytes) (s : State) : Nat × State :=
  let s := countRouter 1 s
  if s.works 0x0D00 && usesPtp m && isPtp m p then (rcOk, if ptpUsed p then s else s.count 0x0D00 1)
  else if ipVersion p = 4 then
    if isLocalV4 m p then deliverLocal m gen p s else (rcOk, countRouter 16 s)
  else if isLocalV6 m (ipv6Dst p) then deliverLocal m gen p s
  else if isMulticast (ipv6Dst p) then (rcOk, countRouter 7 s)
  else forwardPacket m gen p s

/-- A verified uplink payload of dispatch 0x40–0x7F with its source address (R17 stages 7 and 8). -/
def routeUplink (m : NMap Bytes) (gen : BitVec 32) (src : Addr) (payload : Bytes) (s : State) : State :=
  if !s.works routerFn then s
  else
    match decompress m src payload with
    | none => (endException m rcLowpanDecode gen payload s).2
    | some p => (routePacket m gen p (countRouter 4 s)).2

/-- Link-layer destination of a host packet that leaves without lookup (R322). -/
def hostMac (m : NMap Bytes) (cookie : BitVec 64) (p : Bytes) : Bytes :=
  if ipVersion p = 4 then ipv4NextHop m
  else if cookie != 0 then leBytes 6 cookie.toNat
  else if isMulticast (ipv6Dst p) then [0x33, 0x33] ++ slice p 36 4
  else List.replicate 6 0xFF

/-- A KIND 0 descriptor of ring `ring` (8–15): the outcome reason of its packet (R78, R320, R322). -/
def hostPacket (ring queue : Nat) (cookie : BitVec 64) (data : Bytes) (s : State) : Nat × State :=
  let m := s.coh.active
  if !s.works routerFn then (if s.inReset routerFn then rcDiscardedReset else rcFunctionDisabled, s)
  else
    match ipPacket data with
    | none => (rcFieldRange, s)
    | some p =>
      let s := countRouter 1 s
      let dst := ipv6Dst p
      if ipVersion p = 4 || isLinkLocal dst || isMulticast dst then
        sendOnPort m (Fin.ofNat 2 (hostTxPort m ring)) (queue % 16) .green (hostMac m cookie p)
          (if ipVersion p = 4 then 0x0800 else 0x86DD) s.coh.generation p p s
      else if isLocalV6 m dst then deliverLocal m s.coh.generation p s
      else forwardPacket m s.coh.generation p s

/-- The relay service takes its oldest packet, at most one in 200,000 fabric cycles (R327). -/
def serveRelay (s : State) : State :=
  match s.router.relay with
  | [] => s
  | x :: xs =>
    if (s.time.fabric - s.router.relayAt).toNat < 200000 then s
    else
      let s := s.onRouter fun r => { r with relay := xs, relayAt := s.time.fabric }
      let s := countRouter 18 s
      if yellowRefused s (if x.yellow then .yellow else .green) x.nb then countRouter 12 s
      else (admitPacket s.coh.active true x.nb x.queue x.generation x.packet x.packet s).2

/-! ### Ports (R317, R318) -/

/-- Mb/s of a SPEED code. -/
def speedMbps (c : Nat) : Nat := [0, 10, 100, 1000, 2500].getD c 0

/-- A hold by PAUSE that has ended is accounted, and one that `cut` ends now. -/
def settlePause (p : Fin 2) (cut : Bool) (s : State) : State :=
  let x := s.router.ports[p]
  match x.paused with
  | none => s
  | some (a, b) =>
    if !cut && decide (s.time.fabric.toNat < b.toNat) then s
    else
      (s.onRouter fun r => { r with ports := r.ports.set p { x with paused := none } }).countN (portFn p) 10
        ((min s.time.fabric.toNat b.toNat - a.toNat) / 400)

/-- A PAUSE frame of `quanta` × 512 bit times is honoured. -/
def takePause (p : Fin 2) (quanta : Nat) (s : State) : State :=
  let s := settlePause p true (countPort p 7 s)
  let x := s.router.ports[p]
  let cycles := if speedMbps x.speed = 0 then 0 else quanta * 512 * 400 / speedMbps x.speed
  if cycles = 0 then s
  else s.onRouter fun r =>
    { r with ports := r.ports.set p { x with paused := some (s.time.fabric, s.time.fabric + BitVec.ofNat 64 cycles) } }

/-- The port holds transmission for a PAUSE. -/
def portPaused (s : State) (p : Fin 2) : Bool :=
  match (s.router.ports[p]).paused with
  | some (_, b) => decide (s.time.fabric.toNat < b.toNat)
  | none => false

/-- An ARP packet: a request for OWN_IPV4 is answered through strict queue 0 of the port (R322). -/
def takeArp (p : Fin 2) (a : Bytes) (s : State) : State :=
  let m := s.coh.active
  if a.take 8 == [0, 1, 8, 0, 6, 4, 0, 1] && slice a 24 4 == ownIpv4 m then
    let reply := [0, 1, 8, 0, 6, 4, 0, 2] ++ portMac m p.val ++ ownIpv4 m ++ slice a 8 6 ++ slice a 14 4
    let (rc, s) := enqueue (portEgress p) 0 .green ⟨ethFrame m p (slice a 8 6) 0x0806 reply, rcOk, s.coh.generation⟩ s
    if rc = rcOk then countRouter 17 s else s
  else s

/-- The frame is addressed to the port (R317). -/
def addressedTo (m : NMap Bytes) (p : Fin 2) (dst : Bytes) : Bool :=
  dst == portMac m p.val || dst == List.replicate 6 0xFF || dst.take 2 == [0x33, 0x33]

/-- `ETH_FRAME_RECEIVED`: `frame` runs from the destination address to the end of the payload; `fcsOk` is the FCS
check's verdict (R317). -/
def execEthFrameReceived (p : Fin 2) (frame : Bytes) (fcsOk : Bool) (s : State) : Out :=
  let m := s.coh.active
  if s.asleep || !(s.works (portFn p) && (s.router.ports[p]).up) then .next s
  else
    let s := (countPort p 1 s).countN (portFn p) 2 (frame.length + 4)
    let tagged := frame.length ≥ 14 && beNat (slice frame 12 2) == 0x8100
    let o := if tagged then 16 else 12
    let ty := beNat (slice frame o 2)
    let data := frame.drop (o + 2)
    if !fcsOk then .next (countPort p 3 s)
    else if maxFrame m p.val < frame.length + (if tagged then 0 else 4) then .next (countPort p 4 s)
    else if tagged && (vlanId m p.val == 0 || beNat (slice frame 14 2) % 4096 != vlanId m p.val) then
      .next (countPort p 5 s)
    else if ty = 0x8808 && beNat (slice data 0 2) == 1 && pauseRx m p.val then
      .next (takePause p (beNat (slice data 2 2)) s)
    else if !addressedTo m p (frame.take 6) then .next (countPort p 6 s)
    else if ty = 0x0806 then .next (if s.works routerFn then takeArp p data s else s)
    else if ty = 0x86DD || ty = 0x0800 then
      match ipPacket data with
      | some q =>
        if ipVersion q = (if ty = 0x0800 then 4 else 6) then
          .next (if s.works routerFn then (routePacket m s.coh.generation q s).2 else s)
        else .next (countPort p 6 s)
      | none => .next (countPort p 6 s)
    else .next (countPort p 6 s)

/-- SPEED codes (R344) that the mode of a port admits: in SGMII without auto-negotiation the forced speed alone (R316, R342). -/
def portSpeeds (m : NMap Bytes) (p : Nat) : List Nat :=
  let f := u8 (portPart m p) 1
  match portMode m p with
  | 0 => if bit f 0 then [1, 2, 3] else [f / 4 % 4 + 1]
  | 1 => [3]
  | _ => [4]

/-- The link of port `p` is up at a SPEED code, or down (0); a change is counted and raises `EV_PORT_LINK` (R318). -/
def setLink (p : Fin 2) (speed : Nat) (s : State) : State :=
  let x := s.router.ports[p]
  if x.up = (speed != 0) && x.speed = speed then s
  else
    let s := s.onRouter fun r => { r with ports := r.ports.set p { x with up := speed != 0, speed := speed } }
    raiseEvent 144 (portFn p) (p.val + 2 * flag (speed != 0) + 256 * speed) (countPort p 11 s)

/-- `PORT_LINK_CHANGE`: the lane's link goes up at a speed, or down (R318).  A link does not come up at a speed that the port's
mode does not admit (R316). -/
def execPortLinkChange (p : Fin 2) (up : Bool) (speed : Fin 5) (s : State) : Out :=
  .next (setLink p (if up && (portSpeeds s.coh.active p.val).contains speed.val then speed.val else 0) s)

/-! ### Egress decisions (R331, R332, R335) -/

/-- Length L_e of a packet at egress `e` (R331). -/
def packetLength (m : NMap Bytes) (e : Fin 6) (x : Packet) : Nat :=
  if e = 5 then x.data.length else (max 1 ((x.data.length : Int) + 4 + overheadAdj m e.val)).toNat

/-- The ring of a host-ring queue takes its head packet now (R335). -/
def ringTakes (s : State) (q len : Nat) : Bool :=
  let r : Fin 16 := Fin.ofNat 16 (hostQueueRing s.coh.active q)
  ringEnabled s.coh.active r.val && !linkDown s && !(s.kci.ringWait.any fun i => i.ring == r.val)
    && fitsDescs s r.val (ringOwned s r) (ringPos (ringSize s.coh.active r.val) s.kci.ringDev[r]) len

/-- Packets of the host-ring egress that wait for ring `r`. -/
def hostHeld (s : State) (r : Nat) : Nat :=
  ((List.range 16).map fun q => if hostQueueRing s.coh.active q = r then
    ((s.router.egress[hostEgress]).queues[qIdx q]).packets.length else 0).foldl (· + ·) 0

/-- A starvation episode begins for the ring of queue `q` (R79). -/
def starveRing (q : Nat) (s : State) : State :=
  let r : Fin 16 := Fin.ofNat 16 (hostQueueRing s.coh.active q)
  if ringOwned s r == 0 && !mgetD s.kci.starved r.val false then
    raiseEvent 12 0 (r.val + hostHeld s r.val * 256) (s.onKci fun k => { k with starved := mset k.starved r.val true })
  else s

/-- Queues of an egress with a packet and the length of its head. -/
def egressHeads (s : State) (e : Fin 6) : List (Nat × Nat) :=
  (List.range 16).filterMap fun q =>
    match ((s.router.egress[e]).queues[qIdx q]).packets.head? with
    | none => none
    | some x => if e = 5 && !ringTakes s q x.data.length then none else some (q, packetLength s.coh.active e x)

/-- Fabric cycles that `l` bytes occupy at SHAPE_RATE. -/
def shapeCycles (m : NMap Bytes) (e l : Nat) : Nat := ceilDiv (3200000 * l) (max 1 (shapeRate m e))

/-- Take the head of queue `q`; a queue that empties has no deficit. -/
def popQueue (q : Nat) (g : Egress) : Egress :=
  g.onQueue q fun x => { x with packets := x.packets.drop 1, deficit := if x.packets.length ≤ 1 then 0 else x.deficit }

/-- A packet leaves egress `e`: on the line, or into the ring of its queue. -/
def sendPacket (e : Fin 6) (q : Nat) (x : Packet) (s : State) : State :=
  if e = 5 then toRing (hostQueueRing s.coh.active q) 0 x.reason x.generation x.data s
  else
    let p : Fin 2 := Fin.ofNat 2 e.val
    let s := s.onRouter fun r => { r with ports := r.ports.set p { r.ports[p] with sent := x.data } }
    (countPort p 8 s).countN (portFn p) 9 (x.data.length + 4)

/-- One decision of egress 0, 1 or 5. -/
def decideEgress (e : Fin 6) (s : State) : State :=
  let m := s.coh.active
  let g := s.router.egress[e]
  let l := egressHeads s e
  let s := if e = 5 then
      (indices 16 fun q => !(g.queues[qIdx q]).packets.isEmpty && !(l.any fun h => h.1 == q)).foldl
        (fun s q => starveRing q s) s
    else s
  if decide (s.time.fabric.toNat < g.nextAt.toNat) then s
  else
    match weirPick m e.val s.time.fabric l g with
    | none => s
    | some (q, g) =>
      match (g.queues[qIdx q]).packets.head? with
      | none => s
      | some x =>
        let g := { popQueue q g with
          nextAt := s.time.fabric + BitVec.ofNat 64 (shapeCycles m e.val (packetLength m e x)) }
        sendPacket e q x (pmuEvent pmuWeir 0x10 1 (packetLength m e x) (s.onEgress e fun _ => g))

/-- `EGRESS_DECISION`: a port, or the host ring for `none`, can take a frame (R332); the router is off in DOZE and HIBERNATE
(R22). -/
def execEgressDecision (port : Option (Fin 2)) (s : State) : Out :=
  if s.asleep || !s.works routerFn then .next s
  else
    match port with
    | none => .next (decideEgress hostEgress s)
    | some p =>
      .next (if s.works (portFn p) && (s.router.ports[p]).up && !portPaused s p then decideEgress (portEgress p) s else s)

/-- `QUEUE_DROPS_REPORT` (R334). -/
def execQueueDropsReport (s : State) : Out :=
  if s.router.drops = 0 then .next s
  else
    .next (raiseEvent 145 routerFn
      (s.router.dropEgress + s.router.dropQueue * 16 + min s.router.drops 0xFFFFFFFF * 2 ^ 32)
      (s.onRouter fun r => { r with drops := 0, dropEgress := 0, dropQueue := 0 }))

/-! ### Commands (R337 to R342) -/

/-- Checks of runs of one-byte fields. -/
def byteFields (off n hi : Nat) : List FieldSpec := (List.range n).map fun i => ⟨off + i, 1, .range 0 hi⟩

/-- `ROUTER_CONFIG`: stages the body (R338). -/
def execRouterConfig (buf : Bytes) (s : State) : Out :=
  .next (runKci 0x0801 buf (stageOne 0x0801 0 0
    ([⟨26, 1, .rangeOr 0 15 0xFF⟩, ⟨27, 1, .range 0 15⟩] ++ byteFields 28 8 1 ++ byteFields 36 16 7
      ++ [⟨54, 2, .zero⟩] ++ byteFields 184 64 2)) s)

/-- Checks of a forwarding entry (R319). -/
def routeFields (e : Bytes) : List FieldSpec :=
  [⟨16, 1, .range 0 128⟩, ⟨17, 1, .range 0 5⟩, ⟨18, 1, .range 0 (if routeKind e = 2 then 1 else 0)⟩, ⟨19, 1, .range 0 15⟩,
    ⟨20, 2, .rangeOr 0 4095 0xFFFF⟩, ⟨22, 2, .zero⟩]
    ++ (if routeKind e = 2 then [⟨30, 2, .range 0 0⟩]
      else if routeKind e = 5 then [⟨24, 4, .range 0 262143⟩, ⟨28, 4, .range 0 0⟩]
      else [⟨24, 8, .range 0 0⟩])

/-- The refusal of a forwarding entry, if any. -/
def checkRoute (e : Bytes) : Option Nat :=
  match checkFields e (routeFields e) with
  | some rc => some rc
  | none => if beNat (slice e 0 16) % 2 ^ (128 - routeLen e) = 0 then none else some rcFieldRange

/-- A table entry of zeros is as one that has not been written. -/
def entryOrNone (e : Bytes) : Bytes := if leNat e = 0 then [] else e

/-- `ROUTE_LOAD`: stages forwarding entries (R339). -/
def execRouteLoad (buf : Bytes) (s : State) : Out :=
  .next (runKci 0x0802 buf (fun s _ req body =>
    let first := u32 body 0
    let count := u16 body 4
    let es := chunks 32 count (body.drop 8)
    if u16 body 6 != 0 then no rcReservedNonzero
    else if count = 0 || (if req.indirect then 16384 else 126) < count || 65536 < first + count then no rcFieldRange
    else
      match es.findSome? checkRoute with
      | some rc => no rc
      | none =>
        if 65536 < s.writesOf 0x0802 + count then no rcTableFull
        else ok (stageRun req.fn 0x0802 0 first (es.map entryOrNone) (addWrites 0x0802 count s))) s)

/-- The egress belongs to the function. -/
def egressOf (fn e : Nat) : Bool := if fn = 0x0500 then 2 ≤ e && e ≤ 4 else e ≤ 1 || e == 5

/-- Checks of `WEIR_EGRESS_LOAD` for egress `e` (R340). -/
def weirFields (e : Nat) : List FieldSpec :=
  let radio := isRadioEgress e
  [⟨1, 3, .zero⟩, if radio then ⟨4, 4, .range 0 0⟩ else ⟨4, 4, .range 64 2500000⟩,
    if e ≤ 1 then ⟨8, 2, .srange (-32) 255⟩ else ⟨8, 2, .range 0 0⟩, ⟨10, 2, .zero⟩]
    ++ (List.range 16).flatMap fun q =>
      let o := 12 + 16 * q
      [if q < 4 then ⟨o, 1, .range 0 0⟩ else ⟨o, 1, .range 1 255⟩, ⟨o + 1, 1, .range 0 (if radio then 0 else 100)⟩,
        if radio then ⟨o + 2, 2, .range 0 0⟩ else ⟨o + 2, 2, .range 1 65535⟩,
        ⟨o + 4, 4, .range 0 (if q < 4 then 0 else 0xFFFFFFFF)⟩, ⟨o + 12, 4, .rangeOr 2048 16777215 0⟩]

/-- `WEIR_EGRESS_LOAD`: stages one egress. -/
def execWeirEgressLoad (buf : Bytes) (s : State) : Out :=
  .next (runKci 0x0803 buf (fun s m req body =>
    let e := u8 body 0
    if 5 < e then no rcFieldRange
    else if !egressOf req.fn e then no rcOpcodeFunction
    else stageOne 0x0803 e 0 (weirFields e) s m req body) s)

/-- Checks of a policer (R341).  An entry of zeros, which is what a policer that was never loaded holds, is taken as it is
(DESIGN CHOICE, log entry 164). -/
def policerFields (e : Bytes) : List FieldSpec :=
  [⟨0, 1, .range 0 2⟩, ⟨1, 1, .flags 1⟩, ⟨2, 2, .zero⟩]
    ++ (if leNat e = 0 then []
      else [⟨4, 4, .range 8 2500000⟩,
        if u8 e 0 = 2 then ⟨8, 4, .range (u32 e 4) 2500000⟩ else ⟨8, 4, .range 0 0⟩, ⟨12, 4, .range 2048 16777215⟩])
    ++ (if u8 e 0 = 1 then [⟨16, 4, .rangeOr 2048 16777215 0⟩]
      else if u8 e 0 = 2 then [⟨16, 4, .range 2048 16777215⟩] else [])
    ++ [⟨20, 4, .zero⟩]

/-- `POLICER_LOAD`: stages policers. -/
def execPolicerLoad (buf : Bytes) (s : State) : Out :=
  .next (runKci 0x0804 buf (fun s _ req body =>
    let first := u16 body 0
    let count := u16 body 2
    let es := chunks 24 count (body.drop 8)
    if u32 body 4 != 0 then no rcReservedNonzero
    else if count = 0 || (if req.indirect then 4096 else 169) < count || 4096 < first + count then no rcFieldRange
    else
      match es.findSome? fun e => checkFields e (policerFields e) with
      | some rc => no rc
      | none => ok (stageRun req.fn 0x0804 0 first (es.map entryOrNone) s)) s)

/-- `POLICER_READ`: the counts of a run of policers as one snapshot. -/
def execPolicerRead (buf : Bytes) (s : State) : Out :=
  .next (runKci 0x0805 buf (fun s _ _ body =>
    let first := u16 body 0
    let count := u16 body 2
    if u32 body 4 != 0 then no rcReservedNonzero
    else if count = 0 || 169 < count || 4096 < first + count then no rcFieldRange
    else .done s rcOk 0 [] ((List.range count).flatMap fun i =>
      let x := mgetD s.router.policers (first + i) PolicerState.reset
      leBytes 8 x.green ++ leBytes 8 x.yellow ++ leBytes 8 x.red)) s)

/-- `PORT_CONFIG`: stages one port (R342). -/
def execPortConfig (buf : Bytes) (s : State) : Out :=
  .next (runKci 0x0806 buf (fun s m req body =>
    if u8 body 1 / 4 % 4 = 3 then no rcFieldRange
    else stageOne 0x0806 0 0
      [⟨0, 1, .range 0 2⟩, ⟨1, 1, .flags 4⟩, ⟨2, 2, .range 1518 9018⟩, ⟨10, 2, .range 0 4094⟩, ⟨12, 1, .range 0 7⟩,
        ⟨13, 3, .zero⟩] s m req body) s)

/-! ### Commit, reset, rules and status (R330, R336, R343, R344) -/

/-- Refill the policers that `which` selects. -/
def refillPolicers (which : Nat → Bool) (s : State) : State :=
  let m := s.coh.active
  let l := ((partsOf m routerFn).filter fun e => cfgKeyOp e.1 == 0x0804).map fun e => cfgKeyIdx e.1
  (l.filter which).foldl (fun s i =>
    let x := fullPolicer m i s.time.fabric (mgetD s.router.policers i PolicerState.reset)
    s.onRouter fun r => { r with policers := mset r.policers i x }) s

/-- The router takes up a commit: changed policers are refilled (R330). -/
def applyRouter (old : NMap Bytes) (s : State) : State :=
  refillPolicers (fun i => policerPart old i != policerPart s.coh.active i) (settleEgress old [0, 1, 5] s)

/-- Both directions of a port retrain: the link goes down (R318) until it comes up again. -/
def retrainPort (p : Fin 2) (s : State) : State := setLink p 0 (settlePause p true s)

/-- A port takes up a commit: a link at a speed that the new mode does not admit retrains (R316; DEDUCED, log entry 166). -/
def applyPort (p : Fin 2) (s : State) : State :=
  if (s.router.ports[p]).up && !(portSpeeds s.coh.active p.val).contains (s.router.ports[p]).speed then retrainPort p s else s

/-- The packets in the Ethernet and host-ring queues and in the relay service. -/
def routerPackets (r : Router) : List Packet :=
  ([0, 1, 5] : List (Fin 6)).flatMap (fun e => (r.egress[e]).queues.toList.flatMap (·.packets))
    ++ r.relay.map fun x => ⟨x.packet, 0, x.generation⟩

/-- Reset of the router: every packet in it ends with RC_DISCARDED_RESET (R336). -/
def resetRouter (s : State) : State :=
  let s := s.onRouter fun r =>
    { r with ended := r.ended ++ (routerPackets r).map fun x => { x with reason := rcDiscardedReset }
             egress := ((r.egress.set 0 Egress.reset).set 1 Egress.reset).set 5 Egress.reset, relay := [] }
  retrainPort 1 (retrainPort 0 (refillPolicers (fun _ => true) s))

/-- Some pair of enabled rings overlaps, or a ring leaves the descriptor area (R77). -/
def ringsBad (m : NMap Bytes) : Bool :=
  let l := (List.range 16).filter (ringEnabled m)
  let top (r : Nat) := ringOffset m r + 32 * ringSize m r
  l.any fun r => decide (0x100000 < top r)
    || l.any fun t => decide (r < t) && overlaps (ringOffset m r) (top r) (ringOffset m t) (top t)

/-- Rule 3 of R343 for one entry. -/
def routeTargetOk (m : NMap Bytes) (e : Bytes) : Bool :=
  (u16 e 20 == 0xFFFF || policerType m (u16 e 20) != 0)
    && (routeKind e != 2 || enabledIn m (0x0810 + u8 e 18))
    && (routeKind e != 4 || ringEnabled m (hostQueueRing m (u8 e 19)))

/-- The rules of R343 for 0x0800. -/
def routerRules (m : NMap Bytes) : Option (Nat × Nat) :=
  let es := routes m
  let limits := [0, 1, 5].flatMap fun e => (List.range 16).map (queueLimitKb m e)
  if ringsBad m then some (1, rcRingOverlap)
  else if !distinct (es.map fun e => beNat (slice e 0 16) * 256 + routeLen e) then some (2, rcRouteDup)
  else if !(es.all (routeTargetOk m) && (excQueue m == 0xFF || ringEnabled m (hostQueueRing m (excQueue m)))
      && ringEnabled m (hostQueueRing m (localQueue m))) then some (3, rcRouteTarget)
  else if 65536 < limits.foldl (· + ·) 0 then some (4, rcQueueMemory)
  else none

/-- The rule of a port (R343). -/
def portRules (m : NMap Bytes) (p : Nat) : Option (Nat × Nat) :=
  let top := if portMode m p = 2 then 2500000 else 1000000
  if (portMode m p = 2 && bit (u8 (portPart m p) 1) 0) || decide (top < shapeRate m p) then some (1, rcPortMode) else none

/-- Status of 0x0800 (R344). -/
def routerStatus (s : State) : Bytes :=
  let m := s.coh.active
  let held := [0, 1, 5].flatMap fun e => ((s.router.egress[Fin.ofNat 6 e]).queues.toList.map queueBytes)
  leBytes 4 (routes m).length
    ++ leBytes 2 ((partsOf m routerFn).countP fun e => cfgKeyOp e.1 == 0x0804 && u8 e.2 0 != 0)
    ++ leBytes 2 s.router.relay.length ++ leBytes 4 (ceilDiv (held.foldl (· + ·) 0) 1024) ++ zeros 4

/-- Status of a port (R344). -/
def portStatus (s : State) (p : Fin 2) : Bytes :=
  let x := s.router.ports[p]
  let held := ((s.router.egress[portEgress p]).queues.toList.map queueBytes).foldl (· + ·) 0
  leBytes 1 (flag x.up) ++ leBytes 1 x.speed ++ leBytes 1 (flag (portPaused s p)) ++ zeros 1
    ++ leBytes 4 (ceilDiv held 1024)

end Sys2Proof.Machine
end

