-- ==== Sys2Proof/Machine/Sluice.lean ====
section
/-!
DEFINITION. The launch chain, queue and gate events, the observation receiver, and the commands of the transmit path
(chapter 07, R135 to R158).
-/

namespace Sys2Proof.Machine

/-! ### Selection -/

/-- `LAUNCH_SELECTION`: a cell or a LAUNCH entry of a gate list selects its frame for slot `asn` (R252, R255, R263). -/
def execLaunchSelection (what : LaunchWhat) (asn : Nat) (s : State) : Out :=
  if s.time.asn.isNone || !s.enabled sluiceFn then .next s
  else
    match what with
    | .cell sf idx => .next (if s.enabled linkFn then selectCell sf idx asn s else s)
    | .gate l idx => .next (if l < 3 then selectGate (Fin.ofNat 3 l) idx asn s else s)

/-! ### The launch chain (R154, R155, R255) -/

/-- Launches of radio `r` from TR_SW on that have not ended. -/
def turnedAround (s : State) (r : Fin 3) : Bool :=
  s.sluice.launches.any fun x => x.radio == r && (x.step == .trOn || x.step == .paOn || launchLive x)

/-- `LO_CLASSIFY`: the LO entry is classified and the class holds for the launch (R154); the transmit corrections of its
channel are taken from the store with it (R134). -/
def execLoClassify (l : Nat) (s : State) : Out :=
  match findLaunch s l with
  | none => .next s
  | some x =>
    if x.step = .selected || x.step = .booked then
      let m := s.setOf x.generation
      let lo := chanLo m x.channel
      let need := !((s.radio x.radio).synth == .locked && (s.radio x.radio).lo == lo)
      let c := if need then loClass s x.radio lo else .valid
      .next ((lookupChan m x.radio x.channel s).onLaunch l fun y =>
        { y with calClass := c, needRetune := need, corr := chanCorr s x.radio lo (chanCentre m x.channel)
                 step := if y.step = .selected then .classified else y.step })
    else .next s

/-- The retune of launch `l` starts; not on a radio in reset, whose synthesiser is stopped (R618). -/
def retuneLaunch (l : Nat) (s : State) : State :=
  match findLaunch s l with
  | none => s
  | some x =>
    if (x.step = .booked || x.step = .selected || x.step = .classified) && !(s.fnState (radioFn x.radio)).inReset then
      let lo := chanLo (s.setOf x.generation) x.channel
      let c := if x.needRetune then x.calClass else loClass s x.radio lo
      let there := (s.radio x.radio).synth == .locked && (s.radio x.radio).lo == lo
      retuneAs x.radio lo c (s.onLaunch l fun y =>
        { y with needRetune := false, calClass := if there then y.calClass else c
                 step := if y.step = .booked then .booked else .retuned })
    else s

/-- `RETUNE_START`: of a launch at −66 µs, or −276 µs for an absent entry (R154), or of a radio that is powered up (R402);
background calibration is pre-empted (R156). -/
def execRetuneStart (l : RetuneFor) (s : State) : Out :=
  .next (match l with
    | .launch l => retuneLaunch l s
    | .need r => retunePowered r s)

/-- `TR_SW_ASSERT`: the radio turns around; its windows are blanked (R136).  A launch that the device can no longer
make is refused. -/
def execTrSwAssert (l : Nat) (s : State) : Out :=
  match findLaunch s l with
  | none => .next s
  | some x =>
    if x.step = .selected || x.step = .classified || x.step = .retuned then
      match txBlocked s x.radio x.window x.t0 with
      | some rc => .next (endLaunch x rc false s)
      | none =>
        let s := s.onRadio x.radio fun y => { y with trSw := true, txActive := true, blanked := true }
        .next (closeRx x.radio (dropReception x.radio (s.onLaunch l fun y => { y with step := .trOn })))
    else .next s

/-- Why a launch that has turned its radio around is not made, if it is not.  A change of the radio waits for a frame of an
earlier generation (R147). -/
def turnBlocked (s : State) (x : Launch) : Option Nat :=
  (txBlocked s x.radio x.window x.t0).filter fun rc => rc != rcRadioSettling || x.generation == s.coh.generation

/-- `PA_EN_ASSERT`; a launch that the device can no longer make ends here (R142, R269). -/
def execPaEnAssert (l : Nat) (s : State) : Out :=
  match findLaunch s l with
  | none => .next s
  | some x =>
    if x.step = .trOn then
      match turnBlocked s x with
      | some rc => .next (endLaunch x rc false s)
      | none => .next ((s.onRadio x.radio fun y => { y with paEn := true }).onLaunch l fun y => { y with step := .paOn })
    else .next s

/-- `RAMP_UP_START`: with lock, ramp-up starts, late by `lateUs` within the tolerance; without lock it is held; beyond
the tolerance the launch is missed (R155, R158).  A launch that the device can no longer make ends here (R142, R269). -/
def execRampUpStart (l lateUs : Nat) (s : State) : Out :=
  match findLaunch s l with
  | none => .next s
  | some x =>
    if x.step != .paOn then .next s
    else
      let locked := (s.radio x.radio).synth == .locked && (s.radio x.radio).lo == chanLo (s.setOf x.generation) x.channel
      let rest (s : State) : State := if turnedAround s x.radio then s else restBalls x.radio s
      match turnBlocked s x with
      | some rc => .next (rest (endLaunch x rc false s))
      | none =>
      if x.kind != .test && decide (x.lateTol < lateUs) then
        .next (rest (endLaunch x rcLaunchMissedSynth true (countRadio x.radio 8 s)))
      else if locked then
        .next (s.onLaunch l fun y =>
          { y with step := .ramping, rampAt := s.netNs, lateUs := if y.kind = .test then 0 else lateUs })
      else .next s

/-- Counters of a launch that reaches the air. -/
def countLaunched (x : Launch) (s : State) : State :=
  let s := if x.lateUs = 0 then s else countTx 14 s
  let s := if x.calClass = .stale then countRadio x.radio 4 s else s
  match x.kind with
  | .ack => (countTx 7 s).count linkFn 11
  | .beacon => (countTx 10 s).count linkFn 14
  | .groupAck => s.count linkFn 13
  | .gate => countTx 11 s
  | .test => s
  | _ =>
    let repeats := match x.frame.bind (findFrame s) with
      | some y => decide (flag y.requeued < y.launches)
      | none => false
    let s := countTx 3 s
    if repeats then countTx 4 s else s

/-- `LAUNCH_START`: the first preamble bit; the reserved charge is committed (R265). -/
def execLaunchStart (l : Nat) (s : State) : Out :=
  match findLaunch s l with
  | none => .next s
  | some x =>
    if x.step = .ramping then
      let bands := launchBands s x
      let s := chargeBands x.charge bands (refundLaunch x s)
      let s := addSecond x.radio x.charge s
      let at_ := bands.map fun i => (i, s.sluice.accounts[i].period)
      .next (countLaunched x (s.onLaunch l fun y => { y with step := .onAir, committed := at_ }))
    else .next s

/-- `RAMP_DOWN_START`: the last channel bit; an acknowledgement is awaited from here on (R254). -/
def execRampDownStart (l : Nat) (s : State) : Out :=
  match findLaunch s l with
  | none => .next s
  | some x =>
    if x.step = .onAir && x.kind != .test then
      let s := s.onLaunch l fun y => { y with step := .rampDown }
      match x.frame with
      | none => .next s
      | some f =>
        .next (s.onFrame f fun y =>
          { y with endNs := x.t0 + (x.lateUs + x.airUs) * 1000, awaiting := if y.ackMode then some x.channel else none })
    else .next s

/-- `PA_EN_DEASSERT`: after the ramp-down, unless another frame of the radio is still on air. -/
def execPaEnDeassert (r : Fin 3) (s : State) : Out :=
  let more := s.sluice.launches.any fun x => x.radio == r && (x.step == .paOn || x.step == .ramping || x.step == .onAir)
  .next (if more then s else s.onRadio r fun x => { x with paEn := false })

/-- A launch has gone out: its record, and what follows for the frame that it carried. -/
def finishLaunch (x : Launch) (s : State) : State :=
  let s := (dropLaunch x.id s).countN sluiceFn 21 x.charge
  let s := s.onThermal fun t => { t with span := { t.span with airUs := t.span.airUs + x.charge } }
  let reason := if x.calClass = .stale then rcCalStaleUsed else rcOk
  match x.frame.bind (findFrame s) with
  | none => writeLaunchRecord x reason false x.charge s
  | some y =>
    let y := { y with inFlight := false, launches := y.launches + 1, lastAsn := some x.asn, lastPath := launchPath x
                      lastChannel := x.channel, lastPower := x.power, charged := y.charged + x.charge
                      lastLate := x.lateUs }
    let s := s.onFrame y.id fun _ => y
    if y.ackMode then s else removeFrame y reason false y.pendingBit s

/-- `TR_SW_DEASSERT`: frames that have ended get their records; the switch returns when none is left (R255, R272). -/
def execTrSwDeassert (r : Fin 3) (s : State) : Out :=
  let s := (s.sluice.launches.filter fun x => x.radio == r && x.step == .rampDown).foldl (fun s x => finishLaunch x s) s
  .next (if turnedAround s r then s else s.onRadio r fun x => { x with trSw := false, txActive := false })

/-! ### Observation receiver (R138, R139) -/

/-- Expected level of a frame at the observation ball, 0.25 dB (R138). -/
def expectedQ (m : NMap Bytes) (r : Nat) (power : Int) : Int := power + i16 (radioPart m r) 26 - (u16 (radioPart m r) 28 : Int)
def obsTolQ (m : NMap Bytes) (r : Nat) : Nat := u8 (radioPart m r) 30
def obsAclr (m : NMap Bytes) (r : Nat) : Nat := u8 (radioPart m r) 31
def obsFreqTol (m : NMap Bytes) (r : Nat) : Nat := u8 (radioPart m r) 32

/-- The frames of radio `r` on air. -/
def framesOnAir (s : State) (r : Fin 3) : List Launch :=
  s.sluice.launches.filter fun x => x.radio == r && x.step == .onAir

/-- A failed check: every frame on air is cut, the sources and `EV_OBS_REJECT` are raised (R139). -/
def obsReject (r : Fin 3) (check ch : Nat) (excess : Int) (s : State) : State :=
  let s := s.countN sluiceFn 20 (onAirCount s r)
  let s := cutRadio r rcObsReject .remove (countRadio r 14 s)
  let recent := ((s.radio r).strikes.filter fun t => (s.time.fabric - t).toNat < 24000000000).take 2
  let s := s.onRadio r fun x => { x with strikes := s.time.fabric :: recent }
  let p := check + ch % 256 * 2 ^ 8 + unsigned 32 excess * 2 ^ 32
  let s := raiseRadio r 0 p (raiseEvent 35 (radioFn r) p s)
  if 2 ≤ recent.length then raiseRadio r 1 p s else s

/-- `OBS_POWER_VERDICT`: the composite is compared with the sum of the expected powers. -/
def execObsPowerVerdict (r : Fin 3) (measured : Int) (s : State) : Out :=
  match framesOnAir s r with
  | [] => .next s
  | x :: xs =>
    let m := s.setOf x.generation
    let es := (x :: xs).map fun y => expectedQ m r.val y.power
    let sum := (es.map powerOf).foldl (· + ·) 0
    let e := if xs.isEmpty then expectedQ m r.val x.power
      else compositeQ sum 60 (es.foldl max (expectedQ m r.val x.power))
    let tol : Int := obsTolQ m r.val
    let s := countRadio r 13 s
    if powerOf measured > (if xs.isEmpty then powerOf (e + tol) else sum * powerOf tol / powerOf 0) then
      .next (obsReject r 1 x.channel ((measured - e) * 25) s)
    else if powerOf (measured + tol) < sum then .next (countRadio r 15 s)
    else .next s

/-- `OBS_FREQUENCY_VERDICT`: carrier errors of the frames, then the power outside their masks. -/
def execObsFrequencyVerdict (r : Fin 3) (errors : List (Nat × Int)) (outside : Int) (s : State) : Out :=
  match framesOnAir s r with
  | [] => .next s
  | x :: xs =>
    let m := s.setOf x.generation
    let tol := obsFreqTol m r.val * 100
    let s := countRadio r 13 s
    match errors.find? fun e => ((x :: xs).any fun y => y.id == e.1) && decide (tol < e.2.natAbs) with
    | some e =>
      let ch := (((x :: xs).find? fun y => y.id == e.1).map (·.channel)).getD x.channel
      .next (obsReject r 2 ch (if e.2 < 0 then e.2 + tol else e.2 - tol) s)
    | none =>
      let lim : Int := -(obsAclr m r.val * 100 : Int)
      .next (if lim < outside then obsReject r 3 x.channel (outside - lim) s else s)

/-! ### Queue events (R254) -/

/-- `ACK_STAGE5_DEADLINE` (R258). -/
def execAckStage5Deadline (l : Nat) (s : State) : Out :=
  match findLaunch s l with
  | none => .next s
  | some x => .next (if x.step = .booked then ackDeadline x s else s)

/-- `DL_ACK_WINDOW_EXPIRY`: no acknowledgement; the frame is sent again, or removed after DL_ATTEMPTS launches. -/
def execDlAckWindowExpiry (f : Nat) (s : State) : Out :=
  match findFrame s f with
  | none => .next s
  | some y =>
    if y.awaiting.isNone then .next s
    else
      let y := { y with awaiting := none }
      let s := s.onFrame f fun _ => y
      if y.expired then .next (expireFrame y s)
      else if dlAttempts (s.setOf y.generation) ≤ y.launches then .next (removeFrame y rcNoAck false y.pendingBit (countTx 5 s))
      else .next s

/-- `DL_LIFETIME_EXPIRY`: DL_LIFETIME_MS after admission; a frame in flight ends with its launch. -/
def execDlLifetimeExpiry (f : Nat) (s : State) : Out :=
  match findFrame s f with
  | none => .next s
  | some y =>
    if (s.time.fabric - y.admitted).toNat < dlLifetimeMs s.coh.active * 400000 then .next s
    else if y.inFlight || y.awaiting.isSome then .next (s.onFrame f fun z => { z with expired := true })
    else .next (expireFrame y s)

/-- An acknowledgement from the neighbour of a frame: ACKED_COUNTER and MIC_ECHO match (R254). -/
def takeDlAck (ch startNs : Nat) (counter echo : BitVec 32) (s : State) : State :=
  -- each frame by the set of its generation (R36)
  match s.sluice.queued.find? fun f =>
      let m := s.setOf f.generation
      f.awaiting == some ch && f.counter == counter && f.micEcho == echo
        && decide (f.endNs + turnaround m * 1000 ≤ startNs + ackGuard m * 1000)
        && decide (startNs ≤ f.endNs + (turnaround m + ackGuard m) * 1000) with
  | none => s
  | some f => removeFrame f rcOk false f.pendingBit s

/-! ### Gate and bucket events -/

/-- `GATE_ENTRY`: a GATE entry sets which queues of the radio are open (R260). -/
def execGateEntry (r : Fin 3) (idx : Nat) (s : State) : Out :=
  match s.time.asn with
  | none => .next s
  | some a =>
    if s.time.idling then .next s
    else
    match gateInForce s r a with
    | none => .next s
    | some (h, es) =>
      match es[idx]? with
      | none => .next s
      | some e =>
        if u8 e 8 = 0 && gateSlot h a == u32 e 0 then
          .next (s.onSluice fun x =>
            { x with gates := x.gates.set r { x.gates[r] with openMask := BitVec.ofNat 16 (u16 e 10) } })
        else .next s

/-- Advance the buckets of a sub-band by `n` periods, the current one having begun at Spring count `at_`. -/
def advanceBuckets (i : Fin 16) (n : Nat) (at_ : BitVec 48) (s : State) : State :=
  nearCheck i (s.onAccount i fun a => { a with
    buckets := (List.replicate (min n 65) 0 ++ a.buckets).take 65, period := a.period + n, movedAt := at_ })

/-- `DUTY_BUCKET_ADVANCE`: a new bucket begins; the oldest of the 64 before it expires (R264).  A device that sleeps advances its
buckets when it wakes (R266). -/
def execDutyBucketAdvance (band : Fin 16) (s : State) : Out :=
  .next (if s.asleep then s else if bandExists s.coh.active band.val || bandExists s.sluice.keptBands band.val then advanceBuckets band 1 s.time.spring s else s)

/-! ### Commands (R273 to R277) -/

/-- Checks of a radio block of `SLUICE_CONFIG` at offset `o`. -/
def sluiceRadioFields (o : Nat) : List FieldSpec :=
  [⟨o, 1, .range 1 8⟩, ⟨o + 1, 1, .range 6 12⟩, ⟨o + 2, 2, .srange (-80) 40⟩, ⟨o + 4, 2, .range 0 200⟩,
    ⟨o + 6, 2, .range 0 200⟩]

/-- `SLUICE_CONFIG`: stages the body (R274). -/
def execSluiceConfig (buf : Bytes) (s : State) : Out :=
  .next (runKci 0x0501 buf (stageOne 0x0501 0 0
    ([⟨0, 1, .range 0 7⟩, ⟨1, 1, .flags 1⟩, ⟨2, 1, .range 1 255⟩, ⟨3, 1, .range 1 64⟩, ⟨4, 4, .range 100 3600000⟩,
      ⟨8, 1, .range 1 8⟩, ⟨9, 3, .zero⟩] ++ sluiceRadioFields 12 ++ sluiceRadioFields 20 ++ sluiceRadioFields 28)) s)

/-- Checks of a gate entry: fields that its ACTION does not use are zero (R275). -/
def gateFields (e : Bytes) : List FieldSpec :=
  [⟨8, 1, .range 0 1⟩, ⟨9, 1, .range 0 (if u8 e 8 = 1 then 15 else 0)⟩]
    ++ (if u8 e 8 = 1 then [⟨10, 2, .range 0 0⟩, ⟨14, 2, .range 0 200⟩]
      else [⟨12, 1, .range 0 0⟩, ⟨13, 1, .range 0 0⟩, ⟨14, 2, .range 0 0⟩])

/-- `GATE_LIST_LOAD`: stages one list, which replaces the staged one. -/
def execGateListLoad (buf : Bytes) (s : State) : Out :=
  .next (runKci 0x0502 buf (fun s _ req body =>
    let l := u8 body 0
    let count := u16 body 2
    let es := chunks 16 count (body.drop 16)
    match checkFields body [⟨0, 1, .range 0 2⟩, ⟨1, 1, .range 0 1⟩, ⟨2, 2, .range 0 (if req.indirect then 256 else 253)⟩,
        ⟨10, 2, .zero⟩, ⟨12, 4, .range 0 65536⟩] with
    | some rc => no rc
    | none =>
      match es.findSome? fun e => checkFields e (gateFields e) with
      | some rc => no rc
      | none =>
        let s := (stageRun req.fn 0x0502 (16 + l) 0 es s).stage req.fn 0x0502 l 0 (body.take 16)
        ok (s.onCoh fun c => { c with staged := dropFrom c.staged 0x0500 0x0502 (16 + l) count })) s)

/-- `DUTY_BAND_LOAD`: the entries replace all sub-bands (R276). -/
def execDutyBandLoad (buf : Bytes) (s : State) : Out :=
  .next (runKci 0x0503 buf (fun s _ req body =>
    let count := u8 body 0
    let es := chunks 16 count (body.drop 4)
    match checkFields body [⟨0, 1, .range 0 16⟩, ⟨1, 3, .zero⟩] with
    | some rc => no rc
    | none =>
      match es.findSome? fun e => checkFields e [⟨8, 4, .range 1 1000000⟩, ⟨12, 2, .range 1 3600⟩, ⟨14, 1, .range 0 500⟩,
          ⟨15, 1, .range 0 100⟩] with
      | some rc => no rc
      | none =>
        let s := stageRun req.fn 0x0503 0 0 es s
        ok (s.onCoh fun c => { c with staged := dropFrom c.staged 0x0500 0x0503 0 count })) s)

/-- Radio `r` has a cell in an enabled slotframe, or an enabled gate list. -/
def radioScheduled (m : NMap Bytes) (r : Fin 3) : Bool :=
  gateEnabled m r.val || (enabledCells m).any fun c =>
    (cellChannels m c.1 c.2.2).any fun ch => chanUsable m ch && chanRadioFin m ch == r

/-- `TX_TEST`: long; a test transmission starts, or is refused as any transmit request (R158, R277).  Its KIND is kept; the
PN9 frames that it sends back to back have no length or content in the spec (log entry 132). -/
def execTxTest (buf : Bytes) (s : State) : Out :=
  .next (runKci 0x0504 buf (fun s m req body =>
    let set := s.coh.active
    let r : Fin 3 := Fin.ofNat 3 (u8 body 0)
    let ch := u8 body 1
    match checkFields body [⟨0, 1, .range 0 2⟩, ⟨3, 1, .range 0 1⟩, ⟨4, 4, .range 1 1000000⟩] with
    | some rc => no rc
    | none =>
      if !s.enabled sluiceFn then no rcFunctionDisabled
      else if !chanUsable set ch || chanRadioFin set ch != r then no rcFieldRange
      else if radioScheduled set r then no rcTxRadioScheduled
      else
        let x := { newLaunchOf s set .test ch s.netNs 0 (u32 body 4) 0 (signed 8 (u8 body 2)) with
          long := s.kci.longNext, pn9 := u8 body 3 == 1 }
        match launchRefused s x false with
        | some rc => .done (countRefusal r rc s) rc 0 [] []
        | none => acceptLong (lookupChan set r ch (grantLaunch x s)) m req body) s)

/-- `TX_TEST_END`: the test transmission has lasted DURATION_US. -/
def execTxTestEnd (r : Fin 3) (s : State) : Out :=
  match s.sluice.launches.find? fun x => x.radio == r && x.kind == .test && x.step == .onAir with
  | none => .next s
  | some x => .next (longDone x.long rcOk (s.onLaunch x.id fun y => { y with step := .rampDown }))

/-! ### Commit and reset (R261, R262, R266, R271) -/

/-- The first slot of a cycle of list `r` that starts at or after now + SETUP_SLOTS × L, and the cycles skipped. -/
def gateActivation (s : State) (r : Fin 3) : Nat × Nat :=
  let m := s.coh.active
  let l := slotTicks m
  let t := s.netNs + setupSlots m * l * 1000000000 / 32768
  let first := ceilDiv (t * 32768) (l * 1000000000)
  let n := if first ≤ gateBase m r.val then 0 else ceilDiv (first - gateBase m r.val) (max 1 (gateCycle m r.val))
  (gateBase m r.val + n * gateCycle m r.val, n)

/-- Activate list `r`: `EV_GATE_LIST_ACTIVE` with the slot and the cycles skipped.  Without an ASN it waits. -/
def activateGate (r : Fin 3) (s : State) : State :=
  if s.time.asn.isNone || !gateEnabled s.coh.active r.val then s
  else
    let (a, n) := gateActivation s r
    let s := s.onSluice fun x => { x with gates := x.gates.set r { x.gates[r] with activation := some a } }
    raiseEvent 97 sluiceFn (a % 2 ^ 48 + r.val * 2 ^ 48 + min n 255 * 2 ^ 56) s

/-- The parts of list `r`. -/
def gateList (m : NMap Bytes) (r : Nat) : List Bytes := gatePart m r :: (List.range (gateCount m r)).map (gateEntry m r)

/-- List `r` takes up a commit: unchanged, ended, or activated while the old one stays in force (R261, R262). -/
def applyGate (old : NMap Bytes) (s : State) (r : Fin 3) : State :=
  let m := s.coh.active
  let g := s.sluice.gates[r]
  let on := gateEnabled m r.val && enabledIn m sluiceFn
  let was := gateEnabled old r.val && enabledIn old sluiceFn
  if !on then s.onSluice fun x => { x with gates := x.gates.set r GateRun.reset }
  else if was && gateList old r.val == gateList m r.val then s
  else
    let running := match g.activation, s.time.asn with
      | some a, some n => decide (a ≤ n)
      | _, _ => false
    let keep := if running then some (gateList old r.val) else g.old
    let keepAt := if running then g.activation.getD 0 else g.oldAt
    activateGate r (s.onSluice fun x =>
      { x with gates := x.gates.set r { x.gates[r] with activation := none, old := keep, oldAt := keepAt } })

/-- A gate list waits for its activation while another one is in force. -/
def gateWaits (s : State) : Bool := s.sluice.gates.toList.any fun g => g.old.isSome

/-- Buckets of sub-band `i` after a commit from the set `old` (R266). -/
def carryBuckets (old m : NMap Bytes) (acc : Vector Account 16) (preload : Bool) (now : BitVec 48) (i : Fin 16) : Account :=
  let a := acc[i]
  if !bandExists m i.val then { Account.reset with period := a.period }
  else
    let a :=
      if bandExists old i.val && bandLow old i.val == bandLow m i.val && bandHigh old i.val == bandHigh m i.val
          && bandWindow old i.val == bandWindow m i.val then a
      else
        let used := ((List.finRange 16).filter fun j => bandExists old j.val
          && overlaps (bandLow old j.val) (bandHigh old j.val) (bandLow m i.val) (bandHigh m i.val)).map fun j =>
            usedUs acc[j]
        { Account.reset with buckets := used.foldl (· + ·) 0 :: List.replicate 64 0, period := a.period, movedAt := now }
    if preload then
      let c := ceilDiv (bandBudget m i.val * u8 (bandPart m i.val) 15) 100
      { a with buckets := match a.buckets with
          | [] => [c]
          | b :: bs => (b + c) :: bs }
    else a

/-- Charges that are reserved now stay reserved, in the sub-bands that their channels overlap (R266). -/
def rebookReserved (s : State) : State :=
  let s := s.onSluice fun x => { x with accounts := x.accounts.map fun a => { a with reserved := 0 } }
  (s.sluice.launches.filter (·.reserved)).foldl (fun s x => reserveBands x.charge (launchBands s x) s) s

/-- The transmit path takes up a commit; the counts that a warm start has kept pass to the first sub-bands committed
(R472). -/
def applySluice (old : NMap Bytes) (s : State) : State :=
  let m := s.coh.active
  let s := settleEgress old [2, 3, 4] s
  let any := (List.range 16).any (bandExists m)
  let preload := s.sluice.preloadOwed && any
  let acc := s.sluice.accounts
  let kept := s.sluice.keptBands
  let from_ := if kept.isEmpty then old else kept
  let s := if !kept.isEmpty && !any then s
    else s.onSluice fun x =>
      { x with accounts := Vector.ofFn (carryBuckets from_ m acc preload s.time.spring), preloadOwed := x.preloadOwed && !any
               keptBands := [] }
  let s := (List.finRange 16).foldl (fun s i => if bandExists m i.val then nearCheck i s else s) (rebookReserved s)
  let s := [0, 1, 2].foldl (applyGate old) s
  s.onFn sluiceFn fun f => { f with settling := gateWaits s }

/-- Reset of the transmit path once its outputs are clamped (R271). -/
def resetSluice (s : State) : State :=
  let s := releaseBookings rcDiscardedReset s
  let s := (s.sluice.queued ++ s.sluice.broadcasts).foldl (fun s f => removeFrame f rcDiscardedReset false f.pendingBit s) s
  let s := s.onSluice fun x =>
    { x with launches := [], gates := Vector.replicate 3 GateRun.reset
             accounts := x.accounts.map fun a => { a with reserved := 0 } }
  [0, 1, 2].foldl (fun s r => activateGate r s) s

/-! ### Rules (R278) -/

/-- An interval is covered by the sub-bands of a set, from `pos` to `hi`, in half-Hz. -/
def coveredTo (m : NMap Bytes) : Nat → Nat → Nat → Bool
  | 0, pos, hi => hi ≤ pos
  | fuel + 1, pos, hi =>
    if hi ≤ pos then true
    else
      match (List.range 16).find? fun i => bandExists m i && decide (2 * bandLow m i ≤ pos) && decide (pos < 2 * bandHigh m i) with
      | some i => coveredTo m fuel (2 * bandHigh m i) hi
      | none => false

/-- A channel lies with its full bandwidth within the union of the sub-bands. -/
def chanCovered (m : NMap Bytes) (ch : Nat) : Bool :=
  coveredTo m 16 (2 * chanCentre m ch - bwHz (chanBw m ch)) (2 * chanCentre m ch + bwHz (chanBw m ch))

/-- The channels that the device may transmit on. -/
def txChannels (m : NMap Bytes) : List Nat :=
  ((if enabledIn m 0x0600 then enabledCells m else []).filter fun c => cellTransmits m c.2.2 || cellAck c.2.2 == 1).flatMap (fun c => cellChannels m c.1 c.2.2)
    ++ ((List.range 3).filter (gateEnabled m)).flatMap fun l =>
      (((List.range (gateCount m l)).map (gateEntry m l)).filter fun e => u8 e 8 == 1).map fun e => u8 e 12

/-- Entries ascend in (SLOT, OFFSET_US). -/
def gateRises : List Bytes → Bool
  | a :: b :: l =>
    (decide (u32 a 0 < u32 b 0) || (u32 a 0 == u32 b 0 && decide (u32 a 4 ≤ u32 b 4))) && gateRises (b :: l)
  | _ => true

/-- Rule 2 for a list. -/
def gateEntriesOk (m : NMap Bytes) (l : Nat) : Bool :=
  let es := (List.range (gateCount m l)).map (gateEntry m l)
  gateRises es && es.all fun e =>
    decide (u32 e 0 < gateCycle m l) && decide (u32 e 4 < slotUs m)
      && (u8 e 8 == 0 || (chanExists m (u8 e 12) && chanRadio m (u8 e 12) == l))

/-- The rules of R278. -/
def sluiceRules (m : NMap Bytes) : Option (Nat × Nat) :=
  let on := (List.range 3).filter (gateEnabled m)
  if !on.all fun l => gateCycle m l != 0 then some (1, rcGateCycleZero)
  else if !(List.range 3).all (gateEntriesOk m) then some (2, rcGateEntry)
  else if !((List.range 16).filter (bandExists m)).all fun i => decide (bandLow m i < bandHigh m i) then some (3, rcDutyBand)
  else if !((txChannels m).filter (chanExists m)).all (chanCovered m) then some (4, rcTxNoSubband)
  else if !(List.range 3).all fun r => decide (-80 ≤ txMaxQ m r - modLoss (modLimit m r)) then some (5, rcTxPowerFloor)
  else none

/-- Activation ASN of the gate list of radio `r` that is active, if one is: the old one until a changed one takes over
(R261, R262, R279). -/
def activeGate (s : State) (r : Fin 3) : Option Nat :=
  let g := s.sluice.gates[r]
  if g.old.isSome then some g.oldAt
  else g.activation.filter fun a => s.time.asn.any fun n => decide (a ≤ n)

/-- Frames that stand in the queues: those that a launch has taken do not (R255 step 1). -/
def queuedCount (s : State) : Nat := (s.sluice.queued ++ s.sluice.broadcasts).countP fun f => !f.inFlight

/-- Status of 0x0500 (R279). -/
def sluiceStatus (s : State) : Bytes :=
  let m := s.coh.active
  let active (r : Fin 3) : Bool := (activeGate s r).isSome
  let busy (r : Fin 3) := s.sluice.launches.countP fun x => x.radio == r && x.step != .booked
  leBytes 4 (queuedCount s) ++ leBytes 1 (flag s.sluice.inhibit)
    ++ leBytes 1 (flag (active 0) + 2 * flag (active 1) + 4 * flag (active 2)) ++ zeros 2
    ++ leBytes 1 (busy 0) ++ leBytes 1 (busy 1) ++ leBytes 1 (busy 2) ++ leBytes 1 (govDuty s.thermal.step) ++ zeros 4
    ++ (List.finRange 16).flatMap (fun i =>
      leBytes 4 (usedUs s.sluice.accounts[i]) ++ leBytes 4 (if bandExists m i.val then bandBudget m i.val else 0))
    ++ (List.finRange 3).flatMap fun r => match activeGate s r with
      | some a => leBytes 8 a
      | none => List.replicate 8 0xFF

end Sys2Proof.Machine
end

