-- ==== Sys2Proof/Machine/Uplink.lean ====
section
/-!
DEFINITION. The uplink from stage 5 on: checks and classification, immediate and group acknowledgements, the release
gate, verification, and the records and payloads of frames (R93 to R107, R111 to R114, R232, R294, R307).
-/

namespace Sys2Proof.Machine

def countLink (i : Nat) (s : State) : State := s.count linkFn i

/-! ### Reading a frame -/

/-- The set under which a frame completes (R36). -/
def rxSet (s : State) (x : RxFrame) : NMap Bytes := s.setOf x.generation

/-- A frame under a key of the key page: a secured beacon, group acknowledgement or broadcast of the parent.  A frame of
level 0 is under no key and counts for its neighbour's own window (R307). -/
def pageKeyed (h : MacFrame) : Bool := h.keyMode == 1 && h.level != 0

/-- Of the keys of the key page, the frame is under BEACON_KEY rather than GROUP_KEY; where its KEY_INDEX byte tells them not
apart, beacons are (R307). -/
def beaconKeyed (m : NMap Bytes) (h : MacFrame) : Bool :=
  let k := keyIdPage m * 256 + h.keyIndex
  if k == beaconKey m && k != groupKey m then true
  else if k == groupKey m && k != beaconKey m then false
  else h.ftype == 1

/-- A frame under the parent's BEACON_KEY or GROUP_KEY, and not under the key of its neighbour's own entry (R307). -/
def parentKeyed (m : NMap Bytes) (n : Nat) (h : MacFrame) : Bool :=
  let k := keyIdPage m * 256 + h.keyIndex
  pageKeyed h && (k == beaconKey m || k == groupKey m || k != nbKey m n)

/-- The MAC frame of a decoded PSDU; none for a SUN-FSK frame of a type that is ignored. -/
def macOf (s : State) (x : RxFrame) : Option MacFrame :=
  let m := rxSet s x
  if isSun m x.ch then readSun (x.psdu.take (x.psdu.length - if x.fcs4 then 4 else 2)) (linkRelay m)
  else some (readOxgon (x.psdu.take (x.psdu.length - 4)))

/-- Channel bits from a frame's start to the end of its sync word, in ns; on SUN-FSK, with the channel's own transmit
preamble (log entry 34). -/
def headBits (m : NMap Bytes) (ch : Nat) : Nat := preambleLen m ch + if isSun m ch then 16 else 32
def headNs (m : NMap Bytes) (ch : Nat) : Nat := headBits m ch * 1000000000 / chanRate m ch

/-- The same in fast ticks. -/
def headTicks (m : NMap Bytes) (ch : Nat) : Nat := headBits m ch * 38400000 / chanRate m ch

/-- USE of the cell to which a frame is attributed; a frame of SCAN counts as in a parent-beacon cell. -/
def rxUse (s : State) (x : RxFrame) : Nat :=
  match x.cell with
  | some c => cellUse c.cell
  | none => if s.link.sync = .scan then 5 else 0

/-- The cell whose ACK field and window serve a frame's acknowledgement: a twin frame's second cell (R100). -/
def rxAckCell (s : State) (x : RxFrame) : Bytes :=
  match x.cell with
  | none => []
  | some c => if x.kind = 1 then cellPart (rxSet s x) c.sf (cellTwinIndex c.cell) else c.cell

/-! ### Acknowledgements (R96, R97, R100, R106, R107) -/

/-- Give up the acknowledgement of a frame. -/
def noAck (f : Nat) (s : State) : State :=
  match s.rxFrame f with
  | none => s
  | some x => (releaseAck x s).onRxFrame f fun y => { y with ack := none, wantAck := false }

/-- The sensor's address in an acknowledgement in a shared cell (R88): its extended one, or the short one of a joining node that
sends no other and stands in no entry (log entry 158). -/
def ackDst (ext : BitVec 64) (h : MacFrame) : Addr :=
  match h.src with
  | .short a => if ext = 0 then .short a else .ext ext.toNat
  | _ => .ext ext.toNat

/-- Build the acknowledgement of frame `f` with the given content, when a booking waits for it; where the frame has been
accepted already, its arrival error is corrected by it (R102). -/
def buildAck (f : Nat) (h : MacFrame) (ctr echo : BitVec 32) (corr : Int) (flags : BitVec 8) (s : State) : State :=
  match s.rxFrame f with
  | none => s
  | some x =>
    match x.ack.bind (findLaunch s) with
    | none => if x.kind = 1 then s.onRxFrame f fun y => { y with wantAck := true } else s
    | some l =>
      if l.step != .booked || l.built then s
      else
        let m := s.setOf l.generation
        let dst := if cellUse (rxAckCell s x) = 1 then ackDst x.srcExt h else Addr.absent
        let body := ackBody ctr echo corr flags
        let psdu := if isSun m l.channel then sunAck (networkId m) dst h.seqNo body (chanFcs4 m l.channel)
          else oxgonAck (networkId m) dst body
        let pend := flags.getLsbD 0
        (s.onLaunch l.id fun y =>
          { y with built := true, psdu := psdu, counter := ctr, pendingBit := pend
                   neighbour := x.nb.getD 0xFFFFFFFF }).onRxFrame f (fun y =>
            { y with ackSent := true, pendingBit := pend, wantAck := false }) |> ackOffset f x.nb true

/-- TIME_CORR for an arrival error (R96). -/
def timeCorr (err : Int) : Int := max (-32767) (min 32767 (-err))

/-- The stored acknowledgement of neighbour `n` is built for frame `f`. -/
def buildStored (f n : Nat) (h : MacFrame) (s : State) : State :=
  let d := s.nb n
  buildAck f h d.ackCtr d.ackEcho d.ackCorr d.ackFlags s

/-- A new frame has passed stage 5: the kind of acknowledgement follows ACK_MODE and the cell's ACK field (R106). -/
def newAck (f : Nat) (h : MacFrame) (s : State) : State :=
  match s.rxFrame f with
  | none => s
  | some x =>
    let c := rxAckCell s x
    if h.ackMode = 1 && !c.isEmpty && cellAck c == 1 then
      let r := chanRadioFin (rxSet s x) x.ch
      let pend := match x.nb with
        | some n => pendingFor s r n none
        | none => false
      let flags : BitVec 8 := if pend then 1 else 0
      let s := match x.nb with
        | some n => s.onNb n fun d =>
          { d with acked := true, ackCtr := x.counter, ackEcho := micEcho h, ackCorr := timeCorr x.err
                   ackFlags := flags }
        | none => s
      buildAck f h x.counter (micEcho h) (timeCorr x.err) flags s
    else noAck f s

/-- The bit of counter `c` in a map aligned to HIGHEST. -/
def NbState.listBit (d : NbState) (c : BitVec 32) : Nat := (d.win.highest - c).toNat

/-- Enter a frame in the next group acknowledgement of its slotframe (R97). -/
def listGroup (f : Nat) (h : MacFrame) (s : State) : State :=
  match s.rxFrame f with
  | none => s
  | some x =>
    let c := rxAckCell s x
    let short := (x.nb.map (nbShort (rxSet s x))).getD 0xFFFF
    if h.ackMode = 1 && !c.isEmpty && cellAck c == 2 && short != 0xFFFF then
      let sf := (x.cell.map (·.sf)).getD 0
      let e := (short, x.counter)
      let s := match x.nb with
        | some n => s.onNb n fun d => { d with listed := d.listed ||| (1#64 <<< d.listBit x.counter) }
        | none => s
      (s.onLink fun l =>
        { l with groupAcks := mmod [] l.groupAcks sf fun es => if es.contains e then es else es ++ [e] }).onRxFrame f
          fun y => { y with groupQueued := true }
    else s

/-! ### Acceptance (R102, R104, R307) -/

/-- A counter is taken up by a replay window. -/
def Replay.accept (w : Replay) (c : BitVec 32) : Replay :=
  let h := w.highest.toNat
  if !w.received then ⟨true, c, 1⟩
  else if h < c.toNat then ⟨true, c, (if 63 < c.toNat - h then 0 else w.bitmap <<< (c.toNat - h)) ||| 1⟩
  else { w with bitmap := w.bitmap ||| (1#64 <<< (h - c.toNat)) }

/-- How a window sees a counter: none is new, `true` a duplicate, `false` a stale counter (R104). -/
def Replay.sees (w : Replay) (c : BitVec 32) : Option Bool :=
  if !w.received || decide (w.highest.toNat < c.toNat) then none
  else if c.toNat + 63 < w.highest.toNat then some false
  else if w.bitmap.getLsbD (w.highest.toNat - c.toNat) then some true
  else none



/-- The window that a frame of neighbour `n` is checked against. -/
def windowOf (s : State) (m : NMap Bytes) (h : MacFrame) (n : Nat) : Replay :=
  if parentKeyed m n h then (if beaconKeyed m h then s.link.beaconWin else s.link.groupWin) else (s.nb n).win

/-- The listed frames after HIGHEST has moved from window `v` to window `w`. -/
def moveListed (v w : Replay) (l : BitVec 64) : BitVec 64 :=
  let n := (w.highest - v.highest).toNat
  if !v.received || 63 < n then 0 else l <<< n

/-- Accept a new frame: window, timing and count (R102, R104). -/
def acceptFrame (f : Nat) (h : MacFrame) (s : State) : State :=
  match s.rxFrame f with
  | none => s
  | some x =>
    match x.nb with
    | none => s
    | some n =>
      let m := rxSet s x
      let w := (windowOf s m h n).accept x.counter
      let s := if parentKeyed m n h then
          s.onLink fun l => if beaconKeyed m h then { l with beaconWin := w } else { l with groupWin := w }
        else s.onNb n fun d => { d with win := w, listed := moveListed d.win w d.listed }
      let s := s.onNb n fun d =>
        { d with accepted := d.accepted + 1, lastSync := x.syncSpring, offsetUs := if x.ackSent then 0 else x.err, lostSync := false
                 errFrame := some f, err := x.err }
      listGroup f h (countLink 2 s)

/-! ### Stage 5 (R93, R94, R104, R105, R107, R111, R188) -/

/-- The frame goes on to the release gate with this outcome. -/
def toGate (f : Nat) (c : RxClass) (reason : Nat) (s : State) : State :=
  s.onRxFrame f fun y => { y with stage := .gate, cls := c, reason := reason }

/-- A rejected frame: its counter, no acknowledgement, its record at the gate. -/
def rejectFrame (f reason : Nat) (s : State) : State :=
  let s := if reason = rcReplay then countLink 5 s
    else if reason = rcUnknownNeighbour then countLink 7 s
    else if reason = rcSecLevel then countLink 8 s
    else if reason = rcNetworkMismatch then countLink 9 s
    else s
  toGate f .rejected reason (noAck f s)

/-- The frame that holds the pending mark of neighbour `n` for counter `c` (R105). -/
def pendingMark (s : State) (n : Nat) (c : BitVec 32) (keyed : Bool) : Option RxFrame :=
  s.rx.frames.find? fun y => (y.stage == .gate || y.stage == .verify) && (y.cls == .fresh || y.cls == .control)
    && y.nb == some n && y.counter == c && match macOf s y with
      | some h => h.level != 0 && parentKeyed (rxSet s y) n h == keyed
      | none => false

/-- A duplicate (R107): acknowledged again where its counter is that of the stored acknowledgement; `accepted` says that
it has been accepted before.  Where a group acknowledgement has listed it, it is listed again (R97). -/
def takeDuplicate (f n : Nat) (h : MacFrame) (accepted : Bool) (s : State) : State :=
  let s := s.onNb n fun d => { d with duplicate := d.duplicate + 1 }
  match s.rxFrame f with
  | none => s
  | some x =>
    let d := s.nb n
    let s := if accepted && !parentKeyed (rxSet s x) n h && d.listed.getLsbD (d.listBit x.counter) then listGroup f h s else s
    if d.acked && d.ackCtr == x.counter && !parentKeyed (rxSet s x) n h then
      toGate f .reacked rcDupReacked (buildStored f n h (countLink 3 s))
    else toGate f .stale rcDupStale (noAck f (countLink 4 s))

/-- Classification of a frame of a known neighbour (R104, R105); a frame whose counter is pending with another MIC
waits. -/
def classify (f : Nat) (s : State) : State :=
  match s.rxFrame f with
  | none => s
  | some x =>
    match macOf s x, x.nb with
    | some h, some n =>
      if x.counter = 0xFFFFFFFF then rejectFrame f rcReplay s
      else
        match pendingMark s n x.counter (parentKeyed (rxSet s x) n h) with
        | some y =>
          if (macOf s y).map micEcho == some (micEcho h) then takeDuplicate f n h false s
          else s.onRxFrame f fun z => { z with stage := .stage5, cls := .fresh }
        | none =>
          match (windowOf s (rxSet s x) h n).sees x.counter with
          | some true => takeDuplicate f n h true s
          | some false => rejectFrame f rcReplay s
          | none =>
            let ctl := h.ftype == 1 || h.ftype == 3
            let s := if ctl then noAck f s else newAck f h s
            let s := if h.level = 0 then acceptFrame f h s else s
            toGate f (if ctl then .control else .fresh) rcOk s
    | _, _ => rejectFrame f rcUnknownNeighbour s

/-- Source, attribution and security of a frame whose header is sound. -/
def checkSource (f : Nat) (h : MacFrame) (s : State) : State :=
  match s.rxFrame f with
  | none => s
  | some x =>
    let m := rxSet s x
    let n := findNb m h.src
    let ext := match n, h.src with
      | some i, _ => nbExt m i
      | none, .ext a => a
      | none, _ => 0
    let x := { x with nb := n, srcExt := BitVec.ofNat 64 ext, cell := if x.kind = 1 then x.cell else cellFor x.cells n }
    let s := s.onRxFrame f fun _ => x
    let s := if cellAck (rxAckCell s x) = 1 then s else noAck f s
    let isParent := linkRelay m && n == some (parentIdx m)
    let ctl := h.ftype == 1 || h.ftype == 3
    let useOk := if h.ftype = 1 then rxUse s x == 5 else if h.ftype = 3 then rxUse s x == 7 else true
    match n with
    | none =>
      if !ctl && (x.cell.any fun c => cellUse c.cell == 1) && h.level == 0 && !h.badSec && u8 (h.content h.payload) 0 == 0xF1 then
        toGate f .join rcJoinCandidate (newAck f h (countLink 10 s))
      else rejectFrame f rcUnknownNeighbour s
    | some i =>
      if ctl && !(linkRelay m && useOk) then rejectFrame f rcFieldRange s
      else if h.badSec || (h.level != 0 && pageKeyed h && !isParent) || (ctl && !(pageKeyed h && h.level != 0)) then
        rejectFrame f rcSecLevel s
      else if h.level < nbMinLevel m i then rejectFrame f rcSecLevel s
      else if ctl && !isParent then rejectFrame f rcUnknownNeighbour s
      else classify f s

/-- A decoded frame enters stage 5.  Every
frame that comes here counts FRAMES_IN, and a SUN-FSK one SUN_FSK_FRAMES (DESIGN CHOICE, log entry 159); one rejected before
its header is read has the record of a frame without a header (R223). -/
def enterStage5 (f : Nat) (s : State) : State :=
  match s.rxFrame f with
  | none => s
  | some x =>
    let m := rxSet s x
    let s := countLink 1 (s.onThermal fun t => { t with span := { t.span with framesOk := t.span.framesOk + 1 } })
    let s := if x.sic then s.count eddyFn 7 else s
    let s := if isSun m x.ch then countLink 19 s else s
    let unread := s.onRxFrame f headless
    if s.inReset linkFn then rejectFrame f rcDiscardedReset unread
    else if !s.enabled linkFn then rejectFrame f rcFunctionDisabled unread
    else
      match macOf s x with
      | none => dropRx f (noAck f s)
      | some h =>
        let s := s.onRxFrame f fun y => { y with counter := BitVec.ofNat 32 h.counter }
        if h.bad then rejectFrame f rcFieldRange s
        else if h.network != networkId m then rejectFrame f rcNetworkMismatch s
        else if h.ftype = 2 then
          takeDlAck x.ch (x.syncNs - headNs m x.ch) (BitVec.ofNat 32 (u32 h.payload 0)) (BitVec.ofNat 32 (u32 h.payload 4))
            (dropRx f (noAck f s))
        else checkSource f h s

/-- Every decoded frame that has not entered stage 5 does so, in the order of its number. -/
def runStage5 (s : State) : State :=
  (s.rx.frames.filter fun x => x.stage == .stage5 && x.cls == .none).foldl (fun s x => enterStage5 x.id s) s

/-- Frames that waited for the verification of `n`'s counter `c` are classified anew (R105). -/
def wakeWaiting (n : Option Nat) (c : BitVec 32) (s : State) : State :=
  (s.rx.frames.filter fun x => x.stage == .stage5 && x.cls == .fresh && x.nb == n && x.counter == c).foldl
    (fun s x => classify x.id s) s

/-! ### Records, payloads and the release gate (R95, R111, R114, R232) -/

/-- The frame ends: a twin first half whose second part may still come stays for its acknowledgement (R100). -/
def retireFrame (x : RxFrame) (s : State) : State :=
  let s := if x.kind = 1 && !x.secondOver && x.second.isNone && !x.ackSent then
      s.onRxFrame x.id fun y => { y with stage := .twinAck, ordered := false, reserved := 0 }
    else dropRx x.id s
  runStage5 (resumeStalled s)

/-- Write the record of frame `f` and end it. -/
def recordFrame (f reason : Nat) (payload : Bytes) (s : State) : State :=
  match s.rxFrame f with
  | none => s
  | some x =>
    retireFrame x (emitRecord (if x.cls != .none then x else headless x) reason payload s)

/-- Deliver the plaintext of an accepted frame (R95): to the router, or in its record. -/
def verifiedFrame (f : Nat) (h : MacFrame) (plain : Bytes) (s : State) : State :=
  match s.rxFrame f with
  | none => s
  | some x =>
    let plain := h.content plain
    let b := u8 plain 0
    let keepalive := plain == [0xF0]
    if h.ftype = 1 then
      let m := rxSet s x
      let a := u48 plain
      -- before an ASN is established the arrival is known in network time only
      let arrival : Int := if s.time.asn.isSome then (slotStartTick m x.asn : Int) + x.syncOffset
        else ((x.syncNs * 24 / 625 : Nat) : Int)
      let off : Int := arrival - slotStartTick m a - headTicks m x.ch - ((txOffset m * 384 + 5) / 10 : Nat)
      takeBeacon a (u8 plain 16) x.ch off (recordFrame f rcOk [] s)
    else if h.ftype = 3 then recordFrame f rcOk [] s
    else if 0x40 ≤ b && b ≤ 0x7F && !plain.isEmpty then
      routeUplink (rxSet s x) x.generation h.src plain (recordFrame f rcOk [] s)
    else recordFrame f rcOk (if keepalive then [] else plain) s
where
  /-- ASN of a beacon body. -/
  u48 (b : Bytes) : Nat := field b 0 6

/-- The key-store index of a frame's key (R94, R294). -/
def frameKey (m : NMap Bytes) (h : MacFrame) (n : Nat) : Nat :=
  if pageKeyed h then keyIdPage m * 256 + h.keyIndex else nbKey m n

/-- Verification starts on page `p`: the key, the chained blocks and the quarantined plaintext stand in the page until
the verdict (R17 stage 6, R287, R294). -/
def startVerify (f : Nat) (p : Fin 32) (x : RxFrame) (h : MacFrame) (s : State) : State :=
  let m := rxSet s x
  let k := frameKey m h (x.nb.getD 0)
  if s.inReset cipherFn || s.inReset (pageFn p) then recordFrame f rcDiscardedReset [] s
  else
    match if s.works cipherFn then linkKey m k else .bad rcKeyAbsent with
    | .bad rc => recordFrame f rcKeyAbsent [] (badKey k rc s)
    | .good key _ =>
      let (plain, good) := ccmOpen key x.srcExt.toNat h.counter h.level h.header h.payload h.mic
      let n := ccmNonce x.srcExt.toNat h.counter h.level
      let chain := if h.level = 6 then ccmBlocks n h.header plain else ccmBlocks n (h.header ++ h.payload) []
      let q := if h.level = 6 then plain else []
      let s := s.onPage p fun y =>
        { y with key := some (k, key), x := cbcMac key (zeros 16) chain, q := (q ++ zeros 1280).take 1280
                 held := !q.isEmpty, inp := ccmA n 0, tag := (h.mic ++ zeros 16).take 16, tagLen := 8
                 busy := some ⟨9, rcOk, good, some f, 0, 0⟩, done := false }
      let s := useKey k 1 (ccmBlockCount h.level h.header.length h.payload.length) s
      runStage5 (resumeStalled (s.onRxFrame f fun y => { y with stage := .verify, ordered := false, reserved := 0 }))

/-- An earlier frame of the flow of `x` is still under verification. -/
def verifyAhead (s : State) (x : RxFrame) : Bool :=
  s.rx.frames.any fun y => y.stage == .verify && !isSun (rxSet s y) y.ch && stampBefore y x
    && (y.flow == x.flow || some y.flow == x.nb || x.nb == y.nb && y.nb.isSome)

/-- `RELEASE_GATE_PASS`: frame `f` is next in stamp order and passes; page `p` verifies it where it is secured. -/
def execReleaseGatePass (f : Nat) (p : Fin 4) (s : State) : Out :=
  let k : Fin 32 := ⟨p.val, by omega⟩
  match s.rxFrame f with
  | none => .next s
  | some x =>
    if x.stage != .gate || !gateOpenFor s x then .next s
    else
      match x.cls, macOf s x with
      | .join, some h =>
        if verifyAhead s x then .next s else .next (recordFrame f rcJoinCandidate (h.content h.payload) s)
      | .fresh, some h | .control, some h =>
        if h.level = 0 then
          if verifyAhead s x then .next s else .next (verifiedFrame f h h.payload s)
        else if (s.page k).busy.isSome then .next s
        else .next (wakeWaiting x.nb x.counter (startVerify f k x h s))
      | _, _ => if verifyAhead s x then .next s else .next (recordFrame f x.reason [] s)

/-- The verdict on a link frame (R17 stage 6, R105, R106). -/
def linkVerdict (f : Nat) (p : Fin 32) (good : Bool) (s : State) : State :=
  let plain := (s.page p).q
  let rc := if good then rcOk else rcTagFail
  let s := (s.onPage p fun y => { wipePage y with busy := none, done := true, reason := BitVec.ofNat 16 rc }).count
    cipherFn (if good then 4 else 5)
  match s.rxFrame f with
  | none => s
  | some x =>
    match macOf s x with
    | none => s
    | some h =>
      let s := if good then
          verifiedFrame f h (if h.level = 6 then plain.take h.payload.length else h.payload) (acceptFrame f h s)
        else recordFrame f rcTagFail [] (countLink 6 s)
      wakeWaiting x.nb x.counter s

/-- `TAG_VERIFY_VERDICT`: 280 fabric cycles after its start (R288). -/
def execTagVerifyVerdict (p : Fin 32) (s : State) : Out :=
  match (s.page p).busy with
  | none => .next s
  | some j =>
    if j.op != 9 || j.reason != rcOk then .next s
    else
      match j.frame with
      | some f => .next (linkVerdict f p j.good s)
      | none => .next (pageDone p (pageVerdict p j s))

/-! ### Resets (R70, R308) -/

/-- Reset of a page: a link frame under verification on it ends with its record. -/
def resetPageLink (p : Fin 32) (s : State) : State :=
  let f := (s.page p).busy.bind (·.frame)
  let s := resetPage p s
  match f.bind s.rxFrame with
  | none => s
  | some x => wakeWaiting x.nb x.counter (recordFrame x.id rcDiscardedReset [] s)

/-- Reset of the link controller: frames that wait at stage 5 end with their records. -/
def resetLinkRx (s : State) : State :=
  (s.rx.frames.filter fun x => x.stage == .stage5).foldl (fun s x => rejectFrame x.id rcDiscardedReset s) (resetLink s)

end Sys2Proof.Machine
end

