-- ==== Sys2Proof/Machine/Delta.lean ====
section
/-!
DEFINITION. Reception: listening intervals, preambles, capture offers, sync words and PHRs, hand-off, subtraction, the
Riffle pool's events, noise floors, and the configuration of Delta, Eddy and the Riffle pool (chapters 05 and 06).
-/

namespace Sys2Proof.Machine

def groupFnOf (g : Nat) : Nat := 0x0200 + g

/-! ### Listening (R181, R196) -/

/-- The window of a channel of the set `m` delivers samples. -/
def chanReceivesOf (s : State) (m : NMap Bytes) (ch : Nat) : Bool := windowOpen s (chanRadioFin m ch) (chanWindow m ch)

/-- The window of a channel delivers samples. -/
def chanReceives (s : State) (ch : Nat) : Bool := chanReceivesOf s s.coh.active ch

/-- `LISTEN_INTERVAL_START`: an interval of the channel is open (R181, R188). -/
def execListenIntervalStart (ch : Fin 256) (s : State) : Out :=
  if laneReady s ch.val && listenDue s ch.val then .next (startListening ch.val s) else .next s

/-- `LISTEN_INTERVAL_END`: a frame in progress goes on; the lane listens over the union of its intervals, and a scanned
channel keeps searching. -/
def execListenIntervalEnd (ch : Fin 256) (s : State) : Out :=
  .next (if listenDue s ch.val && !(s.chan ch.val).shed then s else stopListening ch.val s)

/-! ### Preambles and capture offers (R182, R187, R208 to R211) -/

/-- The open receiving cells that a new frame on a channel may belong to: those of earlier generations only where the channel is
about to reload, or its window to change (R147, R201). -/
def cellsFor (s : State) (ch : Nat) : List SlotCell :=
  s.link.slotCells.filter fun c =>
    let m := s.setOf c.generation
    c.ch == ch && (c.generation != s.coh.generation
      || !((s.chan ch).settling || windowAffected s (chanRadioFin m ch) (chanWindow m ch)))

/-- The generation of a new frame in these cells; of the one in force where several are open. -/
def cellsGen (s : State) (cells : List SlotCell) : BitVec 32 :=
  if cells.any fun c => c.generation == s.coh.generation then s.coh.generation
  else (cells.head?.map (·.generation)).getD s.coh.generation

/-- The cells in whose interval a preamble of channel `ch` falls: those of the slot in progress, or, where none of them is
being listened to, those of the next slot whose interval has begun (R181, R182, R183). -/
def heardCells (s : State) (ch : Nat) : List SlotCell :=
  let open_ (c : SlotCell) : Bool :=
    let e := cellSpan s c
    decide (e.1 ≤ s.netNs) && decide (s.netNs < e.2)
  let now := cellsFor s ch
  let next := if (s.chan ch).settling then [] else (nextCells s).filter fun c => c.ch == ch && open_ c
  if now.any open_ || next.isEmpty then now else next

/-- A frame whose preamble has been detected. -/
def newRx (s : State) (ch : Nat) (power : Int) (lane : Option Nat) : RxFrame :=
  let cells := heardCells s ch
  { id := s.rx.nextId, ch := ch, generation := cellsGen s cells
    asn := (cells.head?.map (·.asn)).getD (s.time.asn.getD 0), stage := .search, lane := lane, cells := cells, cell := none
    began := s.time.fabric, rssi := power, floor := none, lqi := 0, evm := 0, err := 0, syncOffset := 0, syncSpring := 0
    syncNs := 0, afc := 0, coded := false, fcs4 := true, white := false, kind := 0, len := 0, tag := 0, reserved := 0
    llr := [], second := none, beacon := false, mate := none, parkedBy := none, captured := lane.isSome, sic := false
    combined := false, jobs := [], handedAt := 0, stamp := 0, flow := 0, ordered := false, psdu := [], reason := rcOk
    cls := .none, srcExt := 0, counter := 0, nb := none, ack := none, ackSent := false, wantAck := false
    groupQueued := false, pendingBit := false, secondOver := false }

def addRx (x : RxFrame) (s : State) : State :=
  s.onRx fun r => { r with frames := r.frames ++ [x], nextId := r.nextId + 1 }

/-- Frame `new` takes the lane of frame `old`, with the obligation towards the frame that `old` had displaced. -/
def takeLane (old : RxFrame) (new : RxFrame) (s : State) : State :=
  let s := s.onRx fun r =>
    { r with frames := r.frames.map fun y => if y.parkedBy == some old.id then { y with parkedBy := some new.id } else y
             captures := r.captures.map fun c =>
               match c with
               | some k => if k.frame = old.id then some { k with frame := new.id, generation := new.generation } else some k
               | none => none }
  addRx new (dropRx old.id s)

/-- SWITCH: the lane abandons frame `y` and receives the new one (R208).  A second part has no record of its own. -/
def switchLane (y : RxFrame) (x : RxFrame) (s : State) : State :=
  let s := releaseAck y (s.count eddyFn 2)
  if y.stage = .psdu && y.mate.isNone then
    emitRecord (headless y) rcCapturedOut [] (countFailed ((takeLane y x s).count eddyFn 4))
  else takeLane y x s

/-- Captured frames that the channel holds. -/
def captureDepth (s : State) (ch : Nat) : Nat :=
  s.rx.captures.toList.countP fun c => c.any fun k => k.ch == ch

/-- Network time in ns at which a preamble that is detected now began on air: 16 channel bits and the filter delay before. -/
def detectedNs (s : State) (m : NMap Bytes) (ch : Nat) : Nat :=
  s.netNs - 16 * 1000000000 / chanRate m ch - filterDelayNs (chanBw m ch)

/-- The checkpoint that the lane of frame `y` stores when a preamble is detected over it (R211); its timing and carrier phase
are those that the lane tracks, which the model leaves free. -/
def checkpointOf (y : RxFrame) (ch : Nat) (s : State) : Checkpoint × State :=
  let m := s.setOf y.generation
  let (a, s) := s.free
  let (b, s) := s.free
  -- LLRs start after the 64 channel bits of the PHR
  let written := (detectedNs s m ch - y.syncNs) * chanRate m ch / 1000000000 - 64
  (⟨preambleStart m ch s.time.fabric, BitVec.ofNat 16 a, BitVec.ofNat 16 b, y.afc, written⟩, s)

/-- An offer against frame `y`, the most recent in progress on the channel (R208).  A lane that switches without a ring
goes back to its search on live samples. -/
def resolveOffer (y : RxFrame) (ch : Nat) (power : Int) (s : State) : State :=
  let s := countGroup ch 11 s
  let ring := s.works eddyFn && decide (0 < (s.ring ch).kb)
  let next := { newRx s ch power y.lane with captured := y.captured }
  if y.stage = .search && !ring then discardEarly y (s.count eddyFn 2)
  else if y.stage = .search then switchLane y next s
  else if !ring then s.count eddyFn 3
  else
    let m := s.setOf next.generation
    match if maxDepth m ≤ captureDepth s ch then none else freeCaptureLane s m (ch / 32) with
    | none => switchLane y next s
    | some l =>
      let x := newRx s ch power (some l.val)
      let (k, s) := checkpointOf y ch s
      let s := setCapture l (some ⟨x.id, ch, .frame, some y.id, k, x.generation, none⟩) s
      addRx x ((s.count eddyFn 1).onRxFrame y.id fun z => { z with parkedBy := some x.id })

/-- A new frame may begin on the channel: its group works, the channel is not shed, its window delivers samples, and where the
channel is about to reload a cell of an earlier generation is open (R196, R201). -/
def laneSearches (s : State) (ch : Nat) : Bool :=
  let m := s.setOf (cellsGen s (cellsFor s ch))
  s.works (groupFn ch) && !(s.chan ch).shed && chanUsable m ch && chanReceivesOf s m ch
    && (!(s.chan ch).settling || !(cellsFor s ch).isEmpty)

/-- `PREAMBLE_DETECTED`: a preamble whose signal-to-noise ratio does not exceed DETECT_Q is none (R182). -/
def execPreambleDetected (ch : Fin 256) (seen : Detection) (s : State) : Out :=
  let m := s.setOf (cellsGen s (cellsFor s ch.val))
  let p := seen.power + rssiOffset m (ch.val / 32)
  let busy := !(onChannel s ch.val).isEmpty
  if !(laneSearches s ch.val || busy && s.works (groupFn ch.val)) || decide (seen.snr ≤ (detectQ m ch.val : Int)) then .next s
  -- a channel that only completes its frame receives no other (R187, R196, R201)
  else if !laneSearches s ch.val then .next (countGroup ch.val 10 (countGroup ch.val 1 s))
  else
    match (onChannel s ch.val).getLast? with
    | none =>
      if (s.chan ch.val).listening then .next (addRx (newRx s ch.val p none) (countGroup ch.val 1 s)) else .next s
    | some y =>
      let s := countGroup ch.val 1 s
      if captureEn m ch.val && decide (y.rssi + captureMargin m ch.val ≤ p) then .next (resolveOffer y ch.val p s)
      else .next (countGroup ch.val 10 s)

/-! ### Sync word and PHR (R92, R112, R182 to R185, R188) -/

/-- `SYNC_SEARCH_TIMEOUT`: no sync word within P + 48 channel bits of detection (R182). -/
def execSyncSearchTimeout (f : Nat) (s : State) : Out :=
  match s.rxFrame f with
  | none => .next s
  | some x =>
    let m := rxSet s x
    let limit := (preambleLen m x.ch + 48) * 400000000 / chanRate m x.ch
    .next (if x.stage = .search && decide (limit ≤ (s.time.fabric - x.began).toNat) then countGroup x.ch 2 (discardEarly x s)
      else s)

/-- A downlink's acknowledgement is awaited on the channel from a frame that starts at `start`, network time in ns (R254). -/
def awaitsAck (s : State) (ch start : Nat) : Bool :=
  s.sluice.queued.any fun f =>
    let m := s.setOf f.generation
    f.awaiting == some ch && decide (f.endNs + turnaround m * 1000 ≤ start + ackGuard m * 1000)
      && decide (start ≤ f.endNs + (turnaround m + ackGuard m) * 1000)

/-- The lane searches the sync word of beacons: in SCAN, and in parent-beacon cells (R182). -/
def seeksBeacon (s : State) (x : RxFrame) : Bool := scanning s x.ch || x.cells.any fun c => cellUse c.cell == 5

/-- How the lane takes 32 received bits, or the last 16 on SUN-FSK: none unless they are the sync word that it searches with at
most 3 errors, or an SFD with at most 1 (R182); `true` for the SFD of coded frames (R177). -/
def syncMatch (s : State) (x : RxFrame) (word : BitVec 32) : Option Bool :=
  let m := rxSet s x
  if isSun m x.ch then
    let near (coded : Bool) := decide (bitErrors 16 (word.toNat % 65536) (sunSfd (sunSfdSet m x.ch) coded) ≤ 1)
    if near true then some true else if near false then some false else none
  else if bitErrors 32 word.toNat (syncWord (seeksBeacon s x)) ≤ 3 then some false else none

/-- The end of a sync word on air, network time in ns.  Without an ASN it is reckoned back by the filter delay, and for a
captured frame, whose lane reads the ring late, on from the start of its preamble (R230). -/
def syncEndNs (s : State) (x : RxFrame) (syncOffset : Nat) : Nat :=
  let m := rxSet s x
  if s.time.asn.isSome then slotAtNs s m x.asn + syncOffset * 625 / 24
  else if x.lane.isSome then
    s.netNs - (s.time.fabric - preambleStart m x.ch x.began).toNat * 5 / 2 - filterDelayNs (chanBw m x.ch) + headNs m x.ch
  else s.netNs - filterDelayNs (chanBw m x.ch)

/-- The Spring count `ns` ago, by the phase of the Spring clock. -/
def springAgo (s : State) (ns : Nat) : BitVec 48 :=
  s.time.spring - BitVec.ofNat 48 (ceilDiv (64 * ns - 5 * s.time.springPhase) 1953125)

/-- `SYNC_WORD_ACCEPTED`: `syncOffset` is its end in fast ticks from the slot start, `afc` the carrier offset in Hz from the
centre of the search, `word` the bits received. -/
def execSyncWordAccepted (f syncOffset : Nat) (afc : Int) (word : BitVec 32) (s : State) : Out :=
  match s.rxFrame f with
  | none => .next s
  | some x =>
    match if x.stage = .search then syncMatch s x word else none with
    | none => .next s
    | some coded =>
      let m := rxSet s x
      let start : Int := (syncOffset : Int) * 625 / 24 - headNs m x.ch
      let ns := syncEndNs s x syncOffset
      let cells := x.cells.filter fun c => decide ((c.early : Int) * 1000 ≤ start) && decide (start ≤ (c.late : Int) * 1000)
      if cells.isEmpty && !scanning s x.ch && !awaitsAck s x.ch (ns - headNs m x.ch) then
        .next (countGroup x.ch 4 (discardEarly x s))
      else if 6 * afcRange (chanMode m x.ch) (chanBw m x.ch) < 5 * afc.natAbs then
        .next (countGroup x.ch 3 (discardEarly x s))
      else
        let err := Int.tdiv (start - (txOffset m * 1000 : Nat)) 1000
        .next (s.onRxFrame f fun y =>
          { y with stage := .synced, cells := cells, syncOffset := syncOffset, syncSpring := springAgo s (s.netNs - ns), syncNs := ns
                   err := max (-32767) (min 32767 err), floor := (s.chan y.ch).floor, afc := afc, coded := coded
                   beacon := !isSun m x.ch && seeksBeacon s x })

/-- Bytes of the LLR store for a frame of `n` codewords; a second part carries half as many bits (R185, R220). -/
def llrBytes (o : OxMode) (len : Nat) (second : Bool) : Nat := codewords o len * (if second then o.n / 2 else o.n)

/-- Largest MAX_LEN among the cells that hold the frame's start. -/
def maxLenOf (x : RxFrame) : Nat := if x.cells.isEmpty then 1023 else maxOr 0 (x.cells.map fun c => cellMaxLen c.cell)

/-- The PSDU's reception begins. -/
def enterPsdu (x : RxFrame) (s : State) : State :=
  (s.onRxFrame x.id fun _ => { x with stage := .psdu }).onChan x.ch fun c => { c with lastRssi := x.rssi }

/-- End of a frame's last channel bit, network time in ns. -/
def endNs (s : State) (x : RxFrame) : Nat :=
  let m := rxSet s x
  match oxMode (chanMode m x.ch) with
  | some o => x.syncNs + (64 + llrBytes o x.len (x.kind == 2)) * 1000000000 / o.rate
  | none =>
    let d := if x.coded then 2 * (16 + 8 * x.len + 3 + (if x.len % 2 = 1 then 5 else 13)) else 16 + 8 * x.len
    x.syncNs + d * 1000000000 / (sunRate (chanMode m x.ch)).getD 1

/-- Book the acknowledgement of a frame whose candidate cell asks for an immediate one (R258 step 1). -/
def bookFor (f : Nat) (x : RxFrame) (c : Option SlotCell) (s : State) : State :=
  match c with
  | none => s
  | some c => if cellAck c.cell = 1 && s.enabled sluiceFn then bookAck f c (endNs s x) s else s

/-- The first half that a second part belongs to, by its cell and TWIN_TAG (R99). -/
def mateOf (s : State) (x : RxFrame) : Option RxFrame :=
  s.rx.frames.find? fun y => y.kind == 1 && y.tag == x.tag && y.len == x.len
    && (match y.cell, x.cell with
      | some a, some b => a.sf == b.sf && cellTwinIndex a.cell == b.idx && cellTwinIndex b.cell == a.idx
      | _, _ => false)
    && !(s.rx.frames.any fun z => z.mate == some y.id) && y.second.isNone

/-- A second part: it belongs to the generation of its first half (R100), its booking serves that, and its LLRs need room only
while that has not decoded. -/
def takeSecondPart (x : RxFrame) (y : RxFrame) (o : OxMode) (s : State) : State :=
  let x := { x with generation := y.generation }
  let need := y.stage == .psdu || y.stage == .decode || y.stage == .twinWait
  let n := llrBytes o x.len true
  let m := rxSet s x
  if need && !llrGrants s (chanPriority m x.ch) n then countGroup x.ch 9 (discardEarly x s)
  else
    let s := enterPsdu { x with mate := some y.id, reserved := if need then n else 0 } s
    let s := bookFor y.id x x.cell s
    if y.wantAck then
      match macOf s y, y.nb with
      | some h, some k => if (s.nb k).ackCtr == y.counter then buildStored y.id k h s else s
      | _, _ => s
    else s

/-- An Oxgon PHR (R91, R92, R185, R220). -/
def takePhr (x : RxFrame) (o : OxMode) (phr : BitVec 32) (agree : Bool) (s : State) : State :=
  let v := phr.toNat
  let m := rxSet s x
  let kind := bits v 29 27
  let len := bits v 25 16
  let tag := bits v 15 8
  let bad := !agree || bits v 31 30 != 1 || decide (2 < kind) || bit v 26 || decide (len < 12) || (kind == 0 && tag != 0)
    || bits v 7 0 != hcrc phr
  if bad then countGroup x.ch 5 (discardEarly x s)
  else if maxLenOf x < len then countGroup x.ch 6 (discardEarly x s)
  else
    let x := { x with kind := kind, len := len, tag := tag }
    let twin := x.cells.find? fun c => if kind = 1 then cellTwinFirst c.cell else cellTwinSecond c.cell
    if !s.works riffleFn then
      let rc := if s.inReset riffleFn then rcDiscardedReset else rcFunctionDisabled
      if kind = 2 then discardEarly x s else discardWith x rc s
    else if kind = 2 then
      let x := { x with cell := twin }
      match mateOf s x with
      | none => countGroup x.ch 5 (discardEarly x s)
      | some y => takeSecondPart x y o s
    else
      let n := llrBytes o len false
      if !llrGrants s (chanPriority m x.ch) n then discardWith x rcLlrStoreFull (countGroup x.ch 9 s)
      else
        let x := { x with reserved := n, cell := if kind = 1 then twin else none }
        let s := enterPsdu x s
        if kind = 1 then s else bookFor x.id x (x.cells.find? fun c => cellAck c.cell == 1) s

/-- A SUN-FSK PHR, in the low 16 bits with the first bit in bit 15 (R112). -/
def takeSunPhr (x : RxFrame) (phr : BitVec 32) (s : State) : State :=
  let v := phr.toNat
  let len := bits v 10 0
  if bit v 15 || decide (1023 < len) then countGroup x.ch 7 (discardEarly x s)
  else if maxLenOf x < len then countGroup x.ch 6 (discardEarly x s)
  else
    let x := { x with len := len, fcs4 := !bit v 12, white := bit v 11 }
    bookFor x.id x (x.cells.find? fun c => cellAck c.cell == 1) (enterPsdu x s)

/-- `PHR_RECEIVED`: `agree` says that the two copies agree after soft combining; `rssi` is before RSSI_OFFSET. -/
def execPhrReceived (f : Nat) (phr : BitVec 32) (agree : Bool) (rssi : Int) (s : State) : Out :=
  match s.rxFrame f with
  | none => .next s
  | some x =>
    if x.stage != .synced then .next s
    else
      let m := rxSet s x
      let x := { x with rssi := rssi + rssiOffset m (x.ch / 32) }
      match oxMode (chanMode m x.ch) with
      | some o => .next (takePhr x o phr agree s)
      | none => .next (takeSunPhr x phr s)

/-! ### Hand-off (R186, R189, R224) -/

/-- A second part has been handed off: where it was captured, the frame that it displaced goes on (log entry 127); its own
LLRs join its first half, or wait while a frame that displaced it is unresolved (R211, R224). -/
def joinSecond (x : RxFrame) (llr : List Int) (s : State) : State :=
  let s := freeLane x s
  let s := match belowOf s x.id with
    | some y => unpark y s
    | none => s
  let x := { x with llr := llr, handedAt := s.time.fabric, lane := none }
  if x.parkedBy.isSome then
    -- the first half ages from this hand-off, though the part is still held (R228)
    let s := match x.mate with
      | some a => s.onRxFrame a fun z => { z with handedAt := s.time.fabric }
      | none => s
    s.onRxFrame x.id fun _ => { x with stage := .held }
  else joinLlrs x (dropRx x.id s)

/-- LLRs as the lane writes them: one for each of `n` bits, saturating at ±127. -/
def laneLlrs (n : Nat) (l : List Int) : List Int :=
  let l := (l.take n).map fun v => max (-127) (min 127 v)
  l ++ List.replicate (n - l.length) 0

/-- LQI of a signal-to-noise ratio per channel bit in 0.001 dB (R192). -/
def lqiOf (snr : Int) : Nat := min 255 ((8 * snr + 128000) / 1000).toNat

/-- Channel bits of the PHR and PSDU of a SUN-FSK frame (R180). -/
def sunDataBits (x : RxFrame) : Nat :=
  if x.coded then 2 * (16 + 8 * x.len + 3 + (if x.len % 2 = 1 then 5 else 13)) else 16 + 8 * x.len

/-- `FRAME_HAND_OFF`: the last channel bit has been written.  `snr` is per channel bit, in 0.001 dB; a SUN-FSK frame
bypasses the LLR store (R189). -/
def execFrameHandOff (f : Nat) (llrs : List Int) (snr : Int) (evm : Nat) (s : State) : Out :=
  match s.rxFrame f with
  | none => .next s
  | some x =>
    if x.stage != .psdu then .next s
    else
      let m := rxSet s x
      let x := { x with lqi := lqiOf snr, evm := min evm 255 }
      let s := countGroup x.ch 8 (s.onRxFrame f fun _ => x)
      let s := s.onChan x.ch fun c => { c with lastLqi := x.lqi, lastEvm := x.evm }
      match oxMode (chanMode m x.ch) with
      | none =>
        let s := if x.coded then countGroup x.ch 12 s else s
        .next (s.onRxFrame f fun y =>
          { y with stage := .trellis, handedAt := s.time.fabric })
      | some o =>
        let l := laneLlrs (llrBytes o x.len (x.kind == 2)) llrs
        match x.mate with
        | some _ => .next (runStage5 (feedEngines (joinSecond x l s)))
        | none =>
          if s.inReset riffleFn then .next (discardWith x rcDiscardedReset s)
          else if !s.works riffleFn then .next (discardWith x rcFunctionDisabled s)
          else .next (handOff f l s)

/-- `TRELLIS_DECODE_DONE`: the soft symbols of PHR and PSDU are decoded with the group's code; frames of one channel reach stage 5 in the
order of their ends (R177, R189). -/
def execTrellisDecodeDone (f : Nat) (soft : List Int) (s : State) : Out :=
  match s.rxFrame f with
  | none => .next s
  | some x =>
    let first := !(s.rx.frames.any fun y =>
      y.id != f && y.ch == x.ch && y.stage == .trellis && decide (y.handedAt.toNat < x.handedAt.toNat))
    if x.stage != .trellis || !first then .next s
    else
      let p := sunPsdu (sunFec (rxSet s x) x.ch) x.coded x.white x.len (laneLlrs (sunDataBits x) soft)
      if fcsOk p x.fcs4 then .next (runStage5 (s.onRxFrame f fun y => { y with stage := .stage5, psdu := p }))
      else .next (recordFrame f rcFcsFail [] (countFailed (countGroup x.ch 13 (noAck f s))))

/-! ### Subtraction and re-demodulation (R212, R213) -/

/-- The frame that a capture lane owes a re-demodulation. -/
def owedFrame (s : State) (c : Capture) : Option RxFrame := s.rx.frames.find? fun y => y.parkedBy == some c.frame

/-- The obligation of a lane ends: the displaced frame is decoded from the LLRs that it holds. -/
def endObligation (lane : Fin 64) (c : Capture) (s : State) : State :=
  let s' := setCapture lane none s
  match owedFrame s c with
  | some y => feedEngines (unpark y s')
  | none => s'

/-- `n` pairs of an amplitude and a phase that the model leaves free: least squares over samples that are no state. -/
def freeScales : Nat → State → List (BitVec 16 × BitVec 16) × State
  | 0, s => ([], s)
  | n + 1, s =>
    let (a, s) := s.free
    let (b, s) := s.free
    let (l, s) := freeScales n s
    ((BitVec.ofNat 16 a, BitVec.ofNat 16 b) :: l, s)

/-- Fabric cycles in which channel `ch` has listened since cycle `t` (R206). -/
def heardSince (s : State) (ch : Nat) (t : BitVec 64) : Nat :=
  let after (b e : BitVec 64) : Nat := (e - t).toNat - (b - t).toNat
  let past := (s.ring ch).heard.filter fun e => decide ((e.2 - t).toNat < 2 ^ 63)
  let now := if (s.chan ch).listening then [((s.chan ch).since, s.time.fabric)] else []
  ((now ++ past).map fun e => if (e.1 - t).toNat < 2 ^ 63 then after e.1 e.2 else (e.2 - t).toNat).foldl (· + ·) 0

/-- The channel bits of a frame that the ring of channel `ch` no longer holds: those before HIST_MS, and those before it was
last empty (R212). -/
def overwritten (s : State) (m : NMap Bytes) (ch : Nat) (d : Subtraction) : Nat :=
  let age := (s.time.fabric - d.from_).toNat
  -- the ring advances while the channel listens: it holds the last HIST_MS of what was heard since it was empty
  let held := histMs m (chanMode m ch) * 400000
  let lost := (heardSince s ch d.from_ - held) + (age - (s.time.fabric - (s.ring ch).since).toNat)
  min d.bits.length (ceilDiv (lost * chanRate m ch) 400000000)

/-- Subtract a rebuilt frame from the ring of channel `ch`: from the first bit that the ring still holds, with an amplitude and a
phase for every 64 bits (R212). -/
def subtractFrom (m : NMap Bytes) (ch : Nat) (d : Subtraction) (s : State) : State :=
  let first := overwritten s m ch d
  let (l, s) := freeScales (ceilDiv (d.bits.length - first) 64) s
  let (t, s) := s.free
  s.onRx fun x =>
    { x with rings := mmod Ring.none x.rings ch fun r => { r with subtracted := r.subtracted ++ [{ d with first := first, timing := BitVec.ofNat 16 t, scale := l }] } }

/-- A sample block that Eddy needs reads as uncorrectable (R475): the word that it meets. -/
def eddyMeets (s : State) : Option Nat × State := meetPoison 0x10000000 0x10400000 s

/-- The subtraction or re-demodulation of lane `c` is abandoned, since the word at `pa` of the Eddy buffer is lost. -/
def loseSamples (lane : Fin 64) (c : Capture) (pa : Nat) (s : State) : State :=
  endObligation lane c ((sramUe pa eddyFn 0 s).count eddyFn 8)

/-- `SUBTRACTION_DONE`: the rebuilt frame has been subtracted from the ring, on top of what was subtracted before. -/
def execSubtractionDone (lane : Fin 64) (s : State) : Out :=
  match s.rx.captures[lane] with
  | none => .next s
  | some c =>
    if c.phase = .subtract then
      match eddyMeets s with
      | (some pa, s) => .next (loseSamples lane c pa s)
      | (none, s) =>
        let s := match c.rebuilt with
          | some d => subtractFrom (s.setOf c.generation) c.ch d s
          | none => s
        .next (setCapture lane (some { c with phase := .ready }) (s.count eddyFn 5))
    else .next s

/-- The re-demodulation that lane `c` owes can no longer start: checkpoint + HIST_MS − 250 µs has passed (R213). -/
def redemodLate (s : State) (c : Capture) : Bool :=
  let m := s.setOf c.generation
  decide (histMs m (chanMode m c.ch) * 400000 - 100000 ≤ (s.time.fabric - c.checkpoint.at_).toNat)

/-- `REDEMOD_START`: the subtraction is complete, the displaced frame's last bit has been written, and it is not too late. -/
def execRedemodStart (lane : Fin 64) (s : State) : Out :=
  match s.rx.captures[lane] with
  | none => .next s
  | some c =>
    if c.phase != .ready || redemodLate s c then .next s
    else
      match owedFrame s c with
      | none => .next (setCapture lane none s)
      | some y => .next (if inProgress y then s else setCapture lane (some { c with phase := .redemod }) s)

/-- `REDEMOD_ABANDON`: it has not started by checkpoint + HIST_MS − 250 µs.  A lane whose own frame has not decoded keeps it. -/
def execRedemodAbandon (lane : Fin 64) (s : State) : Out :=
  match s.rx.captures[lane] with
  | none => .next s
  | some c =>
    if c.phase = .redemod || !redemodLate s c || !sicEn (s.setOf c.generation) then .next s
    else if c.phase = .frame then
      match owedFrame s c with
      | none => .next s
      | some y =>
        -- the lane goes with the obligation, unless it still receives its own frame (R209)
        let c := if s.rx.frames.any fun x => x.id == c.frame && inProgress x then some { c with below := none } else none
        .next (feedEngines (unpark y (setCapture lane c (s.count eddyFn 8))))
    else .next (endObligation lane c (s.count eddyFn 8))

/-- LLRs of a re-demodulation over those that a frame has, from place `k` on. -/
def overwriteLlrs (k : Nat) (old new : List Int) : List Int :=
  let n := (new.take (old.length - k)).map fun v => max (-127) (min 127 v)
  old.take k ++ n ++ old.drop (k + n.length)

/-- `REDEMOD_DONE`: `llrs` replace those from the checkpoint on. -/
def execRedemodDone (lane : Fin 64) (llrs : List Int) (s : State) : Out :=
  match s.rx.captures[lane] with
  | none => .next s
  | some c =>
    if c.phase != .redemod then .next s
    else
      match owedFrame s c with
      | none => .next (setCapture lane none s)
      | some y =>
        match eddyMeets s with
        | (some pa, s) => .next (loseSamples lane c pa s)
        | (none, s) =>
          let s := s.onRxFrame y.id fun z => { z with sic := true, llr := overwriteLlrs c.checkpoint.llrs z.llr llrs }
          .next (endObligation lane c (s.count eddyFn 6))

/-! ### The Riffle pool (R223 to R229) -/

/-- The job of engine `e` ends: one that meets an uncorrectable word of the LLR store fails, and its frame ends with
`RC_MEM_UE` (R475). -/
def endJob (e : Fin 48) (agrees : Bool) (s : State) : State :=
  match (s.rx.engines[e]).job with
  | none => s
  | some j =>
    if (s.rx.engines[e]).stalled then completeJob e (s.rx.engines[e]).agreed s
    else
      match meetPoison 0x10400000 0x10600000 s with
      | (some pa, s) => failFrame j.1 rcMemUe (sramUe pa riffleFn 0 s)
      | (none, s) => completeJob e agrees s

/-- `RIFFLE_JOB_COMPLETE`: `agrees` is the verdict of the syndrome checker on a converged job. -/
def execRiffleJobComplete (e : Fin 48) (agrees : Bool) (s : State) : Out :=
  .next (if s.works riffleFn then runStage5 (endJob e agrees s) else s)

/-- `ENGINE_CLOCK_GATE`: an engine without a job for 10 µs. -/
def execEngineClockGate (e : Fin 48) (s : State) : Out :=
  .next (if engineFree s.rx.engines[e] && decide (4000 ≤ (s.time.fabric - s.rx.engines[e].idleAt).toNat) then s.onEngine e fun g => { g with gated := true } else s)

/-- `TWIN_SECOND_PART_TIMEOUT`: no second part has been handed off by its window's edge and air time. -/
def execTwinSecondPartTimeout (f : Nat) (s : State) : Out :=
  match s.rxFrame f with
  | none => .next s
  | some x =>
    if x.kind != 1 || x.second.isSome || (s.rx.frames.any fun y => y.mate == some f) then .next s
    else if x.stage = .twinWait then .next (failFrame f rcTwinMissing (s.count riffleFn 12))
    else if x.stage = .twinAck then .next (dropRx f (noAck f s))
    else .next ((noAck f s).onRxFrame f fun y => { y with secondOver := true })

/-- `DECODE_TIMEOUT`: JOB_AGE_MAX_MS after the latest hand-off. -/
def execDecodeTimeout (f : Nat) (s : State) : Out :=
  match s.rxFrame f with
  | none => .next s
  | some x =>
    let age := u16 (rifflePart (rxSet s x)) 6 * 400000
    -- a result that an engine holds for want of room is resolved already (R233)
    let held := s.rx.engines.toList.any fun g => g.stalled && g.job.any fun j => j.1 == f
    if (x.stage == .decode || x.stage == .twinWait) && !held && decide (age ≤ (s.time.fabric - x.handedAt).toNat) then
      .next (failFrame f rcDecodeTimeout (s.count riffleFn 8))
    else .next s

/-! ### Noise floors and dead channels (R191, R194) -/

/-- 4 × (−174 + 10 log10 B) for each bandwidth code, rounded down. -/
def thermalFloorQ (bw : Nat) : Int := [-545, -533, -521, -509, -496, -484, -472, -460, -448].getD bw 0

/-- cal_min of a channel, 0.25 dB. -/
def calMin (m : NMap Bytes) (ch : Nat) : Int :=
  thermalFloorQ (chanBw m ch) + (if rfSampling m (chanRadio m ch) then 18 else 10) + rssiOffset m (ch / 32)

/-- The floor after a block of power `p`; `tau` in µs. -/
def floorUpdate (floor : Option Int) (p : Int) (tau : Nat) : Int :=
  match floor with
  | none => p
  | some f => if p < f then f + Int.tdiv ((p - f) * 4000) tau else f + Int.tdiv ((p - f) * 250) tau

/-- The dead-channel check of one eligible block. -/
def deadCheck (ch : Nat) (p : Int) (s : State) : State :=
  let x := s.chan ch
  let below := decide (p + 24 ≤ calMin s.coh.active ch)
  let low := if below then min 4 (x.low + 1) else 0
  let high := if below then 0 else min 4 (x.high + 1)
  let s := s.onChan ch fun x => { x with low := low, high := high, dead := if x.dead then high < 4 else low == 4 }
  if !x.dead && low == 4 then
    raiseSource (19 + 3 * (ch / 32)) (groupFn ch) (ch % 32) (countGroup ch 14 s)
  else s

/-- `NOISE_FLOOR_BLOCK`: a block of `power` before RSSI_OFFSET on a channel. -/
def execNoiseFloorBlock (ch : Fin 256) (power : Int) (s : State) : Out :=
  let m := s.coh.active
  let c := ch.val
  let p := power + rssiOffset m (c / 32)
  if !(s.works (groupFn c) && chanExists m c && !(s.chan c).shed && !(s.chan c).settling && chanReceives s c) then .next s
  else
    let busy := !(onChannel s c).isEmpty
    if !(chanMonitor m c || (s.chan c).listening || busy) then .next s
    else
      let tau := u16 (groupPart m (c / 32)) 10 * 1000
      let s := if busy then s else s.onChan c fun x => { x with floor := some (floorUpdate x.floor p tau) }
      -- a monitor channel's power is that of its last 1 ms, four blocks, and its blocks are its listening time (R203, R204)
      let s := if chanMonitor m c then
          (s.onChan c fun x =>
            let l := (p :: x.blocks).take 4
            { x with blocks := l, lastRssi := meanQ l }).countN (groupFn c) 16 250
        else s
      .next (deadCheck c p s)

/-! ### Commits (R201, R207) -/

/-- The second cell of a twin frame of an earlier generation that still expects its second part: the cell of the first half, the
channel of the second, and its slot (R99, R201). -/
def secondSlot (s : State) (x : RxFrame) : Option (SlotCell × Nat × Nat) :=
  if x.kind == 1 && x.generation != s.coh.generation && x.second.isNone && !x.secondOver
      && (x.stage == .psdu || x.stage == .decode || x.stage == .twinWait || x.stage == .twinAck || x.wantAck) then
    match x.cell with
    | some c =>
      let m := rxSet s x
      let a := x.asn + (cellSlot (rxAckCell s x) + sfLength m c.sf - cellSlot c.cell) % max 1 (sfLength m c.sf)
      (cellChannel m c.sf (rxAckCell s x) a).map fun ch => (c, ch, a)
    | none => none
  else none

/-- The channel on which frame `x` of an earlier generation still expects its twin second part, if it does (R201). -/
def secondPart (s : State) (x : RxFrame) : Option Nat := (secondSlot s x).map (·.2.1)

/-- A twin second part under an earlier generation is still expected on a channel (R201). -/
def secondExpected (s : State) (ch : Nat) : Bool := s.rx.frames.any fun x => secondPart s x == some ch

/-- `CHANNEL_RELOAD_DONE`: a changed channel has stopped and its filter is reloaded (R201). -/
def execChannelReloadDone (ch : Fin 256) (s : State) : Out :=
  let old := (onChannel s ch.val).any fun x => x.generation != s.coh.generation
  if (s.chan ch.val).settling && !old && !secondExpected s ch.val then
    .next (s.onChan ch.val fun x => { x with settling := false })
  else .next s

/-- A channel whose entry differs, or whose group has moved to another window (R201). -/
def chanChanged (old new : NMap Bytes) (ch : Nat) : Bool :=
  chanPart old ch != chanPart new ch
    || (chanExists new ch && (chanRadio old ch != chanRadio new ch || chanWindow old ch != chanWindow new ch))

/-- Channel `ch` is shed or restored, as the governor's step says for its class (R196). -/
def shedChannel (ch : Nat) (s : State) : State :=
  let shed := decide (govShed s.thermal.step ≤ chanPriority s.coh.active ch)
  (if shed then stopListening ch s else s).onChan ch fun x => { x with shed := shed }

/-- Group `g` takes up a commit; the governor's present step applies to its new plan (R191, R196, R201).  A changed channel
serves no open cell any more, and stops listening, unless a twin second part of an earlier generation is expected on it. -/
def applyGroup (old : NMap Bytes) (g : Nat) (s : State) : State :=
  let m := s.coh.active
  let s := ((List.range 32).map (32 * g + ·)).foldl (fun s ch =>
    if chanChanged old m ch then
      let s := s.onChan ch fun x =>
        { Chan.reset with shed := x.shed && chanExists m ch, settling := chanExists m ch, listening := x.listening
                          since := x.since, iq := if x.listening then x.iq else Corrections.neutral }
      let s := if secondExpected s ch then s else s.onLink fun l => { l with slotCells := l.slotCells.filter fun c => c.ch != ch }
      if listenDue s ch then s else stopListening ch s
    else s) s
  (if groupEnabled m g then (groupChans m g).foldl (fun s ch => shedChannel ch s) s else s).onRx fun x =>
    { x with shedFrom := govShed s.thermal.step }

/-- A channel's ring is resized when no capture work of an earlier generation remains on it (R207). -/
def changeRing (force : Bool) (ch : Nat) (s : State) : State :=
  let n := ringKb s.coh.active ch
  let old := s.rx.captures.toList.any fun c => c.any fun k => k.ch == ch && k.generation != s.coh.generation
  if (s.ring ch).kb != n && (force || !old) then
    s.onRx fun x => { x with rings := msetD Ring.none x.rings ch (if n = 0 then Ring.none else ⟨n, s.time.fabric, [], []⟩) }
  else s

/-- `EDDY_RING_CHANGE`. -/
def execEddyRingChange (ch : Fin 256) (s : State) : Out := .next (changeRing false ch.val s)

/-- At the end of the boundary slot every ring change takes effect. -/
def forceRings (s : State) : State := (List.range 256).foldl (fun s ch => changeRing true ch s) s

/-- Some ring waits for its change. -/
def ringsSettling (s : State) : Bool :=
  (List.range 256).any fun ch => (s.ring ch).kb != ringKb s.coh.active ch

/-! ### Configuration commands (R198, R199, R237, R238) -/

/-- Checks of a channel entry; AFC_BIAS_HZ lies in its mode's AFC range where MODE names a mode (R198, R199). -/
def chanFields (e : Bytes) : List FieldSpec :=
  let sun := (sunRate (u8 e 6)).isSome
  [⟨4, 1, .range 0 1⟩, ⟨5, 1, .range 0 8⟩, ⟨7, 1, .flags 6⟩, ⟨8, 2, .rangeOr 8 64 0⟩, ⟨10, 2, .rangeOr 12 60 0⟩]
    ++ (match nominalBw (u8 e 6) with
      | some b => [⟨12, 4, .srange (-(afcRange (u8 e 6) b : Int)) (afcRange (u8 e 6) b)⟩]
      | none => [])
    ++ [if sun then ⟨16, 1, .range 8 64⟩ else ⟨16, 1, .range 0 0⟩, ⟨17, 11, .zero⟩]

/-- Checks of the header of `GROUP_PLAN_LOAD`: a body with SET_HEADER clear holds its fields too (DEDUCED, log entry 135). -/
def planFields (b : Bytes) : List FieldSpec :=
  [⟨0, 1, .range 0 2⟩, ⟨1, 1, .range 0 1⟩, ⟨2, 1, .range 0 31⟩, ⟨3, 1, .range 0 32⟩, ⟨4, 1, .range (u8 b 2 + u8 b 3) 32⟩,
    ⟨5, 1, .flags 1⟩, ⟨6, 2, .zero⟩, ⟨8, 2, .range 8 64⟩, ⟨10, 2, .range 16 4096⟩, ⟨12, 2, .srange (-200) 200⟩,
    ⟨14, 1, .range 0 1⟩, ⟨15, 1, .flags 2⟩, ⟨16, 24, .zero⟩]

/-- `GROUP_PLAN_LOAD`: stages the header and a run of channels. -/
def execGroupPlanLoad (buf : Bytes) (s : State) : Out :=
  .next (runKci 0x0201 buf (fun s _ req body =>
    let first := u8 body 2
    let count := u8 body 3
    let total := u8 body 4
    let es := chunks 28 count (body.drop 40)
    match checkFields body (planFields body) with
    | some rc => no rc
    | none =>
      match es.findSome? fun e => checkFields e (chanFields e) with
      | some rc => no rc
      | none =>
        let s := stageRun req.fn 0x0201 1 first es s
        let s := s.onCoh fun c => { c with staged := dropFrom c.staged req.fn 0x0201 1 total }
        ok (if bit (u8 body 5) 0 then s.stage req.fn 0x0201 0 0 (slice body 0 2 ++ zeros 6 ++ slice body 8 8) else s)) s)

/-- `EDDY_CONFIG`. -/
def execEddyConfig (buf : Bytes) (s : State) : Out :=
  .next (runKci 0x0301 buf (stageOne 0x0301 0 0
    ([⟨0, 1, .range 1 2⟩, ⟨1, 1, .flags 1⟩, ⟨2, 2, .zero⟩]
      ++ ((List.range 7).map fun i => (⟨4 + 2 * i, 2, .range 0 2000⟩ : FieldSpec))
      ++ [⟨18, 2, .zero⟩] ++ byteFields 20 8 32 ++ [⟨28, 4, .zero⟩])) s)

/-- `RIFFLE_CONFIG`. -/
def execRiffleConfig (buf : Bytes) (s : State) : Out :=
  .next (runKci 0x0401 buf (stageOne 0x0401 0 0
    (((List.range 4).map fun i => (⟨i, 1, .range 1 24⟩ : FieldSpec))
      ++ [⟨4, 1, .range 1 64⟩, ⟨5, 1, .flags 2⟩, ⟨6, 2, .range 10 10000⟩, ⟨8, 2, .range 0 1024⟩, ⟨10, 6, .zero⟩])) s)

/-! ### Rules and status (R200, R203, R239 to R241) -/

/-- Channel units of a group. -/
def groupUnits (m : NMap Bytes) (g : Nat) : Nat := ((groupChans m g).map fun ch => bwUnits (chanBw m ch)).foldl (· + ·) 0

/-- Rule 2 of R200 for a channel. -/
def chanBwOk (m : NMap Bytes) (ch : Nat) : Bool :=
  chanMonitor m ch ||
    match nominalBw (chanMode m ch) with
    | some b => (chanBw m ch == b || chanBw m ch == b + 1)
        && decide ((afcBias m ch).natAbs ≤ afcRange (chanMode m ch) b)
    | none => false

/-- The rules of R200 for group `g`. -/
def groupRules (m : NMap Bytes) (g : Nat) : Option (Nat × Nat) :=
  let l := groupChans m g
  let peers := (List.range (g + 1)).filter fun k =>
    (k == g || groupEnabled m k) && groupRadio m k == groupRadio m g && groupWindow m k == groupWindow m g
  if !l.all fun ch => if chanMonitor m ch then chanMode m ch == 0 else (nominalBw (chanMode m ch)).isSome then
    some (1, rcAirInterface)
  else if !l.all (chanBwOk m) then some (2, rcModeBandwidth)
  else if 64 < groupUnits m g then some (3, rcGroupUnitsExceeded)
  else if 4 < peers.length then some (4, rcWindowGroups)
  else none

/-- The rule of Eddy (R239). -/
def eddyRules (m : NMap Bytes) : Option (Nat × Nat) :=
  if 64 < ((List.range 8).map (captureReserve m)).foldl (· + ·) 0 then some (1, rcCaptureReserve) else none

/-- STATE of a channel (R203). -/
def chanState (s : State) (ch : Nat) : Nat :=
  let x := s.chan ch
  if !chanExists s.coh.active ch then 0
  else if x.settling then 5
  else if x.shed then 4
  else if !(onChannel s ch).isEmpty then 3
  else if x.listening || (chanMonitor s.coh.active ch && chanReceives s ch) then 2
  else 1

/-- The channel of group `g` that changed is reloading, as a mask. -/
def chanMask (s : State) (g : Nat) (p : Chan → Bool) : Nat :=
  ((indices 32 fun n => p (s.chan (32 * g + n))).map (2 ^ ·)).foldl (· + ·) 0

/-- Status of group `g` (R203). -/
def groupStatus (s : State) (g : Nat) : Bytes :=
  let m := s.coh.active
  let here := s.rx.frames.filter fun x => x.ch / 32 == g
  leBytes 1 (groupRadio m g) ++ leBytes 1 (groupWindow m g) ++ leBytes 1 (groupChans m g).length
    ++ leBytes 1 (groupUnits m g) ++ leBytes 1 (here.countP fun x => inProgress x && x.lane.isNone)
    ++ leBytes 1 s.rx.shedFrom ++ leBytes 2 (here.countP fun x => x.stage == .trellis && x.coded)
    ++ leBytes 4 (chanMask s g (·.dead)) ++ leBytes 4 (chanMask s g (·.settling))
    ++ (List.range 32).flatMap fun n =>
      let x := s.chan (32 * g + n)
      leInt 2 (x.floor.getD (-0x8000)) ++ leInt 2 x.lastRssi ++ leBytes 1 (chanState s (32 * g + n))
        ++ leBytes 1 x.lastLqi ++ leBytes 1 x.lastEvm ++ [0]

/-- A frame is parked, its jobs or its LLRs, or awaits re-demodulation: the frame that displaced it has decoded (R240). -/
def sicPending (s : State) (x : RxFrame) : Bool :=
  match x.parkedBy with
  | none => false
  | some f => !inProgress x || s.rx.captures.toList.any fun c => c.any fun k => k.frame == f && k.phase != .frame

/-- Status of Eddy (R240). -/
def eddyStatus (s : State) : Bytes :=
  let l := s.rx.captures.toList.filterMap id
  leBytes 1 l.length ++ [0] ++ leBytes 2 (s.rx.frames.countP (sicPending s))
    ++ leBytes 4 ((s.rx.rings.map (·.2.kb)).foldl (· + ·) 0)
    ++ (List.range 8).flatMap fun g => leBytes 1 (l.countP fun c => c.ch / 32 == g)

/-- Status of the Riffle pool (R241). -/
def riffleStatus (s : State) : Bytes :=
  ((List.range 4).flatMap fun c => leBytes 2 (queueDepth s.rx.queues[Fin.ofNat 4 c]))
    ++ ((List.range 4).flatMap fun c =>
      leBytes 1 ((List.range 12).countP fun i => (s.rx.engines[Fin.ofNat 48 (12 * c + i)]).job.isSome))
    ++ leBytes 1 (s.rx.engines.toList.countP (·.out)) ++ leBytes 1 (govIter s.thermal.step) ++ zeros 2
    ++ leBytes 4 ((llrStoreBytes - llrUsed s) / 1024) ++ leBytes 4 (releaseHeld s)
    ++ leBytes 4 (s.rx.frames.countP fun x => x.stage == .twinWait) ++ zeros 4

end Sys2Proof.Machine
end

