-- ==== Sys2Proof/Machine/Slots.lean ====
section
/-!
DEFINITION. Slot boundaries, and what commits and resets do to a radio (R29, R83, R84, R129, R147, R196, R262, R270,
R364 to R367, R403, R460, R565, R566, R618).
-/

namespace Sys2Proof.Machine

/-! ### Physical changes of a radio (R147, R460) -/

/-- A frame of an earlier generation is being received or sent on an affected window. -/
def earlierWork (s : State) (r : Fin 3) (c : RadioChange) : Bool :=
  (s.rx.frames.any fun x =>
    inProgress x && x.generation != s.coh.generation && chanRadioFin (s.setOf x.generation) x.ch == r
      && c.affects (chanWindow (s.setOf x.generation) x.ch))
    || s.sluice.launches.any fun x =>
      x.radio == r && (launchLive x || launchTurning x) && x.generation != s.coh.generation && c.affects x.window

/-- A twin second part of an earlier generation is still expected on an affected window. -/
def earlierTwin (s : State) (r : Fin 3) (c : RadioChange) : Bool :=
  s.rx.frames.any fun x =>
    match secondPart s x with
    | some ch => chanRadioFin (s.setOf x.generation) ch == r && c.affects (chanWindow (s.setOf x.generation) ch)
    | none => false

/-- The key of an item has a variant within 10 °C of the present temperature. -/
def calFresh (s : State) (r : Fin 3) (lo chan : Nat) : Bool :=
  match calDelta s.radios.store r.val lo chan (s.radio r).temp with
  | some d => d ≤ 80
  | none => false

/-- Queue the calibration that a start owes: the items of every LO and channel without a variant within 10 °C
(R460). -/
def queueOwed (r : Fin 3) (s : State) : State :=
  let m := s.coh.active
  let s := (activeLos m r.val).foldl (fun s lo =>
    if calFresh s r lo 0 then s else queueCal r ⟨r.val, lo, 0, true⟩ s) s
  (radioChans m r.val).foldl (fun s ch =>
    if calFresh s r (chanLo m ch) (chanCentre m ch) then s
    else queueCal r ⟨r.val, chanLo m ch, chanCentre m ch, true⟩ s) s

/-- The physical change of radio `r` begins, unless a host-commanded calibration holds the radio (R157). -/
def startChange (r : Fin 3) (s : State) : State :=
  match (s.radio r).change with
  | none => s
  | some c =>
    if c.started || (s.radio r).hostCal.isSome then s
    else
      let s := s.onRadio r fun x => { x with change := some { c with started := true } }
      let lo := windowCentre s.coh.active r.val 0
      if c.enabling then
        let s := powerRadio r s
        let s := if (s.radio r).owed then queueOwed r (s.onRadio r fun x => { x with owed := false }) else s
        if (s.radio r).calQueue.isEmpty then settleRadio r (startRetune r lo s) else runOwed r s
      else if rfSampling s.coh.active r.val && !c.modeChanged then completeChange r s
      else settleRadio r (startRetune r lo (powerRadio r s))

/-- `RADIO_CHANGE_START`: nothing of an earlier generation remains on the affected windows. -/
def execRadioChangeStart (r : Fin 3) (s : State) : Out :=
  match (s.radio r).change with
  | none => .next s
  | some c => if earlierWork s r c || earlierTwin s r c then .next s else .next (startChange r s)

/-- Gain of window `w` as configured. -/
def resetGain (r : Fin 3) (w : Fin 2) (s : State) : State :=
  s.onWindow r w fun y => { y with gain := windowGain s.coh.active r.val w.val }

/-- The first slot after a commit starts from the configured gain (R129). -/
def forgetPeaks (r : Fin 3) (s : State) : State :=
  s.onRadio r fun x => { x with windows := x.windows.map fun w => { w with peak := none, fresh := true } }

/-- A radio that a commit disables stops. -/
def disableRadio (r : Fin 3) (s : State) : State :=
  let s := unpowerRadio r (requeueCal r s)
  (s.onRadio r fun x => { x with change := none, calQueue := [] }).onFn (radioFn r) fun f => { f with settling := false }

/-- Radio `r` takes up a commit (R129, R147). -/
def applyRadio (old : NMap Bytes) (r : Fin 3) (s : State) : State :=
  let m := s.coh.active
  let i := r.val
  let was := enabledIn old (radioFn r)
  if !enabledIn m (radioFn r) then (if was then disableRadio r s else s)
  else
    let s := if u8 (radioPart m i) 2 = 1 || !was then resetGain r 1 (resetGain r 0 s) else s
    let mode := was && rfSampling old i != rfSampling m i
    let moved (w : Nat) := windowCentre old i w != windowCentre m i w || windowWidth old i w != windowWidth m i w
    let all := !was || mode || windowCount old i != windowCount m i || (!rfSampling m i && moved 0)
    let w0 := all || moved 0
    let w1 := all || moved 1
    if w0 || w1 then
      let c : RadioChange := match (s.radio r).change with
        | some c => ⟨c.modeChanged || mode, c.enabling || !was, c.win0 || w0, c.win1 || w1, false⟩
        | none => ⟨mode, !was, w0, w1, false⟩
      (s.onRadio r fun x => { x with change := some c }).onFn (radioFn r) fun f => { f with settling := true }
    else s

/-- Reset of radio `r` once its outputs are clamped (R157, R618): reception is lost, calibrations end, and a powered
radio relocks. -/
def resetRadio (r : Fin 3) (s : State) : State :=
  let s := dropReception r s
  let s := match (s.radio r).hostCal with
    | some tag => longDone tag rcDiscardedReset (s.onRadio r fun x => { x with hostCal := none, hostItems := [] })
    | none => s
  let s := freeObs r (requeueCal r s)
  let s := s.onRadio r fun x =>
    { x with synth := .off, lo := 0, forced := false, unlocked := false, blanked := false, rxActive := false
             windows := x.windows.map fun w => { Window.reset with toneAt := w.toneAt } }
  let s := resetGain r 1 (resetGain r 0 s)
  if s.enabled (radioFn r) && (s.radio r).powered then
    let c : RadioChange := match (s.radio r).change with
      | some c => { c with win0 := true, win1 := true, started := true }
      | none => ⟨false, false, true, true, true⟩
    let s := (s.onRadio r fun x => { x with change := some c }).onFn (radioFn r) fun f => { f with settling := true }
    startRetune r (windowCentre s.coh.active r.val 0) s
  else s

/-! ### Starved calibration (R566) -/

/-- `CAL_STARVED_TIMEOUT`: the head item has waited 60 s without an eligible slot; reported once for the item. -/
def execCalStarvedTimeout (r : Fin 3) (s : State) : Out :=
  let x := s.radio r
  match x.calQueue with
  | [] => .next s
  | it :: _ =>
    if x.starved then .next s
    else
      let p := r.val + it.lo / 1000 % 2 ^ 32 * 2 ^ 16 + min x.calQueue.length 0xFFFF * 2 ^ 48
      .next (raiseEvent 201 0x1000 p ((s.onRadio r fun x => { x with starved := true }).count 0x1000 16))

/-! ### The slot that begins (R82 to R84, R364, R365) -/

/-- ASN of the slot that holds the present network time. -/
def slotNow (s : State) : Nat := ceilDiv ((s.netNs + 1) * 32768) (slotTicks s.coh.active * 1000000000) - 1

/-- The slot that begins at the boundary: where a beacon has just realigned the bases, the one whose start is nearest. -/
def boundarySlot (s s1 : State) : Nat :=
  if s.link.realignBy.isSome then
    (s1.netNs * 2 * 32768 + slotTicks s1.coh.active * 1000000000) / (2 * slotTicks s1.coh.active * 1000000000)
  else slotNow s1

/-- The slot time bases take the alignment of network time at a boundary: at slot start they stand at R83's fast tick. -/
def alignBases (s : State) : State :=
  s.onTime fun t => { t with slotBase := Vector.replicate 3 (BitVec.ofNat 64 (s.netNs * 24 / 625)), slotCorr := 0 }

/-- The offset of a beacon is a sample of the source in force, or ends holdover (R354, R367, R368). -/
def beaconApplies (s : State) : Bool :=
  s.time.source == 4
    || ((s.time.state == .holdover || s.time.state == .holdoverExpired)
      && (primarySource s.coh.active == 4 || backupSource s.coh.active == 4))

/-- A parent beacon's offset of `off` fast ticks is applied at the boundary: network time and the slot time bases move by
it (R108, R367, R379).  An offset of half a slot or more leaves the slot in progress without a successor: the bases then
wait for the next boundary of the new alignment.  After a beacon that ended SCAN this is
the second EV_LINK_SYNC_REGAINED (log entry 160). -/
def applyBeacon (off : Int) (ch : Nat) (s : State) : State :=
  let ns := ticksNs off
  let s := switchSource 4 2 (leaveHoldover s)
  let first := s.time.state == .invalid
  let s := moveTime (-ns) s
  let far := decide (slotTicks s.coh.active * 1000000000 ≤ 2 * 32768 * ns.natAbs)
  let s := s.onTime fun t =>
    { t with state := .locked, lastOffset := clampInt (2 ^ 31 - 1) ns, applied := ns.natAbs, errBase := 0, jumpEpisode := false
             slotBase := t.slotBase.map fun b => BitVec.ofInt 64 (b.toNat - off)
             realign := t.realign || far, stepEnd := if far then some s.netNs else t.stepEnd }
  let s := servo ns s
  if first then raiseEvent 160 timeFn s.time.source s
  else
    let s := if off = 0 then s else s.count timeFn 7
    if guardUs s.coh.active * 1000 < ns.natAbs then
      raiseEvent 65 linkFn (unsigned 32 (-off) + ch * 2 ^ 32) s
    else s

/-- The realignment that waits for the boundary. -/
def beaconRealign (s : State) : State :=
  match s.link.realignBy with
  | none => s
  | some (off, ch) =>
    let s := s.onLink fun l => { l with realignBy := none }
    if beaconApplies s then applyBeacon off ch s else s

/-- The role lets an ASN be established: network time is valid, and a relay has its parent's beacon (R84). -/
def asnReady (s : State) : Bool :=
  s.works linkFn && s.timeValid && (!linkRelay s.coh.active || s.link.parentAsn.isSome)

/-- Slot `n` begins: ASN, bases, and whether cells selected before it may transmit (R84, R364). -/
def beginSlot (n : Nat) (s : State) : State :=
  let first := s.time.asn.isNone
  let re := s.time.realign
  let s := if first || re then alignBases s else s
  let s := (s.onTime fun t => { t with asn := some n, realign := false, stepEnd := if re && !first then t.stepEnd else none }).onCoh fun c =>
    { c with slotGen := c.generation }
  if first then
    let s := raiseEvent 68 linkFn (n % 2 ^ 48) s
    [0, 1, 2].foldl (fun s r => activateGate r s) s
  else s

/-- Slot `n` runs, or is idled because its ASN does not exceed ASN_FLOOR (R365). -/
def runOrIdle (n : Nat) (s : State) : Bool × State :=
  if s.time.asnFloor.toNat < n then
    (true, s.onTime fun t => { t with asnFloor := BitVec.ofNat 48 n, idling := false })
  else
    let was := s.time.idling
    let s := (s.onTime fun t => { t with idling := true }).count timeFn 13
    (false, if was then s else raiseEvent 167 timeFn (s.time.asnFloor.toNat + 1) s)

/-! ### What a boundary does -/

/-- The inhibit of a dip that has recovered ends (R270). -/
def endInhibit (s : State) : State :=
  if s.sluice.inhibit && s.sluice.recovered then s.onSluice fun x => { x with inhibit := false, recovered := false } else s

/-- A changed gate list whose activation slot has come replaces the old one, every queue open (R260, R262). -/
def takeOverGates (n : Nat) (s : State) : State :=
  let s := s.onSluice fun x =>
    { x with gates := x.gates.map fun g =>
        match g.activation with
        | some a => if a = n || (g.old.isSome && decide (a ≤ n)) then { g with old := none, openMask := 0xFFFF } else g
        | none => g }
  s.onFn sluiceFn fun f => { f with settling := gateWaits s }

/-- Channels of the classes that the governor sheds stop; the others are restored (R196). -/
def shedChannels (s : State) : State :=
  let m := s.coh.active
  let chans := ((List.range 8).filter (groupEnabled m)).flatMap (groupChans m)
  (chans.foldl (fun s ch => shedChannel ch s) s).onRx fun x => { x with shedFrom := govShed s.thermal.step }

/-- SCAN has taken the channel's lane for a cell that is no parent-beacon cell (R109). -/
def laneTaken (s : State) (ch : Nat) (c : Bytes) : Bool := scanning s ch && cellUse c != 5

/-- A receiving cell of generation `g` on channel `ch` opens; in direct conversion the channel's IQ corrections are looked up and
loaded (R101, R133). -/
def enterCell (g : BitVec 32) (sf idx : Nat) (c : Bytes) (ch n : Nat) (s : State) : State :=
  let m := s.setOf g
  let r := chanRadioFin m ch
  let s := if rfSampling m r.val then s
    else (lookupChan m r ch s).onChan ch fun x => { x with iq := chanCorr s r (chanLo m ch) (chanCentre m ch) }
  let (k, s) := openCellOf g sf idx c ch n s
  s.onLink fun l => { l with slotCells := l.slotCells ++ [k] }

/-- The second cell of a twin frame of an earlier generation opens in its slot under that generation, unless the plan in force
opens the same cell (R147, R201). -/
def enterSecond (n : Nat) (s : State) (x : RxFrame) : State :=
  match secondSlot s x with
  | none => s
  | some (c, ch, a) =>
    let idx := cellTwinIndex c.cell
    if a != n || (cellsFor s ch).any (fun k => k.sf == c.sf && k.idx == idx && k.cell == rxAckCell s x) then s
    else if (s.chan ch).shed then countGroup ch 15 s
    else enterCell x.generation c.sf idx (rxAckCell s x) ch n s

/-- The receiving cells of slot `n` open, and the second cells that earlier generations await: those on shed channels, and
those whose lanes a SCAN has taken, count SHED_CELLS (R101, R109, R196; log entry 45). -/
def openCells (n : Nat) (s : State) : State :=
  let m := s.coh.active
  let cells := (activeCells m n).filter fun c => cellReceives m c.2.2
  let s := s.onLink fun l => { l with slotCells := [] }
  let s := cells.foldl (fun s c =>
    match cellChannel m c.1 c.2.2 n with
    | none => s
    | some ch =>
      if !chanUsable m ch then s
      else if (s.chan ch).shed || laneTaken s ch c.2.2 then countGroup ch 15 s
      else enterCell s.coh.generation c.1 c.2.1 c.2.2 ch n s) s
  s.rx.frames.foldl (enterSecond n) s

/-- The windows of the radios, in the order of the operand of `SLOT_BOUNDARY`. -/
def allWindows : List (Fin 3 × Fin 2) := [(0, 0), (0, 1), (1, 0), (1, 1), (2, 0), (2, 1)]

/-- The slot that ends gives each window with a receiving cell its peak (R129). -/
def takePeaks (peaks : List Int) (s : State) : State :=
  (allWindows.zip peaks).foldl (fun s e =>
    if windowHasCell s e.1.1 e.1.2.val then s.onWindow e.1.1 e.1.2 fun y => { y with peak := some e.2 } else s) s

/-- The AGC slot step of a window in AUTO: the largest gain of the mode's steps that keeps the peak at AGC_TARGET or
below (log entry 41). -/
def slotStep (s : State) (e : Fin 3 × Fin 2) : State :=
  let r := e.1
  let w := e.2
  let m := s.coh.active
  let b := radioPart m r.val
  if u8 b 2 == 0 && windowHasCell s r w.val then
    let x := (s.radio r).windows[w]
    let s := s.onWindow r w fun y => { y with fresh := false }
    let g := match if x.fresh then none else x.peak with
      | none => windowGain m r.val w.val
      | some p =>
        let g := (max 0 (min (maxGain m r.val : Int) (signed 8 (u8 b 22) - p))).toNat
        if rfSampling m r.val then g else g / 2 * 2
    if g = x.gain then s else countRadio r 10 (s.onWindow r w fun y => { y with gain := g })
  else s

/-- Entries in use whose CAL_TIME is more than 7 days old are queued (R566). -/
def queueAged (s : State) : State :=
  let now := s.time.spring.toNat / 32768
  (s.radios.store.filter fun e => decide (e.2.time.toNat + 604800 < now) && keyInUse s.coh.active e.2
      && decide (e.2.synth.toNat < 3)).foldl (fun s e =>
    let r : Fin 3 := Fin.ofNat 3 e.2.synth.toNat
    queueCal r ⟨e.2.synth.toNat, e.2.lo.toNat, e.2.chan.toNat, true⟩ s) s

/-- Longest duration of a calibration item, µs (R152). -/
def itemUs (it : CalItem) : Nat := if it.chan != 0 then 100 else if it.full then 1500 else 250

/-- An item that starts with slot `n` ends before radio `r` is next needed: before the retune, at the worst 276 µs ahead, of a
LAUNCH entry of the slot, and before the next listening interval of its channels (R152, R154). -/
def itemFits (n : Nat) (s : State) (r : Fin 3) (it : CalItem) : Bool :=
  let m := s.coh.active
  let us := itemUs it
  let launch := match gateInForce s r n with
    | some (h, es) => es.any fun e => u8 e 8 == 1 && gateSlot h n == u32 e 0 && decide (u32 e 4 < us + 276)
    | none => false
  !launch && !((radioChans m r.val).any fun ch => (listenSpans s ch).any fun e =>
    decide (e.1 < s.netNs + us * 1000) && decide (s.netNs < e.2))

/-- Radio `r` has a slot without cells, launches or a scan, and has not had 20 items this second (R565, R566). -/
def calEligible (n : Nat) (s : State) (r : Fin 3) : Bool :=
  let m := s.coh.active
  let x := s.radio r
  s.works (radioFn r) && s.power.phase == .awake && x.change.isNone && (x.synth == .locked || x.synth == .off)
    && !radioHasCell m r n && !(s.sluice.launches.any fun y => y.radio == r)
    && x.calQueue.head?.any (itemFits n s r) && !((scanChannels m).any fun ch => scanning s ch && chanRadioFin m ch == r)
    && !(x.calSecond == s.time.spring.toNat / 32768 && decide (20 ≤ x.calCount))

/-- The radios without a cell in slot `n` start one item each. -/
def startCals (n : Nat) (s : State) : State :=
  let now := s.time.spring.toNat / 32768
  ([0, 1, 2] : List (Fin 3)).foldl (fun s r =>
    if calEligible n s r && (s.radio r).bgCal.isNone && !(s.radio r).calQueue.isEmpty then
      let s := s.onRadio r fun x =>
        { x with calCount := if x.calSecond = now then x.calCount + 1 else 1, calSecond := now }
      startBackground r s
    else s) s

/-- A frame of an earlier generation that a changed channel still holds at the end of the boundary slot is dropped without a
record, unless it is an expected twin second part (R201; DESIGN CHOICE, log entry 134). -/
def dropChanged (s : State) : State :=
  (s.rx.frames.filter fun x => inProgress x && x.generation != s.coh.generation
    && chanChanged (s.setOf x.generation) s.coh.active x.ch && !secondExpected s x.ch).foldl (fun s x => discardEarly x s) s

/-- The boundary slot of the last commit has ended: physical changes that still wait begin, except where a twin second
part is due (R147, R201, R207). -/
def endBoundarySlot (n : Nat) (s : State) : State :=
  if s.coh.lastSlot = some n then s
  else
    ([0, 1, 2] : List (Fin 3)).foldl (fun s r =>
      match (s.radio r).change with
      | some c => if earlierTwin s r c then s else startChange r s
      | none => s) (forceRings (dropChanged s))

/-- The slot time bases are compared with network time at a boundary; one that differs by more than 2 fast ticks is reported
(R351). -/
def checkBases (s : State) : State :=
  if s.time.asn.isNone || s.time.realign then s
  else
    (List.finRange 3).foldl (fun s r =>
      if absInt ((s.time.slotBase[r].toNat : Int) - ((s.netNs * 24 / 625 : Nat) : Int)) ≤ 2 then s
      else raiseSource 107 timeFn r.val s) s

/-- `SLOT_BOUNDARY`: a slot begins on the slot time bases.  `peaks` holds the peak RMS window powers of the slot that
ends, dBFS at 0 dB gain, of windows A0, A1, B0, B1, C0 and C1. -/
def execSlotBoundary (peaks : List Int) (s : State) : Out :=
  let s1 := checkBases (takePeaks peaks (beaconRealign s))
  let n := boundarySlot s s1
  if !asnReady s1 || s.power.phase != .awake then .next s
  else if s.time.asn.isSome && s1.time.realign && !s.time.realign then .next (s1.onLink fun l => { l with slotCells := [] })
  else if !s1.time.realign && s1.time.asn == some n then .next s
  else
    let s := takeOverGates n (endInhibit (beginSlot n s1))
    let s := queueAged (shedChannels (endBoundarySlot n s))
    let (runs, s) := runOrIdle n s
    if runs then .next (startCals n (allWindows.foldl slotStep (openCells n s)))
    else .next (s.onLink fun l => { l with slotCells := [] })

end Sys2Proof.Machine
end

