-- ==== Sys2Proof/Machine/Thermal.lean ====
section
/-!
DEFINITION. Thermal sensors, governor, telemetry and lifetime stress (chapter 18).  Temperatures are in 0.125 °C.
-/

namespace Sys2Proof.Machine

def supplyFn : Nat := 0x1000

/-- Sensor `n` is valid (R568). -/
def sensorValid (t : Thermal) (n : Nat) : Bool := !t.invalid.getLsbD n

/-- Reading of sensor `n`. -/
def reading (t : Thermal) (n : Nat) : Int := t.readings.toList.getD n 0

/-- The sensors of the region of sensor `n`. -/
def regionOf (n : Nat) : List Nat := if n < 3 then [0, 1, 2] else [3, 4, 5, 6, 7]

/-- Insert into a rising list. -/
def insertInt (x : Int) : List Int → List Int
  | [] => [x]
  | y :: ys => if x ≤ y then x :: y :: ys else y :: insertInt x ys

/-- Median of a list; of an even number of values the mean of the middle two (log entry 47). -/
def median (l : List Int) : Int :=
  let s := l.foldl (fun a x => insertInt x a) []
  let n := s.length
  if n % 2 = 1 then s.getD (n / 2) 0 else (s.getD (n / 2 - 1) 0 + s.getD (n / 2) 0) / 2

/-- Largest element, or `d` for an empty list. -/
def maxInt (d : Int) : List Int → Int
  | [] => d
  | x :: xs => xs.foldl max x

/-- Readings of the valid sensors among a list of sensors. -/
def validReadings (t : Thermal) (l : List Nat) : List Int := (l.filter (sensorValid t)).map (reading t)

/-- Tj: the highest reading of the valid sensors. -/
def tj (t : Thermal) : Int := maxInt (maxInt 0 t.readings.toList) (validReadings t (List.range 8))

/-- Die temperature difference (R569). -/
def gradient (t : Thermal) : Int :=
  let l := validReadings t (List.range 8)
  tj t - l.foldl min (tj t)

/-- Reading that stands for an invalid sensor. -/
def substitute (t : Thermal) (n : Nat) : Int :=
  let l := validReadings t (regionOf n)
  if l.isEmpty then tj t + 80 else median l

/-- A sensor fails when it differs by more than 10 °C from the median of its region, or fails its self-check. -/
def sensorFails (t : Thermal) (bad : BitVec 8) (n : Nat) : Bool :=
  sensorValid t n && (bad.getLsbD n || decide (80 < (reading t n - median (validReadings t (regionOf n))).natAbs))

/-- The governor's step and the reason to change it (R571). -/
def governorMove (s : State) (x : Int) : Option Bool :=
  let t := s.thermal
  let since (ms : Nat) : Bool := match t.changeMs with
    | none => true
    | some a => ms ≤ a
  let cool := match t.coolMs with
    | none => false
    | some a => decide (1000 ≤ a)
  if t.step < 6 && ((decide (840 ≤ x) && since 10000) || (decide (920 ≤ x) && since 100)) then some true
  else if t.step != 0 && cool && since 1000 then some false
  else none

/-- Seconds since the governor's previous change, saturating; without one, the largest value. -/
def sinceChange (s : State) : Nat :=
  match s.thermal.changeMs with
  | none => 0xFFFF
  | some a => min 0xFFFF (a / 1000)

/-- The governor acts on one sample; a sample stands for 10 ms (R568). -/
def governorStep (x : Int) (s : State) : State :=
  let s := s.onThermal fun t =>
    { t with changeMs := t.changeMs.map (· + 10)
             coolMs := if x ≤ 800 then some ((t.coolMs.map (· + 10)).getD 0) else none }
  match governorMove s x with
  | none => s
  | some up =>
    let old := s.thermal.step
    let new := if up then old + 1 else old - 1
    let p := new + 8 * flag up + unsigned 16 x * 2 ^ 16 + sinceChange s * 2 ^ 32
    let s := (s.onThermal fun t => { t with step := new, changeMs := some 0 }).count supplyFn (if up then 11 else 12)
    let s := raiseEvent 200 supplyFn p s
    if up && old == 0 then raiseSource 188 supplyFn p s else s

/-! ### Lifetime stress (R574, R575) -/

/-- The band of a temperature. -/
def stressBand (x : Int) : Fin 8 :=
  if x < 0 then 0 else if x < 480 then 1 else if x < 680 then 2 else if x < 800 then 3 else if x < 840 then 4
  else if x < 880 then 5 else if x < 1000 then 6 else 7

/-- Acceleration factors in thousandths. -/
def accelFactors : List Nat := [1, 180, 1000, 2490, 3320, 4390, 9760, 10000]

/-- LIFE_USED_PPM, saturating. -/
def lifePpm (t : Thermal) : Nat :=
  min 0xFFFFFFFF ((List.zipWith (· * ·) t.bandMs.toList accelFactors).foldl (· + ·) 0 / 946728000)

/-- ABOVE_100_S. -/
def above100 (t : Thermal) : Nat := ((t.bandMs.toList.drop 4).foldl (· + ·) 0) / 1000

/-- Add `ms` to the band of temperature `x`. -/
def addStress (x : Int) (ms : Nat) (s : State) : State :=
  s.onThermal fun t => { t with bandMs := t.bandMs.set (stressBand x) (t.bandMs[stressBand x] + ms) }

/-- Write a stress record to the NOR flash. -/
def storeStress (s : State) : State := s.onThermal fun t => { t with stored := some t.bandMs, records := t.records + 1 }

/-- Lifetime limits reached. -/
def lifeLimits (t : Thermal) : Nat := flag (decide (1000000 ≤ lifePpm t)) + flag (decide (18934560 ≤ above100 t))

/-- LIFE_STRESS is due: a limit has been reached since it was raised last, or 30 days have passed after it. -/
def lifeDue (s : State) : Bool :=
  let t := s.thermal
  t.lifeLimits < lifeLimits t || (t.lifeLimits != 0 && decide (30 * 86400 * 32768 ≤ (s.time.spring - t.lifeAt).toNat))

/-! ### Rows -/

/-- `THERMAL_SAMPLE`: `readings` of the eight sensors; `bad` marks the sensors that fail their self-check. -/
def execThermalSample (readings : List Int) (bad : BitVec 8) (s : State) : Out :=
  if s.power.state = .hibernate || s.power.state = .off then .next s
  else
    let before := s.thermal
    let raw : Thermal := { before with readings := Vector.ofFn fun n => readings.getD n.val 0 }
    let failed := (List.range 8).filter (sensorFails raw bad)
    let inv := failed.foldl (fun v n => v ||| BitVec.ofNat 8 (2 ^ n)) raw.invalid
    let t := { raw with invalid := inv }
    let t := { t with readings := Vector.ofFn fun n => if sensorValid t n.val then reading t n.val else substitute t n.val }
    let x := tj t
    let t := { t with span := { t.span with tjMax := some (max x (t.span.tjMax.getD x)), tjMin := some (min x (t.span.tjMin.getD x)) } }
    let s := s.onThermal fun _ => t
    let s := ([0, 1, 2] : List (Fin 3)).foldl (fun s r => s.onRadio r fun y => { y with temp := reading t r.val }) s
    let s := failed.foldl (fun s n => raiseSource (180 + n) supplyFn (unsigned 16 (reading raw n)) (s.count supplyFn 14)) s
    let s := addStress x 10 s
    let s := governorStep x s
    let s := if s.thermal.step = 0 then s else s.countN supplyFn 13 10
    let s := if 200 < gradient t && gradient before ≤ 200 then raiseSource 189 supplyFn (unsigned 16 (gradient t)) s else s
    .next (if 1000 ≤ x && tj before < 1000 then raiseSource 190 supplyFn (unsigned 16 x) s else s)

/-- Whole °C of a reading, held to one signed byte. -/
def wholeC (x : Int) : Int := clampInt 127 (x / 8)

/-- The telemetry record of the span that ends now; its fold counts saturate (R9), and POWER_EST_10MW is a free value
(log entry 48). -/
def telemetryRecord (s : State) (power : Nat) : Bytes :=
  let t := s.thermal
  let p := t.span
  let secs := p.seconds + 1
  leBytes 8 s.time.spring.toNat ++ leBytes 4 s.coh.generation.toNat ++ leInt 2 (p.tjMax.getD (tj t))
    ++ leInt 2 (p.tjMin.getD (tj t)) ++ (List.range 8).flatMap (fun n => leInt 1 (wholeC (reading t n)))
    ++ leBytes 1 t.step
    ++ leBytes 1 (flag p.dip + 2 * flag (holdoverFlag s) + 4 * flag s.safety.safeState + 8 * flag s.timeValid)
    ++ leBytes 2 (s.supply.rails[0]).target ++ leBytes 2 ((p.dipMin.map (·.1)).getD 0) ++ leBytes 1 ((p.dipMin.map (·.2)).getD 0xFF)
    ++ leBytes 1 s.supply.opp ++ ([p.framesOk, p.framesFailed, p.airUs, p.dozeUs].flatMap fun v => leBytes 4 (foldSat 32 v))
    ++ leBytes 2 (p.busyCycles * 1000 / (48 * 600000000 * secs)) ++ leBytes 2 (foldSat 16 p.faults) ++ leBytes 4 (errBound s)
    ++ leBytes 4 (lifePpm t) ++ leBytes 2 power ++ leBytes 2 (foldSat 16 secs)

/-- `TELEMETRY_RECORD`: at a Spring count that is a multiple of 32,768, and not in a second that ends in DOZE. -/
def execTelemetryRecord (s : State) : Out :=
  if s.asleep || s.time.spring.toNat % 32768 != 0 then .next s
  else
    let (v, s) := s.free
    let rec_ := telemetryRecord s v
    let dip := s.supply.dip.isSome
    .next ((s.onThermal fun t =>
      { t with ring := (mset t.ring t.seq rec_).filter fun e => decide (t.seq < e.1 + 131072)
               seq := t.seq + 1, span := { TelSpan.reset with dip := dip } }).count supplyFn 15)

/-- `STRESS_RECORD`. -/
def execStressRecord (s : State) : Out := .next (if hibernating s then s else storeStress s)

/-- `LIFE_STRESS`: the 30 days are counted in Spring ticks (log entry 102). -/
def execLifeStress (s : State) : Out :=
  if lifeDue s then
    .next (raiseSource 191 supplyFn (lifePpm s.thermal) (s.onThermal fun t =>
      { t with lifeLimits := lifeLimits t, lifeAt := s.time.spring }))
  else .next s

/-- `TELEMETRY_READ` (R576). -/
def execTelemetryRead (buf : Bytes) (s : State) : Out :=
  .next (runKci 0x1007 buf (fun s _ req body =>
    let start := u64 body 0
    let count := u16 body 8
    match checkFields body [⟨8, 2, .range 1 (if req.indirect then 131072 else 63)⟩, ⟨10, 6, .zero⟩] with
    | some rc => no rc
    | none =>
      .done s rcOk 0 (leBytes 8 s.thermal.seq ++ zeros 8)
        ((List.range count).flatMap fun i => (mget s.thermal.ring (start + i)).getD (zeros 64))) s)

/-- `STRESS_READ` (R576). -/
def execStressRead (buf : Bytes) (s : State) : Out :=
  .next (runKci 0x1008 buf (fun s _ _ _ =>
    .done s rcOk 0 [] (s.thermal.bandMs.toList.flatMap (fun v => leBytes 8 (v / 1000)) ++ leBytes 4 (lifePpm s.thermal)
      ++ leBytes 4 (foldSat 32 (above100 s.thermal)) ++ leBytes 8 s.thermal.records)) s)

/-- The thermal part of the status of 0x1000 (R577). -/
def thermalStatus (s : State) : Bytes :=
  let t := s.thermal
  t.readings.toList.flatMap (leInt 2) ++ leInt 2 (tj t) ++ leBytes 1 t.step ++ leBytes 1 (255 - t.invalid.toNat)
    ++ leBytes 4 (lifePpm t) ++ leBytes 4 (foldSat 32 (above100 t)) ++ zeros 4

end Sys2Proof.Machine
end

