-- ==== Sys2Proof/Machine/Timers.lean ====
section
/-!
DEFINITION. The general timer units: counting, comparators, waveform outputs, registers and commands (chapter 11).
-/

namespace Sys2Proof.Machine

def timerFn (t : Fin 16) : Nat := 0x0C10 + t.val

/-! ### Configuration (R394) -/

/-- What the counting rules read of a unit's configuration. -/
structure TimerCfg where
  updown : Bool
  oneCycle : Bool
  /-- OUT0_ACTIONS and OUT1_ACTIONS. -/
  act0 : Nat
  act1 : Nat
  idle : BitVec 2

def timerPart (m : NMap Bytes) (t : Fin 16) : Bytes := part m (timerFn t) 0x0C01 0 0
def timerSource (b : Bytes) : Nat := u8 b 2
def timerPrescale (b : Bytes) : Nat := u32 b 4
def timerInit (b : Bytes) : Nat := u32 b 8
def timerSleepComp (b : Bytes) : Bool := bit (u8 b 12) 0

def timerCfg (b : Bytes) : TimerCfg where
  updown := bit (u8 b 3) 0
  oneCycle := bit (u8 b 3) 1
  act0 := u8 b 17
  act1 := u8 b 19
  idle := BitVec.ofNat 2 (u8 b 20)

/-! ### Outputs (R388) -/

/-- A level after an action: 0 none, 1 set, 2 clear, 3 toggle. -/
def outAction (a : Nat) (level : Bool) : Bool :=
  if a = 1 then true else if a = 2 then false else if a = 3 then !level else level

/-- What a tick is for output `x`: a match, a zero turning point, a top. -/
structure TickKind where
  zero : Bool
  top : Bool
  /-- The tick moved COUNT down. -/
  down : Bool

/-- Action of a tick for an output with actions `acts`: a match takes the place of a turning point. -/
def tickAction (acts : Nat) (matched : Bool) (k : TickKind) : Nat :=
  if matched then (if k.down then bits acts 3 2 else bits acts 1 0)
  else if k.zero then bits acts 5 4
  else if k.top then bits acts 7 6
  else 0

/-- The outputs after a tick that left COUNT at `c`. -/
def driveOutputs (cfg : TimerCfg) (u : Timer) (c : Nat) (k : TickKind) : BitVec 2 :=
  let lvl (x : Fin 2) (acts : Nat) : Bool :=
    outAction (tickAction acts (decide (u.wcmp[x].toNat = c) && decide (c ≤ u.period)) k) (u.out.getLsbD x.val)
  BitVec.ofNat 2 (flag (lvl 0 cfg.act0) + 2 * flag (lvl 1 cfg.act1))

/-! ### Counting (R384, R385, R389) -/

/-- Bits of TMR_STATUS set in addition. -/
def setStatus (v : Nat) (u : Timer) : Timer := { u with status := u.status ||| BitVec.ofNat 13 v }

/-- Shadowed writes take effect at a zero turning point. -/
def applyShadows (u : Timer) : Timer :=
  { u with
    period := u.periodShadow.getD u.period
    periodShadow := none
    wcmp := Vector.ofFn fun x : Fin 2 => (u.wcmpShadow[x]).getD u.wcmp[x]
    wcmpShadow := Vector.replicate 2 none }

/-- COUNT and direction after one tick, and what kind of tick it is. -/
def nextCount (cfg : TimerCfg) (u : Timer) : Nat × Bool × TickKind :=
  if cfg.updown then
    if u.down then
      let c := u.count - 1
      (c, decide (c ≠ 0), ⟨decide (c = 0), false, true⟩)
    else if u.period ≤ u.count then (u.count - 1, decide (u.count - 1 ≠ 0), ⟨decide (u.count - 1 = 0), true, true⟩)
    else
      let c := u.count + 1
      (c, decide (c = u.period), ⟨false, decide (c = u.period), false⟩)
  else if u.period ≤ u.count then (0, false, ⟨true, false, false⟩)
  else (u.count + 1, false, ⟨false, decide (u.count + 1 = u.period), false⟩)

/-- One prescaled tick of a running unit, without its comparators. -/
def tickCount (cfg : TimerCfg) (u : Timer) : Timer :=
  let (c, d, k) := nextCount cfg u
  let u := { u with ticks := u.ticks + 1, count := c, down := d }
  let u := if k.zero then applyShadows u else u
  let u := { u with out := driveOutputs cfg u c k }
  let u := setStatus (256 * flag k.zero + 512 * flag k.top) u
  if k.zero && cfg.oneCycle then setStatus 1024 { u with run := false, out := cfg.idle } else u

/-! ### Comparators (R386, R387) -/

/-- The low half of TICKS, to which comparators refer. -/
def timerT (u : Timer) : BitVec 32 := u.ticks.setWidth 32

/-- Zero up to half the range behind. -/
def cmpDue (t c : BitVec 32) : Bool := decide ((t - c).toNat < 2 ^ 31)

/-- Comparator `n` fires: FIRED is set; a one-shot is disarmed, a stepping one moves past T, counting in MISSED the
values already passed when `miss` is set. -/
def fireCmp (n : Fin 4) (miss : Bool) (u : Timer) : Timer :=
  let d := (timerT u - u.cmp[n]).toNat
  let st := u.step[n].toNat
  let u := setStatus (2 ^ n.val) u
  if st = 0 then { u with armed := u.armed &&& ~~~(BitVec.ofNat 4 (2 ^ n.val)) }
  else
    { u with
      cmp := u.cmp.set n (u.cmp[n] + BitVec.ofNat 32 ((d / st + 1) * st))
      missed := if miss then u.missed.set n (BitVec.ofNat 32 (min 0xFFFFFFFF (u.missed[n].toNat + d / st))) else u.missed }

/-- Evaluate comparator `n`. -/
def evalCmp (n : Fin 4) (miss : Bool) (u : Timer) : Timer :=
  if u.armed.getLsbD n.val && !u.status.getLsbD 12 && cmpDue (timerT u) u.cmp[n] then fireCmp n miss u else u

/-- Evaluate every armed comparator. -/
def evalCmps (miss : Bool) (u : Timer) : Timer := (List.finRange 4).foldl (fun u n => evalCmp n miss u) u

/-! ### Changing a unit (R393) -/

/-- Largest MISSED among the comparators that FIRED names. -/
def maxMissed (u : Timer) : Nat :=
  (List.finRange 4).foldl (fun a n => if u.status.getLsbD n.val then max a u.missed[n].toNat else a) 0

/-- The prescaler phase of a unit holds at this instant. -/
def stampPhase (s : State) (u : Timer) : Timer := { u with phaseFabric := s.time.fabric, phaseSpring := s.time.spring }

/-- Change unit `t`, whose prescaler starts with RUN; status bits that set and that IRQ_MASK names raise `EV_TIMER` or the scheduler's source. -/
def changeTimer (t : Fin 16) (f : Timer → Timer) (s : State) : State :=
  let u := s.timers[t]
  let v := f u
  let v := if v.run && !u.run then stampPhase s v else v
  let s := s.onTimer t fun _ => v
  let b := timerPart s.coh.active t
  let rose := (v.status &&& ~~~u.status).toNat
  if rose % 4096 &&& u16 b 14 ≠ 0 then
    if u8 b 0 = 0 then raiseEvent (176 + t.val) (timerFn t) (v.status.toNat + maxMissed v * 2 ^ 32) s
    else raiseSched t.val s
  else s

/-- Units run in RUN and SLOT_IDLE (R383). -/
def timersRun (s : State) : Bool := s.power.state == .run || s.power.state == .slotIdle

/-- A debugger halts a core of FREEZE_MASK of unit `t` (R390). -/
def freezeAsked (s : State) (t : Fin 16) : Bool :=
  let b := timerPart s.coh.active t
  bit (u8 b 12) 1 && (List.finRange 8).any fun c => bit (u8 b 13) c.val && (s.core c).debugHalt

/-- Units that are frozen and that no halted core keeps frozen resume; a due comparator fires once (R390). -/
def releaseTimer (s : State) (t : Fin 16) : State :=
  if s.timers[t].status.getLsbD 12 && !freezeAsked s t then
    changeTimer t (fun u => evalCmps false { u with status := u.status &&& 0x0FFF }) s
  else s

/-- `TIMER_TICK`, a prescaled tick: a unit that is to freeze freezes at this tick boundary. -/
def execTimerTick (t : Fin 16) (s : State) : Out :=
  let u := s.timers[t]
  let b := timerPart s.coh.active t
  if s.works (timerFn t) && u.run && timersRun s && (timerSource b != 3 || s.time.asn.isSome) then
    if freezeAsked s t then .next (s.onTimer t (setStatus 4096))
    else if u.status.getLsbD 12 then .next s
    else .next (changeTimer t (fun u => evalCmps true (tickCount (timerCfg b) (stampPhase s { u with phase := 0 }))) s)
  else .next s

/-- `DEBUG_HALT_FREEZE`: a debugger halts core `c`; the units that name it freeze at their next tick boundary. -/
def execDebugHaltFreeze (c : Fin 8) (s : State) : Out := .next (s.onCore c fun x => { x with debugHalt := true })

/-- `DEBUG_HALT_RELEASE`: frozen units that no halted core keeps frozen resume; a due comparator fires once. -/
def execDebugHaltRelease (c : Fin 8) (s : State) : Out :=
  let s := s.onCore c fun x => { x with debugHalt := false }
  .next ((List.finRange 16).foldl releaseTimer s)

/-! ### Registers (R389, R392) -/

/-- The owner of unit `t` makes the access. -/
def timerOwner (s : State) (by_ : BusMaster) (t : Fin 16) : Bool :=
  let b := timerPart s.coh.active t
  match by_ with
  | .host => u8 b 0 == 0
  | .core c => u8 b 0 == 1 && bit (u8 b 1) c.val
  | _ => false

/-- A write of TMR_CTRL. -/
def writeCtrl (cfg : TimerCfg) (v : Nat) (u : Timer) : Timer :=
  let u := if bit v 1 then { u with count := 0, down := false } else u
  let run := bit v 0
  { u with run := run, out := if run && u.run then u.out else cfg.idle }

/-- A write of TMR_PERIOD with IMMEDIATE set; the outputs of a stopped unit rest at IDLE_LEVELS (R388). -/
def writePeriodNow (cfg : TimerCfg) (p : Nat) (u : Timer) : Timer :=
  let u := { u with periodWritten := p, periodShadow := none }
  if cfg.updown && !u.down && decide (p < u.count) then
    let u := setStatus (512 + 2048) { u with period := p, down := true }
    if !u.run then u
    else { u with out := BitVec.ofNat 2 (flag (outAction (bits cfg.act0 7 6) (u.out.getLsbD 0))
        + 2 * flag (outAction (bits cfg.act1 7 6) (u.out.getLsbD 1))) }
  else if !cfg.updown && decide (p < u.count) then setStatus 2048 { u with period := p }
  else { u with period := p }

/-- A write of TMR_PERIOD; a period of 0 lies outside the range and is discarded (DEDUCED, log entry 8). -/
def writePeriod (cfg : TimerCfg) (v : Nat) (u : Timer) : Timer :=
  let p := v % 2 ^ 31
  if p = 0 then u
  else if bit v 31 then writePeriodNow cfg p u
  else { u with periodWritten := p, periodShadow := some p }

/-- A write of TMR_CMPn: the comparator is armed with the value when the write takes effect (R386). -/
def writeCmp (n : Fin 4) (v : BitVec 32) (u : Timer) : Timer := { u with cmpNew := u.cmpNew.set n (u.cmpNew[n] ++ [v]) }

/-- A write of TMR_CMP_EN: a 0 disarms, a compare write that has yet to take effect as well (DEDUCED, log entry 143). -/
def writeCmpEn (v : Nat) (u : Timer) : Timer :=
  { u with
    armed := u.armed &&& BitVec.ofNat 4 v
    cmpNew := Vector.ofFn fun n : Fin 4 => if bit v n.val then u.cmpNew[n] else [] }

/-- A write of TMR_STATUS: ones clear; FROZEN is read-only. -/
def writeStatus (v : Nat) (u : Timer) : Timer :=
  { u with status := u.status &&& ~~~(BitVec.ofNat 13 (v % 4096)) }

/-- A write of the register at `off`. -/
def timerWrite (cfg : TimerCfg) (off : Nat) (v : BitVec 32) (u : Timer) : Timer :=
  if off = 0x00 then writeCtrl cfg v.toNat u
  else if off = 0x04 then writePeriod cfg v.toNat u
  else if off = 0x18 then writeStatus v.toNat u
  else if off = 0x1C then writeCmpEn v.toNat u
  else if 0x20 ≤ off && off < 0x30 then writeCmp (Fin.ofNat 4 ((off - 0x20) / 4)) v u
  else if 0x30 ≤ off && off < 0x40 then { u with step := u.step.set (Fin.ofNat 4 ((off - 0x30) / 4)) (v.setWidth 31) }
  else if 0x50 ≤ off && off < 0x58 then
    { u with wcmpShadow := u.wcmpShadow.set (Fin.ofNat 2 ((off - 0x50) / 4)) (some (v.setWidth 31)) }
  else u

/-- The value of the register at `off`. -/
def timerRead (off : Nat) (u : Timer) : Nat :=
  if off = 0x00 then flag u.run
  else if off = 0x04 then u.periodWritten
  else if off = 0x08 then u.period
  else if off = 0x0C then u.count + 2 ^ 31 * flag u.down
  else if off = 0x10 then (timerT u).toNat
  else if off = 0x14 then u.ticksHi.toNat
  else if off = 0x18 then u.status.toNat
  else if off = 0x1C then u.armed.toNat
  else if 0x20 ≤ off && off < 0x30 then
    let n := Fin.ofNat 4 ((off - 0x20) / 4)
    ((u.cmpNew[n]).getLast?.getD u.cmp[n]).toNat
  else if 0x30 ≤ off && off < 0x40 then (u.step[Fin.ofNat 4 ((off - 0x30) / 4)]).toNat
  else if 0x40 ≤ off && off < 0x50 then (u.missed[Fin.ofNat 4 ((off - 0x40) / 4)]).toNat
  else if 0x50 ≤ off && off < 0x58 then
    let x := Fin.ofNat 2 ((off - 0x50) / 4)
    ((u.wcmpShadow[x]).getD u.wcmp[x]).toNat
  else 0

/-- What a read of the register at `off` changes: TMR_TICK_LO latches, TMR_MISSEDn clears. -/
def timerReadEffect (off : Nat) (u : Timer) : Timer :=
  if off = 0x10 then { u with ticksHi := BitVec.ofNat 32 (u.ticks.toNat / 2 ^ 32) }
  else if 0x40 ≤ off && off < 0x50 then { u with missed := u.missed.set (Fin.ofNat 4 ((off - 0x40) / 4)) 0 }
  else u

/-- A write by `by_`: by the owner it takes place; by another master it is discarded and raises TIMER_ACCESS. -/
def timerWriteBy (by_ : BusMaster) (t : Fin 16) (off : Nat) (v : BitVec 32) (s : State) : State :=
  if coreOff s by_ || !s.works (timerFn t) then s
  else if timerOwner s by_ t then changeTimer t (timerWrite (timerCfg (timerPart s.coh.active t)) off v) s
  else raiseSource 103 (timerFn t) t.val s

/-- A read by `by_`, its value left in `readOut`. -/
def timerReadBy (by_ : BusMaster) (t : Fin 16) (off : Nat) (s : State) : State :=
  if coreOff s by_ then s
  else if !s.works (timerFn t) then s.onKci fun k => { k with readOut := 0 }
  else if timerOwner s by_ t then
    (s.onKci fun k => { k with readOut := timerRead off s.timers[t] }).onTimer t (timerReadEffect off)
  else raiseSource 103 (timerFn t) t.val (s.onKci fun k => { k with readOut := 0 })

/-- `TMR_CTRL_RUN`: a write of TMR_CTRL with CLEAR 0. -/
def execTmrCtrlRun (by_ : BusMaster) (t : Fin 16) (run : Bool) (s : State) : Out :=
  .next (timerWriteBy by_ t 0x00 (BitVec.ofNat 32 (flag run)) s)

/-- `TMR_CTRL_CLEAR`: a write of TMR_CTRL with CLEAR 1. -/
def execTmrCtrlClear (by_ : BusMaster) (t : Fin 16) (run : Bool) (s : State) : Out :=
  .next (timerWriteBy by_ t 0x00 (BitVec.ofNat 32 (flag run + 2)) s)

/-- `TMR_PERIOD_SHADOW`. -/
def execTmrPeriodShadow (by_ : BusMaster) (t : Fin 16) (period : BitVec 31) (s : State) : Out :=
  .next (timerWriteBy by_ t 0x04 (period.setWidth 32) s)

/-- `TMR_PERIOD_IMMEDIATE`. -/
def execTmrPeriodImmediate (by_ : BusMaster) (t : Fin 16) (period : BitVec 31) (s : State) : Out :=
  .next (timerWriteBy by_ t 0x04 (BitVec.ofNat 32 (period.toNat + 2 ^ 31)) s)

/-- `TMR_CMP_WRITE`. -/
def execTmrCmpWrite (by_ : BusMaster) (t : Fin 16) (n : Fin 4) (value : BitVec 32) (s : State) : Out :=
  .next (timerWriteBy by_ t (0x20 + 4 * n.val) value s)

/-- The effect of the oldest compare write on the unit: the comparator is evaluated; LATE is set when it fires behind T. -/
def cmpEffect (n : Fin 4) (u : Timer) : Timer :=
  match u.cmpNew[n] with
  | [] => u
  | v :: vs =>
    let u := { u with armed := u.armed ||| BitVec.ofNat 4 (2 ^ n.val), cmp := u.cmp.set n v, cmpNew := u.cmpNew.set n vs }
    let late := !u.status.getLsbD 12 && cmpDue (timerT u) v && timerT u != v
    let u := evalCmp n true u
    if late then setStatus (2 ^ (4 + n.val)) u else u

/-- `CMP_WRITE_EFFECT`. -/
def execCmpWriteEffect (t : Fin 16) (n : Fin 4) (s : State) : Out :=
  if s.works (timerFn t) then .next (changeTimer t (cmpEffect n) s) else .next s

/-- `TMR_CMP_EN_WRITE`. -/
def execTmrCmpEnWrite (by_ : BusMaster) (t : Fin 16) (value : BitVec 32) (s : State) : Out :=
  .next (timerWriteBy by_ t 0x1C value s)

/-- `TMR_STATUS_CLEAR`. -/
def execTmrStatusClear (by_ : BusMaster) (t : Fin 16) (value : BitVec 32) (s : State) : Out :=
  .next (timerWriteBy by_ t 0x18 value s)

/-- `TMR_MISSED_READ`. -/
def execTmrMissedRead (by_ : BusMaster) (t : Fin 16) (n : Fin 4) (s : State) : Out :=
  .next (timerReadBy by_ t (0x40 + 4 * n.val) s)

/-- `TMR_TICK_LO_READ`. -/
def execTmrTickLoRead (by_ : BusMaster) (t : Fin 16) (s : State) : Out := .next (timerReadBy by_ t 0x10 s)

/-! ### Commands and configuration -/

/-- Fields of `TIMER_CONFIG`. -/
def timerConfigFields : List FieldSpec :=
  [⟨0, 1, .range 0 1⟩, ⟨2, 1, .range 0 3⟩, ⟨3, 1, .flags 2⟩, ⟨4, 4, .range 1 65536⟩, ⟨8, 4, .range 1 0x7FFFFFFF⟩,
    ⟨12, 1, .flags 2⟩, ⟨14, 2, .flags 12⟩, ⟨16, 1, .rangeOr 24 47 0xFF⟩, ⟨18, 1, .rangeOr 24 47 0xFF⟩,
    ⟨20, 1, .flags 2⟩, ⟨21, 3, .zero⟩]

/-- `TIMER_CONFIG`. -/
def execTimerConfig (buf : Bytes) (s : State) : Out :=
  .next (runKci 0x0C01 buf (fun s m req body =>
    if u8 body 0 ≤ 1 && (u8 body 0 == 1) != (u8 body 1 != 0) then no rcFieldRange
    else stageOne 0x0C01 0 0 timerConfigFields s m req body) s)

/-- The unit that a function ID names. -/
def timerOf (fn : Nat) : Fin 16 := Fin.ofNat 16 (fn - 0x0C10)

/-- `TIMER_ACCESS`. -/
def execTimerAccess (buf : Bytes) (s : State) : Out :=
  .next (runKci 0x0C02 buf (fun s _ req body =>
    let t := timerOf req.fn
    let off := u16 body 2
    if !s.enabled req.fn then no rcFunctionDisabled
    else if u8 body 1 != 0 then no rcReservedNonzero
    else if 1 < u8 body 0 || off % 4 != 0 || 0x58 ≤ off then no rcFieldRange
    else if !timerOwner s .host t then
      -- the access is discarded and reported, and the request refused (R392)
      .done (raiseSource 103 req.fn t.val s) rcTimerOwner 0 [] []
    else if u8 body 0 = 0 then
      .done (s.onTimer t (timerReadEffect off)) rcOk 0 (leBytes 4 (timerRead off s.timers[t])) []
    else
      .done (changeTimer t (timerWrite (timerCfg (timerPart s.coh.active t)) off (BitVec.ofNat 32 (u32 body 4))) s)
        rcOk 0 (zeros 4) []) s)

/-- Output balls that a unit's configuration uses. -/
def timerBalls (b : Bytes) : List Nat := [u8 b 16, u8 b 18].filter (· != 0xFF)

/-- The rule of a unit (R394). -/
def timerRules (m : NMap Bytes) (t : Fin 16) : Option (Nat × Nat) :=
  let mine := timerBalls (timerPart m t)
  let below := ((List.finRange 16).filter fun k => k.val < t.val && enabledIn m (timerFn k)).flatMap fun k =>
    timerBalls (timerPart m k)
  if mine.any below.contains || (mine.length = 2 && mine[0]? == mine[1]?) then some (1, rcTimerBall) else none

/-- A unit stopped and loaded with INIT_PERIOD. -/
def loadTimer (b : Bytes) (u : Timer) : Timer :=
  { u with
    run := false, down := false, count := 0, period := timerInit b, periodWritten := timerInit b, periodShadow := none
    armed := 0, cmpNew := Vector.replicate 4 [], phase := 0, out := (timerCfg b).idle }

/-- A unit takes up a commit (R394); one that it enables starts with INIT_PERIOD (R392). -/
def applyTimer (old : NMap Bytes) (t : Fin 16) (s : State) : State :=
  let a := timerPart old t
  let b := timerPart s.coh.active t
  let s := releaseTimer s t
  if !enabledIn old (timerFn t) || u8 a 2 != u8 b 2 || u8 a 3 != u8 b 3 || u32 a 4 != u32 b 4 then s.onTimer t (loadTimer b)
  else if s.timers[t].run then s
  else s.onTimer t fun u => { u with out := (timerCfg b).idle }

/-- A reset of a unit (R396). -/
def resetTimer (t : Fin 16) (s : State) : State :=
  s.onTimer t fun u =>
    { loadTimer (timerPart s.coh.active t) u with
      status := 0, missed := Vector.replicate 4 0, wcmpShadow := Vector.replicate 2 none }

/-! ### Waking (R391) -/

/-- Position of COUNT in the cycle, and the cycle's length. -/
def cyclePos (cfg : TimerCfg) (u : Timer) : Nat := if cfg.updown && u.down then 2 * u.period - u.count else u.count
def cycleLen (cfg : TimerCfg) (u : Timer) : Nat := if cfg.updown then 2 * u.period else u.period + 1

/-- COUNT and direction at a position of the cycle. -/
def atPos (cfg : TimerCfg) (u : Timer) (p : Nat) : Timer :=
  if cfg.updown && u.period ≤ p then { u with count := 2 * u.period - p, down := true }
  else { u with count := p, down := false }

/-- The positions 1 to the cycle's length at which output `x` acts, rising, with the actions. -/
def cycleActions (cfg : TimerCfg) (u : Timer) (x : Fin 2) : List (Nat × Nat) :=
  let acts := if x = 0 then cfg.act0 else cfg.act1
  let w := u.wcmp[x].toNat
  let n := cycleLen cfg u
  let up := bits acts 1 0
  let dn := bits acts 3 2
  let atZero := bits acts 5 4
  let top := bits acts 7 6
  let p := u.period
  if cfg.updown then
    let a := if 0 < w && w < p then [(w, up)] else []
    let b := [(p, if w = p then up else top)]
    let c := if 0 < w && w < p then [(2 * p - w, dn)] else []
    a ++ b ++ c ++ [(n, if w = 0 then dn else atZero)]
  else
    let a := if 0 < w && w < p then [(w, up)] else []
    a ++ [(p, if w = p then up else top)] ++ [(n, if w = 0 then up else atZero)]

/-- A level after the actions at positions above `lo` and up to `hi`. -/
def runActions (lo hi : Nat) (l : List (Nat × Nat)) (level : Bool) : Bool :=
  l.foldl (fun v a => if lo < a.1 && a.1 ≤ hi then outAction a.2 v else v) level

/-- A level after `e` ticks from position `p`: the rest of the cycle, whole cycles by their parity, and a last part. -/
def levelAfter (l : List (Nat × Nat)) (n p e : Nat) (level : Bool) : Bool :=
  if p + e ≤ n then runActions p (p + e) l level
  else
    let v := runActions p n l level
    let rest := p + e - n
    let whole := rest / n
    let k := if whole ≤ 2 then whole else 2 - whole % 2
    let v := (List.range k).foldl (fun v _ => runActions 0 n l v) v
    runActions 0 (rest % n) l v

/-- Advance by `e` ticks within one configuration of PERIOD and WCMP, without comparators. -/
def skipTicks (cfg : TimerCfg) (e : Nat) (u : Timer) : Timer :=
  let n := cycleLen cfg u
  let p := cyclePos cfg u
  let nz := (p + e) / n
  let tops := (p + e + n - u.period) / n - (p + n - u.period) / n
  let lvl (x : Fin 2) : Bool := levelAfter (cycleActions cfg u x) n p e (u.out.getLsbD x.val)
  let o := BitVec.ofNat 2 (flag (lvl 0) + 2 * flag (lvl 1))
  setStatus (256 * flag (nz != 0) + 512 * flag (tops != 0))
    (atPos cfg { u with ticks := u.ticks + BitVec.ofNat 64 e, out := o } ((p + e) % n))

/-- Go down by `e` ticks without reaching 0: COUNT may stand above a PERIOD that was shortened on the way (R389). -/
def descend (cfg : TimerCfg) (e : Nat) (u : Timer) : Timer :=
  let lvl (x : Fin 2) (acts : Nat) : Bool :=
    let w := u.wcmp[x].toNat
    let hit := decide (u.count - e ≤ w) && decide (w < u.count) && decide (w ≤ u.period)
    outAction (if hit then bits acts 3 2 else 0) (u.out.getLsbD x.val)
  { u with
    ticks := u.ticks + BitVec.ofNat 64 e, count := u.count - e
    out := BitVec.ofNat 2 (flag (lvl 0 cfg.act0) + 2 * flag (lvl 1 cfg.act1)) }

/-- Fold `e` ticks into a unit: up to the first zero turning point, where shadows apply and a ONE_CYCLE unit stops,
and on from there. -/
def foldTicks (cfg : TimerCfg) (e : Nat) (u : Timer) : Timer :=
  let falling := cfg.updown && u.down
  let part (k : Nat) (u : Timer) : Timer := if k = 0 then u else if falling then descend cfg k u else skipTicks cfg k u
  let toZero := max 1 (if falling then u.count else cycleLen cfg u - cyclePos cfg u)
  if e < toZero then part e u
  else
    let u := tickCount cfg (part (toZero - 1) u)
    if u.run then skipTicks cfg (e - toZero) u else u

/-- Prescaled ticks and the new prescaler phase for `c` elapsed source cycles. -/
def elapsedTicks (b : Bytes) (u : Timer) (c : Nat) : Nat × Nat :=
  ((u.phase + c) / timerPrescale b, (u.phase + c) % timerPrescale b)

/-- The prescaler phase with which a unit entered the sleep of snapshot `p`: source cycles since the phase last held. -/
def entryPhase (b : Bytes) (p : Snapshot) (u : Timer) : Nat :=
  let fabric := (p.fabric - u.phaseFabric).toNat
  let c := match timerSource b with
    | 0 => fabric
    | 1 => fabric * 12 / 125
    | 2 => (p.spring - u.phaseSpring).toNat
    | _ => 0
  min (timerPrescale b - 1) (u.phase + c)

/-- Unit `t` handles a sleep of `ns` nanoseconds, `spring` Spring ticks and `slots` slots, entered at snapshot `p`: without
SLEEP_COMP, or frozen, it resumes as it entered. -/
def wakeTimer (t : Fin 16) (p : Snapshot) (ns spring slots : Nat) (s : State) : State :=
  let b := timerPart s.coh.active t
  let s := s.onTimer t fun u => stampPhase s { u with phase := entryPhase b p u }
  let u := s.timers[t]
  if s.enabled (timerFn t) && u.run && timerSleepComp b && !u.status.getLsbD 12 then
    let c := match timerSource b with
      | 0 => ns * 400 / 1000
      | 1 => ns * 384 / 10000
      | 2 => spring
      | _ => slots
    let (e, ph) := if timerSource b = 3 then (slots, u.phase) else elapsedTicks b u c
    changeTimer t (fun u => evalCmps true (foldTicks (timerCfg b) e { u with phase := ph })) s
  else s

end Sys2Proof.Machine
end

