-- ==== Sys2Proof/Machine/Power.lean ====
section
/-!
DEFINITION. The power manager: needs, the vote, entry to and exit from DOZE and HIBERNATE (chapter 12, R370, R391).
-/

namespace Sys2Proof.Machine

def powerFn : Nat := 0x0E00

def powerPart (m : NMap Bytes) : Bytes := part m 0x0E00 0x0E01 0 0
def dozeDropLink (m : NMap Bytes) : Bool := bit (u8 (powerPart m) 1) 0
def refEnUsed (m : NMap Bytes) : Bool := bit (u8 (powerPart m) 1) 1
def wakeMaskAuto (m : NMap Bytes) : Nat := u8 (powerPart m) 2
def refStartUs (m : NMap Bytes) : Nat := u16 (powerPart m) 4
def radioMinOff (m : NMap Bytes) : Nat := u16 (powerPart m) 6
def dozeMinGap (m : NMap Bytes) : Nat := u32 (powerPart m) 8

/-- A ball carries WAKE_IN. -/
def wakeInBall (m : NMap Bytes) : Bool := u8 (powerPart m) 12 != 0xFF

/-- Entry plus exit latency of DOZE, µs (R411). -/
def dozeLatency (m : NMap Bytes) : Nat := 800 + refStartUs m

/-! ### Needs (R401, R402, R181) -/

/-- A need: its instant in network time, ns, its function, and whether it is a latent test. -/
structure Need where
  at_ : Nat
  fn : Nat
  latent : Bool
  deriving DecidableEq, Repr

/-- Time before the reference point at which radio `r` is powered up for a need at `lo`, ns (R402). -/
def powerLead (s : State) (r : Fin 3) (lo : Nat) : Nat :=
  max ((if loClass s r lo = .absent then 250 else 40) + 30) (rxLead s.coh.active r.val) * 1000

/-- Time from the retune start of a launch to its launch, ns (R154). -/
def retuneAhead (s : State) (r : Fin 3) (lo : Nat) : Nat := if loClass s r lo = .absent then 276000 else 66000

/-- Duration of a channel's preamble, ns. -/
def preambleNs (m : NMap Bytes) (ch : Nat) : Nat := preambleLen m ch * 1000000000 / chanRate m ch

/-- The first slot after slot `a` in which a cell is active. -/
def nextActive (m : NMap Bytes) (sf : Nat) (c : Bytes) (a : Nat) : Nat :=
  let n := max 1 (sfLength m sf)
  a + 1 + (cellSlot c + n - (a + 1) % n) % n

/-- Early edge of a receiving cell's window, µs from its slot start. -/
def earlyEdge (s : State) (c : Bytes) (ch : Nat) : Nat :=
  let m := s.coh.active
  if cellUse c = 0 && nbValid m (cellNeighbour c) then (rxWindow s m (cellNeighbour c) c ch).1
  else (plainWindow m c ch (cellUse c == 5 && s.link.sync == .search)).1

/-- A launch may fall in the cell: a beacon, a group acknowledgement, or a downlink or parent uplink that has a frame
queued (DEDUCED from R401 and R405, log entry 144). -/
def cellLaunches (s : State) (c : Bytes) : Bool :=
  let m := s.coh.active
  !searching s && cellTransmits m c
    && (cellUse c == 3 || cellUse c == 4 || !(nbQueued s (if cellUse c = 6 then parentIdx m else cellNeighbour c)).isEmpty)

/-- Late edge of a receiving cell's window, µs from its slot start. -/
def lateEdge (s : State) (c : Bytes) (ch : Nat) : Nat :=
  let m := s.coh.active
  if cellUse c = 0 && nbValid m (cellNeighbour c) then (rxWindow s m (cellNeighbour c) c ch).2.1
  else (plainWindow m c ch (cellUse c == 5 && s.link.sync == .search)).2

/-- Reference point W of a cell in slot `a`, with its radio and LO: the filter start of a receiving cell, the retune start
of one in which a launch may fall; none for a cell that gives no need of its own. -/
def cellPoint (s : State) (sf : Nat) (c : Bytes) (a : Nat) : Option (Nat × Fin 3 × Nat) :=
  let m := s.coh.active
  match cellChannel m sf c a with
  | none => none
  | some ch =>
    let r := chanRadioFin m ch
    if !chanUsable m ch || (s.chan ch).shed then none
    else if cellReceives m c then
      some (slotStartNs m a + earlyEdge s c ch * 1000 - (preambleNs m ch + filterDelayNs (chanBw m ch) + 20000), r, chanLo m ch)
    else if cellLaunches s c then
      some (slotStartNs m a + txOffset m * 1000 - retuneAhead s r (chanLo m ch), r, chanLo m ch)
    else none

/-- The need of a reference point (R402, step 1). -/
def needAt (s : State) (p : Nat × Fin 3 × Nat) : Need := ⟨p.1 - powerLead s p.2.1 p.2.2, radioFn p.2.1, false⟩

/-- End of the listening interval of a receiving cell in slot `a`, ns (R181). -/
def listenEnd (s : State) (sf : Nat) (c : Bytes) (a : Nat) : Nat :=
  let m := s.coh.active
  match cellChannel m sf c a with
  | none => 0
  | some ch => slotStartNs m a + lateEdge s c ch * 1000 + (preambleLen m ch + 48) * 1000000000 / chanRate m ch

/-- Needs of a cell: in the present slot `a` until its listening interval ends, or its launch is selected, and in the next
slot in which it is active. -/
def cellNeeds (s : State) (sf : Nat) (c : Bytes) (a : Nat) : List Need :=
  let m := s.coh.active
  let ahead : Bool :=
    decide (s.netNs < (if cellReceives m c then listenEnd s sf c a else slotStartNs m a + txOffset m * 1000 - 1000000))
  let now := if cellActive m sf c a && ahead then (cellPoint s sf c a).toList.map (needAt s) else []
  now ++ ((cellPoint s sf c (nextActive m sf c a)).map (needAt s)).toList

/-- The next slot from `a` on of LAUNCH entry `e` of a gate list with header `h`. -/
def nextGateSlot (h e : Bytes) (a : Nat) : Nat :=
  let n := max 1 (u32 h 12)
  a + (u32 e 0 + n - gateSlot h a % n) % n

/-- The need of LAUNCH entry `e` in slot `n`, if its queue holds a frame and its launch is not yet selected. -/
def gateNeed (s : State) (r : Fin 3) (n : Nat) (e : Bytes) : Option Need :=
  let m := s.coh.active
  let ch := u8 e 12
  let t := slotStartNs m n + u32 e 4 * 1000
  if u8 e 8 != 1 || !chanUsable m ch || radioHasCell m r n || !(s.sluice.broadcasts.any fun f => f.queue == u8 e 9)
      || decide (t < s.netNs + 1000000) then none
  else some (needAt s (t - retuneAhead s r (chanLo m ch), r, chanLo m ch))

/-- Needs of the LAUNCH entries of the gate lists: of the present slot `a`, and the next of each entry after it. -/
def gateNeeds (s : State) (a : Nat) : List Need :=
  ([0, 1, 2] : List (Fin 3)).flatMap fun r =>
    (match gateInForce s r a with
      | none => []
      | some (h, es) => es.filterMap fun e => if nextGateSlot h e a = a then gateNeed s r a e else none)
      ++ (match gateInForce s r (a + 1) with
        | none => []
        | some (h, es) => es.filterMap fun e => gateNeed s r (nextGateSlot h e (a + 1)) e)

/-- Needs of the windows in which acknowledgements are awaited, until each ends (R181, R254). -/
def ackNeeds (s : State) : List Need :=
  let m := s.coh.active
  s.sluice.queued.flatMap fun f =>
    match f.awaiting with
    | none => []
    | some ch => ((ackSpans s ch).filter fun w => decide (s.netNs < w.2)).map fun w =>
      needAt s (w.1 - (filterDelayNs (chanBw m ch) + 20000), chanRadioFin m ch, chanLo m ch)

/-- A recorder with SOURCE 1 runs on the radio: a standing need (R485). -/
def recordsRaw (s : State) (r : Fin 3) : Bool :=
  s.mem.recorders[r].running && u8 (part s.coh.active 0x0900 0x0904 r.val 0) 1 == 1

/-- The needs of the radios' cells, gate lists and bookings. -/
def radioNeeds (s : State) : List Need :=
  let m := s.coh.active
  let cells := match s.time.asn with
    | none => []
    | some a =>
      (if s.works linkFn then (enabledCells m).flatMap fun c => cellNeeds s c.1 c.2.2 a else [])
        ++ (if s.works sluiceFn then gateNeeds s a else [])
  cells ++ s.sluice.launches.map (fun x =>
      let lo := chanLo (s.setOf x.generation) x.channel
      needAt s (x.t0 - retuneAhead s x.radio lo, x.radio, lo))
    ++ ackNeeds s
    ++ (([0, 1, 2] : List (Fin 3)).filter (recordsRaw s)).map (fun r => ⟨s.netNs, radioFn r, false⟩)
    ++ (if linkRelay m && s.link.sync == .scan then [⟨s.netNs, linkFn, false⟩] else [])

/-- The radio serves a listening interval, a raw recorder, a frame or a launch. -/
def radioNeeded (s : State) (r : Fin 3) : Bool :=
  let m := s.coh.active
  (radioChans m r.val).any (fun ch => (s.chan ch).listening && !chanMonitor m ch)
    || recordsRaw s r
    || s.rx.frames.any (fun x => inProgress x && chanRadioFin (s.setOf x.generation) x.ch == r)
    || s.sluice.launches.any (fun x => x.radio == r && x.step != .booked && x.step != .selected)
    -- step 14 of R255
    || (s.radio r).blanked

/-- The radio's next power-up falls less than RADIO_MIN_OFF_US from now (R403). -/
def radioSoon (s : State) (r : Fin 3) : Bool :=
  (radioNeeds s).any fun n => n.fn == radioFn r && decide (n.at_ < s.netNs + radioMinOff s.coh.active * 1000)

/-- `RADIO_POWER_DOWN`: after the radio's last need, at AUTO_LEVEL 1 or more (R22, R399). -/
def execRadioPowerDown (r : Fin 3) (s : State) : Out :=
  if (s.radio r).powered && s.power.phase == .awake && autoLevel s.coh.active != 0 && !radioNeeded s r && !radioSoon s r
      && (s.radio r).bgCal.isNone && (s.radio r).hostCal.isNone && (s.radio r).change.isNone then
    .next (unpowerRadio r s)
  else .next s

/-- The latent tests: a tone per window 2 s after its last one (R153, R541). -/
def latentNeeds (s : State) : List Need :=
  allWindows.filterMap fun e =>
    match ((s.radio e.1).windows[e.2]).toneAt with
    | none => none
    | some t =>
      if s.enabled (radioFn e.1) && decide (e.2.val < windowCount s.coh.active e.1.val) then
        some ⟨s.netNs + (800000000 - (s.time.fabric - t).toNat) * 5 / 2, radioFn e.1, true⟩
      else none

/-- The DRAM scrubber is a need from the instant at which it is more than 1 % behind its pace (R491). -/
def scrubNeeds (s : State) : List Need :=
  let behind := scrubPermille s.mem + 11
  if s.mem.ranks = 0 || !s.enabled dramFn || 1000 < behind then []
  else
    let due := ceilDiv (behind * 9 * scrubTicks s.coh.active) 10000
    [⟨s.netNs + (due - (s.time.spring - s.mem.dramStart).toNat) * 1000000000 / 32768, dramFn, false⟩]

/-- The pending commit boundary (R31). -/
def commitNeeds (s : State) : List Need :=
  match s.coh.commit with
  | some c =>
    match c.boundary with
    | .slot n => [⟨slotStartNs s.coh.active n, 0, false⟩]
    | .now => [⟨s.netNs, 0, false⟩]
  | none => []

/-- Commit boundary, Spring wake timer and background work. -/
def otherNeeds (s : State) : List Need :=
  commitNeeds s
    ++ (match s.power.wakeSpring with
      | some w => [⟨s.netNs + (w - s.time.spring).toNat * 1000000000 / 32768, powerFn, false⟩]
      | none => [])
    ++ scrubNeeds s

/-- The earlier of two needs. -/
def earlier (a : Option Need) (b : Need) : Option Need :=
  match a with
  | none => some b
  | some x => if b.at_ < x.at_ then some b else some x

/-- The next need (R401). -/
def nextNeed (s : State) : Option Need := (radioNeeds s ++ latentNeeds s ++ otherNeeds s).foldl earlier none

/-- Spring count of an instant of network time, by the snapshot while the device sleeps. -/
def springOf (s : State) (ns : Nat) : Nat :=
  let base := match s.time.snapshot with
    | some p => if s.asleep then p.spring.toNat else s.time.spring.toNat
    | none => s.time.spring.toNat
  base + ceilDiv ((ns - s.netNs) * 32768 * (1000000000 + springPpb s).toNat) (10 ^ 18)

/-! ### The vote (R406, R407) -/

/-- A fault source is raised: its reaction runs or its shadow window is open, or a raise of S0 or S1 awaits its report
(DEDUCED, log entry 155). -/
def sourceRaised (s : State) : Bool := !s.safety.reactions.isEmpty || s.safety.reports.any fun e => e.2.count != 0

/-- The function that refuses in voter class `c`, if one does. -/
def refuser (s : State) (target : PowerState) (c : Nat) : Option Nat :=
  let m := s.coh.active
  let some_ (b : Bool) (fn : Nat) : Option Nat := if b then some fn else none
  let lead := if target = .hibernate then 158000 else dozeLatency m
  match c with
  | 1 => some_ (!s.supply.springRuns || (match nextNeed s with
      | some n => decide (n.at_ < s.netNs + lead * 1000)
      | none => false)) powerFn
  | 2 => some_ (sourceRaised s || s.safety.restartPending) 0x0F00
  | 3 => some_ (s.rx.frames.any (fun x => x.stage == .stage5 || x.stage == .gate || x.stage == .verify)
      || (linkRelay m && s.link.sync == .scan)) linkFn
  | 4 => some_ (!s.sluice.launches.isEmpty) sluiceFn
  | 5 => ((List.range 8).find? fun g => s.rx.frames.any fun x => (inProgress x || x.stage == .trellis) && x.ch / 32 == g).map (0x0200 + ·)
  | 6 => some_ (s.rx.captures.toList.any (·.isSome)) eddyFn
  | 7 => some_ (s.rx.frames.any fun x => x.stage == .decode || x.stage == .gate) riffleFn
  | 8 => (([0, 1, 2] : List (Fin 3)).find? fun r => (s.radio r).hostCal.isSome).map radioFn
  | 9 => some_ (s.cipher.pages.toList.any (·.busy.isSome) || !s.cipher.journal.queue.isEmpty) cipherFn
  | 10 => some_ ((s.router.egress.toList.any fun e => e.queues.toList.any fun q => !q.packets.isEmpty)
      || !s.router.relay.isEmpty
      || (!dozeDropLink m && (List.finRange 2).any fun p => s.enabled (0x0810 + p.val) && (s.router.ports[p]).up)) 0x0800
  | 11 => some_ (clusterBusy s) schedFn
  | 12 => some_ ((match s.time.ptpSync with
      | some y => y.t3.isSome
      | none => false) || s.time.ppsArmed.isSome) timeFn
  | 13 => some_ (s.mem.channels.toList.any fun k => !k.retrainTags.isEmpty || k.migration.isSome) dramFn
  | 14 => some_ (s.supply.rails.toList.any (·.warn) || s.supply.warnBall || s.supply.dip.isSome || s.sluice.inhibit) supplyFn
  | _ => none

/-- The first class up to `n` that refuses, with its function. -/
def vote (s : State) (target : PowerState) (n : Nat) : Option (Nat × Nat) :=
  (List.range n).findSome? fun i => (refuser s target (i + 1)).map (i + 1, ·)

/-- Function ID that stands for a voter class. -/
def classFn (c : Nat) : Nat :=
  [powerFn, 0x0F00, linkFn, sluiceFn, 0x0200, eddyFn, riffleFn, 0x0100, cipherFn, 0x0800, schedFn, timeFn, dramFn,
    supplyFn].getD (c - 1) 0

/-- Voters of class 8 that stop re-queue their background calibrations. -/
def stopCals (s : State) : State := ([0, 1, 2] : List (Fin 3)).foldl (fun s r => preemptCal r s) s

/-- A refusal by class `c`: the `n` classes that had stopped restart (R407). -/
def rollback (auto : Bool) (c n fn : Nat) (s : State) : State :=
  let s := if 8 ≤ n then stopCals s else s
  let s := (List.range n).foldl (fun s i => s.count powerFn (10 + 2 * i)) (s.count powerFn (9 + 2 * (c - 1)))
  let gap := (nextNeed s).map (·.at_)
  let s := s.onPower fun p =>
    { p with phase := .awake, refusedGap := if auto then some gap else p.refusedGap, lastRefuser := BitVec.ofNat 16 fn, wakePending := none, commanded := auto && p.commanded
             wakeSpring := if auto then p.wakeSpring else none }
  if auto then
    (s.count powerFn 8).onPower fun p =>
      { p with abortFirst := if p.aborts = 0 then fn else p.abortFirst, aborts := p.aborts + 1 }
  else s

/-- Every voter has acknowledged: the point of no return P.  Steps 1 to 3 of R408: DRAM enters self-refresh, the thread
contexts are saved, the cluster, SRAM and core domains are isolated, and then their rails are lowered or removed.  The radios' domains go off,
and the ports have stopped: their links are down until PORT_LINK_CHANGE reports them up (DEDUCED, log entry 145). -/
def passP (s : State) : State :=
  let s := (List.finRange 2).foldl (fun s p => if (s.router.ports[p]).up then retrainPort p s else s) (stopCals s)
  let s := s.onPower fun p =>
    { p with phase := .entering, selfRefresh := true, contextsSaved := true, retention := true
             isolated := [.dram, .cluster, .otherSram, .core] }
  lowerRails (([0, 1, 2] : List (Fin 3)).foldl (fun s r => unpowerRadio r s) s)

/-- Phase 1 of an entry: `silent` is the class, if any, that does not acknowledge.  Answers the refuser's function, if
one has refused. -/
def beginVote (auto : Bool) (silent : Option (Fin 14)) (s : State) : Option Nat × State :=
  let n := match silent with
    | some k => k.val
    | none => 14
  match vote s s.power.target n with
  | some (c, fn) => (some fn, rollback auto c (c - 1) fn s)
  | none =>
    match silent with
    | some k => (none, s.onPower fun p => { p with phase := .voting (k.val + 1) })
    | none => (none, passP s)

/-- An automatic entry was refused in the gap that the device is still in (R404). -/
def gapRefused (s : State) : Bool :=
  match s.power.refusedGap with
  | none => false
  | some none => (nextNeed s).isNone
  | some (some e) => decide (s.netNs < e)

/-- `AUTO_DOZE_ENTRY`: at AUTO_LEVEL 2, or after a need in a commanded DOZE, with a long enough gap and no radio on. -/
def execAutoDozeEntry (silent : Option (Fin 14)) (s : State) : Out :=
  let m := s.coh.active
  let gap := match nextNeed s with
    | some n => decide (s.netNs + dozeMinGap m * 1000 ≤ n.at_)
    | none => true
  if s.works powerFn && s.power.phase == .awake && s.boot.ready && (autoLevel m == 2 || s.power.commanded) && gap && !gapRefused s
      && s.radios.unit.toList.all (fun x => !x.powered) && s.kci.executing.isNone then
    .next (beginVote true silent (s.onPower fun p =>
      { p with target := .doze, wakePending := none
               wakeMask := if p.commanded then p.wakeMask else BitVec.ofNat 8 (wakeMaskAuto m) })).2
  else .next s

/-- The entry that votes ends without sleep by a refusal of class `c`; every class before the silent one had stopped. -/
def refuseEntry (c fn : Nat) (s : State) : State :=
  let n := match s.power.phase with
    | .voting k => k - 1
    | _ => c - 1
  let auto := match s.kci.executing with
    | some e => e.req.opcode != 0x0E02
    | none => true
  finishExecuting 0x0E02 rcSleepRefused fn [] (rollback auto c n fn s)

/-- `VOTER_ACK_TIMEOUT`: raises SLEEP_SEQ_TIMEOUT and counts as refusing. -/
def execVoterAckTimeout (s : State) : Out :=
  match s.power.phase with
  | .voting c => .next (raiseSource 108 powerFn c (refuseEntry c (classFn c) s))
  | _ => .next s

/-- The voter class that was awaited has acknowledged and the entry goes on to P (R408). -/
def resumeEntry (s : State) : State := finishExecuting 0x0E02 rcOk 0 [] (passP s)

/-- `SLEEP_ABORT_REPORT` (R404). -/
def execSleepAbortReport (s : State) : Out :=
  if s.power.aborts = 0 then .next s
  else
    .next (raiseEvent 210 powerFn (s.power.abortFirst + min s.power.aborts 0xFFFFFFFF * 2 ^ 32)
      (s.onPower fun p => { p with aborts := 0, abortFirst := 0 }))

/-! ### Wake sources (R409 to R412) -/

/-- Source `n` may wake the device from the state that it seeks or holds. -/
def sourceEnabled (s : State) (n : Nat) : Bool :=
  let p := s.power
  let due := match p.wakeSpring with
    | some w => decide ((s.time.spring - w).toNat < 2 ^ 47)
    | none => false
  if p.target = .hibernate then
    match n with
    | 0 => p.wakeMask.getLsbD 0 && due
    | 2 => p.wakeMask.getLsbD 2
    | 3 => p.wakeMask.getLsbD 3 && wakeInBall s.coh.active
    | _ => false
  else
    match n with
    | 0 => p.commanded && p.wakeMask.getLsbD 0 && due
    | 1 => !p.commanded || p.wakeMask.getLsbD 1
    | 2 | 5 | 6 => true
    | 3 => p.wakeMask.getLsbD 3 && wakeInBall s.coh.active
    | 4 => p.wakeMask.getLsbD 4 && dozeDropLink s.coh.active && (List.range 2).any fun i => s.enabled (0x0810 + i)
    | _ => false

/-- A wake source fires: in phase 1 class 1 refuses; after P the entry completes first. -/
def fireWake (n : Nat) (s : State) : State :=
  if !sourceEnabled s n then s
  else
    match s.power.phase with
    | .voting _ => refuseEntry 1 powerFn s
    | .entering => s.onPower fun p => { p with wakePending := some (p.wakePending.getD n) }
    | .asleep => beginWake n s
    | _ => s

/-- `WAKE_SOURCE`: source 0, 2, 3 or 4 of R412 fires; needs come by `SCHEDULED_WAKE`, faults by their raise. -/
def execWakeSource (n : Fin 5) (s : State) : Out := if n = 1 then .next s else .next (fireWake n.val s)

/-- The needs that may wake the device from DOZE.  A pending commit boundary always does (R31, log entry 115); the others
but latent tests only with SCHEDULE (R412). -/
def wakeNeeds (s : State) : List Need :=
  latentNeeds s ++ commitNeeds s ++ (if sourceEnabled s 1 then radioNeeds s ++ scrubNeeds s else [])

/-- The Spring count at which the wake for an instant of network time begins (R404). -/
def wakeInstant (s : State) (ns : Nat) : Nat := springOf s ns - ceilDiv ((refStartUs s.coh.active + 400) * 32768) 1000000

/-- `SCHEDULED_WAKE`: once the lead of the next need that may wake the device has come. -/
def execScheduledWake (s : State) : Out :=
  match (wakeNeeds s).foldl earlier none with
  | none => .next s
  | some n =>
    if s.power.phase == .asleep && s.power.state == .doze && decide (wakeInstant s n.at_ ≤ s.time.spring.toNat) then
      .next (beginWake (if n.latent then 5 else 1) (s.onPower fun p => { p with wakeNeed := some (springOf s n.at_, n.fn) }))
    else .next s

/-! ### Entry and exit (R370, R391, R408, R410) -/

/-- `SLEEP_SNAPSHOT`: snapshot and timer states saved, PLLs stopped, DOZE or HIBERNATE reached. -/
def execSleepSnapshot (s : State) : Out :=
  if s.power.phase != .entering then .next s
  else
    let m := s.coh.active
    let hib := s.power.target == .hibernate
    let s := leaveIdle s
    let s := s.onTime fun t =>
      { t with snapshot := some ⟨t.spring, s.netNs, t.slotBase, t.fabric, s.timeValid, t.asn⟩, ppsOut := false }
    let s := s.onPower fun p =>
      { p with phase := .asleep, state := p.target, since := s.time.spring, refEn := !refEnUsed m && p.refEn
               lastState := if hib then 3 else 2, wakeNeed := none, hibInd := hib && u8 (powerPart m) 14 != 0xFF
               pllsStopped := true, sleptNs := s.netNs, savedConfig := if hib then some s.kci.config else p.savedConfig }
    let s := s.count powerFn (if hib then 4 else 2)
    let s := if hib then
        let s := ((storeStress s).onBoot fun b => { b with ready := false, phase := .inService }).onSafety fun x =>
          { x with safeOk := false }
        let s := s.onKci fun k => { k with config := [] }
        let sums := backwaterSums s
        dropRails (s.onPower fun p => { p with sealed := some sums })
      else s
    .next (match s.power.wakePending with
      | some n => beginWake n s
      | none => s)

/-- `REFERENCE_QUALIFIED`: the clock monitor reports the reference stable, and the PLLs are locked (step 3 of R410). -/
def execReferenceQualified (s : State) : Out :=
  if s.power.phase == .waking && s.supply.refPresent then
    .next (s.onPower fun p => { p with phase := .qualified, pllsStopped := false })
  else .next s

/-- Elapsed network time and fast ticks of `ticks` Spring ticks at the disciplined rate (R370). -/
def elapsedNs (s : State) (ticks : Nat) : Nat := (((ticks * 10 ^ 18 : Nat) : Int) / (32768 * (1000000000 + springPpb s))).toNat
def elapsedFt (s : State) (ticks : Nat) : Nat :=
  (((ticks * 38400000 * 10 ^ 9 : Nat) : Int) / (32768 * (1000000000 + springPpb s))).toNat

/-- Bound of a rebuild, ns: 0.5 ppm of the sleep when disciplined, else the crystal's 20 ppm, plus one fast tick
(log entry 49). -/
def rebuildBound (s : State) (ns : Nat) : Nat := ns * (if s.time.springDisc then 5 else 200) / 10000000 + 26

/-- The buckets of every sub-band, of the active set or kept by a warm start, advance by the Spring time since each began
(R266): a bucket lasts WINDOW_S / 64 s, 512 WINDOW_S Spring ticks. -/
def advanceAll (s : State) : State :=
  (List.finRange 16).foldl (fun s i =>
    let w := if bandExists s.coh.active i.val then bandWindow s.coh.active i.val else bandWindow s.sluice.keptBands i.val
    let a := s.sluice.accounts[i]
    let n := (s.time.spring - a.movedAt).toNat / (512 * w)
    if w = 0 || n = 0 then s else advanceBuckets i n (a.movedAt + BitVec.ofNat 48 (n * 512 * w)) s) s

/-- Every base is loaded with its value at E plus 64 fast ticks; running timers fold the elapsed time, and the accountant's
buckets advance. -/
def rebuildBases (s : State) : State :=
  match s.time.snapshot with
  | none => s
  | some p =>
    let ticks := (s.time.spring - p.spring).toNat
    let ns := elapsedNs s ticks
    let net := p.netNs + ns + 1667
    let ft := elapsedFt s ticks + 64
    let b := rebuildBound s ns
    let a0 := p.asn
    let s := s.onTime fun t =>
      { t with seconds := BitVec.ofNat 64 (net / 1000000000), nanos := BitVec.ofNat 32 (net % 1000000000), frac := 0
               slotBase := p.slotBase.map (· + BitVec.ofNat 64 ft)
               fabric := p.fabric + BitVec.ofNat 64 (ns * 2 / 5 + 667)
               lastWakeBound := BitVec.ofNat 32 (min b 0xFFFFFFFF), errBase := t.errBase + b, snapshot := none
               ppsLast := none }
    let s := s.count timeFn 16
    -- the SRAM pass is timed in RUN and SLOT_IDLE (R476)
    let s := s.onMem fun m => { m with scrubStart := m.scrubStart + (s.time.fabric - p.fabric) }
    let slots := match a0 with
      | some a => slotNow s - a
      | none => 0
    let secs := s.time.spring.toNat / 32768 - p.spring.toNat / 32768
    let s := s.onThermal fun t => { t with span := { t.span with seconds := t.span.seconds + secs } }
    advanceAll ((List.finRange 16).foldl (fun s t => wakeTimer t p ns ticks slots s) s)

/-- Sleep ends for the counters: DOZE_US, and the state that follows (R399, R421). -/
def endDoze (s : State) : State :=
  let us := springUs (s.time.spring - s.power.since)
  let s := s.countN powerFn 3 us
  let s := s.onThermal fun t => { t with span := { t.span with dozeUs := t.span.dozeUs + us } }
  s.onPower fun p =>
    { p with state := if autoLevel s.coh.active = 0 then .run else .slotIdle, since := s.time.spring }

/-- `WAKE_REBUILD`: at Spring edge E. -/
def execWakeRebuild (s : State) : Out :=
  if s.power.phase != .qualified then .next s
  else
    -- the warm start that ends HIBERNATE rebuilds the bases itself
    let s := if s.power.state = .doze then restoreRails (endDoze (rebuildBases s)) else s
    .next (s.onPower fun p => { p with phase := .rebuilt })

/-- Slots with number below `n` in which a cell with offset `k` of `len` slots is active. -/
def activeBelow (n k len : Nat) : Nat := if n ≤ k || len = 0 then 0 else (n - 1 - k) / len + 1

/-- Start of the listening interval of a receiving cell in slot `n`, or the launch that falls in it, ns (R405). -/
def cellStart (s : State) (sf : Nat) (c : Bytes) (n : Nat) : Option Nat :=
  let m := s.coh.active
  match cellPoint s sf c n, cellChannel m sf c n with
  | some _, some ch =>
    some (if cellReceives m c then slotStartNs m n + earlyEdge s c ch * 1000 - preambleNs m ch
      else slotStartNs m n + txOffset m * 1000)
  | _, _ => none

/-- The listening or launch of a cell in slot `n` has begun. -/
def cellBegan (s : State) (sf : Nat) (c : Bytes) (n : Nat) : Bool := (cellStart s sf c n).any fun p => decide (p < s.netNs)

/-- Cells whose listening began, or in which a launch fell, since the sleep began in slot `a` (R405). -/
def missedCells (s : State) (a : Nat) : Nat :=
  let m := s.coh.active
  let n := slotNow s
  ((enabledCells m).map fun c =>
    let e := c.2.2
    if !(cellReceives m e || cellLaunches s e) then 0
    else
      let whole := activeBelow n (cellSlot e) (sfLength m c.1) - activeBelow (a + 1) (cellSlot e) (sfLength m c.1)
      whole + flag (cellActive m c.1 e n && decide (a < n) && cellBegan s c.1 e n)
        + flag (cellActive m c.1 e a && cellBegan s c.1 e a && (cellStart s c.1 e a).any fun p => decide (s.power.sleptNs ≤ p))).foldl
          (· + ·) 0

/-- The slot in progress at the end of a wake is taken up: its cells that were not missed open, with the configured gains
(R129, R405). -/
def resumeSlot (s : State) : State :=
  let s := ([0, 1, 2] : List (Fin 3)).foldl (fun s r => forgetPeaks r s) s
  match s.time.asn with
  | none => s
  | some a =>
    let n := slotNow s
    let s := s.countN powerFn 7 (missedCells s a)
    if n = a then
      s.onLink fun l => { l with slotCells := l.slotCells.filter fun k => !cellBegan s k.sf k.cell n }
    else
      let (runs, s) := runOrIdle n (s.onTime fun t => { t with asn := some n })
      if runs then
        let t := openCells n s
        allWindows.foldl slotStep (t.onLink fun l =>
          { l with slotCells := l.slotCells.filter fun k => !cellBegan s k.sf k.cell n })
      else s.onLink fun l => { l with slotCells := [] }

/-- Raises held since P are handled (R409). -/
def handleHeld (s : State) : State :=
  let l := s.power.held
  l.foldl (fun s h =>
    let no := s.safety.logCount
    let s := raiseFault h.source h.fn h.detail h.injected s
    -- the record that the raise wrote, if it wrote one, tells of the raise
    if s.safety.logCount = no then s
    else s.onRecord no.toNat fun r => { r with asleep := true, fabric := h.fabric, asn := h.asn, spring := h.spring })
    (s.onPower fun p => { p with held := [] })

/-! ### Commands (R411, R418) -/

/-- `POWER_CONFIG`. -/
def execPowerConfig (buf : Bytes) (s : State) : Out :=
  .next (runKci 0x0E01 buf (fun s m req body =>
    if u8 body 2 / 32 != 0 || u8 body 2 % 4 != 0 then no rcReservedNonzero
    else
      stageOne 0x0E01 0 0 [⟨0, 1, .range 0 2⟩, ⟨1, 1, .flags 3⟩, ⟨3, 1, .zero⟩, ⟨4, 2, .range 0 5000⟩,
        ⟨6, 2, .range 100 50000⟩, ⟨8, 4, .range 2000 10000000⟩, ⟨12, 1, .rangeOr 24 47 0xFF⟩, ⟨13, 1, .rangeOr 24 47 0xFF⟩,
        ⟨14, 1, .rangeOr 24 47 0xFF⟩, ⟨15, 1, .zero⟩] s m req body) s)

/-- Why `POWER_ENTER` is refused before the vote. -/
def enterRefused (s : State) (body : Bytes) : Option (Nat × Nat) :=
  let hib := u8 body 0 == 3
  let timer := bit (u8 body 1) 0
  let mask := u8 body 2
  let ahead := (BitVec.ofNat 48 (u64 body 4) - s.time.spring).toNat
  let need := if hib then 158000 else dozeLatency s.coh.active
  if timer && (decide (2 ^ 47 ≤ ahead) || decide (ahead * 1000000 < need * 32768)) then some (rcWakeTooSoon, 0)
  else if hib && !((timer && bit mask 0) || bit mask 2 || (bit mask 3 && wakeInBall s.coh.active)) then some (rcNoWakeSource, 0)
  else if hib && s.coh.commit.isSome then some (rcCommitPending, 0)
  else if (hib && !(outstanding s.kci).isEmpty) || s.power.phase != .awake then some (rcSleepRefused, powerFn)
  else none

/-- `POWER_ENTER`: `silent` is the voter class, if any, that does not acknowledge. -/
def execPowerEnter (buf : Bytes) (silent : Option (Fin 14)) (s : State) : Out :=
  .next (runKci 0x0E02 buf (fun s _ req body =>
    match checkFields body [⟨0, 1, .range 2 3⟩, ⟨1, 1, .flags 1⟩, ⟨3, 1, .zero⟩, ⟨10, 2, .zero⟩] with
    | some rc => no rc
    | none =>
      if !s.enabled req.fn then no rcFunctionDisabled
      else
        match enterRefused s body with
        | some (rc, d) => .refuse rc d []
        | none =>
          let t := s.onPower fun p =>
            { p with target := if u8 body 0 = 3 then .hibernate else .doze, commanded := true, wakePending := none
                     wakeMask := BitVec.ofNat 8 (u8 body 2)
                     wakeSpring := if bit (u8 body 1) 0 then some (BitVec.ofNat 48 (u64 body 4)) else none }
          match beginVote false silent t with
          | (some fn, t) => .done t rcSleepRefused fn [] []
          | (none, t) => if t.power.phase == .entering then ok t else .defer t) s)

/-- A commit takes effect on the state of a device that is awake. -/
def applyPower (s : State) : State :=
  if autoLevel s.coh.active = 0 then leaveIdle s else enterIdle s

/-- Reset of the power manager: an entry in phase 1 is refused and the device is in RUN (R419). -/
def resetPower (s : State) : State :=
  let s := match s.power.phase with
    | .voting _ => refuseEntry 1 powerFn s
    | _ => s
  leaveIdle s

/-- Balls named by the power manager. -/
def powerBalls (m : NMap Bytes) : List Nat :=
  let b := powerPart m
  ([u8 b 12, if bit (u8 b 1) 1 then u8 b 13 else 0xFF, u8 b 14]).filter (· != 0xFF)

/-- The rules of R419. -/
def powerRules (m : NMap Bytes) : Option (Nat × Nat) :=
  let outs := ((List.finRange 16).filter fun t => enabledIn m (timerFn t)).flatMap fun t => timerBalls (timerPart m t)
  if dozeMinGap m < refStartUs m + 1000 then some (1, rcDozeGap)
  else if !distinct (powerBalls m) || (powerBalls m).any outs.contains then some (2, rcPowerBall)
  else none

/-- Status of the power manager (R420). -/
def powerStatus (s : State) : Bytes :=
  leBytes 1 (if s.power.state = .slotIdle then 1 else 0)
    ++ leBytes 1 (((List.finRange 3).map fun r => flag (s.radio r).powered * 2 ^ r.val).foldl (· + ·) 0)
    ++ leBytes 1 s.power.lastWake.toNat ++ leBytes 1 s.power.lastState.toNat ++ leBytes 2 s.power.lastRefuser.toNat
    ++ leBytes 2 s.power.lastExitUs.toNat
    ++ leBytes 8 (match nextNeed s with
      | some n => springOf s n.at_ % 2 ^ 48
      | none => 0xFFFFFFFFFFFFFFFF)

end Sys2Proof.Machine
end

