-- ==== Sys2Proof/Machine/Supply.lean ====
section
/-!
DEFINITION. Supplies, clock monitors and the cluster operating point (chapter 13, R505).  Voltages are in mV.
-/

namespace Sys2Proof.Machine

def countSupply (i : Nat) (s : State) : State := s.count supplyFn i

/-- A rail below its warning level. -/
def anyWarn (s : State) : Bool := s.supply.rails.toList.any (·.warn)

/-- Every monitored rail is at its recovery level. -/
def railsRecovered (s : State) : Bool :=
  (List.finRange 10).all fun r => railRemoved s r.val || decide (94 * levelTarget s r ≤ 100 * (s.supply.rails[r]).present)

/-! ### Dips (R269, R270, R435) -/

/-- A dip starts: frames on air are cut, transmission is inhibited, the dip is counted and reported. -/
def startDip (cause : Nat) (s : State) : State :=
  let cut := onAirCount s 0 + onAirCount s 1 + onAirCount s 2
  let s := ([0, 1, 2] : List (Fin 3)).foldl (fun s r => cutRadio r rcTxAbortSupply .requeue s) s
  let s := if cut = 0 then s else raiseEvent 96 sluiceFn (cut + flag (cause == 15) * 2 ^ 16) (s.countN sluiceFn 17 cut)
  let s := s.onSluice fun x => { x with inhibit := true, recovered := false }
  let s := s.onSupply fun x => { x with dip := some ⟨cause, s.time.fabric, s.time.spring⟩ }
  let s := s.onThermal fun t => { t with span := { t.span with dip := true } }
  let mv := if cause < 10 then railTarget s (Fin.ofNat 10 cause) else 0
  let p := cause + mv * 2 ^ 16
  raiseSource 168 supplyFn p (raiseEvent 193 supplyFn p (countSupply (if cause = 15 then 2 else 1) s))

/-- A warning: the dip starts, or goes on. -/
def warnDip (cause : Nat) (s : State) : State := if s.supply.dip.isSome then s else startDip cause s

/-- `RAIL_WARNING_CROSSING`: rail `rail` is measured at `mv`, below its warning level. -/
def execRailWarningCrossing (rail : Fin 10) (mv : Nat) (s : State) : Out :=
  if railRemoved s rail.val || 93 * levelTarget s rail ≤ 100 * mv then .next s
  else
    .next (warnDip rail.val (s.onRail rail fun x =>
      { x with present := mv, warn := true, minimum := some (min mv (x.minimum.getD mv)) }))

/-- `SUPPLY_WARN_N_ASSERT`. -/
def execSupplyWarnNAssert (s : State) : Out := .next (warnDip 15 (s.onSupply fun x => { x with warnBall := true }))

/-- The rail whose minimum lay lowest in proportion to its target, among those that crossed, with that minimum. -/
def lowestRail (s : State) : Option (Nat × Nat) :=
  ((List.finRange 10).foldl (fun (a : Option (Nat × Nat × Nat)) r =>
    match (s.supply.rails[r]).minimum with
    | none => a
    | some v =>
      let t := railTarget s r
      match a with
      | none => some (r.val, v, t)
      | some (k, w, u) => if v * u < w * t then some (r.val, v, t) else some (k, w, u)) none).map fun e => (e.1, e.2.1)

/-- Duration of a dip, µs. -/
def dipUs (s : State) (d : Dip) : Nat :=
  if s.asleep then springUs (s.time.spring - d.startSpring) else (s.time.fabric - d.start).toNat / 400

/-- The dip ends: transmission resumes at the next slot boundary, or at once while no ASN is established (R270). -/
def endDip (d : Dip) (s : State) : State :=
  let us := dipUs s d
  let low := lowestRail s
  let (code, mv) := low.getD (15, 0)
  let s := s.onSupply fun x =>
    { x with dip := none, warnBall := false, rails := x.rails.map fun y => { y with warn := false, minimum := none } }
  let s := s.onThermal fun t => { t with span := { t.span with dipMin := low.map fun e => (e.2, e.1) } }
  let s := s.onSluice fun x => if s.time.asn.isNone then { x with inhibit := false, recovered := false } else { x with recovered := true }
  raiseEvent 192 supplyFn (code + mv * 2 ^ 16 + min us 0xFFFFFFFF * 2 ^ 32) (s.countN supplyFn 3 us)

/-- `DIP_RECOVERY`: `mv` holds the voltages measured now and `minima` the lowest ones of the dip, by rail code. -/
def execDipRecovery (mv minima : List Nat) (s : State) : Out :=
  match s.supply.dip with
  | none => .next s
  | some d =>
    let t := s.onSupply fun x =>
      { x with rails := Vector.ofFn fun r =>
          let y := x.rails[r]
          { y with present := mv.getD r.val y.present
                   minimum := y.minimum.map fun v => min v (minima.getD r.val v) } }
    if railsRecovered t then .next (endDip d t) else .next s

/-! ### Other crossings -/

/-- `RAIL_OVER_CROSSING` (R437). -/
def execRailOverCrossing (rail : Fin 10) (mv : Nat) (s : State) : Out :=
  if railRemoved s rail.val || 100 * mv ≤ 110 * levelTarget s rail then .next s
  else .next (raiseSource 170 supplyFn (rail.val + mv * 2 ^ 16) (s.onRail rail fun x => { x with present := mv }))

/-- `DOMAIN_SPREAD`: `mv` is the spread measured (R431). -/
def execDomainSpread (mv : Nat) (s : State) : Out := .next (if 220 < mv then raiseSource 171 supplyFn mv s else s)

/-! ### AVS and PMIC writes (R428, R429, R433) -/

/-- The next VDD_CORE target for a demand: up by at most 25 mV, down by 5 mV, in steps of 5 mV within the limits. -/
def avsNext (lo hi target demand : Nat) : Nat :=
  let up := (List.range 5).foldl (fun t _ => if t < demand && decide (t + 5 ≤ hi) then t + 5 else t) target
  if target < demand then up
  else if demand + 5 ≤ target && decide (lo + 5 ≤ target) then target - 5
  else target

/-- `AVS_MEASUREMENT`: `demandMv` is the voltage that the fused table and the ring oscillators demand.  AVS_STEPS counts
steps of 5 mV (DEDUCED, log entry 146). -/
def execAvsMeasurement (demandMv : Nat) (s : State) : Out :=
  let m := s.coh.active
  let old := (s.supply.rails[0]).target
  if s.works supplyFn && s.supply.configured && avsEn m && !railRemoved s 0 then
    let new := avsNext (avsMin m) (avsMax m) old demandMv
    .next (setTarget 0 new (s.countN supplyFn 4 (if old ≤ new then (new - old) / 5 else (old - new) / 5)))
  else .next s

/-- PMIC_COMM with `EV_PMIC_FAULT`. -/
def pmicFault (rail kind : Nat) (s : State) : State :=
  let p := rail + kind * 2 ^ 8
  raiseSource 178 supplyFn p (raiseEvent 195 supplyFn p s)

/-- The target sought is abandoned: the rail keeps the one before it. -/
def abandonTarget (rail : Fin 10) (s : State) : State :=
  match mget s.supply.settling rail.val with
  | none => s
  | some e =>
    let up := decide (e.old < (s.supply.rails[rail]).target)
    let s := (s.onRail rail fun x => { x with target := e.old }).onSupply fun x => { x with settling := mdel x.settling rail.val }
    -- a higher operating point cannot follow
    if rail = 1 && up then s.onSupply fun x => { x with oppNext := none } else s

/-- `PMIC_WRITE_RETRY`: the write to `rail` was not acknowledged and is repeated; `acked`: the repeat is, and an entry to a sleep state
that waited for it goes on. -/
def execPmicWriteRetry (rail : Fin 10) (acked : Bool) (s : State) : Out :=
  let entry := s.power.phase == .voting 14 && s.supply.configured && (rail == 1 || rail == 3)
  if (mget s.supply.settling rail.val).isNone && !entry then .next s
  else
    let n := mgetD s.supply.pmic rail.val 0 + 1
    let s := countSupply 6 s
    if acked then
      let s := s.onSupply fun x => { x with pmic := mdel x.pmic rail.val }
      .next (if entry then resumeEntry s else s)
    else if n < 3 then .next (s.onSupply fun x => { x with pmic := mset x.pmic rail.val n })
    else
      let s := abandonTarget rail (s.onSupply fun x => { x with pmic := mdel x.pmic rail.val })
      let s := if entry then refuseEntry 14 supplyFn s else s
      .next (pmicFault rail.val 1 s)

/-- `TARGET_SETTLE_TIMEOUT`: 200 µs after the change the rail is measured at `mv`; the levels follow its target from now on. -/
def execTargetSettleTimeout (rail : Fin 10) (mv : Nat) (s : State) : Out :=
  match mget s.supply.settling rail.val with
  | none => .next s
  | some e =>
    if !settleOver s e then .next s
    else
      let s := (s.onRail rail fun x => { x with present := mv }).onSupply fun x => { x with settling := mdel x.settling rail.val }
      .next (if nearTarget s rail mv then s else pmicFault rail.val 2 s)

/-! ### Operating point (R430, R505) -/

/-- The point that the scheduler selects for a busy fraction of `busy` in `clock`, before its limits. -/
def oppSelected (m : NMap Bytes) (present busy clock : Nat) : Nat :=
  let b := schedPart m
  if u8 b 1 = 0 then u8 b 2
  else if u8 b 5 * clock < 100 * busy then present + 1
  else if 100 * busy < u8 b 6 * clock then present - 1
  else present

/-- The limits of R505, in their order. -/
def oppLimited (s : State) (i : Nat) : Nat :=
  let m := s.coh.active
  let b := schedPart m
  let i := min (max i (u8 b 3)) (min (u8 b 4) (oppCount m - 1))
  let i := match govOpp s.thermal.step with
    | some c => min i c
    | none => i
  if s.supply.configured then i else 0

/-- A change to point `i` starts: upward in frequency the voltage rises first, downward the PLL relocks at once (R430). -/
def startOpp (i : Nat) (s : State) : State :=
  let m := s.coh.active
  let up := decide (s.supply.mhz < oppMhz m i)
  let old := (s.supply.rails[1]).target
  let new := oppMv m i
  let us := ceilDiv ((max new old - min new old) * 1000) (max 1 (slewUv m)) + 20
  let s := if up then setTarget 1 new s else s
  let c : OppChange := ⟨i, s.time.fabric + BitVec.ofNat 64 (if up then us * 400 else 0)⟩
  let s := s.onSupply fun x => { x with oppNext := some c }
  s

/-- The cluster stands at the frequency of point `i`, or the point is not configured yet (R428). -/
def oppHolds (i : Nat) (s : State) : Bool := !s.supply.configured || s.supply.mhz == oppMhz s.coh.active i

/-- `OPP_EVALUATION`: the load of the cores since the last one decides. -/
def execOppEvaluation (s : State) : Out :=
  let m := s.coh.active
  if !s.works schedFn || s.asleep then .next s
  else
    let cores := ((List.range 8).filter fun c => s.enabled (coreFn c)).length
    let busy := s.cluster.evalBusy
    let clock := s.cluster.evalClock * cores
    let s := s.onCluster fun x => { x with evalBusy := 0, evalClock := 0 }
    let i := oppLimited s (oppSelected m s.supply.opp busy clock)
    if (i = s.supply.opp && oppHolds i s) || s.supply.oppNext.isSome || anyWarn s then .next s else .next (startOpp i s)

/-- `PLL_RELOCK_DONE`: the new point is in force and the cores resume; downward the voltage follows. -/
def execPllRelockDone (s : State) : Out :=
  match s.supply.oppNext with
  | none => .next s
  | some c =>
    if !s.relocking then .next s
    else
      let s := s.onSupply fun x => { x with opp := c.idx, mhz := oppMhz s.coh.active c.idx, oppNext := none }
      let s := setTarget 1 (oppMv s.coh.active c.idx) (countSupply 5 s)
      .next (feedEvp (placeAll (trace 10 0xFF 0xFFFF 0 0xFF c.idx s)))

/-! ### Clock monitors (R442) -/

/-- The reference is lost or off frequency: every synthesiser loses lock and the drivers go off. -/
def loseReference (s : State) (fault : State → State) : State :=
  let radios : List (Fin 3) := [0, 1, 2]
  let tx := radios.filter fun r => onAirCount s r != 0
  let lost := radios.filter fun r => inLock s r
  let s := radios.foldl (fun s r => cutRadio r rcSynthUnlock .remove s) s
  lost.foldl (fun s r => if inLock s r then loseLock r (tx.contains r) s else s) (fault s)

/-- The clock is stopped for a sleep, or its monitor is: the reference with REF_EN low, the PLLs in DOZE, and all in HIBERNATE,
whose core domain is off (R408, R414, R440). -/
def clockStopped (s : State) (clock : Nat) : Bool :=
  hibernating s || (clock = 0 && !s.power.refEn) || (1 ≤ clock && clock ≤ 9 && s.power.pllsStopped)

/-- `CLOCK_MONITOR_FAULT`: `clock` is the code of R440 and R455; `frequency` is clear for loss. -/
def execClockMonitorFault (clock : Nat) (frequency : Bool) (s : State) : Out :=
  if clockStopped s clock then .next s else
  let p := clock + flag frequency * 2 ^ 8
  let seen (n : Nat) (s : State) : State := raiseSource n supplyFn p (raiseEvent 194 supplyFn p (countSupply 7 s))
  if clock = 0 || (clock = 1 && s.boot.refSel) then
    .next (loseReference (s.onSupply fun x => { x with refPresent := frequency && x.refPresent }) (seen 172))
  else if clock = 6 then
    if s.relocking then .next s
    else .next (seen 174 (s.onSupply fun x => { x with pllFaults := 6 :: x.pllFaults.erase 6 }))
  else if clock = 10 then
    if frequency then .next s else .next (seen 175 (s.onSupply fun x => { x with springRuns := false }))
  else if (2 ≤ clock && clock ≤ 9) || (clock = 11 && frequency) then
    .next (seen 173 (s.onSupply fun x => { x with pllFaults := clock :: x.pllFaults.erase clock }))
  else .next s

/-! ### Watchdog (R446) -/

/-- Fabric cycles in which the fastest internal oscillator counts 100 ms (R440). -/
def watchdogCycles : Nat := 38095238

/-- `WATCHDOG_SERVICE`. -/
def execWatchdogService (s : State) : Out := .next (s.onSupply fun x => { x with watchdog := 0 })

/-! ### Commands, commits, resets, rules and status -/

/-- Ranges of the OPP entries: those in use, then zeros. -/
def oppFields (n : Nat) : List FieldSpec :=
  (List.range 8).flatMap fun i =>
    if i < n then [⟨12 + 4 * i, 2, .range 400 1600⟩, ⟨12 + 4 * i, 2, .multiple 50⟩, ⟨14 + 4 * i, 2, .range 650 850⟩]
    else [⟨12 + 4 * i, 4, .range 0 0⟩]

/-- Ranges of the PMIC map; STEP_UV is looked at where a voltage register is controlled. -/
def pmicFields (b : Bytes) : List FieldSpec :=
  (List.range 10).flatMap fun r =>
    let o := 44 + 8 * r
    [⟨o, 1, .range 0 127⟩, ⟨o + 2, 1, .rangeOr 0 7 0xFF⟩]
      ++ (if u8 b o != 0 && u8 b (o + 3) != 0xFF then [⟨o + 6, 2, .range 1 65535⟩] else [])

/-- `SUPPLY_CONFIG`. -/
def execSupplyConfig (buf : Bytes) (s : State) : Out :=
  .next (runKci 0x1001 buf (fun s m req body =>
    stageOne 0x1001 0 0 ([⟨0, 1, .flags 1⟩, ⟨1, 1, .range 1 8⟩, ⟨2, 2, .range 650 850⟩, ⟨4, 2, .range 650 850⟩,
        ⟨6, 2, .range 550 800⟩, ⟨8, 2, .range 500 50000⟩, ⟨10, 2, .zero⟩] ++ oppFields (u8 body 1) ++ pmicFields body
        ++ [⟨124, 4, .zero⟩]) s m req body) s)

/-- A VDD_CORE target held within its limits: on a step of 5 mV where the range has one (R429). -/
def avsHeld (lo hi core : Nat) : Nat :=
  let a := ceilDiv lo 5 * 5
  let b := hi / 5 * 5
  if a ≤ b then min (max core a) b else min (max core lo) hi

/-- A commit of `SUPPLY_CONFIG`: the operating point and AVS govern the targets from now on (R428, R429).  A change of frequency
that the new table asks for runs in the order of R430, and waits for `OPP_EVALUATION` while a rail is below its warning
level. -/
def applySupply (s : State) : State :=
  let m := s.coh.active
  let s := s.onSupply fun x => { x with configured := true, oppNext := none }
  let s := setTarget 0 (if avsEn m then avsHeld (avsMin m) (avsMax m) (s.supply.rails[0]).target else 750) s
  let i := min s.supply.opp (oppCount m - 1)
  if oppHolds i s then setTarget 1 (oppMv m i) (s.onSupply fun x => { x with opp := i })
  else if anyWarn s then s
  else startOpp i s

/-- Reset of 0x1000: the I²C sequencer and the sensors restart; monitors, dips and the governor go on (R447, R568). -/
def resetSupply (s : State) : State :=
  (s.onSupply fun x => { x with pmic := [], pllFaults := [], springRuns := true }).onThermal fun t => { t with invalid := 0 }

/-- The target is a whole code of the rail's voltage register (R450). -/
def wholeCode (m : NMap Bytes) (r mv : Nat) : Bool :=
  let e := pmicEntry m r
  let base := u16 e 4
  let step := u16 e 6
  decide (base ≤ mv) && step != 0 && (mv - base) * 1000 % step == 0 && decide ((mv - base) * 1000 / step < 256)

/-- The targets that a rail can take. -/
def railTargets (m : NMap Bytes) (r : Nat) : List Nat :=
  if r = 0 then
    if avsEn m then
      match ((List.range 41).map (650 + 5 * ·)).filter fun v => decide (avsMin m ≤ v) && decide (v ≤ avsMax m) with
      | [] => [avsMin m, avsMax m]
      | l => l
    else [750]
  else if r = 1 then (List.range (oppCount m)).map (oppMv m)
  else [800, sramRet m]

/-- The operating points ascend and begin at 400 MHz. -/
def oppTableOk (m : NMap Bytes) : Bool :=
  let l := List.range (oppCount m)
  l.any (fun i => oppMhz m i == 400)
    && l.all fun i => i == 0 || (decide (oppMhz m (i - 1) < oppMhz m i) && decide (oppMv m (i - 1) ≤ oppMv m i))

/-- The first rule of R452 that fails; `ceil` is the fused AVS_CEIL_MV. -/
def supplyRules (ceil : Nat) (m : NMap Bytes) : Option (Nat × Nat) :=
  if !oppTableOk m then some (1, rcOppTable)
  else if avsMax m < avsMin m || avsMax m < ceil then some (2, rcAvsRange)
  else if !([0, 1, 3].all fun r => u8 (pmicEntry m r) 0 != 0 && u8 (pmicEntry m r) 3 != 0xFF && (railTargets m r).all (wholeCode m r))
      || !([0, 1, 4, 5, 8, 9].all fun r => u8 (pmicEntry m r) 2 != 0xFF) then
    some (3, rcPmicMap)
  else none

/-- Adjacent digital domains would differ by more than 0.20 V (R431). -/
def spreadTooWide (m : NMap Bytes) : Bool :=
  let apart (a b : Nat) : Bool := decide (a + 200 < b) || decide (b + 200 < a)
  let core := [avsMin m, avsMax m]
  let cluster := (List.range (oppCount m)).map (oppMv m)
  let pair (x y : List Nat) : Bool := x.any fun a => y.any (apart a)
  pair core cluster || pair core [800, sramRet m] || pair core [800] || pair cluster [800]

/-- The first 48 bytes of the status of 0x1000 (R453). -/
def railStatus (s : State) : Bytes :=
  (List.finRange 10).flatMap (fun r => leBytes 2 (railTarget s r)
      ++ leBytes 2 (if railRemoved s r.val then 0 else (s.supply.rails[r]).present))
    ++ leBytes 2 (((List.finRange 10).map fun r => flag (s.supply.rails[r]).warn * 2 ^ r.val).foldl (· + ·) 0
        + flag s.supply.warnBall * 2 ^ 15)
    ++ leBytes 1 s.supply.opp
    ++ leBytes 1 (flag s.boot.refSel + 2 * flag s.boot.springExt + 4 * flag s.supply.refPresent)
    ++ leBytes 2 s.boot.fuses.avsCeil ++ zeros 2

def supplyStatus (s : State) : Bytes := railStatus s ++ thermalStatus s

end Sys2Proof.Machine
end

