-- ==== Sys2Proof/Machine/Resets.lean ====
section
/-!
DEFINITION. The reset tree and what each reset keeps (chapter 13, R443 to R448; chapter 14, R464 to R472).
-/

namespace Sys2Proof.Machine

/-! ### Firmware images (R464 to R466) -/

/-- Bytes of an image slot. -/
def ImageSlot.read (x : ImageSlot) (a n : Nat) : Bytes := (memReads x.content a n).map fun b => ~~~b

/-- Program bytes: the NOR only clears bits. -/
def ImageSlot.program (x : ImageSlot) (a : Nat) (bs : Bytes) : ImageSlot where
  content := memWrites x.content a (List.zipWith (fun o b => o ||| ~~~b) (memReads x.content a bs.length) bs)

def ImageSlot.word (x : ImageSlot) (a : Nat) : Nat := leNat (x.read a 4)

/-- The STATE word. -/
def ImageSlot.stateWord (x : ImageSlot) : Nat := x.word 0x3FF000
def ImageSlot.trial (x : ImageSlot) : Bool := x.stateWord == 0xFFFFFFFF
def ImageSlot.confirmed (x : ImageSlot) : Bool := x.stateWord == 0x0000FFFF
def ImageSlot.rejected (x : ImageSlot) : Bool := !x.trial && !x.confirmed
def ImageSlot.reject (x : ImageSlot) : ImageSlot := x.program 0x3FF000 (zeros 4)
def ImageSlot.confirm (x : ImageSlot) : ImageSlot := x.program 0x3FF000 (leBytes 4 0xFFFF)
def ImageSlot.seq (x : ImageSlot) : Nat := x.word 16
def ImageSlot.secVersion (x : ImageSlot) : Nat := x.word 12

/-- Why a slot's image does not pass R465, if it does not. -/
def ImageSlot.check (fuses : FuseSet) (x : ImageSlot) : Option Nat :=
  let key := x.read 128 64
  let len := x.word 8
  let good := x.word 0 == 0x48584657 && x.word 4 == 1 && decide (1 ≤ len) && decide (len ≤ 4189952)
    && fuses.keyHash == some (sha256 key)
    && ecdsaVerify (sha256 (x.read 0 64)) (beNat (key.take 32)) (beNat (key.drop 32)) (beNat (x.read 64 32)) (beNat (x.read 96 32))
    && sha256 (x.read 256 len) == x.read 32 32
  if !good then some rcAuthFail
  else if x.secVersion < fuses.secFloor then some rcImageRollback
  else none

def Boot.slot (b : Boot) (one : Bool) : ImageSlot := if one then b.slot1 else b.slot0

def Boot.setSlot (one : Bool) (x : ImageSlot) (b : Boot) : Boot := if one then { b with slot1 := x } else { b with slot0 := x }

/-- The slot that runs. -/
def Boot.running (b : Boot) : ImageSlot := b.slot b.imageSlot

/-- IMAGE_SEQ `a` is later than `b` by the half-range rule. -/
def laterSeq (a b : Nat) : Bool :=
  let d := (a + 2 ^ 32 - b) % 2 ^ 32
  decide (0 < d) && decide (d < 2 ^ 31)

/-- The slots in the order in which a start looks at them. -/
def Boot.order (b : Boot) : List Bool := if laterSeq b.slot1.seq b.slot0.seq then [true, false] else [false, true]

/-- Step 0x04: the slot that runs, or why none does. -/
def Boot.select (b : Boot) : Bool ⊕ Nat :=
  let tried := b.order.filter fun i => !(b.slot i).rejected
  match tried.find? fun i => ((b.slot i).check b.fuses).isNone with
  | some i => .inl i
  | none => .inr (if !tried.isEmpty && tried.all (fun i => (b.slot i).check b.fuses == some rcImageRollback) then rcImageRollback
      else rcAuthFail)

/-- A later-sequenced slot than `i` was rejected or failed. -/
def Boot.fellBack (b : Boot) (i : Bool) : Bool := laterSeq (b.slot (!i)).seq (b.slot i).seq

/-! ### Boot registers -/

/-- BOOT_STATUS (R45). -/
def bootStatus (b : Boot) : Nat :=
  flag b.ready * 2 ^ 31 + flag (b.phase == .safeHold) * 2 ^ 30 + flag (b.startKind == .warm) * 2 ^ 29 + flag b.hostSel * 2 ^ 28
    + flag b.imageSlot * 2 ^ 27 + flag b.fallback * 2 ^ 26 + flag b.padHold * 2 ^ 25 + b.warmFails.toNat * 2 ^ 20
    + b.coldFails.toNat * 2 ^ 16 + b.step.toNat * 2 ^ 8

/-- BOOT_REASON. -/
def bootReason (b : Boot) : Nat := b.reasonStep.toNat * 65536 + b.reasonCode.toNat

/-- `EV_BOOT_STATUS`. -/
def bootEvent (s : State) : State := raiseEvent 13 0 (bootStatus s.boot) s

/-! ### What a start keeps (R306, R471, R472, R551) -/

/-- Functions whose sets and enable bits a warm start retains. -/
def warmFns : List Nat := (0x0C00 :: (List.range 16).map (0x0C10 + ·)) ++ [0x0D00, 0x0E00, 0x1000]

def dramFns : List Nat := [0x0900, 0x0910, 0x0911]

/-- Enable a list of functions in a set. -/
def enableFns (l : List Nat) (m : NMap Bytes) : NMap Bytes :=
  l.foldl (fun m f => setPart m f 0x0010 0 0 [1, 0, 0, 0]) m

/-- The set of a start, from the retained parts, with the DRAM controller enabled with its start parameters. -/
def startSet (mem : Memory) (m : NMap Bytes) : NMap Bytes :=
  setPart (enableFns dramFns m) 0x0900 0x0901 0 0
    (patch dramConfigDefault 8 (leBytes 1 mem.grain.toNat ++ leBytes 1 mem.rate.toNat ++ leBytes 1 (flag mem.spare)))

/-- The journal after a restart: records not yet durable are dropped, retirements only by a cold start; the copies that
a reclaimed sector still owes are made again. -/
def restartJournal (warm : Bool) (j : Journal) : Journal :=
  let copies := match j.reclaim with
    | some i => copiesOf j i
    | none => []
  { j with queue := copies ++ (if warm then j.queue.filter (·.retired) else []), fails := 0, fault := false }

/-- A fault record's number out of the way of the numbers of the next start. -/
def farNo (n : Nat) : Nat := n % 2 ^ 64 + 2 ^ 64

/-- Confluence over a reset that is not a POR. -/
def keptSafety (warm : Bool) (x : Safety) : Safety :=
  let base := { Safety.reset with s4Held := x.s4Held, springFirst := x.springFirst, startNo := x.startNo }
  if warm then { base with latch := x.latch, latchNo := farNo x.latchNo, log := x.log.map fun e => (farNo e.1, e.2) } else base

/-- Time over a reset that is not a POR: a cold start keeps the Spring counter; a warm one bridges the rest by a
snapshot taken now, unless one stands. -/
def keptTime (warm : Bool) (s : State) : Time :=
  let t := s.time
  if !warm then { Time.reset with spring := t.spring, springPhase := t.springPhase }
  else
    { t with snapshot := some (t.snapshot.getD ⟨t.spring, s.netNs, t.slotBase, t.fabric, s.timeValid, t.asn⟩)
             errBase := errBound s, errSince := t.fabric, lastOffset := 0, applied := 0, jumpEpisode := false, ptpTx := none, ptpSync := none, delayLog := -4, delayAt := none, delayPort := none, ptpDelays := [], syncTimes := [], backupAt := none, primaryAt := none
             ppsLast := none, ppsPresent := false, ppsSecond := none, ppsArmed := none, ppsArmedForce := false, ppsOut := false, asn := none, idling := false
             realign := false, stepEnd := none }

/-- Supplies over a reset that is not a POR. -/
def keptSupply (warm : Bool) (x : Supply) : Supply :=
  let rails := x.rails.map fun r => { r with warn := false, minimum := none }
  if warm then
    { x with rails := rails, dip := none, oppNext := none, settling := [], pmic := [], refPresent := true, pllFaults := [], watchdog := 0 }
  else
    { Supply.reset with
      rails := Vector.ofFn fun i => { rails[i] with target := (railsReset[i]).target }, springRuns := x.springRuns, writes := x.writes }

/-- Memory over a warm reset: DRAM is empty; SRAM other than Backwater is lost only in HIBERNATE. -/
def keptMemory (warm hib : Bool) (m : Memory) : Memory :=
  let base := { Memory.reset with record := m.record }
  if !warm then base
  else
    let stays (a : Nat) : Bool := if hib then inBackwater a 1 else 0x10000000 ≤ a && a < 0x11000000
    { base with phys := m.phys.filter fun e => stays e.1, poison := m.poison.filter fun e => stays e.1, density := m.density
                ranks := m.ranks, grain := m.grain, rate := m.rate, spare := m.spare, retired0 := m.retired0, retired1 := m.retired1 }

/-- The sub-bands of a set. -/
def bandParts (m : NMap Bytes) : NMap Bytes := m.filter fun e => cfgKeyFn e.1 == 0x0500 && cfgKeyOp e.1 == 0x0503

/-- The transmit path over a warm reset: the counts stay with their sub-band edges. -/
def keptSluice (s : State) : Sluice :=
  let x := s.sluice
  { Sluice.reset with
    accounts := x.accounts.map fun a => { a with reserved := 0 }, preloadOwed := x.preloadOwed
    keptBands := if x.keptBands.isEmpty then bandParts s.coh.active else x.keptBands
    secondCharge := x.secondCharge, second := x.second }

/-- The cipher engine over a reset that is not a POR. -/
def keptCipher (warm : Bool) (c : Cipher) : Cipher :=
  let j := restartJournal warm c.journal
  if warm then { Cipher.reset with slots := c.slots, exhausted := c.exhausted, journal := j, contexts := c.contexts.filter fun x => !x.wrapped }
  else { Cipher.reset with journal := j }

/-- The thermal part over a reset that is not a POR; the governor's step is 0 after any start (R572). -/
def keptThermal (warm : Bool) (t : Thermal) : Thermal :=
  if warm then { t with step := 0, changeMs := none, coolMs := none, ring := [], seq := 0, span := TelSpan.reset }
  else { Thermal.reset with readings := t.readings, stored := t.stored, records := t.records }

/-- Reactions at S3 end at the start of the warm restart (R549). -/
def endDeviceReactions (s : State) : State :=
  (s.safety.reactions.filter fun r => r.severity == 3 && !r.ended).foldl (fun s r => endReaction r.recNo s) s

/-- A reset wider than a function's and narrower than POR takes the core domain; a start of kind `k` is due.  `hib`: the
device comes from HIBERNATE. -/
def resetDevice (k : StartKind) (hib : Bool) (s0 : State) : State :=
  let warm := k == .warm
  let s := restoreRails (if warm then endDeviceReactions s0 else s0)
  let kept := if warm then s.coh.active.filter fun e => warmFns.contains (cfgKeyFn e.1) else []
  { State.reset with
    pending := s.pending
    freeCount := s.freeCount
    kci := { Kci.reset with hostMem := s.kci.hostMem, config := if hib then s.power.savedConfig.getD [] else [] }
    coh := { Coherence.reset with active := kept, staged := kept, generation := if warm then s.coh.generation else 0 }
    boot := { s.boot with phase := .due k hib, ready := false, startKind := k, padHold := true, step := 0, fallback := false }
    safety := keptSafety warm s.safety
    time := keptTime warm s
    power := { Power.reset with savedConfig := s.power.savedConfig, held := if hib && warm then s.power.held else [], lastWake := s.power.lastWake, lastState := s.power.lastState, hibInd := hib && s.power.hibInd
                                wakeAt := s.power.wakeAt, sealed := s.power.sealed }
    supply := keptSupply warm s.supply
    -- the sensors go on reading the radios' temperatures
    radios := if warm then { Radios.reset with store := s.radios.store, unit := s.radios.unit.map fun x => { Radio.reset with temp := x.temp } } else Radios.reset
    sluice := if warm then keptSluice s else Sluice.reset
    cipher := keptCipher warm s.cipher
    thermal := keptThermal warm s.thermal
    mem := keptMemory warm hib s.mem
    timers := if warm then s.timers else State.reset.timers
    counters := s.counters.filter fun e => e.1 == counterKey supplyFn 8 }

/-- POR: everything but the flash and the fuses (R443). -/
def porReset (springExt : Bool) (s : State) : State :=
  { State.reset with
    pending := s.pending
    freeCount := s.freeCount
    kci := { Kci.reset with hostMem := s.kci.hostMem }
    boot := { Boot.reset with springExt := springExt, fuses := s.boot.fuses, fused := s.boot.fused, slot0 := s.boot.slot0
                              slot1 := s.boot.slot1, perstLow := s.boot.perstLow }
    cipher := keptCipher false s.cipher
    thermal := { Thermal.reset with stored := s.thermal.stored, records := s.thermal.records }
    mem := keptMemory false false s.mem }

/-! ### Failed starts (R466, R468 to R470) -/

/-- SAFE_HOLD: the diagnostic mailbox answers; the transmit side is in the safe state.  The event's source is a free
value, since no source enters SAFE_HOLD.  BOOT_STATUS.STEP reads 0 there, as the reset of the failed start left it; the
failing step stays in BOOT_REASON (DESIGN CHOICE, log entry 118). -/
def enterSafeHold (s : State) : State :=
  let (v, s) := s.free
  let s := s.onBoot fun b => { b with phase := .safeHold, ready := true, padHold := true }
  bootEvent (enterSafeState (v % 256) false true s)

/-- The start in progress, or in its first 10 s, fails at `step` for `reason`; `cold`: the next start is forced to be
cold. -/
def failStart (k : StartKind) (step reason : Nat) (cold : Bool) (s : State) : State :=
  let b := s.boot
  let b := if (5 ≤ step && b.running.trial) then b.setSlot b.imageSlot b.running.reject else b
  let b := { b with reasonStep := BitVec.ofNat 16 step, reasonCode := BitVec.ofNat 16 reason }
  match k with
  | .warm =>
    let n : BitVec 4 := b.warmFails + 1
    let forced := decide (3 ≤ n.toNat)
    let b := { b with warmFails := if forced && !cold then 0 else n }
    resetDevice (if cold || forced then .cold else .warm) false { s with boot := b }
  | .cold =>
    let n : BitVec 4 := if b.coldFails.toNat < 3 then b.coldFails + 1 else b.coldFails
    let b := { b with coldFails := n }
    let s := resetDevice .cold false { s with boot := b }
    if 3 ≤ n.toNat then enterSafeHold s else s

/-! ### Resets (R443 to R448) -/

/-- `POR`: VDD_SPRING falls below its reset level, or rises. -/
def execPor (falling springExt : Bool) (s : State) : Out :=
  .next (porReset (if falling then s.boot.springExt else springExt) s)

/-- `EXTERNAL_RESET`: RESET_N has been qualified low and rises. -/
def execExternalReset (s : State) : Out :=
  let s := (resetDevice .cold false s).count supplyFn 8
  .next (s.onBoot fun b => { b with warmFails := 0, coldFails := 0 })

/-- The mailboxes are reset, and what they owe is discarded (R53, R57). -/
def resetMailboxes (k : Kci) : Kci :=
  { k with mbx := Vector.replicate 4 Mbx.reset, executing := none, longs := k.longs.map fun l => { l with quiet := true } }

/-- `PCIE_PERST_N_ASSERT`: the link goes down; the mailboxes are reset, the debug window
closes (R611), and DOZE ends. -/
def execPciePerstNAssert (s : State) : Out :=
  if s.boot.perstLow then .next s
  else
    let s := (s.onBoot fun b => { b with perstLow := true }).count supplyFn 9
    let s := s.onKci fun k => { resetMailboxes k with dbgOpen := false }
    -- the accesses that wait for an exit are lost with the endpoint
    .next (if s.power.target = .doze && s.power.phase != .awake then fireWake 2 (s.onPower fun p => { p with hostHeld := [] }) else s)

/-- `PCIE_PERST_N_RELEASE`: BAR0 registers return to their reset values; a wake source of HIBERNATE. -/
def execPciePerstNRelease (s : State) : Out :=
  if !s.boot.perstLow then .next s
  else
    let s := s.onBoot fun b => { b with perstLow := false }
    let s := s.onKci fun k =>
      { resetMailboxes { Kci.reset with longs := k.longs, longNext := k.longNext } with
        bar0 := k.bar0, bar2 := k.bar2, hostMem := k.hostMem, seq := k.seq, ringWait := k.ringWait, lastServed := k.lastServed }
    .next (if s.power.state = .hibernate then fireWake 2 s else s)

/-- The raise of a source whose reaction is a warm restart (R436, R446).  It fails a warm start in progress, at a step and
for a reason that the spec leaves open (R447, log entry 84); a cold start is the wider reset and goes on. -/
def restartRaise (n detail : Nat) (s : State) : State :=
  match s.boot.phase with
  | .due .warm _ =>
    let (v, s) := s.free
    let (w, s) := s.free
    failStart .warm (1 + w % 9) (someReason v) false s
  | .due .cold _ => s
  | _ => raiseSource n supplyFn detail s

/-- `RAIL_RESET_CROSSING` (R436): VDD_SPRING takes the whole device; any other rail raises RAIL_RESET. -/
def execRailResetCrossing (rail : Fin 10) (mv : Nat) (s : State) : Out :=
  if railRemoved s rail.val || 88 * levelTarget s rail ≤ 100 * mv then .next s
  else if rail = 2 then .next (porReset s.boot.springExt s)
  else
    let s := s.onRail rail fun x => { x with present := mv }
    .next (restartRaise 169 (rail.val + mv * 2 ^ 16) s)

/-- `CP_WATCHDOG`. -/
def execCpWatchdog (s : State) : Out :=
  if s.asleep || decide (s.supply.watchdog < watchdogCycles) then .next s
  else .next (restartRaise 176 0 (countSupply 10 (s.onSupply fun x => { x with watchdog := 0 })))

/-- `DEVICE_RESTART` (R448). -/
def execDeviceRestart (buf : Bytes) (s : State) : Out :=
  .next (runKci 0x1002 buf (fun s _ _ body =>
    match checkFields body [⟨0, 1, .range 0 1⟩, ⟨1, 3, .zero⟩] with
    | some rc => no rc
    | none =>
      if s.supply.dip.isSome then no rcSupplyLow
      else ok (s.onBoot fun b => { b with phase := .commanded (if u8 body 0 = 1 then .cold else .warm) })) s)

/-- The safe state of an S3 reaction was reached 1 ms ago or longer; it is reached in the step of its raise (R549). -/
def restartDue (s : State) : Bool :=
  s.safety.reactions.any fun r => r.severity == 3 && !r.ended && 400000 ≤ (s.time.fabric - r.raisedAt).toNat

/-- `S3_WARM_RESTART`: the rails have recovered and the restart begins; within 10 s of READY the start has failed.  The
reason of such a failure is a free value among the codes, since no chapter gives it one (log entry 84). -/
def execS3WarmRestart (s : State) : Out :=
  if s.safety.restartPending && restartDue s && !s.safety.s4Held && s.supply.dip.isNone && railsRecovered s && !s.asleep then
    match s.boot.phase with
    | .proving k =>
      let (v, s) := s.free
      .next (failStart k 0x0A (someReason v) false s)
    | .safeHold => .next s
    | _ => .next (resetDevice .warm false s)
  else .next s

/-- `START_TIMEOUT`: READY is not set within 1 s; `step` is the step in progress. -/
def execStartTimeout (step : Nat) (s : State) : Out :=
  match s.boot.phase with
  | .due k _ => .next (failStart k step rcStartTimeout false s)
  | _ => .next s

/-- `START_SUCCESS`: READY has been 1 for 10 s. -/
def execStartSuccess (s : State) : Out :=
  match s.boot.phase with
  | .proving _ =>
    if 327680 ≤ (s.time.spring - s.boot.readyAt).toNat then
      .next (s.onBoot fun b => { b with phase := .inService, warmFails := 0, coldFails := 0 })
    else .next s
  | _ => .next s

end Sys2Proof.Machine
end

