-- ==== Sys2Proof/Machine/Start.lean ====
section
/-!
DEFINITION. Cold and warm start, pad hold and the firmware image commands (chapter 14).
-/

namespace Sys2Proof.Machine

/-! ### The steps (R458) -/

/-- The nominal voltage that a rail's start condition refers to (R426). -/
def startMv (r : Nat) : Nat := ((railsReset.toList).map (·.target)).getD r 0

/-- Every rail is above 94 % of its nominal value, which is the start condition (R426); for a warm start, of the target
that it keeps, which is the recovery level (R436; DEDUCED, log entry 147). -/
def railsUp (k : StartKind) (s : State) (f : StartFacts) : Bool :=
  (List.finRange 10).all fun r =>
    let t := if k = .warm then (s.supply.rails[r]).target else if r = 1 then 650 else startMv r.val
    decide (94 * t ≤ 100 * f.rails.getD r.val 0)

/-- A start of kind `k` may begin. -/
def startDue (k : StartKind) (s : State) : Bool :=
  match s.boot.phase with
  | .due j hib => j == k && (!hib || s.power.phase == .waking || s.power.phase == .qualified || s.power.phase == .rebuilt
      || s.power.phase == .awake)
  | .commanded j => j == k
  | _ => false

/-- The start is from HIBERNATE. -/
def fromHibernate (s : State) : Bool :=
  match s.boot.phase with
  | .due _ hib => hib
  | _ => false

/-- Steps 0x00 and 0x01: the fuses are loaded, the starts counted, and the flash is as it was programmed from outside. -/
def loadFuses (f : StartFacts) (s : State) : State :=
  let s := s.onSafety fun x => { x with startNo := x.startNo + 1 }
  let s := s.onSupply fun x =>
    { x with rails := Vector.ofFn fun i => { x.rails[i] with present := f.rails.getD i.val (x.rails[i]).present } }
  s.onBoot fun b =>
    let b := if b.fused then b else { b with fuses := f.fuses, fused := true }
    let b := match f.flash with
      | some (x, y) => { b with slot0 := (ImageSlot.mk []).program 0 x, slot1 := (ImageSlot.mk []).program 0 y }
      | none => b
    { b with step := 1 }

/-- What is common to the steps of a start from the self-test to the DRAM: the step and the reason that fail it, if one
does, and the state with the image selected. -/
def runSteps (cold : Bool) (f : StartFacts) (s : State) : Option (Nat × Nat) × State :=
  let ended (n : Nat) : Bool := f.endedAt == some n
  if !f.lockstepPasses then (some (1, rcBistFail), s)
  else if !f.monitorsPass then (some (2, rcMonitorSelftest), raiseSource 177 supplyFn 0 s)
  else if cold && !f.sramPasses then (some (3, rcBistFail), s)
  else
    match s.boot.select with
    | .inr rc => (some (4, rc), s)
    | .inl i =>
      let s := s.onBoot fun b => { b with imageSlot := i, fallback := b.fellBack i, step := 4 }
      if !f.dramPasses || (cold && !([4, 8, 16].contains f.density && [1, 2].contains f.ranks)) then (some (5, rcDramTrainFail), s)
      else if (List.range 10).any ended then
        let (v, s) := s.free
        (some (f.endedAt.getD 0, someReason v), s)
      else (none, s)

/-- The reaction path self-test of step 0x02: a failure raises CONFLUENCE_CHECK, and the start goes on to READY with the
functions held (R541, R550). -/
def testReactions (f : StartFacts) (s : State) : State := if f.reactionsPass then s else raiseSource 124 0x0F00 0 s

/-- Step 0x0A: READY. -/
def setReady (k : StartKind) (s : State) : State :=
  let s := s.onBoot fun b => { b with ready := true, step := 0x0A, phase := .proving k, readyAt := s.time.spring }
  let well := !s.safety.s4Held && !s.safety.safeState
  let s := s.onSafety fun x => { x with safeOk := well, faultN := !well, tokenAt := s.time.fabric }
  let s := s.onMem fun m => { m with scrubStart := s.time.fabric, dramStart := s.time.spring }
  bootEvent ((s.onPower fun p => { p with hibInd := false }).onSupply fun x => { x with watchdog := 0 })

/-- Step 0x05 of a cold start: parameters from the record, the rate that training reached. -/
def trainDram (f : StartFacts) (m : Memory) : Memory :=
  let r := if f.recordPasses then m.record else none
  let p : DramRecord := r.getD ⟨12, 3, false, false, false⟩
  { m with density := f.density, ranks := f.ranks, grain := p.grain, rate := BitVec.ofNat 8 (min p.rate.toNat f.rate), spare := p.spare
           retired0 := p.retired0, retired1 := p.retired1, record := r }

/-- Step 0x07: the results of the observation synthesiser's calibration; a warm start keeps its variants within 10 °C. -/
def takeObs (k : StartKind) (rs : List CalResult) (s : State) : State :=
  let kept (c : CalResult) : Bool :=
    k == .warm && (calDelta s.radios.store 3 c.lo c.chan (s.radio 0).temp).any fun d => decide (d ≤ 80)
  takeResults 0 (rs.filter fun c => c.synth == 3 && !kept c) s

/-- Steps 0x05 to 0x09 of a cold start. -/
def initCold (f : StartFacts) (s : State) : State :=
  let s := s.onMem (trainDram f)
  let m := startSet s.mem (enableFns [0x0D00, 0x0E00, 0x1000] [])
  let s := takeObs .cold f.results (s.onCoh fun _ => { Coherence.reset with active := m, staged := m })
  let s := s.onCipher fun c => { c with slots := rebuildSlots c.journal }
  let s := (badSectors s.cipher.journal).foldl (fun s i => raiseEvent 130 cipherFn (i + 3 * 2 ^ 8) s) s
  let s := s.onRail 1 fun x => { x with target := (x.present + 2) / 5 * 5 }
  let kept := if f.stressPasses then s.thermal.stored else none
  let s := s.onThermal fun t => { t with bandMs := kept.getD (Vector.replicate 8 0), stored := kept }
  if kept.isNone then raiseSource 191 supplyFn 0 s else s

/-- The generation after a warm start. -/
def warmGeneration (g : BitVec 32) : BitVec 32 := if g = 0xFFFFFFFF then 1 else g + 1

/-- Steps 0x05 to 0x09 of a warm start. -/
def initWarm (hib : Bool) (f : StartFacts) (s : State) : State :=
  let start := (s.time.snapshot.map (·.spring)).getD s.time.spring
  let valid := (s.time.snapshot.map (·.wasValid)).getD false
  let ticks := (s.time.spring - start).toNat
  let s := s.onCoh fun c =>
    let m := startSet s.mem c.active
    { c with active := m, staged := m, generation := warmGeneration c.generation }
  let s := takeObs .warm f.results s
  let s := s.cipher.slots.foldl (fun s e => reserveAhead e.1 e.2 s) s
  let s := if hib then addStress (tj s.thermal) (ticks * 1000 / 32768) s else s
  let s := if valid then freezeBound .freerun s else s.onTime fun t => { t with state := .invalid }
  let s := rebuildBases (s.onTime fun t => { t with source := primarySource s.coh.active, phaseTerm := 0 })
  -- no core is halted after a start, and every radio is off
  enterIdle ((List.finRange 16).foldl releaseTimer s)

/-- `COLD_START`. -/
def execColdStart (f : StartFacts) (s : State) : Out :=
  if !startDue .cold s || !railsUp .cold s f || !f.resetN then .next s
  else
    let s := resetDevice .cold false s
    let s := s.onBoot fun b => { b with hostSel := f.hostSel, refSel := f.refSel, testMode := f.testMode }
    if f.testMode then .next (s.onBoot fun b => { b with phase := .factoryTest })
    else
      let s := loadFuses f s
      if s.safety.s4Held then
        .next (enterSafeHold (s.onBoot fun b => { b with reasonStep := 1, reasonCode := BitVec.ofNat 16 rcSafeState }))
      else
        match runSteps true f s with
        | (some (step, rc), s) => .next (failStart .cold step rc false s)
        | (none, s) => .next (setReady .cold (testReactions f (initCold f s)))

/-- `WARM_START`. -/
def execWarmStart (f : StartFacts) (s : State) : Out :=
  if !startDue .warm s || !railsUp .warm s f then .next s
  else
    let hib := fromHibernate s
    -- firmware checks each region of Backwater against the table (R417)
    let intact := s.power.sealed == some (backwaterSums s)
    let s := loadFuses { f with flash := none } (resetDevice .warm hib s)
    match runSteps false f s with
    | (some (step, rc), s) => .next (failStart .warm step rc false s)
    | (none, s) =>
      if hib && !(f.backwaterPasses && intact) then .next (failStart .warm 6 rcBackwaterCheck true (raiseSource 111 powerFn 0 s))
      else .next (handleHeld (setReady .warm (testReactions f (initWarm hib f s))))

/-! ### Pad hold (R462) -/

/-- `PAD_HOLD_RELEASE`. -/
def execPadHoldRelease (buf : Bytes) (s : State) : Out :=
  .next (runKci 0x1003 buf (fun s _ _ _ =>
    if s.boot.padHold then ok (bootEvent (s.onBoot fun b => { b with padHold := false })) else ok s) s)

/-! ### Image commands (R467) -/

/-- `IMAGE_WRITE`: accepted as a long command for the slot that does not run. -/
def execImageWrite (buf : Bytes) (s : State) : Out :=
  .next (runKci 0x1004 buf (fun s m req body =>
    match checkFields body [⟨0, 1, .flags 2⟩, ⟨1, 3, .zero⟩, ⟨4, 4, .multiple 8⟩, ⟨4, 4, .range 0 0x400000⟩] with
    | some rc => no rc
    | none =>
      if 0x400000 < u32 body 4 + (body.length - 8) then no rcFieldRange
      else if s.boot.running.trial then no rcImageUnconfirmed
      else acceptLong s m req body) s)

/-- The write of `body` to the slot that does not run: the reason it ends with. -/
def writeImage (body : Bytes) (s : State) : Nat × State :=
  let i := !s.boot.imageSlot
  let x := if bit (u8 body 0) 0 then ImageSlot.mk [] else s.boot.slot i
  let x := x.program (u32 body 4) (body.drop 8)
  if bit (u8 body 0) 1 then
    match x.check s.boot.fuses with
    | some rc => (rc, s.onBoot (Boot.setSlot i x.reject))
    | none => (rcOk, s.onBoot (Boot.setSlot i x))
  else (rcOk, s.onBoot (Boot.setSlot i x))

/-- `IMAGE_WRITE_DONE`: the oldest accepted write completes. -/
def execImageWriteDone (s : State) : Out :=
  match s.kci.longs.find? fun l => l.req.opcode == 0x1004 with
  | none => .next s
  | some l =>
    let (rc, t) := writeImage l.buf s
    .next (longDone l.id rc t)

/-- `IMAGE_CONFIRM`. -/
def execImageConfirm (buf : Bytes) (s : State) : Out :=
  .next (runKci 0x1005 buf (fun s _ _ _ =>
    let b := s.boot
    if b.running.trial then
      ok (s.onBoot fun b =>
        { b.setSlot b.imageSlot b.running.confirm with fuses := { b.fuses with secFloor := max b.fuses.secFloor b.running.secVersion } })
    else ok s) s)

/-- `IMAGE_STATUS`. -/
def execImageStatus (buf : Bytes) (s : State) : Out :=
  .next (runKci 0x1006 buf (fun s _ _ _ =>
    let one (x : ImageSlot) : Bytes := leBytes 4 x.stateWord ++ leBytes 4 x.seq ++ leBytes 4 x.secVersion ++ x.read 24 8
    .done s rcOk 0 [] (one s.boot.slot0 ++ one s.boot.slot1 ++ leBytes 4 s.boot.fuses.secFloor)) s)

end Sys2Proof.Machine
end

