-- ==== Sys2Proof/Machine/Confluence.lean ====
section
/-!
DEFINITION. Confluence: detected and commanded raises, report intervals, shadow windows, the safety outputs and the
commands of chapter 17.
-/

namespace Sys2Proof.Machine

def safetyFn : Nat := 0x0F00

/-- Confluence supervises: a start has begun and SAFE_HOLD has not been entered (R470, R471). -/
def supervises (s : State) : Bool :=
  match s.boot.phase with
  | .due _ _ => false
  | .safeHold => false
  | .factoryTest => false
  | _ => true

/-- Counters and events of a source which no other command detects: CACHE_CE of a core (R532, R534), and the comparison of
the duplicated time counters, a plausibility failure (R369) whose payload is the DETAIL of the raise (R556). -/
def countDetected (n : Nat) (detail : BitVec 64) (s : State) : State :=
  if !s.asleep && 75 ≤ n && n < 99 && (n - 75) % 3 = 0 then s.count (coreFn ((n - 75) / 3)) 4
  else if n = 106 && s.works 0x0D00 && s.power.phase == .awake then
    raiseEvent 166 0x0D00 detail.toNat (s.count 0x0D00 15)
  else s

/-- `FAULT_SOURCE_RAISE`: the detector of source `n` raises it, naming function `named`. -/
def execFaultSourceRaise (n : Fin 192) (named : Nat) (detail : BitVec 64) (s : State) : Out :=
  .next (if supervises s then raiseFault n.val named detail false (countDetected n.val detail s) else s)

/-- `FAULT_REPORT_INTERVAL`: the 1 s interval of source `n` ends, in fabric time. -/
def execFaultReportInterval (n : Fin 192) (s : State) : Out :=
  match mget s.safety.reports n.val with
  | none => .next s
  | some p =>
    if (s.time.fabric - p.since).toNat < 400000000 then .next s
    else if p.count = 0 then .next (s.onSafety fun x => { x with reports := mdel x.reports n.val })
    else .next (reportNote n.val (severity s n.val) p.count p.detail p.injected s)

/-- `SHADOW_WINDOW_CLOSE`: the window of the ended reaction with record number `recNo` closes; an abandoned reset gives no
event (R447, R552). -/
def execShadowWindowClose (recNo : Nat) (s : State) : Out :=
  match s.safety.reactions.find? fun r => r.recNo == recNo && windowOver s r with
  | none => .next s
  | some r =>
    let s := s.onSafety fun x => { x with reactions := x.reactions.filter fun y => y.recNo != recNo }
    .next (if r.abandoned then s
      else raiseEvent 225 safetyFn (r.source + r.severity * 2 ^ 8 + r.consequential * 2 ^ 16 + r.target * 2 ^ 32) s)

/-! ### Safety outputs (R539 to R541) -/

/-- `SAFETY_LOOP_TOKEN`: firmware has confirmed `confirmed` monitors and writes `token`. -/
def execSafetyLoopToken (token : BitVec 32) (confirmed : Nat) (s : State) : Out :=
  let good := token == s.safety.token.rotateLeft 1 ^^^ BitVec.ofNat 32 confirmed
  .next (s.onSafety fun x =>
    if good then { x with token := token, tokenGood := true, tokenAt := s.time.fabric } else { x with tokenGood := false })

/-- `SAFETY_LOOP_LATE`: no good token for 2 ms. -/
def execSafetyLoopLate (s : State) : Out :=
  if s.asleep || !s.boot.ready || !supervises s || decide ((s.time.fabric - s.safety.tokenAt).toNat < 800000) then .next s
  else
    .next (raiseSource 126 safetyFn 0 (s.onSafety fun x =>
      { x with safeOk := false, tokenGood := false, tokenAt := s.time.fabric }))

/-- Consecutive occurrences, up to four, and the positions that have reached three just now. -/
def runLength {n : Nat} (old : Vector Nat n) (now : Nat → Bool) : Vector Nat n × List Nat :=
  let v : Vector Nat n := Vector.ofFn fun i => if now i.val then min (old[i] + 1) 4 else 0
  (v, (List.finRange n).filterMap fun i => if v[i] = 3 then some i.val else none)

/-- `SAFE_OUTPUT_READBACK`: `differ` marks the balls that read back wrong, SAFE_OK, FAULT_N, PA_EN A to C and TR_SW A to
C; `hotRadios` the radios whose broadband reading is above −40 dBm.  A run of readbacks raises once, at its third
(DEDUCED, log entry 152). -/
def execSafeOutputReadback (differ : BitVec 8) (hotRadios : BitVec 3) (s : State) : Out :=
  if !supervises s then .next s
  else
    let (v, bad) := runLength s.safety.mismatch differ.getLsbD
    let (w, hot) := runLength s.safety.breach fun r => s.safety.safeState && hotRadios.getLsbD r
    let s := s.onSafety fun x => { x with mismatch := v, breach := w }
    let s := bad.foldl (fun s b => raiseSource 123 safetyFn b s) s
    .next (hot.foldl (fun s r => raiseSource 128 safetyFn r s) s)

/-- `FW_INTEGRITY`: the hash of firmware code and constants matches, or not. -/
def execFwIntegrity (same : Bool) (s : State) : Out :=
  .next (if same || s.asleep || !supervises s then s else raiseSource 119 safetyFn 0 s)

/-! ### Commands (R557 to R560) -/

/-- Why an entry of `FAULT_TABLE_LOAD` for source `n` is refused. -/
def faultEntryCheck (n : Nat) (e : Bytes) : Option Nat :=
  match checkFields e [⟨0, 1, .range 0 4⟩, ⟨1, 1, .zero⟩] with
  | some rc => some rc
  | none =>
    if reservedSource n then
      if u8 e 0 != 0 || !(e.drop 4).all (· == 0) then some rcFieldRange else none
    else if u8 e 0 < (sevFloor n).2 then some rcSeverityFloor
    else none

/-- `FAULT_TABLE_LOAD`. -/
def execFaultTableLoad (buf : Bytes) (s : State) : Out :=
  .next (runKci 0x0F01 buf (fun s _ req body =>
    let first := u16 body 0
    let n := u16 body 2
    match checkFields body [⟨0, 2, .range 0 191⟩, ⟨2, 2, .range 1 144⟩, ⟨4, 4, .zero⟩] with
    | some rc => no rc
    | none =>
      if 192 < first + n then no rcFieldRange
      else
        let es := runEntries 8 28 n body
        match (es.mapIdx fun i e => (first + i, e)).findSome? fun e => faultEntryCheck e.1 e.2 with
        | some rc => no rc
        | none => ok (stageRun req.fn 0x0F01 0 first es s)) s)

/-- A fault record as 64 bytes. -/
def recordBytes (r : FaultRec) : Bytes :=
  leBytes 2 r.source ++ leBytes 1 r.severity
    ++ leBytes 1 (flag r.overflow + 2 * flag r.injected + 4 * flag r.first + 8 * flag r.asleep)
    ++ leBytes 2 r.target ++ leBytes 2 r.overflowSource ++ leBytes 4 r.generation.toNat ++ leBytes 2 r.consequential
    ++ leBytes 2 r.firstConseq ++ leBytes 8 r.fabric.toNat ++ leBytes 8 r.asn.toNat ++ leBytes 8 r.spring.toNat
    ++ leBytes 8 r.detail.toNat ++ leBytes 4 r.reactionUs ++ leBytes 4 r.startNo.toNat ++ zeros 8

/-- `FAULT_LOG_READ`. -/
def execFaultLogRead (buf : Bytes) (s : State) : Out :=
  .next (runKci 0x0F02 buf (fun s _ _ _ =>
    let x := s.safety
    .done s rcOk 0 [] ((match x.latch with
        | some r => recordBytes r
        | none => zeros 64) ++ leBytes 8 x.logCount.toNat
      ++ (List.range 16).flatMap (fun i => match x.log[i]? with
        | some e => recordBytes e.2
        | none => zeros 64)
      ++ (List.range 192).flatMap fun n => leBytes 8 (mgetD x.counts n 0))) s)

/-- `FAULT_CLEAR`. -/
def execFaultClear (buf : Bytes) (s : State) : Out :=
  .next (runKci 0x0F03 buf (fun s _ _ _ =>
    if reactionActive s then no rcReactionActive
    else if s.safety.s4Held then no rcSafeState
    else ok (s.onSafety fun x => { x with latch := none })) s)

/-- Why a commanded raise is refused (R559). -/
def raiseRefused (s : State) : Option Nat :=
  if reactionActive s then some rcReactionActive
  else if s.safety.safeState || s.safety.s4Held then some rcSafeState
  else none

/-- The function that an injected raise of source `n` names: the owner, for source 18 the radio that the observation synthesiser
serves (R169). -/
def injectNamed (s : State) (n : Nat) : Nat :=
  if n = 18 then radioFn (s.radios.obsServes.getD 0) else sourceOwner n

/-- `FAULT_INJECT`. -/
def execFaultInject (buf : Bytes) (s : State) : Out :=
  .next (runKci 0x0F04 buf (fun s _ _ body =>
    let n := u16 body 0
    if 191 < n || (144 < n && n < 168) then no rcFieldRange
    else if u16 body 2 != 0 then no rcReservedNonzero
    else
      match raiseRefused s with
      | some rc => no rc
      | none => ok (raiseFault n (injectNamed s n) (BitVec.ofNat 64 (u64 body 4)) true s)) s)

/-- `FAULT_RAISE`. -/
def execFaultRaise (buf : Bytes) (s : State) : Out :=
  .next (runKci 0x0F05 buf (fun s _ _ body =>
    match checkFields body [⟨0, 1, .range 0 15⟩, ⟨1, 3, .zero⟩] with
    | some rc => no rc
    | none =>
      match raiseRefused s with
      | some rc => no rc
      | none => ok (raiseFault (129 + u8 body 0) 0 (BitVec.ofNat 64 (u64 body 4)) false (s.count safetyFn 9))) s)

/-- A source at S2 has a resolvable reset target (R558). -/
def targetResolves (m : NMap Bytes) (n : Nat) : Bool :=
  let e := part m 0x0F00 0x0F01 0 n
  if u8 e 0 != 2 then true
  else if u16 e 2 != 0xFFFF then resettable (u16 e 2)
  else
    match defaultTarget n with
    | .fn f => resettable f
    | .byRaise => true
    | .nothing => false

/-- The rule of R558. -/
def safetyRules (m : NMap Bytes) : Option (Nat × Nat) :=
  if (List.range 192).all (targetResolves m) then none else some (1, rcReactionTarget)

/-- Status of Confluence (R561). -/
def safetyStatus (s : State) : Bytes :=
  let x := s.safety
  leBytes 1 (if x.s4Held then 3 else if x.safeState then 2 else flag (reactionActive s))
    ++ leBytes 1 (flag x.latch.isSome + 2 * flag ((x.latch.map (·.overflow)).getD false) + 4 * flag x.safeOk + 8 * flag x.faultN)
    ++ leBytes 2 ((x.latch.map (·.source)).getD 0xFFFF) ++ leBytes 1 (min (x.reactions.filter fun r => !r.ended).length 192)
    ++ leBytes 2 x.springFirst.toNat ++ [0] ++ leBytes 8 x.logCount.toNat

end Sys2Proof.Machine
end

