-- ==== Sys2Proof/Machine/Commit.lean ====
section
/-!
DEFINITION. The consistency check, commits and their boundaries (R25 to R37, R65 to R68) and function resets
(R70 to R72).
-/

namespace Sys2Proof.Machine

/-! ### Rules of each function (R26) -/

/-- The rules of the cipher engine (R310); rule 2 counts only with the link controller enabled. -/
def cipherRules (s : State) (m : NMap Bytes) : Option (Nat × Nat) :=
  let nbKeys := (validNbs m).map (nbKey m)
  let txKeys := [beaconKey m, groupKey m] ++ (if nbValid m (parentIdx m) then [nbKey m (parentIdx m)] else [])
    ++ (((validNbs m).filter fun n => !(dlCells m n).isEmpty).map (nbKey m))
  if 32768 < slotsNeeded s m then some (1, rcTxKeysExceeded)
  else if enabledIn m linkFn
      && !((nbKeys ++ [beaconKey m, groupKey m]).all (linkRxKey m) && txKeys.all (linkTxKey m)) then some (2, rcKeyReference)
  else none

/-- The first rule of function `fn` that the set `m` breaks: its number and reason. -/
def fnRules (s : State) (m : NMap Bytes) (fn : Nat) : Option (Nat × Nat) :=
  if 0x0100 ≤ fn && fn ≤ 0x0102 then radioRules m (fn - 0x0100)
  else if 0x0200 ≤ fn && fn ≤ 0x0207 then groupRules m (fn - 0x0200)
  else if fn = eddyFn then eddyRules m
  else if fn = sluiceFn then sluiceRules m
  else if fn = linkFn then linkRules m
  else if fn = cipherFn then cipherRules s m
  else if fn = routerFn then routerRules m
  else if fn = 0x0810 || fn = 0x0811 then portRules m (fn - 0x0810)
  else if fn = dramFn then dramRules s.mem m
  else if fn = schedFn then schedRules m
  else if 0x0C10 ≤ fn && fn ≤ 0x0C1F then timerRules m (Fin.ofNat 16 (fn - 0x0C10))
  else if fn = timeFn then timeRules m
  else if fn = powerFn then powerRules m
  else if fn = safetyFn then safetyRules m
  else if fn = supplyFn then supplyRules s.boot.fuses.avsCeil m
  else none

/-- The functions whose rules are checked: those that would be enabled, and the DRAM controller, whose first rule is that
it stays so (R26, R497). -/
def checkedFns (m : NMap Bytes) : List Nat := allFunctions.filter fun f => f != 0 && (enabledIn m f || f == dramFn)

/-! ### Rules across functions (R68) -/

/-- The functions that supply `fn` (R68 rule 1, R530). -/
def suppliers (m : NMap Bytes) (fn : Nat) : List Nat :=
  if 0x0200 ≤ fn && fn ≤ 0x0207 then [0x0100 + groupRadio m (fn - 0x0200)]
  else if fn = sluiceFn then ((txChannels m).filter (chanExists m)).map fun ch => 0x0100 + chanRadio m ch
  else if 0x0720 ≤ fn && fn ≤ 0x073F then [cipherFn]
  else if fn = 0x0810 || fn = 0x0811 then [routerFn]
  else if fn = 0x0910 || fn = 0x0911 then [dramFn]
  else if 0x0A00 ≤ fn && fn ≤ 0x0A07 then [schedFn]
  else []

/-- Cells of all slotframes, enabled or not. -/
def cellTotal (m : NMap Bytes) : Nat := ((List.range 8).map (sfTotal m)).foldl (· + ·) 0

/-- The guaranteed rates of an egress exceed its rate. -/
def overGuaranteed (m : NMap Bytes) (e : Nat) : Bool :=
  let sum := ((List.range 16).map (queueMinRate m e)).foldl (· + ·) 0
  decide ((if isRadioEgress e then 1000000 else shapeRate m e) < sum)

/-- The egresses that `fn` owns. -/
def egresses (fn : Nat) : List Nat := (List.range 6).filter (egressOf fn)

/-- Cross-function rule `n` fails for function `fn`.  Rule 2 also fails an enabled group attached to a window its radio no longer
has (R165).  Rule 6 holds pages 0 to 3 to firmware, enabled or not (R284); rules 4,
5 and 7 make no exception for a disabled function. -/
def crossFails (m : NMap Bytes) (n fn : Nat) : Bool :=
  match n with
  | 1 => enabledIn m fn && !(suppliers m fn).all (enabledIn m)
  | 2 => 0x0200 ≤ fn && fn ≤ 0x0207 && enabledIn m fn && (!(groupChans m (fn - 0x0200)).all (chanInWindow m)
      || decide (windowCount m (groupRadio m (fn - 0x0200)) ≤ groupWindow m (fn - 0x0200)))
  | 4 => fn == linkFn && (!(enabledCells m).all (fun c => (cellChannels m c.1 c.2.2).all (chanUsable m))
      || decide (1048576 < cellTotal m))
  | 5 => (fn == routerFn || fn == sluiceFn) && (egresses fn).any (overGuaranteed m)
  | 6 => 0x0720 ≤ fn && fn ≤ 0x0723 && pageOwner m (Fin.ofNat 32 (fn - 0x0720)) != 0
  | 7 => fn == supplyFn && (List.range (oppCount m)).any fun i => decide (oppMhz m i * 8 < 400) || decide (3200 < oppMhz m i)
  | _ => false

/-- The reason code of cross-function rule `n`. -/
def crossReason : Nat → Nat
  | 1 => rcDependencyDisabled
  | 2 => rcChanOutsideWindow
  | 3 => rcEddyHistoryExceeded
  | 4 => rcSlotframeOverflow
  | 5 => rcShaperSum
  | 6 => rcPageOwnership
  | 7 => rcClockRatio
  | _ => rcDomainVoltageSpread

/-- The function for which cross-function rule `n` fails, if it does; rules 3 and 8 test device-wide totals. -/
def crossRule (m : NMap Bytes) (n : Nat) : Option Nat :=
  if n = 3 then
    if 4096 < ((List.range 256).map (ringKb m)).foldl (· + ·) 0 then some eddyFn else none
  else if n = 8 then (if spreadTooWide m then some supplyFn else none)
  else (allFunctions.filter fun f => f != 0).find? (crossFails m n)

/-- The consistency check of a result (R26): RULE, reason and function of the first failure. -/
def checkSet (s : State) (m : NMap Bytes) : Option (Nat × Nat × Nat) :=
  match (checkedFns m).findSome? fun f => (fnRules s m f).map fun e => (e.1, e.2, f) with
  | some e => some e
  | none => [1, 2, 3, 4, 5, 6, 7, 8].findSome? fun n => (crossRule m n).map fun f => (0x8000 + n, crossReason n, f)

/-! ### CONFIG_COMMIT (R65, R66) -/

/-- The staged set of `fn` differs from its active set. -/
def stagedDiffers (s : State) (fn : Nat) : Bool := partsOf s.coh.staged fn != partsOf s.coh.active fn

/-- The functions that a commit applies, rising: those named, or those with a staged difference, each with all its members;
a difference in a member takes in its owner only when none is named (R65). -/
def commitScope (s : State) (names : List Nat) : List Nat :=
  let base := if names.isEmpty then
      let d := allFunctions.filter fun f => f != 0 && stagedDiffers s f
      d ++ d.flatMap owners
    else names
  let all := base ++ base.flatMap members
  allFunctions.filter all.contains

/-- Why the list FUNCTIONS is refused: reason and the offending ID. -/
def namesCheck : List Nat → List Nat → Option (Nat × Nat)
  | _, [] => none
  | seen, f :: fs =>
    if !knownFn f then some (rcUnknownFunction, f)
    else if f = 0 then some (rcOpcodeFunction, f)
    else if seen.contains f then some (rcFieldRange, f)
    else namesCheck (f :: seen) fs

/-- The result of a commit of functions `fns` with the sets `image`. -/
def commitResult (active image : NMap Bytes) (fns : List Nat) : NMap Bytes := fns.foldl (fun m f => copyParts m image f) active

/-- The parts of functions `fns`. -/
def imageOf (m : NMap Bytes) (fns : List Nat) : NMap Bytes := m.filter fun e => fns.contains (cfgKeyFn e.1)

/-- The generation that follows `g` (R34). -/
def nextGen (g : BitVec 32) : BitVec 32 := if g = 0xFFFFFFFF then 1 else g + 1

/-- The response body of `CONFIG_COMMIT`. -/
def commitBody (target asn rule : Nat) : Bytes := leBytes 4 target ++ leBytes 8 asn ++ leBytes 2 rule ++ zeros 2

/-- The first slot that starts at least 200 µs from now and will run (R29, R365). -/
def nextSlotBoundary (s : State) : Nat :=
  let l := slotTicks s.coh.active * 1000000000
  max (ceilDiv ((s.netNs + 200000) * 32768) l) (s.time.asnFloor.toNat + 1)

/-- Why an ASN boundary is refused. -/
def asnRefused (s : State) (n : Nat) : Option Nat :=
  if slotStartNs s.coh.active n < s.netNs + 200000 || (s.time.idling && n ≤ s.time.asnFloor.toNat) then
    some rcCommitBoundaryPast
  else if slotNow s + 16777216 < n then some rcCommitHorizon
  else none

/-- The boundary that a commit takes at acceptance, or its refusal. -/
def takeBoundary (s : State) (kind asn : Nat) : Boundary ⊕ Nat :=
  if kind = 0 then .inl .now
  else if s.time.asn.isNone then .inr rcNoSlotTime
  else if kind = 1 then .inl (.slot (nextSlotBoundary s))
  else
    match asnRefused s asn with
    | some rc => .inr rc
    | none => .inl (.slot asn)

/-- A commit that has passed the fields' checks. -/
def commitChecked (s : State) (fns : List Nat) (kind asn : Nat) : Reply :=
  let target := (nextGen s.coh.generation).toNat
  match checkSet s (commitResult s.coh.active s.coh.staged fns) with
  | some (rule, rc, f) =>
    -- TARGET_GEN and BOUNDARY_ASN of a refusal are stated nowhere
    let (a, t) := s.free
    let (b, t) := t.free
    .done t rc f (commitBody (a % 2 ^ 32) (b % 2 ^ 64) rule) []
  | none =>
    match takeBoundary s kind asn with
    | .inr rc => no rc
    | .inl b =>
      let t := s.onCoh fun c =>
        { c with
          commit := some
            { functions := fns, image := imageOf c.staged fns, boundary := b, targetGen := target
              writes := c.writes.filter fun e => fns.contains (e.1 / 256 * 256) }
          staged := if fns.contains cipherFn then freezeMarks c.staged else c.staged }
      match b with
      | .now => .defer t
      | .slot n => .done t rcOk 0 (commitBody target n 0) []

/-- `CONFIG_COMMIT`.  A refusal other than by the check has no body (DEDUCED, log entry 116). -/
def execConfigCommit (buf : Bytes) (s : State) : Out :=
  .next (runKci 0x0012 buf (fun s _ req body =>
    let kind := u8 body 0
    let count := u8 body 1
    let names := (List.range count).map fun i => u16 body (12 + 2 * i)
    match checkFields body ([⟨0, 1, .range 0 2⟩, ⟨1, 1, .range 0 64⟩, ⟨2, 2, .zero⟩]
        ++ if kind = 2 then [⟨10, 2, .zero⟩] else []) with
    | some rc => no rc
    | none =>
      match namesCheck [] names with
      | some (rc, f) => .refuse rc f []
      | none =>
        if s.coh.commit.isSome then no rcCommitPending
        else if req.expectsGen && req.expectGen != s.coh.generation.toNat then no rcGenerationMismatch
        else
          let fns := commitScope s names
          match fns.find? s.inReset with
          | some f => .refuse rcFunctionInReset f []
          | none =>
            if fns.isEmpty then
              let (a, t) := s.free
              let (b, t) := t.free
              .done t rcNothingStaged 0 (commitBody (a % 2 ^ 32) (b % 2 ^ 64) 0) []
            else commitChecked s fns kind (leNat (slice body 4 6))) s)

/-- `CONFIG_CANCEL`. -/
def execConfigCancel (buf : Bytes) (s : State) : Out :=
  .next (runKci 0x0013 buf (fun s _ _ _ => ok (s.onCoh fun c => { c with commit := none })) s)

/-! ### COMMIT_APPLY (R29, R34 to R37) -/

/-- Generations whose work is still in progress (R36). -/
def liveGens (s : State) : List Nat :=
  s.coh.slotGen.toNat :: s.rx.frames.map (fun x => x.generation.toNat) ++ s.sluice.launches.map (fun x => x.generation.toNat)
    ++ s.link.slotCells.map (fun x => x.generation.toNat)
    ++ (s.sluice.queued ++ s.sluice.broadcasts).map (fun x => x.generation.toNat)
    ++ s.rx.captures.toList.flatMap fun c => match c with
      | some k => [k.generation.toNat]
      | none => []

/-- What function `fn` does when a commit has replaced the set `old`. -/
def applyFn (old : NMap Bytes) (s : State) (fn : Nat) : State :=
  if fn = 0x0100 then applyRadio old 0 s
  else if fn = 0x0101 then applyRadio old 1 s
  else if fn = 0x0102 then applyRadio old 2 s
  else if 0x0200 ≤ fn && fn ≤ 0x0207 then applyGroup old (fn - 0x0200) s
  else if fn = sluiceFn then applySluice old s
  else if fn = linkFn then applyLink old s
  else if fn = cipherFn then applyKeys old s
  else if 0x0720 ≤ fn && fn ≤ 0x073F then applyPage old (Fin.ofNat 32 (fn - 0x0720)) s
  else if fn = routerFn then applyRouter old s
  else if fn = 0x0810 then applyPort 0 s
  else if fn = 0x0811 then applyPort 1 s
  else if fn = dramFn then applyMemory old s
  else if (0x0A00 ≤ fn && fn ≤ 0x0A07) || fn = schedFn then applySched old s
  else if 0x0C10 ≤ fn && fn ≤ 0x0C1F then applyTimer old (Fin.ofNat 16 (fn - 0x0C10)) s
  else if fn = timeFn then applyTime old s
  else if fn = powerFn then applyPower s
  else if fn = supplyFn then applySupply s
  else s

/-- A gate list that this commit activates starts later by whole cycles. -/
def startsLate (old : NMap Bytes) (s : State) (r : Fin 3) : Bool :=
  let m := s.coh.active
  let was := gateEnabled old r.val && enabledIn old sluiceFn
  gateEnabled m r.val && enabledIn m sluiceFn && s.time.asn.isSome && !(was && gateList old r.val == gateList m r.val)
    && (gateActivation s r).2 != 0

/-- All functions of a commit switch at one instant. -/
def switchSets (c : Commit) (s : State) : State :=
  let old := s.coh.active
  let s := s.onCoh fun x =>
    { x with active := commitResult old c.image c.functions, generation := nextGen x.generation, commit := none
             writes := c.writes.foldl (fun w e => msetD 0 w e.1 (mgetD w e.1 0 - e.2)) x.writes
             past := mset x.past x.generation.toNat old }
  let live := liveGens s
  let s := s.onCoh fun x => { x with past := x.past.filter fun e => live.contains e.1 }
  c.functions.foldl (applyFn old) ([0, 1, 2].foldl (fun s r => forgetPeaks r s) s)

/-- The commit takes effect: the sets switch, `EV_CONFIG_APPLIED` is raised, and a NOW commit is answered. -/
def applyCommit (c : Commit) (s : State) : State :=
  let old := s.coh.active
  let at_ : BitVec 64 := match c.boundary with
    | .now => s.asn64
    | .slot _ => BitVec.ofNat 64 (slotNow s)
  let s := switchSets c s
  let s := s.onCoh fun x => { x with lastSlot := if at_ = 0xFFFFFFFFFFFFFFFF then none else some at_.toNat }
  let late := c.functions.contains sluiceFn && (List.finRange 3).any (startsLate old s)
  let s := raiseEventAt 7 0 s.coh.generation at_ c.functions.length s
  match c.boundary with
  | .now => finishExecuting 0x0012 (if late then rcLateActivation else rcOk) (if late then sluiceFn else 0)
      (commitBody s.coh.generation.toNat at_.toNat 0) s
  | .slot _ => s

/-- `COMMIT_APPLY`: the boundary of the pending commit has come. -/
def execCommitApply (s : State) : Out :=
  match s.coh.commit with
  | none => .next s
  | some c =>
    let due := match c.boundary with
      | .now => true
      | .slot n => decide (n ≤ slotNow s) && s.time.asn != some (slotNow s)
    .next (if due && !s.asleep then applyCommit c s else s)

/-! ### FUNCTION_RESET (R70 to R72) -/

/-- `FUNCTION_RESET`: accepted, or refused by R33 and R72. -/
def execFunctionReset (buf : Bytes) (s : State) : Out :=
  .next (runKci 0x0020 buf (fun s _ req _ =>
    let scope := resetScope req.fn
    if !resettable req.fn then no rcNotResettable
    else if s.safety.safeState then no rcSafeState
    else
      match scope.find? s.inReset with
      | some f => .refuse rcFunctionInReset f []
      | none =>
        match s.coh.commit.bind fun c => scope.find? c.functions.contains with
        | some f => .refuse rcCommitPending f []
        | none => .defer (startReset req.fn none s)) s)

/-- Steps 3 and 4 of R70 for one function. -/
def resetFn (s : State) (fn : Nat) : State :=
  if fn = 0x0100 then resetRadio 0 s
  else if fn = 0x0101 then resetRadio 1 s
  else if fn = 0x0102 then resetRadio 2 s
  else if 0x0200 ≤ fn && fn ≤ 0x0207 then resetGroup (fn - 0x0200) s
  else if fn = eddyFn then resetEddy s
  else if fn = riffleFn then resetRiffle s
  else if fn = sluiceFn then resetSluice s
  else if fn = linkFn then resetLinkRx s
  else if fn = cipherFn then resetCipher s
  else if 0x0720 ≤ fn && fn ≤ 0x073F then resetPageLink (Fin.ofNat 32 (fn - 0x0720)) s
  else if fn = routerFn then resetRouter s
  else if fn = 0x0810 then retrainPort 0 s
  else if fn = 0x0811 then retrainPort 1 s
  else if fn = 0x0910 then resumeMigration 0 s
  else if fn = 0x0911 then resumeMigration 1 s
  else if 0x0A00 ≤ fn && fn ≤ 0x0A07 then resetCore (Fin.ofNat 8 (fn - 0x0A00)) s
  else if fn = schedFn then resetSched s
  else if 0x0C10 ≤ fn && fn ≤ 0x0C1F then resetTimer (Fin.ofNat 16 (fn - 0x0C10)) s
  else if fn = timeFn then resetTime s
  else if fn = powerFn then resetPower s
  else if fn = supplyFn then resetSupply s
  else s

/-- Step 5 of R70 for one function: clamps released, epoch + 1, `EV_FUNCTION_RESET_DONE`. -/
def releaseFn (s : State) (fn : Nat) : State :=
  let s := s.onFn fn fun x => { x with inReset := false, epoch := x.epoch + 1 }
  raiseEvent 9 fn (s.fnState fn).epoch.toNat s

/-- The S2 reactions that a reset of `scope` has carried out end with it (R549, R554). -/
def endResetReactions (scope : List Nat) (s : State) : State :=
  (s.safety.reactions.filter fun r => r.severity == 2 && !r.ended && scope.contains r.target).foldl
    (fun s r => endReaction r.recNo s) s

/-- The response of a commanded reset. -/
def answerReset (fn : Nat) (s : State) : State :=
  match s.kci.executing with
  | none => s
  | some e => if e.req.fn = fn then finishExecuting 0x0020 rcOk 0 (leBytes 8 (s.fnState fn).epoch.toNat) s else s

/-- A reset of `j.fn` completes; of a disabled function only the epoch changes (R72). -/
def completeReset (j : ResetJob) (s : State) : State :=
  let scope := resetScope j.fn
  let s := s.onCoh fun c => { c with resets := c.resets.erase j }
  let s := scope.foldl (fun s f => if s.enabled f then resetFn s f else s) s
  let s := scope.foldl releaseFn s
  let s := endResetReactions scope s
  let s := if scope.any fun f => f == schedFn || (0x0A00 ≤ f && f ≤ 0x0A07) then placeAll s else s
  match j.source with
  | none => answerReset j.fn s
  | some _ => s

/-- `FUNCTION_RESET_COMPLETE`: the oldest reset in progress of function `fn` reaches step 5. -/
def execFunctionResetComplete (fn : Nat) (s : State) : Out :=
  match s.coh.resets.find? fun j => j.fn == fn with
  | none => .next s
  | some j => .next (completeReset j s)

end Sys2Proof.Machine
end

