-- ==== Sys2Proof/Machine/Commands.lean ====
section
/-!
DEFINITION. The commands of the interface itself: identification, snapshots, staging, configuration reads
(R62 to R64, R69, R77, R589, R610, R611, R616, R617).
-/

namespace Sys2Proof.Machine

def deviceId : Nat := 0x62560100
def kciVersion : Nat := 0x00010000

/-! ### Identification -/

/-- FW_VERSION of the running image; zero in SAFE_HOLD. -/
def fwVersion (b : Boot) : Bytes := if b.phase == .safeHold then zeros 8 else b.running.read 24 8

/-- The response body of `DEVICE_INFO` (R617). -/
def infoBytes (b : Boot) : Bytes :=
  leBytes 4 deviceId ++ leBytes 4 kciVersion ++ fwVersion b ++ leBytes 4 (bootStatus b) ++ leBytes 1 b.fuses.secFloor
    ++ leBytes 1 (flag b.fuses.keyHash.isSome + 2 * flag b.fuses.provisioned) ++ leBytes 2 b.fuses.avsCeil
    ++ leBytes 8 b.fuses.serial.toNat

/-- `DEVICE_INFO`. -/
def execDeviceInfo (buf : Bytes) (s : State) : Out :=
  .next (runKci 0x0001 buf (fun s _ _ _ => .done s rcOk 0 (infoBytes s.boot) []) s)

/-- `ECHO`. -/
def execEcho (buf : Bytes) (s : State) : Out :=
  .next (runKci 0x0004 buf (fun s _ _ body => .done s rcOk 0 [] body) s)

/-! ### Snapshots (R69) -/

/-- The function reports SETTLING (R37, R201, R207). -/
def fnSettling (s : State) (fn : Nat) : Bool :=
  (s.fnState fn).settling
    || (0x0200 ≤ fn && fn ≤ 0x0207 && (List.range 32).any fun n => (s.chan (32 * (fn - 0x0200) + n)).settling)
    || (fn == eddyFn && ringsSettling s)

/-- STATE of a block; IN_RESET comes before HELD, and HELD before DISABLED. -/
def fnStateCode (s : State) (fn : Nat) : Nat :=
  if s.boot.phase == .safeHold then 0
  else if s.inReset fn then 3
  else if (s.fnState fn).held then 4
  else if !s.enabled fn then 0
  else if fnSettling s fn then 1
  else 2

/-- The status of a function, as its chapter lays it out; a function whose chapter gives none has none. -/
def fnStatus (s : State) (fn : Nat) : Bytes :=
  if fn = 0x0100 then radioStatus s 0
  else if fn = 0x0101 then radioStatus s 1
  else if fn = 0x0102 then radioStatus s 2
  else if 0x0200 ≤ fn && fn ≤ 0x0207 then groupStatus s (fn - 0x0200)
  else if fn = eddyFn then eddyStatus s
  else if fn = riffleFn then riffleStatus s
  else if fn = sluiceFn then sluiceStatus s
  else if fn = linkFn then linkStatus s
  else if fn = cipherFn then cipherStatus s
  else if 0x0720 ≤ fn && fn ≤ 0x073F then pageStatus s (Fin.ofNat 32 (fn - 0x0720))
  else if fn = routerFn then routerStatus s
  else if fn = 0x0810 then portStatus s 0
  else if fn = 0x0811 then portStatus s 1
  else if fn = dramFn then dramStatus s
  else if fn = 0x0910 then channelStatus s 0
  else if fn = 0x0911 then channelStatus s 1
  else if 0x0A00 ≤ fn && fn ≤ 0x0A07 then coreStatus s (Fin.ofNat 8 (fn - 0x0A00))
  else if fn = schedFn then schedStatus s
  else if fn = timeFn then timeStatus s
  else if fn = powerFn then powerStatus s
  else if fn = safetyFn then safetyStatus s
  else if fn = supplyFn then supplyStatus s
  else []

/-- Counters of a function in the order of its chapter. -/
def counterCount (fn : Nat) : Nat :=
  if 0x0100 ≤ fn && fn ≤ 0x0102 then 19
  else if 0x0200 ≤ fn && fn ≤ 0x0207 then 16
  else if fn = 0x0810 || fn = 0x0811 then 11
  else if fn = 0x0910 || fn = 0x0911 then 8
  else if 0x0A00 ≤ fn && fn ≤ 0x0A07 then 4
  else
    match fn with
    | 0x0300 => 8
    | 0x0400 => 17
    | 0x0500 => 21
    | 0x0600 => 19
    | 0x0700 => 16
    | 0x0800 => 20
    | 0x0900 => 13
    | 0x0B00 => 13
    | 0x0D00 => 17
    | 0x0E00 => 36
    | 0x0F00 => 11
    | 0x1000 => 16
    | _ => 0

/-- What the interval in progress adds to a time counter: listening of a group's channels (R204), SLOT_IDLE, radios that are on
(R421), and a port's hold by PAUSE (R345). -/
def openTime (s : State) (fn i : Nat) : Nat :=
  if 0x0200 ≤ fn && fn ≤ 0x0207 && i == 16 then
    ((s.rx.chans.filter fun e => groupFn e.1 == fn && e.2.listening).map fun e => sinceUs s e.2.since).foldl (· + ·) 0
  else if fn = powerFn && i == 1 then (if s.power.state = .slotIdle then springUs (s.time.spring - s.power.since) else 0)
  else if fn = powerFn && i == 5 then
    ((s.radios.unit.toList.filter (·.powered)).map fun x => sinceUs s x.onSince).foldl (· + ·) 0
  else if (fn == 0x0810 || fn == 0x0811) && i == 10 then
    match (s.router.ports[Fin.ofNat 2 (fn - 0x0810)]).paused with
    | some (a, b) => (min s.time.fabric.toNat b.toNat - a.toNat) / 400
    | none => 0
  else 0

/-- The counters of a function; SAFE_HOLD reports them as zero (R470). -/
def fnCounters (s : State) (fn : Nat) : Bytes :=
  (List.range (counterCount fn)).flatMap fun i =>
    leBytes 8 (if s.boot.phase == .safeHold then 0 else min (s.counter fn (i + 1) + openTime s fn (i + 1)) (2 ^ 64 - 1))

/-- One block of a snapshot. -/
def snapBlock (s : State) (fn : Nat) (body : Bytes) : Bytes :=
  leBytes 2 fn ++ leBytes 1 (fnStateCode s fn) ++ [0] ++ leBytes 4 body.length ++ leBytes 8 (s.fnState fn).epoch.toNat ++ body

/-- Why a snapshot's list of functions is refused. -/
def snapCheck (names : List Nat) : Option (Nat × Nat) :=
  names.findSome? fun f =>
    if !knownFn f then some (rcUnknownFunction, f) else if f = 0 then some (rcOpcodeFunction, f) else none

/-- The meaning of `STATUS_READ` and `COUNTER_READ`, `f` giving a function's part. -/
def snapshot (f : State → Nat → Bytes) : Meaning := fun s _ _ body =>
  let names := (List.range (u8 body 0)).map fun i => u16 body (4 + 2 * i)
  match checkFields body [⟨0, 1, .range 1 16⟩, ⟨1, 3, .zero⟩] with
  | some rc => no rc
  | none =>
    match snapCheck names with
    | some (rc, n) => .refuse rc n []
    | none =>
      let blocks := names.flatMap fun n => snapBlock s n (f s n)
      if 4064 < 24 + blocks.length then no rcBadLength
      else .done s rcOk 0 (leBytes 8 s.time.fabric.toNat ++ leBytes 8 s.asn64.toNat ++ leBytes 8 s.time.spring.toNat) blocks

/-- `STATUS_READ`. -/
def execStatusRead (buf : Bytes) (s : State) : Out := .next (runKci 0x0002 buf (snapshot fnStatus) s)

/-- `COUNTER_READ`. -/
def execCounterRead (buf : Bytes) (s : State) : Out := .next (runKci 0x0003 buf (snapshot fnCounters) s)

/-! ### Staging -/

/-- `FUNCTION_ENABLE`: stages the enable bit (R64). -/
def execFunctionEnable (buf : Bytes) (s : State) : Out :=
  .next (runKci 0x0010 buf (stageOne 0x0010 0 0 [⟨0, 1, .range 0 1⟩, ⟨1, 3, .zero⟩]) s)

/-- `STAGE_DISCARD`: the active set over the staged set. -/
def execStageDiscard (buf : Bytes) (s : State) : Out :=
  .next (runKci 0x0011 buf (fun s _ req _ =>
    -- writes that a pending commit has frozen still wait for it
    let frozen := s.coh.commit.elim [] (·.writes)
    ok (s.onCoh fun c =>
      { c with
        staged := copyParts c.staged c.active req.fn
        writes := (limitedOps.filter fun o => o / 256 * 256 == req.fn).foldl (fun w o => msetD 0 w o (mgetD frozen o 0)) c.writes })) s)

/-- `FRAME_RING_CONFIG`: stages one ring (R77). -/
def execFrameRingConfig (buf : Bytes) (s : State) : Out :=
  .next (runKci 0x0040 buf (fun s m req body =>
    stageOne 0x0040 (u8 body 0) 0 [⟨0, 1, .range 0 15⟩, ⟨1, 1, .range 0 1⟩, ⟨2, 1, .range 6 12⟩, ⟨3, 1, .zero⟩,
      ⟨4, 4, .multiple (32 * 2 ^ min 12 (u8 body 2))⟩] s m req body) s)

/-- Why the byte of a pad is refused (R589). -/
def padCheck (b : Byte) : Option Nat :=
  if 32 ≤ b.toNat then some rcReservedNonzero else if bits b.toNat 3 2 = 3 then some rcFieldRange else none

/-- `PAD_CONFIG`: stages drive, pull and slew of GPIO 24–47. -/
def execPadConfig (buf : Bytes) (s : State) : Out :=
  .next (runKci 0x1009 buf (fun s _ req body =>
    match body.findSome? padCheck with
    | some rc => no rc
    | none => ok (s.stage req.fn 0x1009 0 0 body)) s)

/-- `BAD_OPCODE_REQUEST`: the next request has an opcode that no chapter defines (R610). -/
def execBadOpcodeRequest (s : State) : Out :=
  .next (match nextReq s with
    | none => s
    | some (m, req) =>
      if (cmdInfo req.opcode).isNone then execute (takeReq m req s) m req [] (fun _ _ _ _ => no rcBadOpcode) else s)

/-! ### Configuration reads (R616) -/

/-- Entries of `n` bytes of a run, an absent one as zeros. -/
def readRun (m : NMap Bytes) (fn op sel first count n : Nat) : Bytes :=
  (List.range count).flatMap fun i => slice (part m fn op sel (first + i)) 0 n

/-- A header with FIRST and COUNT and a run of entries, within the limits of the named command. -/
def readTable (m : NMap Bytes) (fn op size sel first count last limit : Nat) (head : Bytes) : Option (Bytes × Bytes) :=
  if sel != 0 || count = 0 || limit < count || last < first + count then none
  else some (head, readRun m fn op 0 first count size)

/-- Channels of group `g`: one more than the highest index in its plan. -/
def planTotal (m : NMap Bytes) (fn : Nat) : Nat :=
  maxOr 0 (((List.range 32).filter fun i => !(part m fn 0x0201 1 i).isEmpty).map (· + 1))

/-- The body of `GROUP_PLAN_LOAD` for a run of channels, those beyond TOTAL as zeros. -/
def readPlan (m : NMap Bytes) (fn first count : Nat) : Option (Bytes × Bytes) :=
  let h := part m fn 0x0201 0 0
  let total := planTotal m fn
  if 32 < first + count || 31 < first then none
  else some (slice h 0 2 ++ leBytes 1 first ++ leBytes 1 count ++ leBytes 1 total ++ [1] ++ zeros 2 ++ slice h 8 8 ++ zeros 24,
    readRun m fn 0x0201 1 first count 28)

/-- The body of `SLOTFRAME_LOAD` for a run of cells. -/
def readSlotframe (m : NMap Bytes) (fn sf first count : Nat) (ind : Bool) : Option (Bytes × Bytes) :=
  let h := part m fn 0x0603 sf 0
  if 7 < sf || (if ind then 65536 else 252) < count || 1048576 < first + count then none
  else some (leBytes 1 sf ++ slice h 0 2 ++ [0] ++ slice h 2 4 ++ leBytes 4 first ++ leBytes 4 count ++ slice h 6 4,
    readRun m fn 0x0603 (16 + sf) first count 16)

/-- A body of `n` bytes whose first byte is its selector. -/
def selBody (m : NMap Bytes) (fn op sel n : Nat) : Bytes × Bytes := (leBytes 1 sel ++ slice (part m fn op sel 0) 1 (n - 1), [])

/-- Bytes of the fixed part of the body of command `op`. -/
def bodyLen (op : Nat) : Nat := ((cmdInfo op).map (·.base)).getD 0

/-- The whole body that a command without a run of entries stages, with the selector it is staged under. -/
def readWhole (m : NMap Bytes) (fn op sel : Nat) : Option (Bytes × Bytes) :=
  match op with
  | 0x0040 => if sel ≤ 15 then some (selBody m fn op sel 8) else none
  | 0x0904 => if sel ≤ 2 then some (selBody m fn op sel 16) else none
  | 0x0803 => if sel ≤ 5 && egressOf fn sel then some (selBody m fn op sel 268) else none
  | 0x0502 =>
    if sel ≤ 2 then some (leBytes 1 sel ++ slice (part m fn op sel 0) 1 15, readRun m fn op (16 + sel) 0 (gateCount m sel) 16) else none
  | 0x0602 =>
    let h := part m fn op sel 0
    if sel ≤ 7 then some (leBytes 1 sel ++ leBytes 1 h.length ++ zeros 2, h) else none
  | 0x0503 =>
    let n := ((List.range 16).filter (bandExists m)).length
    if sel = 0 then some (leBytes 1 n ++ zeros 3, readRun m fn op 0 0 n 16) else none
  | _ => if sel = 0 then some (slice (part m fn op 0 0) 0 (bodyLen op), []) else none

/-- The body of staging command `op` of function `fn` with the content of a set: its fixed part and its run; none where
SELECT, FIRST or COUNT lies outside the command's ranges. -/
def configBody (m : NMap Bytes) (fn op sel first count : Nat) (ind : Bool) : Option (Bytes × Bytes) :=
  match op with
  | 0x0201 => if sel = 0 then readPlan m fn first count else none
  | 0x0603 => readSlotframe m fn sel first count ind
  | 0x0604 => readTable m fn op 64 sel first count 262144 (if ind then 16384 else 63) (leBytes 4 first ++ leBytes 2 count ++ zeros 2)
  | 0x0702 => readTable m fn op 64 sel first count 262144 (if ind then 16384 else 63)
      ([2, 0] ++ leBytes 2 count ++ leBytes 4 0xFFFFFFFF)
  | 0x0802 => readTable m fn op 32 sel first count 65536 (if ind then 16384 else 126) (leBytes 4 first ++ leBytes 2 count ++ zeros 2)
  | 0x0804 => readTable m fn op 24 sel first count 4096 (if ind then 4096 else 169) (leBytes 2 first ++ leBytes 2 count ++ zeros 4)
  | 0x0B02 => readTable m fn op 32 sel first count 1024 (if ind then 1024 else 126) (leBytes 2 first ++ leBytes 2 count ++ zeros 4)
  | 0x0F01 => readTable m fn op 28 sel first count 192 144 (leBytes 2 first ++ leBytes 2 count ++ zeros 4)
  | _ => if first != 0 || count != 0 then none else readWhole m fn op sel

/-- `op` stages a part of function `fn`. -/
def stagesInto (op fn : Nat) : Bool :=
  match cmdInfo op with
  | some i => i.kind == .staging && op != 0x0011 && op != 0x0703 && targetOk op fn
  | none => false

/-- `CONFIG_READ`. -/
def execConfigRead (buf : Bytes) (s : State) : Out :=
  .next (runKci 0x0014 buf (fun s _ req body =>
    let op := u16 body 0
    if u16 body 2 != 0 then no rcReservedNonzero
    else if !stagesInto op req.fn then no rcOpcodeFunction
    else
      match configBody (if req.isStaged then s.coh.staged else s.coh.active) req.fn op (u32 body 4) (u32 body 8) (u32 body 12)
          req.indirect with
      | none => no rcFieldRange
      | some (fixed, var) => .done s rcOk 0 fixed var) s)

/-! ### Debug window (R49, R611) -/

/-- DBG_BASE. -/
def dbgBase (k : Kci) : Nat := k.dbgLo.toNat + k.dbgHi.toNat * 2 ^ 32

/-- `DEBUG_WINDOW_OPEN`: opening maps the window at the present DBG_BASE. -/
def execDebugWindowOpen (buf : Bytes) (s : State) : Out :=
  .next (runKci 0x0005 buf (fun s _ _ body =>
    match checkFields body [⟨0, 1, .range 0 1⟩, ⟨1, 3, .zero⟩] with
    | some rc => no rc
    | none =>
      let open_ := u8 body 0 == 1
      if s.kci.dbgOpen == open_ then ok s
      else ok (s.onKci fun k => { k with dbgOpen := open_, dbgMap := if open_ then dbgBase k else k.dbgMap })) s)

end Sys2Proof.Machine
end

