-- ==== Sys2Proof/Machine/HostBlock.lean ====
section
/-!
DEFINITION. The host control block: registers of BAR0 and BAR2, mailbox pointers, event ring, interrupts, frame ring
indexes, the SPI port and plain register writes (R7, R8, R39 to R53, R74 to R78, R413, R611).
-/

namespace Sys2Proof.Machine

/-! ### Access by the host (R412, R413) -/

/-- A host access is a wake source: it refuses an entry that votes and ends DOZE. -/
def hostAccess (s : State) : State := fireWake 2 s

/-- The host control block is unpowered in HIBERNATE. -/
def blockOff (s : State) : Bool := s.power.state == .hibernate

/-! ### Mailbox pointers (R46, R52, R53) -/

/-- The doorbell: whole requests are handed over, or the mailbox stops. -/
def ringDoorbell (m : Fin 4) (v : BitVec 9) (s : State) : State :=
  let b := s.kci.mbx[m]
  let new := (v - b.reqHead).toNat
  let old := (b.reqTail - b.reqHead).toNat
  if !s.boot.ready || b.error then s
  else if 256 < new || new < old then ringError m v 0 s
  else
    match readReqs s.kci.bar0 m.val (new - old) (b.reqTail.toNat % 256) (new - old) with
    | none => ringError m v 0 s
    | some rs => s.onMbx m fun b => { b with reqTail := v, waiting := b.waiting ++ rs }

/-- The responses whose entries fill exactly `d`, dropped from the list; none when `d` ends inside one. -/
def releaseRsp : List Nat → Nat → Option (List Nat)
  | [], d => if d = 0 then some [] else none
  | n :: l, d => if d = 0 then some (n :: l) else if n ≤ d then releaseRsp l (d - n) else none

/-- MBX_RSP_HEAD moves past whole responses, and what waits for space is written; or the mailbox stops. -/
def advanceRsp (m : Fin 4) (v : BitVec 9) (s : State) : State :=
  let b := s.kci.mbx[m]
  let d := (v - b.rspHead).toNat
  if rspUsed b < d then ringError m v 1 s
  else
    match releaseRsp b.rspOut d with
    | none => ringError m v 1 s
    | some l => flushRsp m b.rspHeld (s.onMbx m fun b => { b with rspHead := v, rspOut := l })

/-- MBX_CONTROL.RESET: pointers zero; waiting requests and responses of the mailbox are discarded, and its long commands end
without their event (R53, R57). -/
def resetMbx (m : Fin 4) (s : State) : State :=
  s.onKci fun k =>
    { k with mbx := k.mbx.set m Mbx.reset
             executing := k.executing.filter fun e => e.mbx != m
             longs := k.longs.map fun l => if l.mbx = m then { l with quiet := true } else l }

/-- A write of MBX_CONTROL. -/
def mbxControl (m : Fin 4) (v : BitVec 32) (s : State) : State := if v.getLsbD 0 then resetMbx m s else s

/-! ### Event ring (R52, R74) -/

/-- EVT_HEAD moves; with space again, the records dropped are reported first. -/
def advanceEvt (v : BitVec 11) (s : State) : State :=
  if evtUsed s.kci < (v - s.kci.evtHead).toNat then s
  else
    let s := s.onKci fun k => { k with evtHead := v }
    let n := s.kci.droppedSince
    if n != 0 && decide (evtUsed s.kci < 1024) && s.boot.ready then
      raiseEvent 5 0 n (s.onKci fun k => { k with droppedSince := 0 })
    else s

/-- A read of EVT_DROPPED_LO latches the high word. -/
def latchDropped (s : State) : State := s.onKci fun k => { k with droppedHi := (k.dropped >>> 32).setWidth 32 }

/-! ### Interrupts (R44, R76) -/

/-- The 32 bits of word `k` of a register file of 256 bits. -/
def wordOf (v : BitVec 256) (k : Nat) : BitVec 32 := (v >>> (32 * k)).setWidth 32

/-- Word `k` replaced. -/
def setWord (v : BitVec 256) (k : Nat) (w : BitVec 32) : BitVec 256 :=
  (v &&& ~~~((0xFFFFFFFF : BitVec 256) <<< (32 * k))) ||| (w.setWidth 256 <<< (32 * k))

/-- A write of ones to INT_PENDING`k`. -/
def clearPending (k : Nat) (v : BitVec 32) (s : State) : State :=
  s.onKci fun x => sendMsix { x with intPending := x.intPending &&& ~~~(v.setWidth 256 <<< (32 * k)) }

/-- A write of INT_VEC_EOI. -/
def rearm (v : BitVec 32) (s : State) : State :=
  s.onKci fun k => sendMsix { k with vecs := k.vecs.mapIdx fun i x => if v.getLsbD i then { x with armed := true } else x }

/-- `MSIX_HOLDOFF_EXPIRY`. -/
def execMsixHoldoffExpiry (v : Fin 32) (s : State) : Out :=
  .next (s.onKci fun k => sendMsix { k with vecs := k.vecs.set v { k.vecs[v] with elapsed := true } })

/-! ### Debug window (R49, R611) -/

/-- A write of DBG_BASE_LO or DBG_BASE_HI; an open window moves. -/
def writeDbg (high : Bool) (v : BitVec 32) (s : State) : State :=
  s.onKci fun k =>
    let k := if high then { k with dbgHi := v &&& 0xFF } else { k with dbgLo := v &&& 0xFFFFF000 }
    if k.dbgOpen then { k with dbgMap := dbgBase k } else k

/-- Low word, or high word latched, of counter `n` of a bank: 0 is the fixed one (R526). -/
def pmuWord (s : State) (b : Fin 13) (off : Nat) : Nat :=
  let x := s.cluster.banks[b]
  let high := off / 4 % 2 == 1
  if off < 8 then (if high then x.fixedLatch.toNat else fixedCounter s b % 2 ^ 32)
  else if off < 72 then
    let p := x.counters[Fin.ofNat 8 (off / 8 - 1)]
    if high then p.latch.toNat else p.value.toNat % 2 ^ 32
  else 0

/-- The byte at `a` belongs to the key store: 16 MB of the device region, at a place that the spec leaves open
(log entry 98). -/
def inKeyStore (m : Memory) (a : Nat) : Bool :=
  let o := Config.keyStoreAt % 0x1F000001
  decide (clusterEnd m + o ≤ a) && decide (a < clusterEnd m + o + 0x1000000)

/-- A byte of physical address space as the debug window shows it: memory but Backwater and the key store, and performance
counters; cipher pages read zero (R49), and so do the timers, of which the window is no owner (R392).  The scheduler window
has no reader here, so its bytes are free values (log entry 98). -/
def physByte (s : State) (a : Nat) : Byte :=
  if inBackwater a 1 || inKeyStore s.mem a then 0
  else if inMemory s.mem a 1 then s.byteAt a
  -- SCH_OP is write-only (R8, R513)
  else if 0x14000004 ≤ a && a < 0x14000034 then BitVec.ofNat 8 (Config.freeValue s.freeCount / 256 ^ (a % 4))
  else if 0x15000000 ≤ a && a < 0x15000D00 then
    BitVec.ofNat 8 (pmuWord s (Fin.ofNat 13 (a / 256 % 16)) (a % 256) / 256 ^ (a % 4))
  else 0

/-! ### Registers of the host control block (R44) -/

/-- MBX_STATUS (R47). -/
def mbxStatus (k : Kci) (m : Fin 4) : Nat :=
  let b := k.mbx[m]
  let busy := match k.executing with
    | some e => e.mbx == m
    | none => false
  flag b.error + 2 * flag (stalled b) + 4 * flag busy + 256 * ((outstanding k).filter fun l => l.mbx == m).length

/-- A register of mailbox `m` at offset `o` of its block. -/
def mbxReg (k : Kci) (m : Fin 4) (o : Nat) : Nat :=
  let b := k.mbx[m]
  match o with
  | 0x00 => b.reqTail.toNat
  | 0x04 => b.reqHead.toNat
  | 0x08 => b.rspTail.toNat
  | 0x0C => b.rspHead.toNat
  | 0x10 => mbxStatus k m
  | _ => 0

/-- INT_VEC_ACTIVE. -/
def vecActiveWord (k : Kci) : Nat := ((indices 32 (vecActive k)).map (2 ^ ·)).foldl (· + ·) 0

/-- The four INT_VECTOR bytes from source `n` on. -/
def vectorWord (k : Kci) (n : Nat) : Nat := leNat ((List.range 4).map fun i => mgetD k.intVector (n + i) 0)

/-- A word of an entry of the MSI-X table. -/
def Vec.word (x : Vec) (o : Nat) : Nat :=
  if o = 0 then x.msgAddr.toNat % 2 ^ 32
  else if o = 4 then x.msgAddr.toNat / 2 ^ 32
  else if o = 8 then x.msgData.toNat
  else flag x.masked

/-- A word of an entry of the MSI-X table written. -/
def Vec.setWord (x : Vec) (o : Nat) (v : BitVec 32) : Vec :=
  if o = 0 then { x with msgAddr := BitVec.ofNat 64 (x.msgAddr.toNat / 2 ^ 32 * 2 ^ 32 + v.toNat / 4 * 4) }
  else if o = 4 then { x with msgAddr := BitVec.ofNat 64 (v.toNat * 2 ^ 32 + x.msgAddr.toNat % 2 ^ 32) }
  else if o = 8 then { x with msgData := v }
  else { x with masked := v.getLsbD 0 }

/-- The word of the pending-bit array. -/
def pbaWord (k : Kci) : Nat := ((indices 32 fun v => (k.vecs[Fin.ofNat 32 v]).pba).map (2 ^ ·)).foldl (· + ·) 0

/-- The value of the register at BAR0 offset `o`, a multiple of 4. -/
def hostReg (s : State) (o : Nat) : Nat :=
  let k := s.kci
  if o = 0x000 then deviceId
  else if o = 0x004 then kciVersion
  else if o = 0x008 then bootStatus s.boot
  else if o = 0x00C then bootReason s.boot
  else if o = 0x010 then k.dbgLo.toNat
  else if o = 0x014 then k.dbgHi.toNat
  else if 0x100 ≤ o && o < 0x200 then mbxReg k (Fin.ofNat 4 ((o - 0x100) / 0x40)) (o % 0x40)
  else if o = 0x200 then k.evtTail.toNat
  else if o = 0x204 then k.evtHead.toNat
  else if o = 0x208 then k.dropped.toNat % 2 ^ 32
  else if o = 0x20C then k.droppedHi.toNat
  else if o = 0x400 then flag k.intMode + 2 ^ 31 * flag k.globalEn
  else if 0x410 ≤ o && o < 0x430 then (wordOf k.intPending ((o - 0x410) / 4)).toNat
  else if 0x430 ≤ o && o < 0x450 then (wordOf k.intEnable ((o - 0x430) / 4)).toNat
  else if 0x500 ≤ o && o < 0x600 then vectorWord k (o - 0x500)
  else if 0x600 ≤ o && o < 0x680 then (k.vecs[Fin.ofNat 32 ((o - 0x600) / 4)]).holdoff.toNat
  else if o = 0x684 then vecActiveWord k
  else if 0xC00 ≤ o && o < 0xE00 then (k.vecs[Fin.ofNat 32 ((o - 0xC00) / 16)]).word (o % 16)
  else if o = 0xE00 then pbaWord k
  else 0

/-- A write of a register without behaviour of its own: it stores its defined bits; any other write has no effect. -/
def writePlainReg (o : Nat) (v : BitVec 32) (s : State) : State :=
  s.onKci fun k =>
    if o = 0x400 then sendMsix { k with intMode := v.getLsbD 0 && !s.boot.hostSel, globalEn := v.getLsbD 31 }
    else if 0x430 ≤ o && o < 0x450 then sendMsix { k with intEnable := setWord k.intEnable ((o - 0x430) / 4) v }
    else if 0x500 ≤ o && o < 0x600 then
      sendMsix { k with intVector := (List.range 4).foldl (fun t i =>
        msetD 0 t (o - 0x500 + i) (BitVec.ofNat 8 (v.toNat / 256 ^ i % 32))) k.intVector }
    else if 0x600 ≤ o && o < 0x680 then
      let i := Fin.ofNat 32 ((o - 0x600) / 4)
      { k with vecs := k.vecs.set i { k.vecs[i] with holdoff := v.setWidth 10 } }
    else if 0xC00 ≤ o && o < 0xE00 then
      let i := Fin.ofNat 32 ((o - 0xC00) / 16)
      sendMsix { k with vecs := k.vecs.set i (k.vecs[i].setWord (o % 16) v) }
    else k

/-- A write of the register at BAR0 offset `o`, whatever its behaviour. -/
def writeHostReg (o : Nat) (v : BitVec 32) (s : State) : State :=
  if o = 0x010 then writeDbg false v s
  else if o = 0x014 then writeDbg true v s
  else if 0x100 ≤ o && o < 0x200 then
    let m := Fin.ofNat 4 ((o - 0x100) / 0x40)
    match o % 0x40 with
    | 0x00 => ringDoorbell m (v.setWidth 9) s
    | 0x0C => advanceRsp m (v.setWidth 9) s
    | 0x14 => mbxControl m v s
    | _ => s
  else if o = 0x204 then advanceEvt (v.setWidth 11) s
  else if 0x410 ≤ o && o < 0x430 then clearPending ((o - 0x410) / 4) v s
  else if o = 0x680 then rearm v s
  else writePlainReg o v s

/-- BAR0 bytes that are memory: the event ring and the mailbox rings (R43). -/
def bar0Memory (o : Nat) : Bool := 0x8000 ≤ o && o < 0x90000

/-- BAR2 bytes that are memory: descriptor area and buffer pool (R77). -/
def bar2Memory (o : Nat) : Bool := o < 0x200000

/-! ### Frame ring indexes (R77, R78) -/

/-- The descriptors of the frame that begins at a place: its length in descriptors, when its LAST is owned. -/
def frameSpan (s : State) (r : Nat) : Nat → Nat → Option Nat
  | 0, _ => none
  | owned + 1, pos =>
    if bit (descFlags s (descAddr s.coh.active r pos)) 13 then some 1 else (frameSpan s r owned (pos + 1)).map (· + 1)

/-- The content of a descriptor's buffer: host memory as `buf` gives it, or the device's buffer pool on SPI. -/
def descData (s : State) (a : Nat) (buf : Bytes) : Bytes :=
  let n := leNat (memReads s.kci.bar2 (a + 8) 2)
  if s.boot.hostSel then memReads s.kci.bar2 (0x100000 + leNat (memReads s.kci.bar2 a 8) % 0x100000) n else slice buf 0 n

/-- A descriptor's own fields are valid: buffer aligned and at most 16,384 bytes, queue 0–15, KIND 0 or 2, and with
KIND 0 no neighbour. -/
def descValid (s : State) (a : Nat) : Bool :=
  leNat (memReads s.kci.bar2 a 8) % 8 == 0 && decide (leNat (memReads s.kci.bar2 (a + 8) 2) ≤ 16384)
    && decide (leNat (memReads s.kci.bar2 (a + 16) 2) ≤ 15) && !bit (descFlags s a) 0
    && (bit (descFlags s a) 1 || leNat (memReads s.kci.bar2 (a + 12) 4) == 0xFFFFFFFF)

/-- Return `n` descriptors of ring `r` with a reason. -/
def returnHost (r : Fin 16) (reason : Nat) : Nat → State → State
  | 0, s => s
  | n + 1, s =>
    let a := descAddr s.coh.active r.val (ringPos (ringSize s.coh.active r.val) s.kci.ringDev[r])
    let irq := bit (descFlags s a) 2
    let q := leNat (memReads s.kci.bar2 (a + 16) 2)
    let s := returnDesc r none (descFlags s a) reason s.coh.generation q s
    returnHost r reason n (if irq then raiseEvent 11 0 0 s else s)

/-- What the device does with a frame from the host: a packet goes to the router, a link payload to admission.  The first
descriptor, at `a`, gives KIND, QUEUE, NEIGHBOUR and COOKIE (DESIGN CHOICE, log entry 122). -/
def takeHostFrame (r : Fin 16) (a : Nat) (data : Bytes) (s : State) : Nat × State :=
  let q := leNat (memReads s.kci.bar2 (a + 16) 2)
  let cookie := BitVec.ofNat 64 (leNat (memReads s.kci.bar2 (a + 24) 8))
  if bits (descFlags s a) 1 0 = 0 then hostPacket r.val q cookie data s
  else if !s.works sluiceFn then (if s.inReset sluiceFn then rcDiscardedReset else rcFunctionDisabled, s)
  else admitPayload (leNat (memReads s.kci.bar2 (a + 12) 4)) q cookie data s

/-- Take the frames that ring `r` (8–15) holds; `bufs` gives the buffers of the descriptors taken, in ring order. -/
def takeFrames (r : Fin 16) : Nat → List Bytes → State → State
  | 0, _, s => s
  | fuel + 1, bufs, s =>
    let m := s.coh.active
    let owned := ringOwned s r
    let pos := ringPos (ringSize m r.val) s.kci.ringDev[r]
    let a := descAddr m r.val pos
    if owned = 0 then s
    else if bit (descFlags s a) 0 then takeFrames r fuel (bufs.drop 1) (returnHost r rcFieldRange 1 s)  -- KIND 1 or 3
    else
      match frameSpan s r.val owned pos with
      | none => s
      | some n =>
        let as := (List.range n).map fun i => descAddr m r.val (pos + i)
        let data := (as.mapIdx fun i x => descData s x (bufs.getD i [])).flatten
        let (rc, t) := if as.all (descValid s) then takeHostFrame r a data s else (rcFieldRange, s)
        takeFrames r fuel (bufs.drop n) (returnHost r rc n t)

/-- RING_HOST_IDX of ring `r` moves.  A value outside the ring, one that would withdraw descriptors or one that would
overfill the ring is discarded. -/
def advanceRing (r : Fin 16) (v : BitVec 13) (bufs : List Bytes) (s : State) : State :=
  let m := s.coh.active
  let n := ringSize m r.val
  if !ringEnabled m r.val then s.onKci fun k => { k with ringHost := k.ringHost.set r v }
  else
    let old := ringHanded s r
    let t := s.onKci fun k => { k with ringHost := k.ringHost.set r v }
    if n ≤ v.toNat % 4096 || ringHanded t r < old || n < ringHanded t r then s
    else if linkDown t then t
    else if r.val < 8 then pumpRing r t.kci.ringWait.length t
    else takeFrames r (ringOwned t r) bufs t

/-- The value of the register at BAR2 offset `o`, a multiple of 4. -/
def ringReg (s : State) (o : Nat) : Nat :=
  if 0x3FF000 ≤ o && o < 0x3FF100 then
    let r := Fin.ofNat 16 ((o - 0x3FF000) / 16)
    if o % 16 = 0 then (s.kci.ringHost[r]).toNat else if o % 16 = 4 then (s.kci.ringDev[r]).toNat else 0
  else 0

/-! ### Writes in the map of R41 -/

/-- The address lies in a word register, whose write takes effect with its last byte. -/
def isReg (a : Nat) : Bool := a < 0x1000 || (0x7FF000 ≤ a && a < 0x7FF100)

/-- One byte of memory written; other addresses discard it. -/
def writeMapByte (a : Nat) (b : Byte) (s : State) : State :=
  if a < 0x100000 then (if bar0Memory a then s.onKci fun k => { k with bar0 := memWrite k.bar0 a b } else s)
  else if 0x400000 ≤ a && bar2Memory (a - 0x400000) then
    s.onKci fun k => { k with bar2 := memWrite k.bar2 (a - 0x400000) b }
  else s

/-- One register written. -/
def writeMapReg (a : Nat) (v : BitVec 32) (s : State) : State :=
  if a < 0x1000 then writeHostReg a v s
  else if a % 16 = 0 then advanceRing (Fin.ofNat 16 ((a - 0x7FF000) / 16)) (v.setWidth 13) [] s
  else s

/-- The value of the register at `a`. -/
def readMapReg (s : State) (a : Nat) : Nat := if a < 0x1000 then hostReg s a else ringReg s (a - 0x400000)

/-- One byte of the map read. -/
def readMapByte (s : State) (a : Nat) : Byte :=
  if isReg a then BitVec.ofNat 8 (readMapReg s (a / 4 * 4) / 256 ^ (a % 4))
  else if a < 0x100000 then
    if bar0Memory a then memRead s.kci.bar0 a
    else if 0x1000 ≤ a && a < 0x2000 && s.kci.dbgOpen then physByte s (s.kci.dbgMap + (a - 0x1000))
    else 0
  else if 0x400000 ≤ a && bar2Memory (a - 0x400000) then memRead s.kci.bar2 (a - 0x400000)
  else 0

/-! ### SPI (R40, R41, R413) -/

/-- The data bytes of a write transaction from address `a` on; `word` holds the bytes of the register being written, those
not sent as free values. -/
def spiWrite : Bytes → Nat → Nat → State → State
  | [], _, _, s => s
  | b :: bs, a, word, s =>
    if !isReg a then spiWrite bs (a + 1) 0 (writeMapByte a b s)
    else
      let low := word % 256 ^ (a % 4) + b.toNat * 256 ^ (a % 4)
      if a % 4 = 3 then spiWrite bs (a + 1) 0 (writeMapReg (a - 3) (BitVec.ofNat 32 low) s) else spiWrite bs (a + 1) low s

/-- What a read of the word at physical address `a` through the debug window does: the low word of a performance counter
latches its high word (R526); a timer register is no register of the window's, which raises TIMER_ACCESS (R392). -/
def debugRead (a : Nat) (s : State) : State :=
  if 0x13000000 ≤ a && a < 0x13001000 then
    let t := Fin.ofNat 16 (a / 256 % 16)
    if s.works (timerFn t) then raiseSource 103 (timerFn t) t.val s else s
  else if 0x15000000 ≤ a && a < 0x15000D00 && a % 8 = 0 && a % 256 < 72 then
    pmuLatch (Fin.ofNat 13 (a / 256 % 16)) (Fin.ofNat 9 (a % 256 / 8)) s
  else s

/-- What a read of the word at `a` of the map changes: EVT_DROPPED_LO latches, and so do counters in the debug window. -/
def mapReadEffect (a : Nat) (s : State) : State :=
  if a = 0x208 then latchDropped s
  else if 0x1000 ≤ a && a < 0x2000 && s.kci.dbgOpen then debugRead (s.kci.dbgMap + (a - 0x1000)) s
  else s

/-- `n` bytes from `a`, each word's effect with its first byte.  Past SPI address 0xFF_FFFF, where the spec is silent, a burst
runs on: it reads zero and writes nothing (DESIGN CHOICE, log entry 157). -/
def spiReadFrom : Nat → Nat → State → Bytes × State
  | 0, _, s => ([], s)
  | n + 1, a, s =>
    let s := if a % 4 = 0 then mapReadEffect a s else s
    let b := readMapByte s a
    let (bs, t) := spiReadFrom n (a + 1) s
    (b :: bs, t)

/-- The bytes that a read transaction of `n` data bytes from `a` shifts out; it may begin inside a word. -/
def spiRead (n a : Nat) (s : State) : Bytes × State :=
  spiReadFrom n a (if n = 0 || a % 4 = 0 then s else mapReadEffect (a / 4 * 4) s)

/-- A transaction while the device is awake. -/
def spiRun (mosi : Bytes) (s : State) : State :=
  let op := u8 mosi 0
  let a := beNat (slice mosi 1 3)
  if mosi.length < 4 then s
  else if op = 0x02 then
    let (v, t) := s.free
    spiWrite (mosi.drop 4) a v (if a % 4 != 0 && isReg a then t else s)
  else if op = 0x0B then
    let (bs, t) := spiRead (mosi.length - 6) a s
    t.onKci fun k => { k with spiOut := bs }
  else s

/-- `SPI_TRANSACTION`: in DOZE, and in HIBERNATE with source 2 enabled, it begins the wake; then it reads zeros and writes
nothing (R412, R413). -/
def execSpiTransaction (mosi : List Byte) (s : State) : Out :=
  .next (if !s.boot.hostSel then s
    else if blockOff s || s.asleep then (hostAccess s).onKci fun k => { k with spiOut := zeros (mosi.length - 6) }
    else spiRun mosi (hostAccess s))

/-! ### Plain register writes (R8) -/

/-- A write by the host in the map of R41 to memory or to a register without behaviour of its own. -/
def writePlainMap (a : Nat) (v : BitVec 32) (s : State) : State :=
  if isReg a then (if a < 0x1000 then writePlainReg (a / 4 * 4) v s else s)
  else (List.range 4).foldl (fun s i => writeMapByte (a + i) (BitVec.ofNat 8 (v.toNat / 256 ^ i)) s) s

/-- A write by a core or by firmware at a physical address: timer steps and waveform matches, the arguments of the
scheduler, and cipher page registers.  The performance counters are read-only. -/
def writePhysReg (by_ : BusMaster) (a : Nat) (v : BitVec 32) (s : State) : State :=
  if 0x12000000 ≤ a && a < 0x12020000 then
    let p := Fin.ofNat 32 (a / 4096 % 32)
    if pageAllowed s by_ p then s.onPage p (pageWrite (a % 4096) v) else denyPage p s
  else if 0x13000000 ≤ a && a < 0x13001000 then
    let off := a % 256
    if (0x08 ≤ off && off < 0x18) || 0x30 ≤ off then timerWriteBy by_ (Fin.ofNat 16 (a / 256 % 16)) off v s else s
  else
    match by_ with
    | .core c =>
      match schedCtx s c with
      | none => s
      | some h =>
        setRegs h (fun r =>
          if a = 0x14000004 then { r with arg0 := v }
          else if a = 0x14000008 then { r with arg1 := v }
          else if a = 0x1400000C then { r with arg2 := v }
          -- OP 15 is no operation (R514)
          else if a = 0x14000000 && v.toNat % 16 = 15 then { r with result := BitVec.ofNat 16 rcFieldRange }
          else r) s
    | _ => s

/-! ### Accesses by a master (R24, R479, R503) -/

/-- A byte address lies in a register window of the cores (R503). -/
def inWindow (a : Nat) : Bool :=
  (0x12000000 ≤ a && a < 0x12020000) || (0x13000000 ≤ a && a < 0x13001000) || (0x14000000 ≤ a && a < 0x14000034)
    || (0x15000000 ≤ a && a < 0x15000D00)

/-- An access to the window of a page that its master may not use: refused by R285 whatever its size. -/
def foreignPage (by_ : BusMaster) (a : Nat) (s : State) : Bool :=
  0x12000000 ≤ a && a < 0x12020000 && !pageAllowed s by_ (Fin.ofNat 32 (a / 4096 % 32))

/-- A read of the performance counter bank at `off`, in supervisor privilege: a low word latches its high word (R526). -/
def readPmu (b : Fin 13) (off : Nat) (s : State) : State :=
  if 72 ≤ off then s.onKci fun k => { k with readOut := 0 }
  else
    (if off / 4 % 2 = 0 then pmuLatch b (Fin.ofNat 9 (off / 8)) s else s).onKci fun k => { k with readOut := pmuWord s b off }

/-- An access to a register of a window by core `c` or another master: what a read or a write of that register does. -/
def windowAccess (by_ : BusMaster) (a : Nat) (v : Option (BitVec 32)) (s : State) : Out :=
  if a < 0x13000000 then execPageAccess by_ (Fin.ofNat 32 (a / 4096 % 32)) (a % 4096) v s
  else if a < 0x14000000 then
    let t := Fin.ofNat 16 (a / 256 % 16)
    .next (match v with
      | some v => timerWriteBy by_ t (a % 256) v s
      | none => timerReadBy by_ t (a % 256) s)
  else if 0x15000000 ≤ a then .next (if v.isSome then s else readPmu (Fin.ofNat 13 (a / 256 % 16)) (a % 256) s)
  else
    match by_, v with
    | .core c, none => execSchRead c (a % 256) s
    | .core c, some v => if a = 0x14000000 then execSchOp c (v.toNat % 16) s else .next (writePhysReg by_ a v s)
    | _, some _ => .next s
    | _, none => .next (s.onKci fun k => { k with readOut := 0 })

/-- `MEM_ACCESS`: an access that the map denies reads zero or is discarded, is counted and reported; any other takes
place.  A read of a word that is poisoned counts and reports it again; the bus error that a core takes from it is a
`SYNC_EXCEPTION` (log entry 150).  A whole register of a core's windows is read or written by its own rules.  Samples and
LLRs are not held as bytes, so a read of the Eddy buffer or the LLR store gives what memory accesses stored there, else zero
(DESIGN CHOICE, log entry 117).  A core is off in DOZE and HIBERNATE and makes no access (R22). -/
def execMemAccess (by_ : BusMaster) (addr : Nat) (data : Option Bytes) (len : Nat) (s : State) : Out :=
  let n := match data with
    | some d => d.length
    | none => len
  if coreOff s by_ then .next s
  else if (inWindow addr && n = 4 && addr % 4 = 0) || foreignPage by_ addr s then windowAccess by_ addr (data.map fun d => BitVec.ofNat 32 (leNat d)) s
  else if !accessAllowed s.mem by_ data.isSome addr n then
    let s := raiseSource 73 dramFn addr (s.count dramFn 3)
    .next (if data.isSome then s else s.onKci fun k => { k with readOut := 0 })
  else
    let s := countDram by_ addr n data.isSome s
    match data with
    | some d => .next (s.store addr d)
    | none =>
      let s := (poisonsIn s.mem addr n).foldl (fun s w => wordError w (requesterFn by_) true 0 s) s
      .next (s.onKci fun k => { k with readOut := leNat (s.load addr n) })

/-! ### Accesses of the host in every power state (R412, R413) -/

/-- What an access of the host does in RUN or SLOT_IDLE. -/
def HostAccess.run (a : HostAccess) (s : State) : State :=
  match a with
  | .reqTail m v => ringDoorbell m (v.setWidth 9) s
  | .rspHead m v => advanceRsp m (v.setWidth 9) s
  | .control m v => mbxControl m v s
  | .evtHead v => advanceEvt (v.setWidth 11) s
  | .droppedRead => (latchDropped s).onKci fun k => { k with readOut := k.dropped.toNat % 2 ^ 32 }
  | .intClear k v => clearPending k.val v s
  | .eoi v => rearm v s
  | .dbgBase high v => writeDbg high v s
  | .ringIdx r v bufs => advanceRing r (v.setWidth 13) bufs s
  | .write a v => writePlainMap a v s

/-- An access of the host: none in HIBERNATE; in DOZE it wakes the device and completes once the exit is done (log entry
99). -/
def onHost (s : State) (a : HostAccess) : State :=
  if blockOff s then s
  else if s.asleep then (hostAccess s).onPower fun p => { p with hostHeld := p.hostHeld ++ [a] }
  else a.run (hostAccess s)

/-- `MBX_REQ_TAIL_WRITE`. -/
def execMbxReqTailWrite (m : Fin 4) (value : BitVec 32) (s : State) : Out :=
  .next (onHost s (.reqTail m value))

/-- `MBX_RSP_HEAD_WRITE`. -/
def execMbxRspHeadWrite (m : Fin 4) (value : BitVec 32) (s : State) : Out :=
  .next (onHost s (.rspHead m value))

/-- `MBX_CONTROL_RESET`. -/
def execMbxControlReset (m : Fin 4) (value : BitVec 32) (s : State) : Out := .next (onHost s (.control m value))

/-- `EVT_HEAD_WRITE`. -/
def execEvtHeadWrite (value : BitVec 32) (s : State) : Out := .next (onHost s (.evtHead value))

/-- `EVT_DROPPED_LO_READ`. -/
def execEvtDroppedLoRead (s : State) : Out :=
  .next (onHost s .droppedRead)

/-- `INT_PENDING_CLEAR`. -/
def execIntPendingClear (k : Fin 8) (value : BitVec 32) (s : State) : Out := .next (onHost s (.intClear k value))

/-- `INT_VEC_EOI`. -/
def execIntVecEoi (value : BitVec 32) (s : State) : Out := .next (onHost s (.eoi value))

/-- `DBG_BASE_WRITE`. -/
def execDbgBaseWrite (high : Bool) (value : BitVec 32) (s : State) : Out := .next (onHost s (.dbgBase high value))

/-- `RING_HOST_IDX_WRITE`. -/
def execRingHostIdxWrite (r : Fin 16) (value : BitVec 32) (bufs : List Bytes) (s : State) : Out :=
  .next (onHost s (.ringIdx r value bufs))

/-- `REGISTER_WRITE`. -/
def execRegisterWrite (by_ : BusMaster) (addr : Nat) (value : BitVec 32) (s : State) : Out :=
  .next (match by_ with
    | .host => onHost s (.write addr value)
    | _ => if coreOff s by_ then s else writePhysReg by_ addr value s)

end Sys2Proof.Machine
end

