-- ==== Sys2Proof/Machine/Wake.lean ====
section
/-!
DEFINITION. The end of an exit from DOZE (R405, R410, R413, R415).
-/

namespace Sys2Proof.Machine

/-- The rail monitor confirms the rails that the sleep took down, or lowered, above their warning levels (R415). -/
def railsBack (s : State) : Bool := !(s.supply.rails[(1 : Fin 10)]).warn && !(s.supply.rails[(3 : Fin 10)]).warn

/-- The accesses that waited for the exit complete, in their order (R413). -/
def runHeldAccesses (s : State) : State :=
  s.power.hostHeld.foldl (fun s a => a.run s) (s.onPower fun p => { p with hostHeld := [] })

/-- `WAKE_COMPLETE`: DRAM leaves self-refresh and SRAM retention, the thread contexts are restored, isolation is released last
(R410, R415), and RUN or SLOT_IDLE is reached; a need that lies in the past is reported late (R405, R422). -/
def execWakeComplete (s : State) : Out :=
  if s.power.phase != .rebuilt || s.power.state == .hibernate || !railsBack s then .next s
  else
    let us := springUs (s.time.spring - s.power.wakeAt)
    let need := s.power.wakeNeed
    let s := s.onPower fun p =>
      { p with phase := .awake, selfRefresh := false, retention := false, contextsSaved := false, isolated := [], lastExitUs := BitVec.ofNat 16 (min us 0xFFFF), wakeNeed := none
               wakeSpring := if p.commanded then p.wakeSpring else none }
    let s := (resumeSlot s).onSafety fun x => { x with tokenAt := s.time.fabric }
    let s := feedEvp (placeAll s)
    let src := s.power.lastWake.toNat
    let s := if src = 1 || src = 5 then s else raiseEvent 208 powerFn (src + min us 0xFFFFFFFF * 2 ^ 8) s
    let s := match need with
      | some (n, fn) =>
        if n < s.time.spring.toNat then
          let late := min ((s.time.spring.toNat - n) * 1000000 / 32768) 0xFFFFFFFF
          let p := late + fn * 2 ^ 32
          raiseSource 109 powerFn p (raiseEvent 209 powerFn p (s.count powerFn 6))
        else s
      | none => s
    .next (runHeldAccesses (handleHeld s))

end Sys2Proof.Machine
end

