-- ==== Sys2Proof/Machine/Dispatch.lean ====
section
/-!
DEFINITION. The dispatch of a command to its meaning: one arm per row of the command table.
-/

namespace Sys2Proof.Machine

/-- The effect of command `i` on everything but the queue. -/
def exec (i : Instr) (s : State) : Host.Outcome State Fault Refusal :=
  match i with
  | .mbxReqTailWrite m value => Sys2Proof.Machine.execMbxReqTailWrite m value s
  | .mbxRspHeadWrite m value => Sys2Proof.Machine.execMbxRspHeadWrite m value s
  | .mbxControlReset m value => Sys2Proof.Machine.execMbxControlReset m value s
  | .evtHeadWrite value => Sys2Proof.Machine.execEvtHeadWrite value s
  | .evtDroppedLoRead => Sys2Proof.Machine.execEvtDroppedLoRead s
  | .intPendingClear k value => Sys2Proof.Machine.execIntPendingClear k value s
  | .intVecEoi value => Sys2Proof.Machine.execIntVecEoi value s
  | .msixHoldoffExpiry v => Sys2Proof.Machine.execMsixHoldoffExpiry v s
  | .dbgBaseWrite high value => Sys2Proof.Machine.execDbgBaseWrite high value s
  | .ringHostIdxWrite r value bufs => Sys2Proof.Machine.execRingHostIdxWrite r value bufs s
  | .spiTransaction mosi => Sys2Proof.Machine.execSpiTransaction mosi s
  | .registerWrite by_ addr value => Sys2Proof.Machine.execRegisterWrite by_ addr value s
  | .configWriteDenied c fn => Sys2Proof.Machine.execConfigWriteDenied c fn s
  | .memAccess by_ addr data len => Sys2Proof.Machine.execMemAccess by_ addr data len s
  | .deviceInfo buf => Sys2Proof.Machine.execDeviceInfo buf s
  | .statusRead buf => Sys2Proof.Machine.execStatusRead buf s
  | .counterRead buf => Sys2Proof.Machine.execCounterRead buf s
  | .echo buf => Sys2Proof.Machine.execEcho buf s
  | .debugWindowOpen buf => Sys2Proof.Machine.execDebugWindowOpen buf s
  | .functionEnable buf => Sys2Proof.Machine.execFunctionEnable buf s
  | .stageDiscard buf => Sys2Proof.Machine.execStageDiscard buf s
  | .configCommit buf => Sys2Proof.Machine.execConfigCommit buf s
  | .configCancel buf => Sys2Proof.Machine.execConfigCancel buf s
  | .configRead buf => Sys2Proof.Machine.execConfigRead buf s
  | .functionReset buf => Sys2Proof.Machine.execFunctionReset buf s
  | .functionResetComplete fn => Sys2Proof.Machine.execFunctionResetComplete fn s
  | .frameRingConfig buf => Sys2Proof.Machine.execFrameRingConfig buf s
  | .commitApply => Sys2Proof.Machine.execCommitApply s
  | .linkConfig buf => Sys2Proof.Machine.execLinkConfig buf s
  | .hopsetLoad buf => Sys2Proof.Machine.execHopsetLoad buf s
  | .slotframeLoad buf => Sys2Proof.Machine.execSlotframeLoad buf s
  | .neighbourWrite buf => Sys2Proof.Machine.execNeighbourWrite buf s
  | .neighbourRead buf => Sys2Proof.Machine.execNeighbourRead buf s
  | .linkResync buf => Sys2Proof.Machine.execLinkResync buf s
  | .slotBoundary peaks => Sys2Proof.Machine.execSlotBoundary peaks s
  | .beaconMissed => Sys2Proof.Machine.execBeaconMissed s
  | .neighbourLostSyncReport => Sys2Proof.Machine.execNeighbourLostSyncReport s
  | .listenIntervalStart ch => Sys2Proof.Machine.execListenIntervalStart ch s
  | .listenIntervalEnd ch => Sys2Proof.Machine.execListenIntervalEnd ch s
  | .preambleDetected ch seen => Sys2Proof.Machine.execPreambleDetected ch seen s
  | .syncSearchTimeout f => Sys2Proof.Machine.execSyncSearchTimeout f s
  | .syncWordAccepted f syncOffset afc word => Sys2Proof.Machine.execSyncWordAccepted f syncOffset afc word s
  | .phrReceived f phr agree rssi => Sys2Proof.Machine.execPhrReceived f phr agree rssi s
  | .frameHandOff f llrs snr evm => Sys2Proof.Machine.execFrameHandOff f llrs snr evm s
  | .trellisDecodeDone f soft => Sys2Proof.Machine.execTrellisDecodeDone f soft s
  | .subtractionDone lane => Sys2Proof.Machine.execSubtractionDone lane s
  | .redemodStart lane => Sys2Proof.Machine.execRedemodStart lane s
  | .redemodAbandon lane => Sys2Proof.Machine.execRedemodAbandon lane s
  | .redemodDone lane llrs => Sys2Proof.Machine.execRedemodDone lane llrs s
  | .riffleJobComplete e agrees => Sys2Proof.Machine.execRiffleJobComplete e agrees s
  | .engineClockGate e => Sys2Proof.Machine.execEngineClockGate e s
  | .twinSecondPartTimeout f => Sys2Proof.Machine.execTwinSecondPartTimeout f s
  | .decodeTimeout f => Sys2Proof.Machine.execDecodeTimeout f s
  | .releaseGatePass f p => Sys2Proof.Machine.execReleaseGatePass f p s
  | .tagVerifyVerdict p => Sys2Proof.Machine.execTagVerifyVerdict p s
  | .agcClipStep r w => Sys2Proof.Machine.execAgcClipStep r w s
  | .agcPinned r w dead => Sys2Proof.Machine.execAgcPinned r w dead s
  | .noiseFloorBlock ch power => Sys2Proof.Machine.execNoiseFloorBlock ch power s
  | .testToneInject r w level calibrated => Sys2Proof.Machine.execTestToneInject r w level calibrated s
  | .latentTestLate r w => Sys2Proof.Machine.execLatentTestLate r w s
  | .radioConfig buf => Sys2Proof.Machine.execRadioConfig buf s
  | .radioFePins buf => Sys2Proof.Machine.execRadioFePins buf s
  | .radioCalibrate buf => Sys2Proof.Machine.execRadioCalibrate buf s
  | .radioCalibrateDone r results => Sys2Proof.Machine.execRadioCalibrateDone r results s
  | .radioPinDrive buf => Sys2Proof.Machine.execRadioPinDrive buf s
  | .calStoreRead buf => Sys2Proof.Machine.execCalStoreRead buf s
  | .radioChangeStart r => Sys2Proof.Machine.execRadioChangeStart r s
  | .synthLock r result => Sys2Proof.Machine.execSynthLock r result s
  | .synthUnlock r => Sys2Proof.Machine.execSynthUnlock r s
  | .synthRelockTimeout r => Sys2Proof.Machine.execSynthRelockTimeout r s
  | .obsSynthUnlock => Sys2Proof.Machine.execObsSynthUnlock s
  | .backgroundCalDone r result => Sys2Proof.Machine.execBackgroundCalDone r result s
  | .calStarvedTimeout r => Sys2Proof.Machine.execCalStarvedTimeout r s
  | .groupPlanLoad buf => Sys2Proof.Machine.execGroupPlanLoad buf s
  | .channelReloadDone ch => Sys2Proof.Machine.execChannelReloadDone ch s
  | .eddyConfig buf => Sys2Proof.Machine.execEddyConfig buf s
  | .eddyRingChange ch => Sys2Proof.Machine.execEddyRingChange ch s
  | .riffleConfig buf => Sys2Proof.Machine.execRiffleConfig buf s
  | .launchSelection what asn => Sys2Proof.Machine.execLaunchSelection what asn s
  | .loClassify l => Sys2Proof.Machine.execLoClassify l s
  | .retuneStart l => Sys2Proof.Machine.execRetuneStart l s
  | .trSwAssert l => Sys2Proof.Machine.execTrSwAssert l s
  | .paEnAssert l => Sys2Proof.Machine.execPaEnAssert l s
  | .rampUpStart l lateUs => Sys2Proof.Machine.execRampUpStart l lateUs s
  | .launchStart l => Sys2Proof.Machine.execLaunchStart l s
  | .obsPowerVerdict r measured => Sys2Proof.Machine.execObsPowerVerdict r measured s
  | .obsFrequencyVerdict r errors outside => Sys2Proof.Machine.execObsFrequencyVerdict r errors outside s
  | .rampDownStart l => Sys2Proof.Machine.execRampDownStart l s
  | .paEnDeassert r => Sys2Proof.Machine.execPaEnDeassert r s
  | .trSwDeassert r => Sys2Proof.Machine.execTrSwDeassert r s
  | .blankingEnd r => Sys2Proof.Machine.execBlankingEnd r s
  | .ackStage5Deadline l => Sys2Proof.Machine.execAckStage5Deadline l s
  | .dlAckWindowExpiry f => Sys2Proof.Machine.execDlAckWindowExpiry f s
  | .dlLifetimeExpiry f => Sys2Proof.Machine.execDlLifetimeExpiry f s
  | .gateEntry list idx => Sys2Proof.Machine.execGateEntry list idx s
  | .dutyBucketAdvance band => Sys2Proof.Machine.execDutyBucketAdvance band s
  | .sluiceConfig buf => Sys2Proof.Machine.execSluiceConfig buf s
  | .gateListLoad buf => Sys2Proof.Machine.execGateListLoad buf s
  | .dutyBandLoad buf => Sys2Proof.Machine.execDutyBandLoad buf s
  | .txTest buf => Sys2Proof.Machine.execTxTest buf s
  | .txTestEnd r => Sys2Proof.Machine.execTxTestEnd r s
  | .keyLoad by_ p => Sys2Proof.Machine.execKeyLoad by_ p s
  | .pageNop by_ p => Sys2Proof.Machine.execPageNop by_ p s
  | .enc by_ p => Sys2Proof.Machine.execEnc by_ p s
  | .dec by_ p => Sys2Proof.Machine.execDec by_ p s
  | .macIn by_ p => Sys2Proof.Machine.execMacIn by_ p s
  | .macRead by_ p => Sys2Proof.Machine.execMacRead by_ p s
  | .loadQ by_ p block len => Sys2Proof.Machine.execLoadQ by_ p block len s
  | .ctrQ by_ p block len => Sys2Proof.Machine.execCtrQ by_ p block len s
  | .macQ by_ p block len => Sys2Proof.Machine.execMacQ by_ p block len s
  | .tagVerify by_ p => Sys2Proof.Machine.execTagVerify by_ p s
  | .clear by_ p => Sys2Proof.Machine.execClear by_ p s
  | .ctxSave by_ p wrapped addr => Sys2Proof.Machine.execCtxSave by_ p wrapped addr s
  | .ctxRestore by_ p wrapped addr => Sys2Proof.Machine.execCtxRestore by_ p wrapped addr s
  | .pageAccess by_ p offset value => Sys2Proof.Machine.execPageAccess by_ p offset value s
  | .cipherPageConfig buf => Sys2Proof.Machine.execCipherPageConfig buf s
  | .keyImport buf => Sys2Proof.Machine.execKeyImport buf s
  | .keyDelete buf => Sys2Proof.Machine.execKeyDelete buf s
  | .keyStoreRead buf => Sys2Proof.Machine.execKeyStoreRead buf s
  | .pageRun buf => Sys2Proof.Machine.execPageRun buf s
  | .keyCounterRead buf => Sys2Proof.Machine.execKeyCounterRead buf s
  | .journalProgramDone ok => Sys2Proof.Machine.execJournalProgramDone ok s
  | .journalRetry => Sys2Proof.Machine.execJournalRetry s
  | .sectorEraseDone ok => Sys2Proof.Machine.execSectorEraseDone ok s
  | .ethFrameReceived p frame fcsOk => Sys2Proof.Machine.execEthFrameReceived p frame fcsOk s
  | .portLinkChange p up speed => Sys2Proof.Machine.execPortLinkChange p up speed s
  | .egressDecision port => Sys2Proof.Machine.execEgressDecision port s
  | .queueDropsReport => Sys2Proof.Machine.execQueueDropsReport s
  | .routerConfig buf => Sys2Proof.Machine.execRouterConfig buf s
  | .routeLoad buf => Sys2Proof.Machine.execRouteLoad buf s
  | .weirEgressLoad buf => Sys2Proof.Machine.execWeirEgressLoad buf s
  | .policerLoad buf => Sys2Proof.Machine.execPolicerLoad buf s
  | .policerRead buf => Sys2Proof.Machine.execPolicerRead buf s
  | .portConfig buf => Sys2Proof.Machine.execPortConfig buf s
  | .ptpAnnounceRx clock domain ptpTimescale => Sys2Proof.Machine.execPtpAnnounceRx clock domain ptpTimescale s
  | .ptpSyncRx clock seqId twoStep t1 correction stamp => Sys2Proof.Machine.execPtpSyncRx clock seqId twoStep t1 correction stamp s
  | .ptpFollowUpRx clock seqId t1 correction => Sys2Proof.Machine.execPtpFollowUpRx clock seqId t1 correction s
  | .ptpDelayRespRx clock seqId t4 correction => Sys2Proof.Machine.execPtpDelayRespRx clock seqId t4 correction s
  | .delayReqTx seqId stamp => Sys2Proof.Machine.execDelayReqTx seqId stamp s
  | .sourceLost k => Sys2Proof.Machine.execSourceLost k s
  | .sourceRevert => Sys2Proof.Machine.execSourceRevert s
  | .holdoverExpiry => Sys2Proof.Machine.execHoldoverExpiry s
  | .ppsInEdge cycles => Sys2Proof.Machine.execPpsInEdge cycles s
  | .ppsSetLapse => Sys2Proof.Machine.execPpsSetLapse s
  | .ppsOutRise => Sys2Proof.Machine.execPpsOutRise s
  | .ppsOutFall => Sys2Proof.Machine.execPpsOutFall s
  | .springMeasurement cycles => Sys2Proof.Machine.execSpringMeasurement cycles s
  | .timeConfig buf => Sys2Proof.Machine.execTimeConfig buf s
  | .timeSet buf => Sys2Proof.Machine.execTimeSet buf s
  | .timeRead buf => Sys2Proof.Machine.execTimeRead buf s
  | .timerTick t => Sys2Proof.Machine.execTimerTick t s
  | .tmrCtrlRun by_ t run => Sys2Proof.Machine.execTmrCtrlRun by_ t run s
  | .tmrCtrlClear by_ t run => Sys2Proof.Machine.execTmrCtrlClear by_ t run s
  | .tmrPeriodShadow by_ t period => Sys2Proof.Machine.execTmrPeriodShadow by_ t period s
  | .tmrPeriodImmediate by_ t period => Sys2Proof.Machine.execTmrPeriodImmediate by_ t period s
  | .tmrCmpWrite by_ t n value => Sys2Proof.Machine.execTmrCmpWrite by_ t n value s
  | .cmpWriteEffect t n => Sys2Proof.Machine.execCmpWriteEffect t n s
  | .tmrCmpEnWrite by_ t value => Sys2Proof.Machine.execTmrCmpEnWrite by_ t value s
  | .tmrStatusClear by_ t value => Sys2Proof.Machine.execTmrStatusClear by_ t value s
  | .tmrMissedRead by_ t n => Sys2Proof.Machine.execTmrMissedRead by_ t n s
  | .tmrTickLoRead by_ t => Sys2Proof.Machine.execTmrTickLoRead by_ t s
  | .debugHaltFreeze c => Sys2Proof.Machine.execDebugHaltFreeze c s
  | .debugHaltRelease c => Sys2Proof.Machine.execDebugHaltRelease c s
  | .timerConfig buf => Sys2Proof.Machine.execTimerConfig buf s
  | .timerAccess buf => Sys2Proof.Machine.execTimerAccess buf s
  | .autoDozeEntry silent => Sys2Proof.Machine.execAutoDozeEntry silent s
  | .voterAckTimeout => Sys2Proof.Machine.execVoterAckTimeout s
  | .sleepAbortReport => Sys2Proof.Machine.execSleepAbortReport s
  | .sleepSnapshot => Sys2Proof.Machine.execSleepSnapshot s
  | .scheduledWake => Sys2Proof.Machine.execScheduledWake s
  | .wakeSource n => Sys2Proof.Machine.execWakeSource n s
  | .referenceQualified => Sys2Proof.Machine.execReferenceQualified s
  | .wakeRebuild => Sys2Proof.Machine.execWakeRebuild s
  | .wakeComplete => Sys2Proof.Machine.execWakeComplete s
  | .radioPowerUp r => Sys2Proof.Machine.execRadioPowerUp r s
  | .rxActiveAssert r => Sys2Proof.Machine.execRxActiveAssert r s
  | .radioPowerDown r => Sys2Proof.Machine.execRadioPowerDown r s
  | .powerConfig buf => Sys2Proof.Machine.execPowerConfig buf s
  | .powerEnter buf silent => Sys2Proof.Machine.execPowerEnter buf silent s
  | .railWarningCrossing rail mv => Sys2Proof.Machine.execRailWarningCrossing rail mv s
  | .supplyWarnNAssert => Sys2Proof.Machine.execSupplyWarnNAssert s
  | .dipRecovery mv minima => Sys2Proof.Machine.execDipRecovery mv minima s
  | .railResetCrossing rail mv => Sys2Proof.Machine.execRailResetCrossing rail mv s
  | .railOverCrossing rail mv => Sys2Proof.Machine.execRailOverCrossing rail mv s
  | .domainSpread mv => Sys2Proof.Machine.execDomainSpread mv s
  | .por falling springExt => Sys2Proof.Machine.execPor falling springExt s
  | .externalReset => Sys2Proof.Machine.execExternalReset s
  | .pciePerstNAssert => Sys2Proof.Machine.execPciePerstNAssert s
  | .pciePerstNRelease => Sys2Proof.Machine.execPciePerstNRelease s
  | .avsMeasurement demandMv => Sys2Proof.Machine.execAvsMeasurement demandMv s
  | .pmicWriteRetry rail acked => Sys2Proof.Machine.execPmicWriteRetry rail acked s
  | .targetSettleTimeout rail mv => Sys2Proof.Machine.execTargetSettleTimeout rail mv s
  | .oppEvaluation => Sys2Proof.Machine.execOppEvaluation s
  | .pllRelockDone => Sys2Proof.Machine.execPllRelockDone s
  | .clockMonitorFault clock frequency => Sys2Proof.Machine.execClockMonitorFault clock frequency s
  | .cpWatchdog => Sys2Proof.Machine.execCpWatchdog s
  | .deviceRestart buf => Sys2Proof.Machine.execDeviceRestart buf s
  | .supplyConfig buf => Sys2Proof.Machine.execSupplyConfig buf s
  | .coldStart facts => Sys2Proof.Machine.execColdStart facts s
  | .warmStart facts => Sys2Proof.Machine.execWarmStart facts s
  | .startTimeout step => Sys2Proof.Machine.execStartTimeout step s
  | .startSuccess => Sys2Proof.Machine.execStartSuccess s
  | .padHoldRelease buf => Sys2Proof.Machine.execPadHoldRelease buf s
  | .imageWrite buf => Sys2Proof.Machine.execImageWrite buf s
  | .imageWriteDone => Sys2Proof.Machine.execImageWriteDone s
  | .imageConfirm buf => Sys2Proof.Machine.execImageConfirm buf s
  | .imageStatus buf => Sys2Proof.Machine.execImageStatus buf s
  | .sramScrubStep bad syndrome => Sys2Proof.Machine.execSramScrubStep bad syndrome s
  | .sramScrubLate => Sys2Proof.Machine.execSramScrubLate s
  | .dramScrubRow bad => Sys2Proof.Machine.execDramScrubRow bad s
  | .refreshDue ch rank => Sys2Proof.Machine.execRefreshDue ch rank s
  | .refreshDebtPayoff => Sys2Proof.Machine.execRefreshDebtPayoff s
  | .mr4Poll ch factor => Sys2Proof.Machine.execMr4Poll ch factor s
  | .dqsOscRead ch drift => Sys2Proof.Machine.execDqsOscRead ch drift s
  | .dramRetrain ch converges => Sys2Proof.Machine.execDramRetrain ch converges s
  | .migrationComplete ch => Sys2Proof.Machine.execMigrationComplete ch s
  | .paramRecordDurable => Sys2Proof.Machine.execParamRecordDurable s
  | .recorderBlockWritten r samples start asn gen left => Sys2Proof.Machine.execRecorderBlockWritten r samples start asn gen left s
  | .recorderFifoFull r dropped => Sys2Proof.Machine.execRecorderFifoFull r dropped s
  | .dramConfig buf => Sys2Proof.Machine.execDramConfig buf s
  | .dramTrain buf => Sys2Proof.Machine.execDramTrain buf s
  | .dramSpareMigrate buf => Sys2Proof.Machine.execDramSpareMigrate buf s
  | .recorderConfig buf => Sys2Proof.Machine.execRecorderConfig buf s
  | .recorderRead buf => Sys2Proof.Machine.execRecorderRead buf s
  | .memErrorLogRead buf => Sys2Proof.Machine.execMemErrorLogRead buf s
  | .schNop c => Sys2Proof.Machine.execSchNop c s
  | .wait c => Sys2Proof.Machine.execWait c s
  | .post c => Sys2Proof.Machine.execPost c s
  | .yield c => Sys2Proof.Machine.execYield c s
  | .exit c => Sys2Proof.Machine.execExit c s
  | .start c userPc => Sys2Proof.Machine.execStart c userPc s
  | .raise c => Sys2Proof.Machine.execRaise c s
  | .flowEnter c => Sys2Proof.Machine.execFlowEnter c s
  | .flowRelease c => Sys2Proof.Machine.execFlowRelease c s
  | .flowDrop c => Sys2Proof.Machine.execFlowDrop c s
  | .takeEvent c => Sys2Proof.Machine.execTakeEvent c s
  | .putEvent c => Sys2Proof.Machine.execPutEvent c s
  | .setPriority c userPc => Sys2Proof.Machine.execSetPriority c userPc s
  | .notify c => Sys2Proof.Machine.execNotify c s
  | .endEvent c => Sys2Proof.Machine.execEndEvent c s
  | .schWakeRead c high => Sys2Proof.Machine.execSchWakeRead c high s
  | .schPostsRead c => Sys2Proof.Machine.execSchPostsRead c s
  | .waitTimeout who => Sys2Proof.Machine.execWaitTimeout who s
  | .quantumExpiry c => Sys2Proof.Machine.execQuantumExpiry c s
  | .coreClockGate c => Sys2Proof.Machine.execCoreClockGate c s
  | .syncException c bus pc => Sys2Proof.Machine.execSyncException c bus pc s
  | .coreHang c => Sys2Proof.Machine.execCoreHang c s
  | .pmuLowWordRead c userPc bank n => Sys2Proof.Machine.execPmuLowWordRead c userPc bank n s
  | .schedConfig buf => Sys2Proof.Machine.execSchedConfig buf s
  | .threadTableLoad buf => Sys2Proof.Machine.execThreadTableLoad buf s
  | .clusterPost buf => Sys2Proof.Machine.execClusterPost buf s
  | .clusterMemWrite buf => Sys2Proof.Machine.execClusterMemWrite buf s
  | .threadRead buf => Sys2Proof.Machine.execThreadRead buf s
  | .traceRead buf => Sys2Proof.Machine.execTraceRead buf s
  | .pmuConfig buf => Sys2Proof.Machine.execPmuConfig buf s
  | .pmuRead buf => Sys2Proof.Machine.execPmuRead buf s
  | .faultSourceRaise n named detail => Sys2Proof.Machine.execFaultSourceRaise n named detail s
  | .faultReportInterval n => Sys2Proof.Machine.execFaultReportInterval n s
  | .shadowWindowClose recNo => Sys2Proof.Machine.execShadowWindowClose recNo s
  | .s3WarmRestart => Sys2Proof.Machine.execS3WarmRestart s
  | .safetyLoopToken token confirmed => Sys2Proof.Machine.execSafetyLoopToken token confirmed s
  | .safetyLoopLate => Sys2Proof.Machine.execSafetyLoopLate s
  | .safeOutputReadback differ hotRadios => Sys2Proof.Machine.execSafeOutputReadback differ hotRadios s
  | .fwIntegrity same => Sys2Proof.Machine.execFwIntegrity same s
  | .faultTableLoad buf => Sys2Proof.Machine.execFaultTableLoad buf s
  | .faultLogRead buf => Sys2Proof.Machine.execFaultLogRead buf s
  | .faultClear buf => Sys2Proof.Machine.execFaultClear buf s
  | .faultInject buf => Sys2Proof.Machine.execFaultInject buf s
  | .faultRaise buf => Sys2Proof.Machine.execFaultRaise buf s
  | .thermalSample readings bad => Sys2Proof.Machine.execThermalSample readings bad s
  | .telemetryRecord => Sys2Proof.Machine.execTelemetryRecord s
  | .stressRecord => Sys2Proof.Machine.execStressRecord s
  | .lifeStress => Sys2Proof.Machine.execLifeStress s
  | .telemetryRead buf => Sys2Proof.Machine.execTelemetryRead buf s
  | .stressRead buf => Sys2Proof.Machine.execStressRead buf s
  | .padConfig buf => Sys2Proof.Machine.execPadConfig buf s
  | .badOpcodeRequest => Sys2Proof.Machine.execBadOpcodeRequest s
  | .watchdogService => Sys2Proof.Machine.execWatchdogService s
  | .pageOperationDone p disagree => Sys2Proof.Machine.execPageOperationDone p disagree s

end Sys2Proof.Machine
end

