-- ==== Sys2Proof/Machine/Tick.lean ====
section
/-!
DEFINITION. One tick of the clocks, which is what a step does when no command waits (log entry 1): a fabric cycle, or a Spring
tick while the fabric clock is stopped (R10, R350, R351, R409, R523).
-/

namespace Sys2Proof.Machine

/-- One period of the Spring clock, while its crystal runs (R349, R442). -/
def springTick (s : State) : State :=
  if s.supply.springRuns then s.onTime fun t => { t with spring := t.spring + 1 } else s

/-- What one reference cycle adds to network time, in 2⁻³² ns. -/
def refStep (s : State) : Nat := ((1000000000 + freqPpb s) * 4294967296 / 38400000).toNat

/-- Network time after `add` units of 2⁻³² ns. -/
def addTime (add : Nat) (t : Time) : Time :=
  let f := t.frac.toNat + add
  let n := t.nanos.toNat + f / 4294967296
  { t with frac := BitVec.ofNat 32 f, nanos := BitVec.ofNat 32 (n % 1000000000), seconds := t.seconds + BitVec.ofNat 64 (n / 1000000000) }

/-- Fast ticks by which the slot time bases move in one reference cycle: one, none when one is withheld, two when one is
inserted; and the correction that remains. -/
def slotStep1 (corr : Int) : Nat × Int :=
  if 1000000000 ≤ corr then (2, corr - 1000000000) else if corr ≤ -1000000000 then (0, corr + 1000000000) else (1, corr)

/-- One reference cycle. -/
def refCycle (s : State) : State :=
  let add := refStep s
  let (n, corr) := slotStep1 (s.time.slotCorr + freqPpb s)
  s.onTime fun t => { addTime add t with slotBase := t.slotBase.map (· + BitVec.ofNat 64 n), slotCorr := corr }

/-- The reference clock and the Spring clock against the fabric clock: 12 reference cycles in 125 fabric cycles, and 32 Spring
ticks in 390,625. -/
def clockPhases (s : State) : State :=
  let r := s.time.refPhase + 12
  let k := s.time.springPhase + 32
  let s := s.onTime fun t => { t with refPhase := r % 125, springPhase := k % 390625 }
  let s := if 125 ≤ r then refCycle s else s
  if 390625 ≤ k then springTick s else s

/-- Core `c` during one fabric cycle of the cluster at `mhz`. -/
def coreCycle (mhz : Nat) (s : State) (c : Fin 8) : State :=
  let x := s.core c
  let s := if x.gated || !s.works (coreFn c) then s else s.onCore c fun y => { y with cycles := y.cycles + mhz }
  if x.thread.isSome || x.held.isSome then
    let p := x.busyPart + mhz
    let s := s.onCore c fun y => { y with busyPart := p % 400 }
    let s := s.onCluster fun y => { y with evalBusy := y.evalBusy + mhz }
    if 400 ≤ p then s.countN (coreFn c) 1 (p / 400) else s
  else s

/-- The cluster during one fabric cycle. -/
def clusterCycle (s : State) : State :=
  if s.relocking then s
  else
    let mhz := clusterMhz s
    let s := s.onCluster fun x => { x with evalClock := x.evalClock + mhz }
    (List.finRange 8).foldl (coreCycle mhz) s

/-- One fabric cycle. -/
def fabricCycle (s : State) : State :=
  let s := s.onTime fun t => { t with fabric := t.fabric + 1 }
  let s := clusterCycle (clockPhases s)
  let s := s.onSupply fun x => { x with watchdog := x.watchdog + 1 }
  settlePause 1 false (settlePause 0 false (serveRelay s))

/-- The fabric clock runs: a start has begun and the device is not in DOZE or HIBERNATE. -/
def fabricRuns (s : State) : Bool :=
  (match s.boot.phase with
    | .due _ _ => false
    | .factoryTest => false
    | _ => true)
  && match s.power.phase with
    | .asleep => false
    | .waking => false
    | .qualified => false
    | _ => true

/-- One tick. -/
def tick (s : State) : State := if fabricRuns s then fabricCycle s else springTick s

end Sys2Proof.Machine
end

