-- ==== Sys2Proof/Safety.lean ====
section
/-!
DEFINITION. What counts as a safe run, and the terms in which the statements speak of requests.
-/

namespace Sys2Proof

/-- The opcode of a command that comes as a request of the Kilusk Command Interface, with the content of its indirect buffer
(R613). -/
def Instr.request (c : Instr) : Option (Nat × Bytes) :=
  match c with
  | .deviceInfo buf => some (0x0001, buf)
  | .statusRead buf => some (0x0002, buf)
  | .counterRead buf => some (0x0003, buf)
  | .echo buf => some (0x0004, buf)
  | .debugWindowOpen buf => some (0x0005, buf)
  | .functionEnable buf => some (0x0010, buf)
  | .stageDiscard buf => some (0x0011, buf)
  | .configCommit buf => some (0x0012, buf)
  | .configCancel buf => some (0x0013, buf)
  | .configRead buf => some (0x0014, buf)
  | .functionReset buf => some (0x0020, buf)
  | .frameRingConfig buf => some (0x0040, buf)
  | .linkConfig buf => some (0x0601, buf)
  | .hopsetLoad buf => some (0x0602, buf)
  | .slotframeLoad buf => some (0x0603, buf)
  | .neighbourWrite buf => some (0x0604, buf)
  | .neighbourRead buf => some (0x0605, buf)
  | .linkResync buf => some (0x0606, buf)
  | .radioConfig buf => some (0x0101, buf)
  | .radioFePins buf => some (0x0102, buf)
  | .radioCalibrate buf => some (0x0103, buf)
  | .radioPinDrive buf => some (0x0104, buf)
  | .calStoreRead buf => some (0x0105, buf)
  | .groupPlanLoad buf => some (0x0201, buf)
  | .eddyConfig buf => some (0x0301, buf)
  | .riffleConfig buf => some (0x0401, buf)
  | .sluiceConfig buf => some (0x0501, buf)
  | .gateListLoad buf => some (0x0502, buf)
  | .dutyBandLoad buf => some (0x0503, buf)
  | .txTest buf => some (0x0504, buf)
  | .cipherPageConfig buf => some (0x0701, buf)
  | .keyImport buf => some (0x0702, buf)
  | .keyDelete buf => some (0x0703, buf)
  | .keyStoreRead buf => some (0x0704, buf)
  | .pageRun buf => some (0x0705, buf)
  | .keyCounterRead buf => some (0x0706, buf)
  | .routerConfig buf => some (0x0801, buf)
  | .routeLoad buf => some (0x0802, buf)
  | .weirEgressLoad buf => some (0x0803, buf)
  | .policerLoad buf => some (0x0804, buf)
  | .policerRead buf => some (0x0805, buf)
  | .portConfig buf => some (0x0806, buf)
  | .timeConfig buf => some (0x0D01, buf)
  | .timeSet buf => some (0x0D02, buf)
  | .timeRead buf => some (0x0D03, buf)
  | .timerConfig buf => some (0x0C01, buf)
  | .timerAccess buf => some (0x0C02, buf)
  | .powerConfig buf => some (0x0E01, buf)
  | .powerEnter buf _ => some (0x0E02, buf)
  | .deviceRestart buf => some (0x1002, buf)
  | .supplyConfig buf => some (0x1001, buf)
  | .padHoldRelease buf => some (0x1003, buf)
  | .imageWrite buf => some (0x1004, buf)
  | .imageConfirm buf => some (0x1005, buf)
  | .imageStatus buf => some (0x1006, buf)
  | .dramConfig buf => some (0x0901, buf)
  | .dramTrain buf => some (0x0902, buf)
  | .dramSpareMigrate buf => some (0x0903, buf)
  | .recorderConfig buf => some (0x0904, buf)
  | .recorderRead buf => some (0x0905, buf)
  | .memErrorLogRead buf => some (0x0906, buf)
  | .schedConfig buf => some (0x0B01, buf)
  | .threadTableLoad buf => some (0x0B02, buf)
  | .clusterPost buf => some (0x0B03, buf)
  | .clusterMemWrite buf => some (0x0B04, buf)
  | .threadRead buf => some (0x0B05, buf)
  | .traceRead buf => some (0x0B06, buf)
  | .pmuConfig buf => some (0x0B07, buf)
  | .pmuRead buf => some (0x0B08, buf)
  | .faultTableLoad buf => some (0x0F01, buf)
  | .faultLogRead buf => some (0x0F02, buf)
  | .faultClear buf => some (0x0F03, buf)
  | .faultInject buf => some (0x0F04, buf)
  | .faultRaise buf => some (0x0F05, buf)
  | .telemetryRead buf => some (0x1007, buf)
  | .stressRead buf => some (0x1008, buf)
  | .padConfig buf => some (0x1009, buf)
  | .ringHostIdxWrite _ _ _ | .mbxReqTailWrite _ _ | .mbxRspHeadWrite _ _ | .mbxControlReset _ _ | .evtHeadWrite _
  | .evtDroppedLoRead | .intPendingClear _ _ | .intVecEoi _ | .msixHoldoffExpiry _ | .dbgBaseWrite _ _
  | .spiTransaction _ | .registerWrite _ _ _ | .configWriteDenied _ _ | .memAccess _ _ _ _ | .functionResetComplete _
  | .commitApply | .slotBoundary _ | .beaconMissed | .neighbourLostSyncReport | .listenIntervalStart _
  | .listenIntervalEnd _ | .preambleDetected _ _ | .syncSearchTimeout _ | .syncWordAccepted _ _ _ _
  | .phrReceived _ _ _ _ | .frameHandOff _ _ _ _ | .trellisDecodeDone _ _ | .subtractionDone _ | .redemodStart _
  | .redemodAbandon _ | .redemodDone _ _ | .riffleJobComplete _ _ | .engineClockGate _ | .twinSecondPartTimeout _
  | .decodeTimeout _ | .releaseGatePass _ _ | .tagVerifyVerdict _ | .agcClipStep _ _ | .agcPinned _ _ _
  | .noiseFloorBlock _ _ | .testToneInject _ _ _ _ | .latentTestLate _ _ | .radioCalibrateDone _ _
  | .radioChangeStart _ | .synthLock _ _ | .synthUnlock _ | .synthRelockTimeout _ | .obsSynthUnlock
  | .backgroundCalDone _ _ | .calStarvedTimeout _ | .channelReloadDone _ | .eddyRingChange _ | .launchSelection _ _
  | .loClassify _ | .retuneStart _ | .trSwAssert _ | .paEnAssert _ | .rampUpStart _ _ | .launchStart _
  | .obsPowerVerdict _ _ | .obsFrequencyVerdict _ _ _ | .rampDownStart _ | .paEnDeassert _ | .trSwDeassert _
  | .blankingEnd _ | .ackStage5Deadline _ | .dlAckWindowExpiry _ | .dlLifetimeExpiry _ | .gateEntry _ _
  | .dutyBucketAdvance _ | .txTestEnd _ | .keyLoad _ _ | .pageNop _ _ | .enc _ _ | .dec _ _ | .macIn _ _ | .macRead _ _
  | .loadQ _ _ _ _ | .ctrQ _ _ _ _ | .macQ _ _ _ _ | .tagVerify _ _ | .clear _ _ | .ctxSave _ _ _ _
  | .ctxRestore _ _ _ _ | .pageAccess _ _ _ _ | .journalProgramDone _ | .journalRetry | .sectorEraseDone _
  | .ethFrameReceived _ _ _ | .portLinkChange _ _ _ | .egressDecision _ | .queueDropsReport | .ptpAnnounceRx _ _ _
  | .ptpSyncRx _ _ _ _ _ _ | .ptpFollowUpRx _ _ _ _ | .ptpDelayRespRx _ _ _ _ | .delayReqTx _ _ | .sourceLost _
  | .sourceRevert | .holdoverExpiry | .ppsInEdge _ | .ppsSetLapse | .ppsOutRise | .ppsOutFall | .springMeasurement _
  | .timerTick _ | .tmrCtrlRun _ _ _ | .tmrCtrlClear _ _ _ | .tmrPeriodShadow _ _ _ | .tmrPeriodImmediate _ _ _
  | .tmrCmpWrite _ _ _ _ | .cmpWriteEffect _ _ | .tmrCmpEnWrite _ _ _ | .tmrStatusClear _ _ _ | .tmrMissedRead _ _ _
  | .tmrTickLoRead _ _ | .debugHaltFreeze _ | .debugHaltRelease _ | .autoDozeEntry _ | .voterAckTimeout
  | .sleepAbortReport | .sleepSnapshot | .scheduledWake | .wakeSource _ | .referenceQualified | .wakeRebuild
  | .wakeComplete | .radioPowerUp _ | .rxActiveAssert _ | .radioPowerDown _ | .railWarningCrossing _ _
  | .supplyWarnNAssert | .dipRecovery _ _ | .railResetCrossing _ _ | .railOverCrossing _ _ | .domainSpread _ | .por _ _
  | .externalReset | .pciePerstNAssert | .pciePerstNRelease | .avsMeasurement _ | .pmicWriteRetry _ _
  | .targetSettleTimeout _ _ | .oppEvaluation | .pllRelockDone | .clockMonitorFault _ _ | .cpWatchdog | .coldStart _
  | .warmStart _ | .startTimeout _ | .startSuccess | .imageWriteDone | .sramScrubStep _ _ | .sramScrubLate
  | .dramScrubRow _ | .refreshDue _ _ | .refreshDebtPayoff | .mr4Poll _ _ | .dqsOscRead _ _ | .dramRetrain _ _
  | .migrationComplete _ | .paramRecordDurable | .recorderBlockWritten _ _ _ _ _ _ | .recorderFifoFull _ _ | .schNop _
  | .wait _ | .post _ | .yield _ | .exit _ | .start _ _ | .raise _ | .flowEnter _ | .flowRelease _ | .flowDrop _
  | .takeEvent _ | .putEvent _ | .setPriority _ _ | .notify _ | .endEvent _ | .schWakeRead _ _ | .schPostsRead _
  | .waitTimeout _ | .quantumExpiry _ | .coreClockGate _ | .syncException _ _ _ | .coreHang _ | .pmuLowWordRead _ _ _ _
  | .faultSourceRaise _ _ _ | .faultReportInterval _ | .shadowWindowClose _ | .s3WarmRestart | .safetyLoopToken _ _
  | .safetyLoopLate | .safeOutputReadback _ _ | .fwIntegrity _ | .thermalSample _ _ | .telemetryRecord | .stressRecord
  | .lifeStress | .badOpcodeRequest | .watchdogService | .pageOperationDone _ _ => none

end Sys2Proof

namespace Sys2Proof.Machine

/-- A run of any length from `s` meets no stop: the block always goes on. -/
def NeverStops (s : State) : Prop :=
  ∀ k, ∃ t, Host.Core.run ⟨State, Fault, Refusal, step, State.reset⟩ k s = .next t

/-- The control processor takes request `req` of mailbox `m` next, it carries opcode `op`, and it passes the checks that are common
to every command (R54 to R59, R70 to R72, R613). -/
def Taken (s : State) (op : Nat) (m : Fin 4) (req : Req) : Prop :=
  nextReq s = some (m, req) ∧ req.opcode = op ∧ commonCheck (takeReq m req s) m req = none

/-- `t` is the state that answers `req` with RC_OK after its effect has given `u`: `fixed` and `var` inline, or `fixed` inline and
`var` in the host buffer with BUF_INDIRECT (R55). -/
def AnswersOk (m : Fin 4) (req : Req) (fixed var : Bytes) (u t : State) : Prop :=
  (req.indirect = false → t = respond m req rcOk 0 (fixed ++ var) u) ∧
  (req.indirect = true → var ≠ [] →
    t = respond m req rcOk 0 fixed (u.onKci fun k => { k with hostMem := memWrites k.hostMem req.bufAddr var })) ∧
  (req.indirect = true → var = [] → t = respond m req rcOk 0 fixed u)

/-- A response of `fixed` and `var` has room where R55 puts it. -/
def ResponseFits (req : Req) (fixed var : Bytes) : Prop :=
  if req.indirect = true then var.length ≤ req.bufLen else fixed.length + var.length ≤ 4064

/-- Every memory of the block is in canonical form. -/
def State.memoryCanonical (s : State) : Prop :=
  Memory.wf s.kci.bar0 = true ∧ Memory.wf s.kci.bar2 = true ∧ Memory.wf s.kci.hostMem = true ∧ Memory.wf s.mem.phys = true ∧
    Memory.wf s.boot.slot0.content = true ∧ Memory.wf s.boot.slot1.content = true ∧ Memory.wf s.kci.config = true ∧
    ∀ c, s.power.savedConfig = some c → Memory.wf c = true

end Sys2Proof.Machine
end

