-- ==== Sys2Proof/Certificates/Slice0/Obligations.lean ====
section
/-!
DEFINITION. The statements for the provers.  In a statement, `hostAccess s` is the state in which a host access has done what every
host access does (R413), and `takeReq m req s` the state in which the control processor has taken request `req` of mailbox `m`.
-/

open Sys2Proof Sys2Proof.Machine

/-- For every command c, every state s and every queue rest cs: where s.pending is c followed by cs, step s is exec c on
s with the queue cs. The queue is the model's own device (log entry 1). -/
def Obligations.StepRunsFrontCommand : Prop :=
  ∀ (c : Instr) (cs : List Instr) (s : State), s.pending = c :: cs → step s = exec c { s with pending := cs }

/-- With nothing waiting, step answers a next state. While the fabric clock is stopped (a start is due, the factory
test, or DOZE and HIBERNATE) it adds one to the Spring counter and changes nothing else, and changes nothing at all
where the Spring crystal has stopped as well; otherwise it is one fabric cycle. That an idle step is a tick is the
model's choice (log entry 1). -/
def Obligations.EmptyQueueTicksTheClocks : Prop :=
  ∀ s : State, s.pending = [] →
    (fabricRuns s = false → s.supply.springRuns = true →
      step s = .next { s with time := { s.time with spring := s.time.spring + 1 } }) ∧
    (fabricRuns s = false → s.supply.springRuns = false → step s = .next s) ∧
    (fabricRuns s = true → step s = .next (fabricCycle s))

/-- For a host write that reaches the block while the device does not sleep (h is the state after the access itself):
MBX_REQ_TAIL_WRITE of a value within the ring that ends at a whole request, with READY 1 and ERROR 0, stores the
tail and hands the requests between the tails to the control processor; MBX_RSP_HEAD_WRITE within the written
responses and at the end of one, with no response held back, stores the head and releases them; MBX_CONTROL_RESET
with bit 0 set leaves the mailbox at its reset values and takes away its executing request and makes its long
commands end without an event, the other three mailboxes unchanged; EVT_HEAD_WRITE of a value not beyond EVT_TAIL,
with no record dropped, stores it. In each case everything outside the host control block is as in h. -/
def Obligations.HostPointerWrites : Prop :=
  ∀ (s : State) (m : Fin 4), blockOff s = false → s.asleep = false →
    let h := hostAccess s
    let b := h.kci.mbx[m]
    (∀ (value : BitVec 32) (rs : List Req),
      let v := value.setWidth 9
      let new := (v - b.reqHead).toNat
      let old := (b.reqTail - b.reqHead).toNat
      h.boot.ready = true → b.error = false → old ≤ new → new ≤ 256 →
      readReqs h.kci.bar0 m.val (new - old) (b.reqTail.toNat % 256) (new - old) = some rs →
      exec (.mbxReqTailWrite m value) s =
        .next (h.onMbx m fun x => { x with reqTail := v, waiting := x.waiting ++ rs })) ∧
    (∀ (value : BitVec 32) (l : List Nat),
      let v := value.setWidth 9
      (v - b.rspHead).toNat ≤ (b.rspTail - b.rspHead).toNat → releaseRsp b.rspOut (v - b.rspHead).toNat = some l → b.rspHeld = [] →
      exec (.mbxRspHeadWrite m value) s =
        .next (h.onMbx m fun x => { x with rspHead := v, rspOut := l })) ∧
    (∀ value : BitVec 32, value.getLsbD 0 = true →
      ∃ t, exec (.mbxControlReset m value) s = .next t ∧ t = { h with kci := t.kci } ∧
        t.kci.mbx[m] = Mbx.reset ∧ (∀ n : Fin 4, n ≠ m → t.kci.mbx[n] = h.kci.mbx[n]) ∧
        (∀ e, t.kci.executing = some e → e.mbx ≠ m) ∧ t.kci.longs = h.kci.longs.map (fun l => if l.mbx = m then { l with quiet := true } else l) ∧
        t.kci.intPending = h.kci.intPending ∧ t.kci.bar0 = h.kci.bar0 ∧ t.kci.bar2 = h.kci.bar2) ∧
    (∀ value : BitVec 32,
      let v := value.setWidth 11
      (v - h.kci.evtHead).toNat ≤ (h.kci.evtTail - h.kci.evtHead).toNat → h.kci.droppedSince = 0 →
      exec (.evtHeadWrite value) s = .next { h with kci := { h.kci with evtHead := v } })

/-- For a host write that reaches the block while the device does not sleep: a doorbell value more than 256 entries from
MBX_REQ_HEAD or nearer to it than the present tail, and a release value beyond MBX_RSP_TAIL, leave every pointer and
every waiting request of the mailbox as they were and set ERROR. A doorbell on a mailbox with ERROR set changes
nothing at all. A write of EVT_HEAD beyond EVT_TAIL changes nothing. -/
def Obligations.PointerErrorsStopTheMailbox : Prop :=
  ∀ (s : State) (m : Fin 4) (value : BitVec 32), blockOff s = false → s.asleep = false →
    let h := hostAccess s
    let b := h.kci.mbx[m]
    let v := value.setWidth 9
    let new := (v - b.reqHead).toNat
    let old := (b.reqTail - b.reqHead).toNat
    (h.boot.ready = true → b.error = false → (256 < new ∨ new < old) →
      ∃ t, exec (.mbxReqTailWrite m value) s = .next t ∧ t.kci.mbx[m] = { b with error := true } ∧
        t = { h with kci := t.kci } ∧ ∀ n : Fin 4, n ≠ m → t.kci.mbx[n] = h.kci.mbx[n]) ∧
    ((b.rspTail - b.rspHead).toNat < (v - b.rspHead).toNat →
      ∃ t, exec (.mbxRspHeadWrite m value) s = .next t ∧ t.kci.mbx[m] = { b with error := true } ∧
        t = { h with kci := t.kci } ∧ ∀ n : Fin 4, n ≠ m → t.kci.mbx[n] = h.kci.mbx[n]) ∧
    (b.error = true → exec (.mbxReqTailWrite m value) s = .next h) ∧
    ((h.kci.evtTail - h.kci.evtHead).toNat < (value.setWidth 11 - h.kci.evtHead).toNat →
      exec (.evtHeadWrite value) s = .next h)

/-- In DOZE a host access wakes the device and is held, in order, until the exit is done. For an access that reaches the
block while the device does not sleep: INT_PENDING_CLEAR clears exactly the pending bits of its word that the value
names; INT_VEC_EOI with legacy interrupts arms exactly the vectors named; MSIX_HOLDOFF_EXPIRY ends the holdoff of
its vector, and with MSI-X in use it sends the message of a vector that is armed, active and not masked, with none
held back, with the address and data of its table entry, and disarms it; EVT_DROPPED_LO_READ returns the low word of
the drop counter and latches the high word; DBG_BASE_WRITE stores the defined bits of its half and moves an open
window. Everything outside the host control block is unchanged. For an access that reaches the block while the
device does not sleep: RING_HOST_IDX of a disabled ring is stored; a legal value of an enabled ring 0-7 is stored
and lets what waits be delivered; a legal value of an enabled ring 8-15 is stored and the frames that the device
then owns are taken. With the host on SPI, a transaction with opcode 0x02 at a whole register or in memory writes
its data bytes from its address on and one with opcode 0x0B shifts out the bytes read. A plain host write of
INT_ENABLE word k (INT_MODE.MODE 0) and of a vector's holdoff store their defined bits; a core's write of a
scheduler argument is stored in the register set of its context. -/
def Obligations.RegistersOfTheHostBlock : Prop :=
  (
  (∀ s : State, blockOff s = false → s.asleep = true →
    let held (a : HostAccess) : Out := .next ((hostAccess s).onPower fun p => { p with hostHeld := p.hostHeld ++ [a] })
    (∀ (m : Fin 4) (v : BitVec 32), exec (.mbxReqTailWrite m v) s = held (.reqTail m v) ∧
      exec (.mbxRspHeadWrite m v) s = held (.rspHead m v) ∧ exec (.mbxControlReset m v) s = held (.control m v)) ∧
    (∀ v : BitVec 32, exec (.evtHeadWrite v) s = held (.evtHead v) ∧ exec (.intVecEoi v) s = held (.eoi v)) ∧
    exec .evtDroppedLoRead s = held .droppedRead ∧
    (∀ (k : Fin 8) (v : BitVec 32), exec (.intPendingClear k v) s = held (.intClear k v)) ∧
    (∀ (high : Bool) (v : BitVec 32), exec (.dbgBaseWrite high v) s = held (.dbgBase high v)) ∧
    (∀ (r : Fin 16) (v : BitVec 32) (bufs : List Bytes), exec (.ringHostIdxWrite r v bufs) s = held (.ringIdx r v bufs)) ∧
    (∀ (a : Nat) (v : BitVec 32), exec (.registerWrite .host a v) s = held (.write a v))) ∧
  ∀ s : State, blockOff s = false → s.asleep = false →
    let h := hostAccess s
    (∀ (k : Fin 8) (value : BitVec 32), ∃ t, exec (.intPendingClear k value) s = .next t ∧
      t = { h with kci := { h.kci with intPending := t.kci.intPending, vecs := t.kci.vecs } } ∧
      (h.kci.intMode = false → t.kci.vecs = h.kci.vecs) ∧
      ∀ n, n < 256 → t.kci.intPending.getLsbD n =
        (h.kci.intPending.getLsbD n && !(decide (n / 32 = k.val) && value.getLsbD (n % 32)))) ∧
    (∀ value : BitVec 32, h.kci.intMode = false → ∃ t, exec (.intVecEoi value) s = .next t ∧
      t = { h with kci := { h.kci with vecs := t.kci.vecs } } ∧
      ∀ v : Fin 32, t.kci.vecs[v] = { h.kci.vecs[v] with armed := h.kci.vecs[v].armed || value.getLsbD v.val }) ∧
    (∀ v : Fin 32, s.kci.intMode = false →
      exec (.msixHoldoffExpiry v) s =
        .next { s with kci := { s.kci with vecs := s.kci.vecs.set v { s.kci.vecs[v] with elapsed := true } } }) ∧
    (∀ v : Fin 32, s.kci.intMode = true → s.kci.globalEn = true → s.kci.vecs[v].armed = true → vecActive s.kci v.val = true →
      s.kci.vecs[v].masked = false → s.kci.vecs[v].pba = false →
      ∃ t, exec (.msixHoldoffExpiry v) s = .next t ∧ t = { s with kci := { s.kci with vecs := t.kci.vecs } } ∧
        t.kci.vecs[v] = { s.kci.vecs[v] with
          armed := false, elapsed := s.kci.vecs[v].holdoff == 0, sent := s.kci.vecs[v].sent + 1
          last := some (s.kci.vecs[v].msgAddr, s.kci.vecs[v].msgData) }) ∧
    (∃ t, exec .evtDroppedLoRead s = .next t ∧ t.kci.readOut = h.kci.dropped.toNat % 2 ^ 32 ∧
      t.kci.droppedHi.toNat = h.kci.dropped.toNat / 2 ^ 32 ∧
      t = { h with kci := { h.kci with readOut := t.kci.readOut, droppedHi := t.kci.droppedHi } }) ∧
    (∀ value : BitVec 32, ∃ t, exec (.dbgBaseWrite false value) s = .next t ∧
      t.kci.dbgLo = value &&& 0xFFFFF000 ∧ t.kci.dbgHi = h.kci.dbgHi ∧
      t.kci.dbgMap = (if h.kci.dbgOpen = true then dbgBase t.kci else h.kci.dbgMap) ∧
      t = { h with kci := { h.kci with dbgLo := t.kci.dbgLo, dbgMap := t.kci.dbgMap } }) ∧
    (∀ value : BitVec 32, ∃ t, exec (.dbgBaseWrite true value) s = .next t ∧
      t.kci.dbgHi = value &&& 0xFF ∧ t.kci.dbgLo = h.kci.dbgLo ∧
      t.kci.dbgMap = (if h.kci.dbgOpen = true then dbgBase t.kci else h.kci.dbgMap) ∧
      t = { h with kci := { h.kci with dbgHi := t.kci.dbgHi, dbgMap := t.kci.dbgMap } })
  ) ∧
  (
  ∀ s : State, blockOff s = false → s.asleep = false →
    let h := hostAccess s
    (∀ (r : Fin 16) (value : BitVec 32) (bufs : List Bytes),
      let t := h.onKci fun k => { k with ringHost := k.ringHost.set r (value.setWidth 13) }
      let n := ringSize h.coh.active r.val
      (ringEnabled h.coh.active r.val = false → exec (.ringHostIdxWrite r value bufs) s = .next t) ∧
      (ringEnabled h.coh.active r.val = true → (value.setWidth 13).toNat % 4096 < n → ringHanded h r ≤ ringHanded t r →
        ringHanded t r ≤ n → linkDown h = false →
        exec (.ringHostIdxWrite r value bufs) s =
          .next (if r.val < 8 then pumpRing r h.kci.ringWait.length t else takeFrames r (ringOwned t r) bufs t))) ∧
    (∀ (a2 a1 a0 : Byte) (data : Bytes), s.boot.hostSel = true →
      let a := beNat [a2, a1, a0]
      ((isReg a = false ∨ a % 4 = 0) → exec (.spiTransaction (0x02 :: a2 :: a1 :: a0 :: data)) s =
        .next (spiWrite data a (Config.freeValue h.freeCount) h)) ∧
      (∀ d0 d1 : Byte, exec (.spiTransaction (0x0B :: a2 :: a1 :: a0 :: d0 :: d1 :: data)) s =
        .next ((spiRead data.length a h).2.onKci fun k => { k with spiOut := (spiRead data.length a h).1 }))) ∧
    (∀ (k : Fin 8) (value : BitVec 32), h.kci.intMode = false →
      exec (.registerWrite .host (0x430 + 4 * k.val) value) s =
        .next { h with kci := { h.kci with intEnable := setWord h.kci.intEnable k.val value } }) ∧
    (∀ (v : Fin 32) (value : BitVec 32),
      exec (.registerWrite .host (0x600 + 4 * v.val) value) s =
        .next { h with kci := { h.kci with vecs := h.kci.vecs.set v { h.kci.vecs[v] with holdoff := value.setWidth 10 } } }) ∧
    (∀ (c : Fin 8) (ctx : Holder) (value : BitVec 32), schedCtx s c = some ctx →
      exec (.registerWrite (.core c) 0x14000004 value) s = .next (setRegs ctx (fun r => { r with arg0 := value }) s) ∧
      exec (.registerWrite (.core c) 0x14000008 value) s = .next (setRegs ctx (fun r => { r with arg1 := value }) s) ∧
      exec (.registerWrite (.core c) 0x1400000C value) s = .next (setRegs ctx (fun r => { r with arg2 := value }) s))
  )

/-- For every command that comes as a request: with no request to take, or a next request of another opcode, the state
is unchanged; where the next request has its opcode and a check common to all commands refuses it, the request is
taken and answered with that reason and DETAIL, and nothing else happens. -/
def Obligations.RequestsAreTakenOrTurnedAway : Prop :=
  ∀ (c : Instr) (op : Nat) (buf : Bytes) (s : State), c.request = some (op, buf) →
    (nextReq s = none → exec c s = .next s) ∧
    (∀ (m : Fin 4) (req : Req), nextReq s = some (m, req) → req.opcode ≠ op → exec c s = .next s) ∧
    (∀ (m : Fin 4) (req : Req) (rc detail : Nat), nextReq s = some (m, req) → req.opcode = op →
      commonCheck (takeReq m req s) m req = some (rc, detail) →
      exec c s = .next (respond m req rc detail [] (takeReq m req s)))

/-- BAR0 is in canonical form, READY is 1, nothing is held back for the mailbox and the response has room. A taken
inline ECHO leaves every byte of its response (header with OPCODE, FLAGS, TAG, FUNCTION_ID, LENGTH, RC_OK,
GENERATION and SEQ, then the same body) at its place in the response ring, MBX_RSP_TAIL past the response's entries,
SEQ one higher, and the mailbox's pending bit set. -/
def Obligations.ResponseStandsInTheRing : Prop :=
  ∀ (s : State) (m : Fin 4) (req : Req) (buf : Bytes), Taken s 0x0004 m req → req.indirect = false → Memory.wf s.kci.bar0 = true →
    s.kci.mbx[m].rspHeld = [] → req.body.length ≤ 4064 →
    let bytes := rspBytes req rcOk 0 s.coh.generation s.kci.seq req.body
    rspUsed s.kci.mbx[m] + entriesFor req.body.length ≤ 256 →
    ∃ t, exec (.echo buf) s = .next t ∧
      (∀ i, i < bytes.length →
        memRead t.kci.bar0 (ringByte (rspRingBase m.val) (s.kci.mbx[m].rspTail.toNat % 256) i) = bytes.getD i 0) ∧
      t.kci.mbx[m].rspTail = s.kci.mbx[m].rspTail + BitVec.ofNat 9 (entriesFor req.body.length) ∧
      t.kci.seq = s.kci.seq + 1 ∧ t.kci.intPending.getLsbD m.val = true

/-- Taken, DEVICE_INFO answers with identity, versions, BOOT_STATUS and fuses; STATUS_READ and COUNTER_READ of 1 to 16
functions that exist, 0x0000 not among them, answer with the instant and one block per function, in order;
CONFIG_READ of a command that stages into the function, with SELECT, FIRST and COUNT in range, answers with the body
that stages the same content. A taken FUNCTION_RESET of a resettable function, outside the safe state, with no
function of its scope in reset and none in a pending commit, starts the reset and stays in execution;
FUNCTION_RESET_COMPLETE of a reset in progress completes it. For a page (0x0720 to 0x073F), whose reset has no
outputs to clamp, starting the reset marks exactly that function IN_RESET and lists the job. -/
def Obligations.SnapshotsAndFunctionResets : Prop :=
  (
  ∀ (s : State) (m : Fin 4) (req : Req) (buf : Bytes),
    let h := takeReq m req s
    let body := fullBody req buf
    let names := (List.range (u8 body 0)).map fun i => u16 body (4 + 2 * i)
    let instant := leBytes 8 s.time.fabric.toNat ++ leBytes 8 s.asn64.toNat ++ leBytes 8 s.time.spring.toNat
    (Taken s 0x0001 m req → ResponseFits req (infoBytes s.boot) [] →
      ∃ t, exec (.deviceInfo buf) s = .next t ∧ AnswersOk m req (infoBytes s.boot) [] h t) ∧
    (Taken s 0x0002 m req → 1 ≤ u8 body 0 → u8 body 0 ≤ 16 → field body 1 3 = 0 → (∀ f ∈ names, knownFn f = true ∧ f ≠ 0) →
      let blocks := names.flatMap fun n => snapBlock h n (fnStatus h n)
      blocks.length + 24 ≤ 4064 → ResponseFits req instant blocks →
      ∃ t, exec (.statusRead buf) s = .next t ∧ AnswersOk m req instant blocks h t) ∧
    (Taken s 0x0003 m req → 1 ≤ u8 body 0 → u8 body 0 ≤ 16 → field body 1 3 = 0 → (∀ f ∈ names, knownFn f = true ∧ f ≠ 0) →
      let blocks := names.flatMap fun n => snapBlock h n (fnCounters h n)
      blocks.length + 24 ≤ 4064 → ResponseFits req instant blocks →
      ∃ t, exec (.counterRead buf) s = .next t ∧ AnswersOk m req instant blocks h t) ∧
    (∀ fixed var : Bytes, Taken s 0x0014 m req → u16 body 2 = 0 → stagesInto (u16 body 0) req.fn = true →
      configBody (if req.isStaged = true then s.coh.staged else s.coh.active) req.fn (u16 body 0) (u32 body 4) (u32 body 8)
        (u32 body 12) req.indirect = some (fixed, var) → ResponseFits req fixed var →
      ∃ t, exec (.configRead buf) s = .next t ∧ AnswersOk m req fixed var h t)
  ) ∧
  (
  ∀ (s : State) (m : Fin 4) (req : Req) (buf : Bytes),
    let h := takeReq m req s
    (Taken s 0x0020 m req → resettable req.fn = true → s.safety.safeState = false →
      (∀ f ∈ resetScope req.fn, h.inReset f = false) →
      (∀ c, s.coh.commit = some c → ∀ f ∈ resetScope req.fn, f ∉ c.functions) →
      exec (.functionReset buf) s = .next ((startReset req.fn none h).onKci fun k => { k with executing := some ⟨m, req⟩ })) ∧
    (∀ (fn : Nat) (j : ResetJob), s.coh.resets.find? (fun x => x.fn == fn) = some j →
      exec (.functionResetComplete fn) s = .next (completeReset j s)) ∧
    (∀ fn, 0x0720 ≤ fn → fn ≤ 0x073F →
      let t := startReset fn none s
      t.inReset fn = true ∧ (∀ g, g ≠ fn → t.fnState g = s.fnState g) ∧ t.coh.resets = s.coh.resets ++ [⟨fn, none⟩] ∧
        t = { s with coh := { s.coh with fns := t.coh.fns, resets := t.coh.resets } })
  )

/-- Taken with every field in its range, each staging command writes exactly one part of the staged set and answers
RC_OK; STAGE_DISCARD gives the function's staged parts the content of its active ones, and counts only the entry
writes a pending commit has frozen; DEBUG_WINDOW_OPEN that changes the window maps it at DBG_BASE or closes it; a
request with an opcode that no chapter defines is answered RC_BAD_OPCODE when no safe state and no SAFE_HOLD stands
before. -/
def Obligations.StagingCommandsOfTheInterface : Prop :=
  ∀ (s : State) (m : Fin 4) (req : Req) (buf : Bytes),
    let h := takeReq m req s
    let body := fullBody req buf
    (Taken s 0x0010 m req → u8 body 0 ≤ 1 → field body 1 3 = 0 →
      exec (.functionEnable buf) s = .next (respond m req rcOk 0 [] (h.stage req.fn 0x0010 0 0 body))) ∧
    (Taken s 0x0040 m req → u8 body 0 ≤ 15 → u8 body 1 ≤ 1 → 6 ≤ u8 body 2 → u8 body 2 ≤ 12 → u8 body 3 = 0 →
      u32 body 4 % (32 * 2 ^ u8 body 2) = 0 →
      exec (.frameRingConfig buf) s = .next (respond m req rcOk 0 [] (h.stage req.fn 0x0040 (u8 body 0) 0 body))) ∧
    (Taken s 0x1009 m req → (∀ b ∈ body, b.toNat < 32 ∧ b.toNat / 4 % 4 ≠ 3) →
      exec (.padConfig buf) s = .next (respond m req rcOk 0 [] (h.stage req.fn 0x1009 0 0 body))) ∧
    (Taken s 0x0011 m req → exec (.stageDiscard buf) s = .next (respond m req rcOk 0 [] { h with coh :=
        { h.coh with staged := copyParts h.coh.staged h.coh.active req.fn,
                     writes := (limitedOps.filter fun o => o / 256 * 256 == req.fn).foldl
                       (fun w o => msetD 0 w o (mgetD (s.coh.commit.elim [] (·.writes)) o 0)) h.coh.writes } })) ∧
    (Taken s 0x0005 m req → u8 body 0 ≤ 1 → field body 1 3 = 0 → s.kci.dbgOpen ≠ (u8 body 0 == 1) →
      exec (.debugWindowOpen buf) s = .next (respond m req rcOk 0 [] (h.onKci fun k =>
        { k with dbgOpen := u8 body 0 == 1, dbgMap := if u8 body 0 = 1 then dbgBase s.kci else k.dbgMap }))) ∧
    (nextReq s = some (m, req) → cmdInfo req.opcode = none → s.safety.s4Held = false →
      exec .badOpcodeRequest s = .next (respond m req rcBadOpcode 0 [] h))

/-- A taken CONFIG_COMMIT whose fields and list pass, with no commit pending, the expected generation, no function of
its scope in reset, a scope that is not empty, a consistent result and a boundary that may be taken, records the
functions, the frozen image, the boundary, the target generation and the entry writes it will apply; with NOW it
stays in execution, otherwise it answers RC_OK with the target and the ASN. CONFIG_CANCEL leaves no commit.
COMMIT_APPLY of a due commit while the device is awake applies it; it changes nothing with no commit pending, or
before its boundary. -/
def Obligations.CommitAndCancel : Prop :=
  ∀ (s : State) (m : Fin 4) (req : Req) (buf : Bytes),
    let h := takeReq m req s
    let body := fullBody req buf
    let kind := u8 body 0
    let names := (List.range (u8 body 1)).map fun i => u16 body (12 + 2 * i)
    let fns := commitScope h names
    (∀ b : Boundary, Taken s 0x0012 m req → kind ≤ 2 → u8 body 1 ≤ 64 → u16 body 2 = 0 → (kind = 2 → u16 body 10 = 0) →
      namesCheck [] names = none → s.coh.commit = none →
      (req.expectsGen = true → req.expectGen = s.coh.generation.toNat) → (∀ f ∈ fns, h.inReset f = false) → fns ≠ [] →
      checkSet h (commitResult s.coh.active s.coh.staged fns) = none → takeBoundary h kind (leNat (slice body 4 6)) = .inl b →
      let c : Commit :=
        { functions := fns, image := imageOf s.coh.staged fns, boundary := b, targetGen := (nextGen s.coh.generation).toNat,
          writes := s.coh.writes.filter fun e => fns.contains (e.1 / 256 * 256) }
      let t := h.onCoh fun x => { x with commit := some c, staged := if fns.contains 0x0700 then freezeMarks x.staged else x.staged }
      exec (.configCommit buf) s = .next (match b with
        | .now => t.onKci fun k => { k with executing := some ⟨m, req⟩ }
        | .slot n => respond m req rcOk 0 (commitBody (nextGen s.coh.generation).toNat n 0) t)) ∧
    (Taken s 0x0013 m req →
      exec (.configCancel buf) s = .next (respond m req rcOk 0 [] (h.onCoh fun c => { c with commit := none }))) ∧
    (s.coh.commit = none → exec .commitApply s = .next s) ∧
    (∀ c : Commit, s.coh.commit = some c → s.asleep = false →
      (c.boundary = .now → exec .commitApply s = .next (applyCommit c s)) ∧
      (∀ n, c.boundary = .slot n → n ≤ slotNow s → s.time.asn ≠ some (slotNow s) →
        exec .commitApply s = .next (applyCommit c s)) ∧
      (∀ n, c.boundary = .slot n → slotNow s < n → exec .commitApply s = .next s))

/-- For a commit of functions that only switch (0x0300, 0x0400 and 0x0F00, whose work takes up the new set as it
begins): after the switch the active set is the old one with the parts of those functions taken from the image, the
generation is its successor (1 after all ones), no commit is pending, the staged set is unchanged, the next slot
takes no gain from a peak before the switch, and nothing else changes. -/
def Obligations.CommitReplacesTheActiveSet : Prop :=
  ∀ (s : State) (c : Commit), (∀ f ∈ c.functions, f = 0x0300 ∨ f = 0x0400 ∨ f = 0x0F00) →
    let t := switchSets c s
    t.coh.active = commitResult s.coh.active c.image c.functions ∧
    t.coh.generation.toNat = (if s.coh.generation.toNat = 2 ^ 32 - 1 then 1 else s.coh.generation.toNat + 1) ∧
    t.coh.commit = none ∧ t.coh.staged = s.coh.staged ∧ (∀ r : Fin 3, t.radio r = { s.radio r with
        windows := (s.radio r).windows.map fun w => { w with peak := none, fresh := true } }) ∧
    t = { s with coh := t.coh, radios := t.radios }

/-- Taken with every field in its range: LINK_CONFIG stages its body; HOPSET_LOAD of distinct channels stages the set it
selects; SLOTFRAME_LOAD stages its run of cells, then its header, and drops the cells beyond TOTAL; NEIGHBOUR_WRITE
stages its run of entries without the device's own fields and counts them where no more than 65,536 then wait;
NEIGHBOUR_READ answers with the entries; LINK_RESYNC of an enabled relay that is already in SCAN, or in SEARCH,
leaves it in SCAN. Taken with every field in its range: GROUP_PLAN_LOAD stages its run of channel entries, drops
those beyond TOTAL, and with SET_HEADER stages the header; EDDY_CONFIG and RIFFLE_CONFIG stage their bodies. -/
def Obligations.LinkAndReceptionConfiguration : Prop :=
  (
  ∀ (s : State) (m : Fin 4) (req : Req) (buf : Bytes),
    let h := takeReq m req s
    let body := fullBody req buf
    (Taken s 0x0601 m req → u8 body 0 ≤ 1 → u8 body 1 ≤ 7 → (u16 body 4 = 0 ∨ (164 ≤ u16 body 4 ∧ u16 body 4 ≤ 32767)) →
      u16 body 6 = 0 → 100 ≤ u32 body 8 → u32 body 8 ≤ 500000 → 100 ≤ u32 body 12 → u32 body 12 ≤ 100000 →
      500 ≤ u32 body 16 → u32 body 16 ≤ 20000 → 50 ≤ u32 body 20 → u32 body 20 ≤ 5000 → u32 body 32 ≤ 262143 →
      u32 body 36 ≤ 262143 → (u8 body 0 = 1 → u32 body 40 ≤ 262143 ∨ u32 body 40 = 0xFFFFFFFF) →
      (u8 body 0 = 0 → u32 body 40 = 0xFFFFFFFF) → u8 body 44 ≤ 1 → u8 body 45 = 0 → u16 body 46 ≤ 1023 →
      exec (.linkConfig buf) s = .next (respond m req rcOk 0 [] (h.stage req.fn 0x0601 0 0 body))) ∧
    (Taken s 0x0602 m req → u8 body 0 ≤ 7 → u8 body 1 ≤ 64 → u16 body 2 = 0 → ((body.drop 4).map BitVec.toNat).Nodup →
      exec (.hopsetLoad buf) s = .next (respond m req rcOk 0 [] (h.stage req.fn 0x0602 (u8 body 0) 0 (body.drop 4)))) ∧
    (Taken s 0x0603 m req → u8 body 0 ≤ 7 → u8 body 1 ≤ 1 → u8 body 2 ≤ 7 → u8 body 3 = 0 → 1 ≤ u32 body 4 → u32 body 4 ≤ 65536 →
      u32 body 12 ≤ (if req.indirect = true then 65536 else 252) → u32 body 16 ≤ 1048576 → u32 body 8 + u32 body 12 ≤ 1048576 →
      let cells := chunks 16 (u32 body 12) (body.drop 20)
      (∀ c ∈ cells, checkFields c (cellFields (u32 body 4) c) = none) →
      let staged := (stageRun req.fn 0x0603 (16 + u8 body 0) (u32 body 8) cells h).stage req.fn 0x0603 (u8 body 0) 0
        (slice body 1 2 ++ leBytes 4 (u32 body 4) ++ leBytes 4 (u32 body 16))
      exec (.slotframeLoad buf) s = .next (respond m req rcOk 0 [] (staged.onCoh fun c =>
        { c with staged := dropFrom c.staged 0x0600 0x0603 (16 + u8 body 0) (u32 body 16) }))) ∧
    (Taken s 0x0604 m req → u16 body 6 = 0 → 1 ≤ u16 body 4 → u16 body 4 ≤ (if req.indirect = true then 16384 else 63) →
      u32 body 0 + u16 body 4 ≤ 262144 →
      let es := chunks 64 (u16 body 4) (body.drop 8)
      (∀ e ∈ es, checkFields e nbFields = none) →
      s.writesOf 0x0604 + u16 body 4 ≤ 65536 →
      exec (.neighbourWrite buf) s = .next (respond m req rcOk 0 []
        (stageRun req.fn 0x0604 0 (u32 body 0) (es.map nbHost) (addWrites 0x0604 (u16 body 4) h)))) ∧
    (Taken s 0x0605 m req → u16 body 6 = 0 → 1 ≤ u16 body 4 → u16 body 4 ≤ (if req.indirect = true then 16384 else 63) →
      u32 body 0 + u16 body 4 ≤ 262144 →
      let data := (List.range (u16 body 4)).flatMap fun i => nbBytes h (u32 body 0 + i)
      ResponseFits req [] data → ∃ t, exec (.neighbourRead buf) s = .next t ∧ AnswersOk m req [] data h t) ∧
    (Taken s 0x0606 m req → s.enabled linkFn = true → linkRelay s.coh.active = true →
      (s.link.sync = .scan → exec (.linkResync buf) s = .next (respond m req rcOk 0 [] h)) ∧
      (s.link.sync = .search → exec (.linkResync buf) s = .next (respond m req rcOk 0 [] (enterScan h))))
  ) ∧
  (
  ∀ (s : State) (m : Fin 4) (req : Req) (buf : Bytes),
    let h := takeReq m req s
    let body := fullBody req buf
    (Taken s 0x0201 m req → checkFields body (planFields body) = none →
      let es := chunks 28 (u8 body 3) (body.drop 40)
      (∀ e ∈ es, checkFields e (chanFields e) = none) →
      let run := (stageRun req.fn 0x0201 1 (u8 body 2) es h).onCoh fun c =>
        { c with staged := dropFrom c.staged req.fn 0x0201 1 (u8 body 4) }
      (bit (u8 body 5) 0 = false → exec (.groupPlanLoad buf) s = .next (respond m req rcOk 0 [] run)) ∧
      (bit (u8 body 5) 0 = true → exec (.groupPlanLoad buf) s = .next (respond m req rcOk 0 []
        (run.stage req.fn 0x0201 0 0 (slice body 0 2 ++ zeros 6 ++ slice body 8 8))))) ∧
    (Taken s 0x0301 m req → 1 ≤ u8 body 0 → u8 body 0 ≤ 2 → u8 body 1 ≤ 1 → u16 body 2 = 0 →
      (∀ i, i < 7 → u16 body (4 + 2 * i) ≤ 2000) → u16 body 18 = 0 → (∀ i, i < 8 → u8 body (20 + i) ≤ 32) → u32 body 28 = 0 →
      exec (.eddyConfig buf) s = .next (respond m req rcOk 0 [] (h.stage req.fn 0x0301 0 0 body))) ∧
    (Taken s 0x0401 m req → (∀ i, i < 4 → 1 ≤ u8 body i ∧ u8 body i ≤ 24) → 1 ≤ u8 body 4 → u8 body 4 ≤ 64 → u8 body 5 ≤ 3 →
      10 ≤ u16 body 6 → u16 body 6 ≤ 10000 → u16 body 8 ≤ 1024 → field body 10 6 = 0 →
      exec (.riffleConfig buf) s = .next (respond m req rcOk 0 [] (h.stage req.fn 0x0401 0 0 body)))
  )

/-- For a working relay with an ASN: BEACON_MISSED in SYNCED counts, enters SEARCH, raises EV_SYNC_LOST with the ASN of
the latest parent-beacon cell and loses the beacon source; in SEARCH it counts the interval and enters SCAN after
the fourth; in SCAN it only counts. A report of lost neighbours raises one event with their number and the first,
and starts the count again. -/
def Obligations.SynchronisationEvents : Prop :=
  ∀ s : State,
    (s.works linkFn = true → linkRelay s.coh.active = true → ∀ n, s.time.asn = some n →
      let h := s.count linkFn 16
      (s.link.sync = .synced → exec .beaconMissed s = .next (loseSource 4 (raiseEvent 64 linkFn (missedBeacon s.coh.active n)
        ((h.onLink fun l => { l with sync := .search, missed := 0 }).count linkFn 18)))) ∧
      (s.link.sync = .search → s.link.missed < 3 →
        exec .beaconMissed s = .next (h.onLink fun l => { l with missed := s.link.missed + 1 })) ∧
      (s.link.sync = .search → 3 ≤ s.link.missed →
        exec .beaconMissed s = .next (enterScan (h.onLink fun l => { l with missed := s.link.missed + 1 }))) ∧
      (s.link.sync = .scan → exec .beaconMissed s = .next h)) ∧
    (s.link.lostCount ≠ 0 → exec .neighbourLostSyncReport s =
      .next (raiseEvent 66 linkFn (min s.link.lostCount 0xFFFFFFFF + s.link.lostFirst * 2 ^ 32)
        (s.onLink fun l => { l with lostCount := 0, lostFirst := 0 }))) ∧
    (s.link.lostCount = 0 → exec .neighbourLostSyncReport s = .next s)

/-- While the link works, time is valid, a relay has its parent's beacon, the device is awake, no parent's beacon has
just moved the bases by half a slot or more, and the slot that begins is not the one in progress: SLOT_BOUNDARY
takes over the boundary's changes, and then runs the slot (cells open, gains step, starved calibration starts)
exactly when its ASN exceeds ASN_FLOOR; otherwise no cell opens. Where the slot is already in progress and no
realignment is due, nothing changes. -/
def Obligations.SlotBoundaryRunsOrIdlesTheSlot : Prop :=
  ∀ (s : State) (peaks : List Int),
    let s1 := checkBases (takePeaks peaks (beaconRealign s))
    let n := boundarySlot s s1
    let u := queueAged (shedChannels (endBoundarySlot n (takeOverGates n (endInhibit (beginSlot n s1)))))
    asnReady s1 = true → s.power.phase = .awake → (s.time.asn = none ∨ s1.time.realign = false ∨ s.time.realign = true) →
    (s1.time.realign = true ∨ s1.time.asn ≠ some n →
      (u.time.asnFloor.toNat < n → ∃ t, exec (.slotBoundary peaks) s =
          .next (startCals n (allWindows.foldl slotStep (openCells n t))) ∧ t.time.idling = false ∧
        t = { u with time := { u.time with asnFloor := BitVec.ofNat 48 n, idling := false } }) ∧
      (n ≤ u.time.asnFloor.toNat → ∃ t, exec (.slotBoundary peaks) s = .next t ∧ t.link.slotCells = [] ∧ t.time.idling = true ∧
        t.time.asnFloor = u.time.asnFloor)) ∧
    (s1.time.realign = false → s1.time.asn = some n → exec (.slotBoundary peaks) s = .next s)

/-- On an open window in AUTO with gain left and no step in the last 100 microseconds, AGC_CLIP_STEP lowers the gain by
CLIP_STEP_DB, stamps it and counts; AGC_PINNED of an open window at its extreme gain, for the dead condition in a
slot with a receiving cell of that window, raises EV_AGC_PINNED and its source; TEST_TONE_INJECT on a configured
window, with the observation synthesiser free, stamps the test and counts, and outside 3 dB of the calibrated level
also counts, raises its event and its source; LATENT_TEST_LATE of a window without a tone for 4 s raises source 127.
RADIO_POWER_UP of an enabled radio that is off, with the device awake, powers it, out of SLOT_IDLE; RETUNE_START for
a need of a working powered radio whose synthesiser is off retunes it to the LO that it is due at; RX_ACTIVE_ASSERT
asserts the ball of a powered radio; RADIO_POWER_DOWN of a powered radio without a need now or within
RADIO_MIN_OFF_US, a calibration or a waiting change, at AUTO_LEVEL 1 or more, takes it down; BLANKING_END with TR_SW
deasserted ends the blanking, and RX_ACTIVE asserts again where a window listens; RADIO_CHANGE_START of a waiting
change with no earlier work on its windows starts it. -/
def Obligations.GainsPowerAndChangesOfRadios : Prop :=
  (
  ∀ (s : State) (r : Fin 3) (w : Fin 2),
    let x := (s.radio r).windows[w]
    let b := radioPart s.coh.active r.val
    (windowOpen s r w.val = true → u8 b 2 = 0 → (∀ t, x.clipAt = some t → 40000 ≤ (s.time.fabric - t).toNat) → x.gain ≠ 0 →
      exec (.agcClipStep r w) s = .next (countRadio r 11 (s.onWindow r w fun y =>
        { y with gain := y.gain - u8 b 23, clipAt := some s.time.fabric }))) ∧
    (windowOpen s r w.val = true →
      (x.gain = 0 → exec (.agcPinned r w false) s = .next (raiseRadio r 3 w.val (raiseEvent 36 (radioFn r) w.val s))) ∧
      (x.gain = maxGain s.coh.active r.val → windowHasCell s r w.val = true →
        exec (.agcPinned r w true) s = .next (raiseRadio r 3 (w.val + 2) (raiseEvent 36 (radioFn r) (w.val + 2) s)))) ∧
    (s.enabled (radioFn r) = true → w.val < windowCount s.coh.active r.val →
      (∀ level calibrated : Int, s.radios.obsServes = none →
        let u := countRadio r 17 (s.onWindow r w fun y => { y with toneAt := some s.time.fabric })
        let p := w.val + unsigned 16 level * 2 ^ 16
        ((level - calibrated).natAbs ≤ 12 → exec (.testToneInject r w level calibrated) s = .next u) ∧
        (12 < (level - calibrated).natAbs → exec (.testToneInject r w level calibrated) s =
          .next (raiseRadio r 4 p (raiseEvent 37 (radioFn r) p (countRadio r 18 u))))) ∧
      ((∀ t, x.toneAt = some t → 1600000000 ≤ (s.time.fabric - t).toNat) →
        exec (.latentTestLate r w) s = .next (raiseSource 127 (radioFn r) w.val s)))
  ) ∧
  (
  ∀ (s : State) (r : Fin 3),
    (s.enabled (radioFn r) = true → (s.radio r).powered = false → s.power.phase = .awake →
      let u := leaveIdle (s.onRadio r fun y => { y with powered := true, onSince := s.time.fabric })
      exec (.radioPowerUp r) s = .next u) ∧
    ((s.radio r).powered = true → (s.radio r).synth = .off → s.works (radioFn r) = true →
      exec (.retuneStart (.need r)) s = .next (resumeRadio r s)) ∧
    ((s.radio r).powered = true → exec (.rxActiveAssert r) s = .next (s.onRadio r fun x => { x with rxActive := true })) ∧
    ((s.radio r).powered = true → s.power.phase = .awake → autoLevel s.coh.active ≠ 0 → radioNeeded s r = false →
      radioSoon s r = false → (s.radio r).bgCal = none → (s.radio r).hostCal = none → (s.radio r).change = none →
      exec (.radioPowerDown r) s = .next (enterIdle
        ((s.countN 0x0E00 5 ((s.time.fabric - (s.radio r).onSince).toNat / 400)).onRadio r fun x =>
          { x with powered := false, synth := .off, lo := 0, rxActive := false, unlocked := false }))) ∧
    ((s.radio r).trSw = false →
      let u := s.onRadio r fun x => { x with blanked := false }
      exec (.blankingEnd r) s = .next (if radioListens u r = true ∧ (windowOpen u r 0 = true ∨ windowOpen u r 1 = true)
        then u.onRadio r fun x => { x with rxActive := true } else u)) ∧
    (∀ c, (s.radio r).change = some c → earlierWork s r c = false → earlierTwin s r c = false →
      exec (.radioChangeStart r) s = .next (startChange r s))
  )

/-- Taken with every field in its range: RADIO_CONFIG and RADIO_FE_PINS stage their bodies; RADIO_CALIBRATE of an
enabled radio that has no host calibration takes the radio out of service for this long command and answers
RC_ACCEPTED_PENDING; RADIO_PIN_DRIVE changes bit i of the static drive exactly where MASK names it and ball i has
the function STATIC; CAL_STORE_READ within the store answers with its entries. -/
def Obligations.RadioCommands : Prop :=
  ∀ (s : State) (m : Fin 4) (req : Req) (buf : Bytes),
    let h := takeReq m req s
    let body := fullBody req buf
    (Taken s 0x0101 m req → checkFields body (radioConfigFields (u8 body 1)) = none →
      exec (.radioConfig buf) s = .next (respond m req rcOk 0 [] (h.stage req.fn 0x0101 0 0 body))) ∧
    (Taken s 0x0102 m req → (∀ i, i < 8 → u8 body (2 * i) < 64 ∧ u8 body (2 * i) % 16 < 8 ∧ u8 body (2 * i + 1) < 4) →
      1 ≤ u16 body 16 → u16 body 16 ≤ 50 → u16 body 18 ≤ 40 → u16 body 20 ≤ 40 → 1 ≤ u16 body 22 → u16 body 22 ≤ 50 →
      u16 body 24 ≤ 500 → u16 body 26 = 0 →
      exec (.radioFePins buf) s = .next (respond m req rcOk 0 [] (h.stage req.fn 0x0102 0 0 body))) ∧
    (∀ r : Fin 3, Taken s 0x0103 m req → radioOf req.fn = some r → u8 body 0 ≤ 2 → u8 body 1 ≤ 1 → u16 body 2 = 0 →
      (u8 body 0 ≠ 2 → u32 body 4 = 0) → s.enabled req.fn = true → (s.radio r).hostCal = none →
      let items := hostItems s.coh.active r (u8 body 0) (u32 body 4) (bit (u8 body 1) 0)
      let e := dropReception r (preemptCal r h)
      let d := e.onRadio r fun x => { x with hostCal := some e.kci.longNext, hostItems := items, synth := .hostCal }
      let u := countRadio r 7 (closeRx r (claimObs d))
      exec (.radioCalibrate buf) s = .next (respond m req rcAcceptedPending 0 [] (u.onKci (addLong m req body)))) ∧
    (∀ r : Fin 3, Taken s 0x0104 m req → radioOf req.fn = some r → u16 body 2 = 0 →
      ∃ v : BitVec 8, exec (.radioPinDrive buf) s =
          .next (respond m req rcOk 0 [] (h.onRadio r fun x => { x with staticDrive := v })) ∧
        ∀ i, i < 8 → v.getLsbD i =
          if bit (u8 body 0) i = true ∧ pinFunction s.coh.active r.val i = 5 then bit (u8 body 1) i
          else (s.radio r).staticDrive.getLsbD i) ∧
    (Taken s 0x0105 m req → u16 body 0 ≤ 4095 → 1 ≤ u16 body 2 → u16 body 0 + u16 body 2 ≤ 4096 →
      (req.indirect = false → u16 body 2 ≤ 126) →
      let data := (List.range (u16 body 2)).flatMap fun i => match mget s.radios.store (u16 body 0 + i) with
        | some e => calBytes e
        | none => zeros 32
      ResponseFits req [] data → ∃ t, exec (.calStoreRead buf) s = .next t ∧ AnswersOk m req [] data h t)

/-- SYNTH_LOCK of a settling synthesiser without a forced calibration makes it locked at its next LO, and the radio goes
on with what it owes; SYNTH_UNLOCK of one in lock blanks its windows and reports; SYNTH_RELOCK_TIMEOUT of one still
settling after an unlock forces a calibration; OBS_SYNTH_UNLOCK queues the calibration that used the tone again;
BACKGROUND_CAL_DONE and RADIO_CALIBRATE_DONE write the variants of their items and give the radio back; a starved
item is reported once. -/
def Obligations.SynthesiserAndCalibrationEvents : Prop :=
  ∀ (s : State) (r : Fin 3),
    (∀ result : CalResult, (s.radio r).synth = .settling → (s.radio r).forced = false →
      exec (.synthLock r result) s = .next (resumeRadio r (s.onRadio r fun y =>
        { y with synth := .locked, lo := y.loNext, forced := false, unlocked := false, trim := loCorr s r (s.radio r).loNext }))) ∧
    (∀ result : CalResult, (s.radio r).synth = .settling → (s.radio r).forced = true →
      let d := takeResults r [{ result with synth := r.val, lo := (s.radio r).loNext, chan := 0 }] s
      exec (.synthLock r result) s = .next (resumeRadio r (d.onRadio r fun y =>
          { y with synth := .locked, lo := y.loNext, forced := false, unlocked := false, trim := loCorr d r (s.radio r).loNext }))) ∧
    (inLock s r = true → exec (.synthUnlock r) s = .next (loseLock r (onAirCount s r != 0) s)) ∧
    ((s.radio r).unlocked = true → (s.radio r).synth = .settling → (s.radio r).forced = false →
      exec (.synthRelockTimeout r) s = .next (forceCal r (s.radio r).loNext s)) ∧
    (s.radios.obsServes = some r → exec .obsSynthUnlock s =
      .next (raiseSource 18 (radioFn r) 3 (claimObs ((requeueCal r s).onRadios fun x => { x with obsServes := none })))) ∧
    (∀ (result : CalResult) (it : CalItem), (s.radio r).bgCal = some it → result.good = true →
      exec (.backgroundCalDone r result) s = .next (resumeRadio r (countRadio r 5
        ((freeObs r (takeResults r [{ result with synth := it.synth, lo := it.lo, chan := it.chan }] s)).onRadio r fun x =>
          { endItem x with starved := false })))) ∧
    (∀ (results : List CalResult) (id : Nat), (s.radio r).hostCal = some id →
      (hostTones (s.radio r) = true → s.radios.obsServes = some r) →
      let rs := (s.radio r).hostItems.mapIdx fun i it =>
        { (results[i]?).getD ⟨0, 0, 0, false, 0, 0, 0, 0, 0, 0⟩ with synth := it.synth, lo := it.lo, chan := it.chan }
      exec (.radioCalibrateDone r results) s =
        .next (longDone id (if rs.all (·.good) then rcOk else rcCalFailed) (resumeRadio r
          (freeObs r ((takeResults r rs s).onRadio r fun x =>
            { x with hostCal := none, hostItems := [], synth := if x.lo = 0 then .off else .locked, unlocked := false }))))) ∧
    (∀ (it : CalItem) (rest : List CalItem), (s.radio r).calQueue = it :: rest → (s.radio r).starved = false →
      exec (.calStarvedTimeout r) s =
        .next (raiseEvent 201 0x1000 (r.val + it.lo / 1000 % 2 ^ 32 * 2 ^ 16 + min (s.radio r).calQueue.length 0xFFFF * 2 ^ 48)
          ((s.onRadio r fun x => { x with starved := true }).count 0x1000 16)))

/-- On a working group's channel that is neither shed nor listening, in the interval of a receiving cell or an
acknowledgement or in a SCAN, LISTEN_INTERVAL_START begins an interval at the present fabric count, with the
channel's correction. LISTEN_INTERVAL_END of a listening channel outside every interval ends it, adds its length in
microseconds to LISTEN_TIME_US, notes it in the channel's ring, and deasserts RX_ACTIVE of its radio where no other
channel of it is due. PREAMBLE_DETECTED above DETECT_Q on a lane that searches: with no frame in progress and the
channel listening it adds a frame in search and counts PREAMBLES; against a frame in progress it is a capture offer
when capture is enabled and the power exceeds by the margin, and otherwise only counted, as it is on a channel that
only completes its frame. SYNC_SEARCH_TIMEOUT of a frame in search for the length of P + 48 bits discards it and
counts. -/
def Obligations.ListeningAndPreambles : Prop :=
  ∀ (s : State) (ch : Fin 256) (seen : Detection),
    let m := s.setOf (cellsGen s (cellsFor s ch.val))
    let p := seen.power + rssiOffset m (ch.val / 32)
    (s.works (groupFn ch.val) = true → (s.chan ch.val).shed = false → (s.chan ch.val).listening = false →
      listenDue s ch.val = true →
      let c := s.setOf ((s.link.slotCells.find? fun c => c.ch == ch.val).elim s.coh.generation (·.generation))
      let r := chanRadioFin c ch.val
      exec (.listenIntervalStart ch) s = .next (s.onChan ch.val fun x =>
        { x with
          listening := true, since := s.time.fabric
          iq := if rfSampling c r.val = true then Corrections.neutral else chanCorr s r (chanLo c ch.val) (chanCentre c ch.val) })) ∧
    (listenDue s ch.val = false → (s.chan ch.val).listening = true →
      let r := chanRadioFin s.coh.active ch.val
      let u := (s.onChan ch.val fun x => { x with listening := false }).countN (groupFn ch.val) 16
        ((s.time.fabric - (s.chan ch.val).since).toNat / 400)
      let u := if (s.ring ch.val).kb = 0 then u else u.onRx fun y => { y with rings := mmod Ring.none y.rings ch.val fun g =>
        { g with heard := (((s.chan ch.val).since, s.time.fabric) :: g.heard).take 64 } }
      exec (.listenIntervalEnd ch) s = .next (if rxDue u r = true then u else u.onRadio r fun y => { y with rxActive := false })) ∧
    (laneSearches s ch.val = true → (detectQ m ch.val : Int) < seen.snr →
      (onChannel s ch.val = [] → (s.chan ch.val).listening = true →
        exec (.preambleDetected ch seen) s = .next (addRx (newRx s ch.val p none) (countGroup ch.val 1 s))) ∧
      (∀ y, (onChannel s ch.val).getLast? = some y →
        (captureEn m ch.val = true → y.rssi + captureMargin m ch.val ≤ p →
          exec (.preambleDetected ch seen) s = .next (resolveOffer y ch.val p (countGroup ch.val 1 s))) ∧
        (p < y.rssi + captureMargin m ch.val →
          exec (.preambleDetected ch seen) s = .next (countGroup ch.val 10 (countGroup ch.val 1 s))))) ∧
    (laneSearches s ch.val = false → onChannel s ch.val ≠ [] → s.works (groupFn ch.val) = true → (detectQ m ch.val : Int) < seen.snr →
      exec (.preambleDetected ch seen) s = .next (countGroup ch.val 10 (countGroup ch.val 1 s))) ∧
    (∀ (f : Nat) (x : RxFrame), s.rxFrame f = some x → x.stage = .search →
      (preambleLen (rxSet s x) x.ch + 48) * 400000000 / chanRate (rxSet s x) x.ch ≤ (s.time.fabric - x.began).toNat →
      exec (.syncSearchTimeout f) s = .next (countGroup x.ch 2 (discardEarly x s)))

/-- For a frame in search: a word that differs too much from the one sought changes nothing; one that matches, whose
implied start lies in the window of one of its cells and whose frequency error is within the range, sets the frame's
stage, its cells, its offset and instant, its arrival error in microseconds, its frequency error and its kind and
nothing else; one outside every window (with no scan and no acknowledgement awaited then) discards the frame and
counts. PHR_RECEIVED of a synchronised frame takes the header up by its air interface. FRAME_HAND_OFF of a frame in
its PSDU with its last bit written records its quality, counts, and: a SUN-FSK frame, which counts as a trellis
frame when it is coded, waits for its decoder; an Oxgon frame without a mate, with the Riffle pool working, is
handed to the pool. TRELLIS_DECODE_DONE of the channel's first waiting frame decodes its PSDU from the soft symbols
of its lane and brings it to stage 5 when its FCS holds, and otherwise ends it with RC_FCS_FAIL. -/
def Obligations.HeadersAndHandOff : Prop :=
  (
  ∀ (s : State) (f : Nat) (x : RxFrame), s.rxFrame f = some x →
    let m := rxSet s x
    (∀ (syncOffset : Nat) (afc : Int) (word : BitVec 32), x.stage = .search → syncMatch s x word = none →
      exec (.syncWordAccepted f syncOffset afc word) s = .next s) ∧
    (∀ (syncOffset : Nat) (afc : Int) (word : BitVec 32) (coded : Bool), x.stage = .search → syncMatch s x word = some coded →
      let ns := syncEndNs s x syncOffset
      let start : Int := (syncOffset : Int) * 625 / 24 - headNs m x.ch
      let cells := x.cells.filter fun c => decide ((c.early : Int) * 1000 ≤ start) && decide (start ≤ (c.late : Int) * 1000)
      (cells ≠ [] → 5 * afc.natAbs ≤ 6 * afcRange (chanMode m x.ch) (chanBw m x.ch) →
        exec (.syncWordAccepted f syncOffset afc word) s = .next (s.onRxFrame f fun y =>
          { y with
            stage := .synced, cells := cells, syncOffset := syncOffset, syncSpring := springAgo s (s.netNs - ns), syncNs := ns
            err := max (-32767) (min 32767 (Int.tdiv (start - (txOffset m * 1000 : Nat)) 1000))
            floor := (s.chan y.ch).floor, afc := afc, coded := coded, beacon := !isSun m x.ch && seeksBeacon s x })) ∧
      (cells = [] → scanning s x.ch = false → awaitsAck s x.ch (ns - headNs m x.ch) = false →
        exec (.syncWordAccepted f syncOffset afc word) s = .next (countGroup x.ch 4 (discardEarly x s)))) ∧
    (∀ (phr : BitVec 32) (agree : Bool) (rssi : Int), x.stage = .synced →
      let y := { x with rssi := rssi + rssiOffset m (x.ch / 32) }
      (∀ o, oxMode (chanMode m x.ch) = some o → exec (.phrReceived f phr agree rssi) s = .next (takePhr y o phr agree s)) ∧
      (oxMode (chanMode m x.ch) = none → exec (.phrReceived f phr agree rssi) s = .next (takeSunPhr y phr s)))
  ) ∧
  (
  ∀ (s : State) (f : Nat) (x : RxFrame), s.rxFrame f = some x →
    let m := rxSet s x
    (∀ (llrs : List Int) (snr : Int) (evm : Nat), x.stage = .psdu →
      let y := { x with lqi := lqiOf snr, evm := min evm 255 }
      let u := (countGroup x.ch 8 (s.onRxFrame f fun _ => y)).onChan x.ch fun c => { c with lastLqi := y.lqi, lastEvm := y.evm }
      (oxMode (chanMode m x.ch) = none → exec (.frameHandOff f llrs snr evm) s =
        .next ((if x.coded then countGroup x.ch 12 u else u).onRxFrame f fun z =>
          { z with stage := .trellis, handedAt := u.time.fabric })) ∧
      (∀ o, oxMode (chanMode m x.ch) = some o → x.mate = none → s.works riffleFn = true →
        exec (.frameHandOff f llrs snr evm) s = .next (handOff f (laneLlrs (llrBytes o x.len (x.kind == 2)) llrs) u))) ∧
    (x.stage = .trellis →
      (∀ y ∈ s.rx.frames, y.id ≠ f → y.ch = x.ch → y.stage = .trellis → x.handedAt.toNat ≤ y.handedAt.toNat) →
      ∀ soft : List Int,
      let p := sunPsdu (sunFec m x.ch) x.coded x.white x.len (laneLlrs (sunDataBits x) soft)
      (fcsOk p x.fcs4 = true → exec (.trellisDecodeDone f soft) s =
        .next (runStage5 (s.onRxFrame f fun y => { y with stage := .stage5, psdu := p }))) ∧
      (fcsOk p x.fcs4 = false → exec (.trellisDecodeDone f soft) s =
        .next (recordFrame f rcFcsFail [] (countFailed (countGroup x.ch 13 (noAck f s))))))
  )

/-- With no uncorrectable word in the Eddy buffer: SUBTRACTION_DONE moves a lane in SUBTRACT to READY, counts, and takes
the rebuilt frame, where it has one, from the samples of the channel's ring; REDEMOD_START in time of a ready lane
whose displaced frame is no longer on air moves it to REDEMOD; REDEMOD_DONE of a lane in REDEMOD replaces the
displaced frame's values from its checkpoint on, marks it and ends the obligation; REDEMOD_ABANDON with SIC_EN set,
once the history is nearly exhausted, ends the obligation of a frame that is not yet re-demodulated, counts, and
keeps the lane only where its own frame is still being received. A block on a working, usable, idle channel that
listens updates its floor by the two-rate filter and runs the dead-channel check; CHANNEL_RELOAD_DONE of a settling
channel with no work of an earlier generation ends its settling; EDDY_RING_CHANGE of a ring that differs, with no
capture of an earlier generation on it, gives it its committed size, empty; where the size is right already nothing
changes. -/
def Obligations.CapturesFloorsAndReloads : Prop :=
  (
  ∀ (s : State) (lane : Fin 64) (c : Capture), s.rx.captures[lane] = some c →
    let whole := ∀ e ∈ s.mem.poison, e.1 < 0x10000000 ∨ 0x10400000 ≤ e.1
    (c.phase = .subtract → whole → c.rebuilt = none →
      exec (.subtractionDone lane) s = .next (setCapture lane (some { c with phase := .ready }) (s.count eddyFn 5))) ∧
    (∀ d, c.phase = .subtract → whole → c.rebuilt = some d →
      exec (.subtractionDone lane) s = .next (setCapture lane (some { c with phase := .ready })
        ((subtractFrom (s.setOf c.generation) c.ch d s).count eddyFn 5))) ∧
    (∀ y, c.phase = .ready → redemodLate s c = false → owedFrame s c = some y → inProgress y = false →
      exec (.redemodStart lane) s = .next (setCapture lane (some { c with phase := .redemod }) s)) ∧
    (∀ (y : RxFrame) (llrs : List Int), c.phase = .redemod → whole → owedFrame s c = some y →
      exec (.redemodDone lane llrs) s = .next (endObligation lane c ((s.onRxFrame y.id fun z =>
        { z with sic := true, llr := overwriteLlrs c.checkpoint.llrs z.llr llrs }).count eddyFn 6))) ∧
    (sicEn (s.setOf c.generation) = true →
      histMs (s.setOf c.generation) (chanMode (s.setOf c.generation) c.ch) * 400000 - 100000
        ≤ (s.time.fabric - c.checkpoint.at_).toNat →
      ((c.phase = .subtract ∨ c.phase = .ready) →
        exec (.redemodAbandon lane) s = .next (endObligation lane c (s.count eddyFn 8))) ∧
      (∀ y, c.phase = .frame → owedFrame s c = some y →
        exec (.redemodAbandon lane) s =
          .next (feedEngines (unpark y (setCapture lane
            (if (s.rx.frames.any fun x => x.id == c.frame && inProgress x) = true then some { c with below := none } else none)
            (s.count eddyFn 8))))))
  ) ∧
  (
  ∀ (s : State) (ch : Fin 256),
    let m := s.coh.active
    (∀ power : Int, s.works (groupFn ch.val) = true → chanExists m ch.val = true → chanMonitor m ch.val = false →
      (s.chan ch.val).shed = false → (s.chan ch.val).settling = false → (s.chan ch.val).listening = true →
      chanReceives s ch.val = true → onChannel s ch.val = [] →
      let p := power + rssiOffset m (ch.val / 32)
      exec (.noiseFloorBlock ch power) s = .next (deadCheck ch.val p (s.onChan ch.val fun x =>
        { x with floor := some (floorUpdate x.floor p (u16 (groupPart m (ch.val / 32)) 10 * 1000)) }))) ∧
    ((s.chan ch.val).settling = true → (∀ x ∈ onChannel s ch.val, x.generation = s.coh.generation) →
      secondExpected s ch.val = false →
      exec (.channelReloadDone ch) s = .next (s.onChan ch.val fun x => { x with settling := false })) ∧
    ((s.ring ch.val).kb = ringKb m ch.val → exec (.eddyRingChange ch) s = .next s) ∧
    ((s.ring ch.val).kb ≠ ringKb m ch.val →
      (∀ (lane : Fin 64) (k : Capture), s.rx.captures[lane] = some k → k.ch = ch.val → k.generation = s.coh.generation) →
      exec (.eddyRingChange ch) s = .next (s.onRx fun x =>
        { x with rings := msetD Ring.none x.rings ch.val (if ringKb m ch.val = 0 then Ring.none else ⟨ringKb m ch.val, s.time.fabric, [], []⟩) }))
  )

/-- RIFFLE_JOB_COMPLETE with the pool working and no uncorrectable word in the LLR store completes the engine's job and
lets decoded frames reach stage 5; an engine that has been free for 10 µs gates its clock, one that is not free or
free for less does not; TWIN_SECOND_PART_TIMEOUT of a first half that waits for its second part fails it with
RC_TWIN_MISSING; DECODE_TIMEOUT fails a frame whose jobs are older than JOB_AGE_MAX_MS and whose result no stalled
engine holds; a frame at the gate that is next and needs no verification is recorded with its reason, and a secured
fresh one starts verification on the free page; TAG_VERIFY_VERDICT of a link frame gives its verdict. -/
def Obligations.DecodeEnginesAndDeadlines : Prop :=
  ∀ s : State,
    (∀ (e : Fin 48) (agrees : Bool) (j : Nat × Nat), s.works riffleFn = true → (s.rx.engines[e]).job = some j →
      (s.rx.engines[e]).stalled = false → (∀ e ∈ s.mem.poison, e.1 < 0x10400000 ∨ 0x10600000 ≤ e.1) →
      exec (.riffleJobComplete e agrees) s = .next (runStage5 (completeJob e agrees s))) ∧
    (∀ e : Fin 48,
      let idle := (s.time.fabric - (s.rx.engines[e]).idleAt).toNat
      (engineFree s.rx.engines[e] = true → 4000 ≤ idle →
        exec (.engineClockGate e) s = .next (s.onEngine e fun g => { g with gated := true })) ∧
      ((engineFree s.rx.engines[e] = false ∨ idle < 4000) → exec (.engineClockGate e) s = .next s)) ∧
    (∀ (p : Fin 32) (j : PageJob), (s.page p).busy = some j → j.op = 9 → j.reason = rcOk →
      (∀ f, j.frame = some f → exec (.tagVerifyVerdict p) s = .next (linkVerdict f p j.good s)) ∧
      (j.frame = none → exec (.tagVerifyVerdict p) s = .next (pageDone p (pageVerdict p j s)))) ∧
    ∀ (f : Nat) (x : RxFrame), s.rxFrame f = some x →
      (x.kind = 1 → x.second = none → (∀ y ∈ s.rx.frames, y.mate ≠ some f) → x.stage = .twinWait →
        exec (.twinSecondPartTimeout f) s = .next (failFrame f rcTwinMissing (s.count riffleFn 12))) ∧
      ((x.stage = .decode ∨ x.stage = .twinWait) →
        (∀ g ∈ s.rx.engines.toList, g.stalled = true → ∀ j, g.job = some j → j.1 ≠ f) →
        u16 (rifflePart (rxSet s x)) 6 * 400000 ≤ (s.time.fabric - x.handedAt).toNat →
        exec (.decodeTimeout f) s = .next (failFrame f rcDecodeTimeout (s.count riffleFn 8))) ∧
      (∀ (p : Fin 4), x.stage = .gate → gateOpenFor s x = true →
        ((x.cls = .none ∨ x.cls = .reacked ∨ x.cls = .stale ∨ x.cls = .rejected) → verifyAhead s x = false →
          exec (.releaseGatePass f p) s = .next (recordFrame f x.reason [] s)) ∧
        (∀ h, macOf s x = some h →
          (x.cls = .join → verifyAhead s x = false →
            exec (.releaseGatePass f p) s = .next (recordFrame f rcJoinCandidate (h.content h.payload) s)) ∧
          ((x.cls = .fresh ∨ x.cls = .control) → h.level = 0 → verifyAhead s x = false →
            exec (.releaseGatePass f p) s = .next (verifiedFrame f h h.payload s)) ∧
          ((x.cls = .fresh ∨ x.cls = .control) → h.level ≠ 0 → (s.page ⟨p.val, by omega⟩).busy = none →
            exec (.releaseGatePass f p) s = .next (wakeWaiting x.nb x.counter (startVerify f ⟨p.val, by omega⟩ x h s)))))

/-- LAUNCH_SELECTION of a cell, with the link and Sluice enabled, selects for the cell, and of a gate entry for the
entry; for a slot below ASN_FLOOR it changes nothing. For a launch at the right step: LO_CLASSIFY records the class
of its LO and the corrections of its channel; RETUNE_START retunes its radio where that is not in reset;
TR_SW_ASSERT with nothing blocking asserts TR_SW and TX_ACTIVE, blanks the windows and ends the reception of the
radio; PA_EN_ASSERT with nothing blocking asserts PA_EN; RAMP_UP_START with nothing blocking, the synthesiser locked
on its LO and within the tolerance starts the ramp; LAUNCH_START commits the charge in its bands and puts it on air. -/
def Obligations.LaunchChainUpToTheAir : Prop :=
  ∀ s : State,
    (∀ (what : LaunchWhat) asn, asn < s.time.asnFloor.toNat → exec (.launchSelection what asn) s = .next s) ∧
    (∀ asn, s.time.asn.isSome = true → s.enabled sluiceFn = true →
      (∀ sf idx, s.enabled linkFn = true →
        exec (.launchSelection (.cell sf idx) asn) s = .next (selectCell sf idx asn s)) ∧
      (∀ (l : Fin 3) idx, exec (.launchSelection (.gate l.val idx) asn) s = .next (selectGate l idx asn s))) ∧
    ∀ (l : Nat) (x : Launch), findLaunch s l = some x →
      let m := s.setOf x.generation
      let lo := chanLo m x.channel
      (x.step = .selected →
        let tuned := (s.radio x.radio).synth == .locked && (s.radio x.radio).lo == lo
        exec (.loClassify l) s = .next ((lookupChan m x.radio x.channel s).onLaunch l fun y =>
          { y with
            calClass := if tuned = true then .valid else loClass s x.radio lo
            needRetune := !tuned
            corr := chanCorr s x.radio lo (chanCentre m x.channel)
            step := if y.step = .selected then .classified else y.step })) ∧
      (x.step = .classified → x.needRetune = true → s.inReset (radioFn x.radio) = false →
        exec (.retuneStart (.launch l)) s = .next (retuneAs x.radio lo x.calClass (s.onLaunch l fun y =>
          { y with
            needRetune := false
            calClass := if (s.radio x.radio).synth = .locked ∧ (s.radio x.radio).lo = lo then y.calClass else x.calClass
            step := if y.step = .booked then .booked else .retuned }))) ∧
      ((x.step = .selected ∨ x.step = .classified ∨ x.step = .retuned) → txBlocked s x.radio x.window x.t0 = none →
        exec (.trSwAssert l) s = .next (closeRx x.radio (dropReception x.radio
          ((s.onRadio x.radio fun y => { y with trSw := true, txActive := true, blanked := true }).onLaunch l fun y =>
            { y with step := .trOn })))) ∧
      ((x.step = .selected ∨ x.step = .classified ∨ x.step = .retuned) → ∀ rc, txBlocked s x.radio x.window x.t0 = some rc →
        exec (.trSwAssert l) s = .next (endLaunch x rc false s)) ∧
      (x.step = .trOn → turnBlocked s x = none → exec (.paEnAssert l) s =
        .next ((s.onRadio x.radio fun y => { y with paEn := true }).onLaunch l fun y => { y with step := .paOn })) ∧
      ((x.step = .trOn ∨ x.step = .paOn) → ∀ rc lateUs, turnBlocked s x = some rc →
        let u := endLaunch x rc false s
        (x.step = .trOn → exec (.paEnAssert l) s = .next u) ∧
        (x.step = .paOn →
          exec (.rampUpStart l lateUs) s = .next (if turnedAround u x.radio = true then u else restBalls x.radio u))) ∧
      (∀ lateUs, x.step = .paOn → turnBlocked s x = none → x.kind ≠ .test → lateUs ≤ x.lateTol → (s.radio x.radio).synth = .locked →
        (s.radio x.radio).lo = lo → exec (.rampUpStart l lateUs) s = .next (s.onLaunch l fun y =>
          { y with step := .ramping, rampAt := s.netNs, lateUs := if y.kind = .test then 0 else lateUs })) ∧
      (∀ lateUs, x.step = .paOn → turnBlocked s x = none → x.kind ≠ .test → x.lateTol < lateUs →
        let u := endLaunch x rcLaunchMissedSynth true (countRadio x.radio 8 s)
        exec (.rampUpStart l lateUs) s = .next (if turnedAround u x.radio = true then u else restBalls x.radio u)) ∧
      (x.step = .ramping →
        let u := addSecond x.radio x.charge (chargeBands x.charge (launchBands s x) (refundLaunch x s))
        exec (.launchStart l) s = .next (countLaunched x (u.onLaunch l fun y =>
          { y with step := .onAir, committed := (launchBands s x).map fun i => (i, u.sluice.accounts[i].period) })))

/-- RAMP_DOWN_START of a frame on air begins the wait for its acknowledgement where it asks for one; PA_EN_DEASSERT with
nothing more to send deasserts PA_EN; TR_SW_DEASSERT finishes the frames that have ended and returns the switch when
none is left. With one frame on air, a measured composite within the tolerance only counts, one above it rejects; a
carrier error within the tolerance and an adjacent power within its limit only count. TX_TEST_END ends the test
transmission and its long command. DL_ACK_WINDOW_EXPIRY of a frame that awaits an acknowledgement ends the wait, and
removes the frame when it has expired or has had its launches; DL_LIFETIME_EXPIRY past the lifetime removes a frame
at rest and marks one in flight; ACK_STAGE5_DEADLINE applies to a booked acknowledgement; a GATE entry in its slot,
where that is not idled, sets the open queues; DUTY_BUCKET_ADVANCE of a band in use, outside a sleep, starts a new
empty bucket before the others and keeps 65. -/
def Obligations.LaunchEndsQueuesAndBuckets : Prop :=
  (
  ∀ s : State,
    (∀ (l : Nat) (x : Launch), findLaunch s l = some x → x.step = .onAir → x.kind ≠ .test →
      let u := s.onLaunch l fun y => { y with step := .rampDown }
      (x.frame = none → exec (.rampDownStart l) s = .next u) ∧
      (∀ f, x.frame = some f → exec (.rampDownStart l) s = .next (u.onFrame f fun y =>
        { y with endNs := x.t0 + (x.lateUs + x.airUs) * 1000, awaiting := if y.ackMode then some x.channel else none }))) ∧
    (∀ r : Fin 3,
      ((∀ x ∈ s.sluice.launches, x.radio = r → x.step ≠ .paOn ∧ x.step ≠ .ramping ∧ x.step ≠ .onAir) →
        exec (.paEnDeassert r) s = .next (s.onRadio r fun x => { x with paEn := false })) ∧
      (let u := (s.sluice.launches.filter fun x => x.radio == r && x.step == .rampDown).foldl (fun s x => finishLaunch x s) s
       exec (.trSwDeassert r) s =
         .next (if turnedAround u r = true then u else u.onRadio r fun x => { x with trSw := false, txActive := false })) ∧
      (∀ x : Launch, framesOnAir s r = [x] →
        let m := s.setOf x.generation
        let e := expectedQ m r.val x.power
        (∀ measured : Int, powerOf measured ≤ powerOf (e + (obsTolQ m r.val : Int)) →
          powerOf e ≤ powerOf (measured + (obsTolQ m r.val : Int)) →
          exec (.obsPowerVerdict r measured) s = .next (countRadio r 13 s)) ∧
        (∀ measured : Int, powerOf (e + (obsTolQ m r.val : Int)) < powerOf measured →
          exec (.obsPowerVerdict r measured) s = .next (obsReject r 1 x.channel ((measured - e) * 25) (countRadio r 13 s))) ∧
        (∀ outside : Int, outside ≤ -(obsAclr m r.val * 100 : Int) →
          (∀ err : Int, err.natAbs ≤ obsFreqTol m r.val * 100 →
            exec (.obsFrequencyVerdict r [(x.id, err)] outside) s = .next (countRadio r 13 s)) ∧
          (∀ err : Int, obsFreqTol m r.val * 100 < err.natAbs →
            ∃ excess : Int, exec (.obsFrequencyVerdict r [(x.id, err)] outside) s =
              .next (obsReject r 2 x.channel excess (countRadio r 13 s))))) ∧
      (∀ x : Launch, s.sluice.launches.find? (fun y => y.radio == r && y.kind == .test && y.step == .onAir) = some x →
        exec (.txTestEnd r) s = .next (longDone x.long rcOk (s.onLaunch x.id fun y => { y with step := .rampDown }))))
  ) ∧
  (
  ∀ s : State,
    (∀ (f : Nat) (y : DlFrame), findFrame s f = some y →
      (y.awaiting.isSome = true →
        let z := { y with awaiting := none }
        let u := s.onFrame f fun _ => z
        (y.expired = true → exec (.dlAckWindowExpiry f) s = .next (expireFrame z u)) ∧
        (y.expired = false → dlAttempts (s.setOf y.generation) ≤ y.launches →
          exec (.dlAckWindowExpiry f) s = .next (removeFrame z rcNoAck false y.pendingBit (countTx 5 u))) ∧
        (y.expired = false → y.launches < dlAttempts (s.setOf y.generation) → exec (.dlAckWindowExpiry f) s = .next u)) ∧
      (dlLifetimeMs s.coh.active * 400000 ≤ (s.time.fabric - y.admitted).toNat →
        (y.inFlight = false → y.awaiting = none → exec (.dlLifetimeExpiry f) s = .next (expireFrame y s)) ∧
        ((y.inFlight = true ∨ y.awaiting.isSome = true) →
          exec (.dlLifetimeExpiry f) s = .next (s.onFrame f fun z => { z with expired := true })))) ∧
    (∀ (l : Nat) (x : Launch), findLaunch s l = some x → x.step = .booked →
      exec (.ackStage5Deadline l) s = .next (ackDeadline x s)) ∧
    (∀ (r : Fin 3) (idx a : Nat) (h e : Bytes) (es : List Bytes), s.time.asn = some a → s.time.idling = false → gateInForce s r a = some (h, es) →
      es[idx]? = some e → u8 e 8 = 0 → gateSlot h a = u32 e 0 →
      exec (.gateEntry r idx) s = .next (s.onSluice fun x =>
        { x with gates := x.gates.set r { x.gates[r] with openMask := BitVec.ofNat 16 (u16 e 10) } })) ∧
    (∀ band : Fin 16, s.asleep = false → (bandExists s.coh.active band.val = true ∨ bandExists s.sluice.keptBands band.val = true) →
      exec (.dutyBucketAdvance band) s =
        .next (nearCheck band (s.onAccount band fun a => { a with buckets := (0 :: a.buckets).take 65, period := a.period + 1, movedAt := s.time.spring })))
  )

/-- Taken with every field in its range: SLUICE_CONFIG stages its body; GATE_LIST_LOAD and DUTY_BAND_LOAD stage their
runs and drop what lies beyond them; TX_TEST on a usable channel of the radio it names, with no schedule on it and
nothing refusing the launch, grants a test launch for the long command, counts the lookup of its channel's
corrections, and answers RC_ACCEPTED_PENDING. -/
def Obligations.TransmitCommands : Prop :=
  ∀ (s : State) (m : Fin 4) (req : Req) (buf : Bytes),
    let h := takeReq m req s
    let body := fullBody req buf
    (Taken s 0x0501 m req → u8 body 0 ≤ 7 → u8 body 1 ≤ 1 → 1 ≤ u8 body 2 → u8 body 2 ≤ 255 → 1 ≤ u8 body 3 → u8 body 3 ≤ 64 →
      100 ≤ u32 body 4 → u32 body 4 ≤ 3600000 → 1 ≤ u8 body 8 → u8 body 8 ≤ 8 → field body 9 3 = 0 →
      checkFields body (sluiceRadioFields 12) = none → checkFields body (sluiceRadioFields 20) = none →
      checkFields body (sluiceRadioFields 28) = none →
      exec (.sluiceConfig buf) s = .next (respond m req rcOk 0 [] (h.stage req.fn 0x0501 0 0 body))) ∧
    (Taken s 0x0502 m req → u8 body 0 ≤ 2 → u8 body 1 ≤ 1 → u16 body 2 ≤ (if req.indirect = true then 256 else 253) →
      u16 body 10 = 0 → u32 body 12 ≤ 65536 →
      let es := chunks 16 (u16 body 2) (body.drop 16)
      (∀ e ∈ es, checkFields e (gateFields e) = none) →
      exec (.gateListLoad buf) s = .next (respond m req rcOk 0 []
        (((stageRun req.fn 0x0502 (16 + u8 body 0) 0 es h).stage req.fn 0x0502 (u8 body 0) 0 (body.take 16)).onCoh fun c =>
          { c with staged := dropFrom c.staged 0x0500 0x0502 (16 + u8 body 0) (u16 body 2) }))) ∧
    (Taken s 0x0503 m req → u8 body 0 ≤ 16 → field body 1 3 = 0 →
      let es := chunks 16 (u8 body 0) (body.drop 4)
      (∀ e ∈ es, 1 ≤ u32 e 8 ∧ u32 e 8 ≤ 1000000 ∧ 1 ≤ u16 e 12 ∧ u16 e 12 ≤ 3600 ∧ u8 e 14 ≤ 500 ∧ u8 e 15 ≤ 100) →
      exec (.dutyBandLoad buf) s = .next (respond m req rcOk 0 [] ((stageRun req.fn 0x0503 0 0 es h).onCoh fun c =>
        { c with staged := dropFrom c.staged 0x0500 0x0503 0 (u8 body 0) }))) ∧
    (∀ r : Fin 3, Taken s 0x0504 m req → u8 body 0 = r.val → u8 body 3 ≤ 1 → 1 ≤ u32 body 4 → u32 body 4 ≤ 1000000 →
      s.enabled sluiceFn = true → chanUsable s.coh.active (u8 body 1) = true → chanRadioFin s.coh.active (u8 body 1) = r →
      radioScheduled s.coh.active r = false →
      let x := { newLaunchOf h s.coh.active .test (u8 body 1) h.netNs 0 (u32 body 4) 0 (signed 8 (u8 body 2)) with
        long := h.kci.longNext, pn9 := u8 body 3 == 1 }
      launchRefused h x false = none →
      exec (.txTest buf) s = .next (respond m req rcAcceptedPending 0 [] ((lookupChan s.coh.active r (u8 body 1) (grantLaunch x h)).onKci (addLong m req body))))

/-- For a working page that a master, itself awake, may drive and that is not busy (TAG and CONTEXT operations aside),
the page becomes busy with the operation, its outcome waiting, and: with key k loaded ENC and DEC put the
transformed IN into OUT, MAC_IN and MAC_Q chain into X, CTR_Q transforms its quarantine block; LOAD_Q writes its
block and holds the quarantine; MAC_READ of a quarantine not held puts X into OUT; CLEAR wipes; NOP changes nothing
else; KEY_LOAD of a valid key of a usage the page may load loads it with X zero when it unwraps, and otherwise posts
the reason and reports an unwrap failure. Other pages and everything outside the cipher engine and its counters are
unchanged, with KEY_LOAD's cache part of the engine. -/
def Obligations.PlainPageOperations : Prop :=
  ∀ (s : State) (by_ : BusMaster) (p : Fin 32),
    coreOff s by_ = false → pageWorks s p = true → pageAllowed s by_ p = true → (s.page p).busy = none →
    let x := s.page p
    let busy (op : Nat) (y : Page) (t : State) : Prop :=
      t.page p = { y with busy := some ⟨op, rcOk, false, none, y.dest, y.relLen.toNat⟩, done := false } ∧ (∀ q : Fin 32, q ≠ p → t.page q = s.page q) ∧
      t = { s with cipher := t.cipher, counters := t.counters }
    (∀ (i : Nat) (k : Bytes), x.key = some (i, k) →
      (∃ t, exec (.enc by_ p) s = .next t ∧ busy 2 { x with out := aesEnc k x.inp } t) ∧
      (∃ t, exec (.dec by_ p) s = .next t ∧ busy 3 { x with out := aesDec k x.inp } t) ∧
      (∃ t, exec (.macIn by_ p) s = .next t ∧ busy 4 { x with x := aesEnc k (xorBytes x.x x.inp) } t) ∧
      (∀ (block : Fin 128) (len : Fin 16), block.val < 80 →
        let n := if len.val = 0 then 16 else len.val
        (∃ t, exec (.ctrQ by_ p block len) s = .next t ∧ busy 7
          { x with q := patch x.q (16 * block.val) (xorBytes (slice x.q (16 * block.val) n) (aesEnc k x.inp)) } t) ∧
        (∃ t, exec (.macQ by_ p block len) s = .next t ∧ busy 8
          { x with x := aesEnc k (xorBytes x.x (slice x.q (16 * block.val) n ++ zeros (16 - n))) } t))) ∧
    (∀ (block : Fin 128) (len : Fin 16), block.val < 80 →
      let n := if len.val = 0 then 16 else len.val
      ∃ t, exec (.loadQ by_ p block len) s = .next t ∧ busy 6
        { x with q := patch x.q (16 * block.val) (slice x.inp 0 n ++ zeros (16 - n)), held := true } t) ∧
    (x.held = false → ∃ t, exec (.macRead by_ p) s = .next t ∧ busy 5 { x with out := x.x } t) ∧
    (∃ t, exec (.clear by_ p) s = .next t ∧
      busy 10 { x with q := zeros 1280, held := false, x := zeros 16, out := zeros 16 } t) ∧
    (∃ t, exec (.pageNop by_ p) s = .next t ∧ busy 0 x t) ∧
    (let i := x.keyIndex.toNat
     keyValid s.coh.active i = true → usageAllowed s.coh.active p (keyUsage s.coh.active i) = true →
      match openKey s.coh.active i with
      | .good key _ => ∃ t, exec (.keyLoad by_ p) s = .next t ∧ busy 1 { x with key := some (i, key), x := zeros 16 } t
      | .bad rc =>
        let u := s.count cipherFn 3
        exec (.keyLoad by_ p) s =
          .next (beginJob p 1 rc false (if rc = rcUnwrapFail then raiseSource 55 cipherFn i (u.count cipherFn 14) else u)))

/-- For every page operation and register access by an awake master that may not drive the page: the answer is the state
that counts the denial and raises source 54, and a denied read returns zero; no register, key or quarantine of the
page changes through it. A register write by the owner, PG_CMD apart, changes the page alone; a write of PG_CMD
issues the operation with its block and LEN; and a read returns the register and changes no page. A master that
sleep has stopped does nothing. -/
def Obligations.PageAccessIsGuarded : Prop :=
  ∀ (s : State) (by_ : BusMaster) (p : Fin 32),
    let denied := denyPage p s
    (∀ c : Instr,
      (c = .keyLoad by_ p ∨ c = .pageNop by_ p ∨ c = .enc by_ p ∨ c = .dec by_ p ∨ c = .macIn by_ p ∨ c = .macRead by_ p ∨
        (∃ block len, c = .loadQ by_ p block len) ∨ (∃ block len, c = .ctrQ by_ p block len) ∨
        (∃ block len, c = .macQ by_ p block len) ∨ c = .tagVerify by_ p ∨ c = .clear by_ p ∨
        (∃ w a, c = .ctxSave by_ p w a) ∨ (∃ w a, c = .ctxRestore by_ p w a)) →
      (coreOff s by_ = true → exec c s = .next s) ∧
      (coreOff s by_ = false → pageAllowed s by_ p = false → exec c s = .next denied)) ∧
    (coreOff s by_ = true → ∀ offset v, exec (.pageAccess by_ p offset v) s = .next s) ∧
    (coreOff s by_ = false → pageAllowed s by_ p = false → ∀ offset,
      (∀ v, exec (.pageAccess by_ p offset (some v)) s = .next denied) ∧
      exec (.pageAccess by_ p offset none) s = .next (denied.onKci fun k => { k with readOut := 0 })) ∧
    (coreOff s by_ = false → pageAllowed s by_ p = true → ∀ offset,
      (∀ v, offset ≠ 0 → ∃ t, exec (.pageAccess by_ p offset (some v)) s = .next t ∧ t.page p = pageWrite offset v (s.page p) ∧
        (∀ q : Fin 32, q ≠ p → t.page q = s.page q) ∧ t = { s with cipher := t.cipher }) ∧
      (∀ v : BitVec 32, v.toNat % 16 < 9 ∨ v.toNat % 16 = 10 ∨ 12 < v.toNat % 16 → exec (.pageAccess by_ p 0 (some v)) s =
        .next (issuePlain by_ p (v.toNat % 16) (v.toNat / 16 % 128) (v.toNat / 65536 % 16) s)) ∧
      exec (.pageAccess by_ p offset none) s =
        .next { s with kci := { s.kci with readOut := pageRead (s.page p) offset } })

/-- TAG_VERIFY by an awake master on a working, allowed, idle page with valid operands, a key and a reachable
destination becomes busy with the comparison's outcome. A good verdict on a page that the host does not own stores
the release to the general SRAM that PG_DEST named as it began and leaves the quarantine, X and OUT zero with RC_OK;
a bad one stores nothing and leaves them zero with RC_TAG_FAIL. PAGE_OPERATION_DONE of another operation, which a
core runs or which failed, frees its core, clears BUSY, sets DONE and posts its reason. CTX_SAVE on pages 0-3 of a
quarantine not held, to a place that suits its form, stores the context (its bytes are the model's free values, log
entry 12), off the tables of Backwater in memory alone; CTX_RESTORE of a context that the engine wrote brings back
key, X, OUT and lengths. -/
def Obligations.TagVerificationAndContexts : Prop :=
  ∀ (s : State) (by_ : BusMaster) (p : Fin 32),
    let x := s.page p
    (coreOff s by_ = false → pageWorks s p = true → pageAllowed s by_ p = true → x.busy = none →
      (verifyRefused x (regOp x 9 0 0) = none → destOk s p = true → ∃ t, exec (.tagVerify by_ p) s = .next t ∧
        t.page p = { x with
                     busy := some ⟨9, rcOk, tagMatches x (regOp x 9 0 0), none, x.dest, x.relLen.toNat⟩, done := false } ∧
        t = { s with cipher := t.cipher, counters := t.counters }) ∧
      (∀ (wrapped : Bool) (addr : Nat), p.val < 4 → x.held = false → ctxPlace wrapped addr = true →
        ∃ t blob, exec (.ctxSave by_ p wrapped addr) s = .next t ∧ blob = (freeBytes (if wrapped = true then 72 else 64) s).1 ∧
          (offTables addr (if wrapped = true then 72 else 64) = true →
            t.mem.phys = memWrites s.mem.phys addr blob ∧ t.radios = s.radios) ∧
          t.cipher.contexts.length = s.cipher.contexts.length + 1 ∧
          t.page p = { x with busy := some ⟨11, rcOk, false, none, x.dest, x.relLen.toNat⟩, done := false } ∧
          t = { s with mem := t.mem, radios := t.radios, cipher := t.cipher, counters := t.counters, freeCount := t.freeCount }) ∧
      (∀ (wrapped : Bool) (addr : Nat) (c : SavedCtx), p.val < 4 → ctxPlace wrapped addr = true →
        s.cipher.contexts.find? (fun c => c.wrapped == wrapped && c.blob == s.load addr (if wrapped = true then 72 else 64)) = some c →
        ∃ t, exec (.ctxRestore by_ p wrapped addr) s = .next t ∧
          t.page p = { x with
                       key := c.key, x := c.x, out := c.out, tagLen := c.tagLen, relLen := c.relLen
                       busy := some ⟨12, rcOk, false, none, x.dest, c.relLen.toNat⟩, done := false } ∧
          t = { s with cipher := t.cipher, counters := t.counters })) ∧
    (∀ (good : Bool) (dest : BitVec 40) (len : Nat), x.busy = some ⟨9, rcOk, good, none, dest, len⟩ → pageOwner s.coh.active p = 0 →
      inGeneral dest.toNat len = true →
      ∃ t, exec (.tagVerifyVerdict p) s = .next t ∧
        t.page p = { x with q := zeros 1280, held := false, x := zeros 16, out := zeros 16, busy := none, done := true,
                            reason := BitVec.ofNat 16 (if good = true then rcOk else rcTagFail) } ∧
        t.mem.phys = (if good = true then memWrites s.mem.phys dest.toNat (x.q.take len) else s.mem.phys)) ∧
    (∀ j : PageJob, x.busy = some j → j.op ≠ 9 → pageWaits s p = false →
      exec (.pageOperationDone p none) s = .next (pageDone p (grantCores (leaveCore p (s.onPage p fun y =>
        { y with busy := none, done := true, reason := BitVec.ofNat 16 j.reason })))))

/-- Taken with every field in its range: CIPHER_PAGE_CONFIG stages its body; KEY_IMPORT stages its entries when its
wrapping key opens, all of them unwrap and no more than 65,536 key writes then wait, and otherwise answers with the
reason and the entry that failed; KEY_DELETE stages the deletions; KEY_STORE_READ answers with the entries; PAGE_RUN
on an enabled host page runs its operations until one does not return RC_OK and answers with their number, OUT
values and release; KEY_COUNTER_READ answers with the counter, its ceiling and its durability, or zeros. With a
record waiting, fewer than four failures and room in the head sector, a successful program puts it into the head
sector, counts it, and lets the frames that wait for a counter try again; a first, second or third failure burns a
word of the head sector, whose content is free, and counts the failure; JOURNAL_RETRY after a fault lets the first
record be written once more; SECTOR_ERASE_DONE of a reclaimed sector whose records are copied frees it with one more
erase, and a failed erase is reported. With the head sector full nothing is programmed. Sectors whose header fails
its check are reported as the head turns. -/
def Obligations.KeysAndTheirJournal : Prop :=
  (
  ∀ (s : State) (m : Fin 4) (req : Req) (buf : Bytes),
    let h := takeReq m req s
    let body := fullBody req buf
    (Taken s 0x0701 m req → u8 body 0 ≤ 2 → (u8 body 0 = 2 ↔ u8 body 1 ≠ 0) → u16 body 2 = 0 →
      exec (.cipherPageConfig buf) s = .next (respond m req rcOk 0 [] (h.stage req.fn 0x0701 0 0 body))) ∧
    (Taken s 0x0702 m req →
      let form := u8 body 0
      let es := runEntries 8 (if form = 2 then 64 else 56) (u16 body 2) body
      u8 body 1 = 0 → form ≤ 2 → 1 ≤ u16 body 2 →
      u16 body 2 ≤ (if req.indirect = true then 16384 else if form = 2 then 63 else 72) →
      (form ≠ 1 → u32 body 4 = 0xFFFFFFFF) → (form ≠ 2 → ∀ e ∈ es, u32 e 4 = 0 ∧ u32 e 0 < 262144) →
      (form = 2 → ∀ e ∈ es, field e 51 5 = 0 ∧ u32 e 60 = 0) →
      exec (.keyImport buf) s = .next (match importKek h form (u32 body 4) with
        | .bad rc => respond m req rc 0 (leBytes 4 0xFFFFFFFF) h
        | .good kek _ =>
          match importAll form kek 0 es h with
          | (some (n, rc), _) => respond m req rc 0 (leBytes 4 n) (if rc = rcUnwrapFail then h.count cipherFn 14 else h)
          | (none, t) => if 65536 < s.writesOf 0x0702 + u16 body 2 then respond m req rcTableFull 0 [] h
            else respond m req rcOk 0 [] (addWrites 0x0702 (u16 body 2) t))) ∧
    (Taken s 0x0703 m req → u16 body 2 = 0 → 1 ≤ u16 body 0 → u16 body 0 ≤ 1015 →
      let is := (List.range (u16 body 0)).map fun i => u32 body (4 + 4 * i)
      (∀ i ∈ is, i < 262144) → s.writesOf 0x0702 + u16 body 0 ≤ 65536 →
      exec (.keyDelete buf) s = .next (respond m req rcOk 0 [] (is.foldl stageDelete (addWrites 0x0702 (u16 body 0) h)))) ∧
    (Taken s 0x0704 m req → 1 ≤ u32 body 4 → u32 body 4 ≤ (if req.indirect = true then 16384 else 63) →
      u32 body 0 + u32 body 4 ≤ 262144 →
      let data := (List.range (u32 body 4)).flatMap fun i => slice (keyEntry s.coh.active (u32 body 0 + i)) 0 64
      ResponseFits req [] data → ∃ t, exec (.keyStoreRead buf) s = .next t ∧ AnswersOk m req [] data h t) ∧
    (Taken s 0x0705 m req →
      let p := pageOf req.fn
      let es := runEntries 8 48 (u8 body 1) body
      u8 body 0 = 0 → field body 2 6 = 0 → (∀ e ∈ es, field e 10 6 = 0) → 1 ≤ u8 body 1 → u8 body 1 ≤ 84 →
      s.enabled req.fn = true → s.enabled cipherFn = true → (h.fnState cipherFn).inReset = false →
      pageOwner s.coh.active p = 1 → ∀ (n rc : Nat) (outs rel : Bytes) (t : State),
      hostRun p (es.map runOperand) 0 [] [] h = (n, rc, outs, rel, t) →
      let u := t.onPage p fun x => { x with done := true, reason := BitVec.ofNat 16 rc }
      (req.indirect = false → 8 + outs.length + rel.length ≤ 4064 →
        exec (.pageRun buf) s = .next (respond m req rc 0 ((leBytes 1 n ++ zeros 7) ++ (outs ++ rel)) u)) ∧
      (req.indirect = true → exec (.pageRun buf) s =
        .next (deliver h m req (.done u rc 0 (leBytes 1 n ++ zeros 7) (outs ++ rel))))) ∧
    (Taken s 0x0706 m req → u32 body 0 < 262144 →
      let k := u32 body 0
      let data := match mget s.cipher.slots k with
        | none => zeros 16
        | some x => leBytes 4 x.next.toNat ++ leBytes 8 (slotCeiling x) ++ leBytes 1 (flag (ceilingDurable h k x)) ++ zeros 3
      ResponseFits req data [] → ∃ t, exec (.keyCounterRead buf) s = .next t ∧ AnswersOk m req data [] h t)
  ) ∧
  (
  ∀ s : State,
    let j := s.cipher.journal
    (∀ (r : JRecord) (rest : List JRecord), j.queue = r :: rest → j.fails < 4 → headFull j = false → mget s.cipher.slots r.key = none →
      exec (.journalProgramDone true) s =
        .next (retryWaiting ((stepJournal (putRecord r) s).count cipherFn (if r.copied = true then 12 else 9)))) ∧
    (∀ (r : JRecord) (rest : List JRecord), j.queue = r :: rest → j.fails < 3 → headFull j = false →
      exec (.journalProgramDone false) s = .next (retryWaiting
        (stepJournal (fun y => turnJournal { putWord (failedWord (Config.freeValue s.freeCount)) y with fails := y.fails + 1 })
          { s with freeCount := s.freeCount + 1 }))) ∧
    (headFull j = true → ∀ ok, exec (.journalProgramDone ok) s = .next s) ∧
    (j.fault = true → exec .journalRetry s = .next (s.onJournal fun y => { y with fails := 3 })) ∧
    (∀ i, j.reclaim = some i → (∀ r ∈ j.queue, r.copied = false) →
      exec (.sectorEraseDone true) s = .next ((stepJournal (fun y => turnJournal
        { y with
          sectors := y.sectors.set (Fin.ofNat 16 i) { Sector.reset with erases := j.sectors[Fin.ofNat 16 i].erases + 1 }
          reclaim := none }) s).count cipherFn 11) ∧
      exec (.sectorEraseDone false) s = .next (raiseEvent 130 cipherFn (i + 2 * 2 ^ 8) s))
  )

/-- On an enabled port whose link is up every received frame counts with its length; a frame with a bad FCS or too long
then only counts as such; an untagged, addressed frame that holds an IPv6 packet goes to the routing of the working
router. A port that is disabled or down, or any while the device is asleep, takes nothing. A report of a speed that
the port's mode does not carry is one of a link down; a change of link or speed is stored, counted and raises
EV_PORT_LINK; dropped packets of the second raise EV_QUEUE_DROPS once and start anew. -/
def Obligations.RouterEvents : Prop :=
  ∀ (s : State) (p : Fin 2),
    (∀ (frame : Bytes) (fcsOk : Bool),
      let m := s.coh.active
      let h := (countPort p 1 s).countN (portFn p) 2 (frame.length + 4)
      ((s.asleep = true ∨ s.works (portFn p) = false ∨ (s.router.ports[p]).up = false) →
        exec (.ethFrameReceived p frame fcsOk) s = .next s) ∧
      (s.asleep = false → s.works (portFn p) = true → (s.router.ports[p]).up = true →
        (fcsOk = false → exec (.ethFrameReceived p frame fcsOk) s = .next (countPort p 3 h)) ∧
        (fcsOk = true → beNat (slice frame 12 2) ≠ 0x8100 → maxFrame m p.val < frame.length + 4 →
          exec (.ethFrameReceived p frame fcsOk) s = .next (countPort p 4 h)) ∧
        (∀ q : Bytes, fcsOk = true → beNat (slice frame 12 2) = 0x86DD → frame.length + 4 ≤ maxFrame m p.val →
          addressedTo m p (frame.take 6) = true → ipPacket (frame.drop 14) = some q → ipVersion q = 6 →
          s.works routerFn = true →
          exec (.ethFrameReceived p frame fcsOk) s = .next (routePacket m s.coh.generation q h).2))) ∧
    (∀ (up : Bool) (speed : Fin 5),
      let x := s.router.ports[p]
      let sp := if up = true ∧ speed.val ∈ portSpeeds s.coh.active p.val then speed.val else 0
      ((x.up = (sp != 0) ∧ x.speed = sp) → exec (.portLinkChange p up speed) s = .next s) ∧
      (¬ (x.up = (sp != 0) ∧ x.speed = sp) → exec (.portLinkChange p up speed) s =
        .next (raiseEvent 144 (portFn p) (p.val + 2 * flag (sp != 0) + 256 * sp) (countPort p 11
          (s.onRouter fun r => { r with ports := r.ports.set p { x with up := sp != 0, speed := sp } }))))) ∧
    (s.router.drops = 0 → exec .queueDropsReport s = .next s) ∧
    (s.router.drops ≠ 0 → exec .queueDropsReport s =
      .next (raiseEvent 145 routerFn
        (s.router.dropEgress + s.router.dropQueue * 16 + min s.router.drops 0xFFFFFFFF * 2 ^ 32)
        (s.onRouter fun r => { r with drops := 0, dropEgress := 0, dropQueue := 0 })))

/-- For a working port that is up, not paused and free to send: where strict queue q holds a packet, its rate bucket is
not negative and no lower queue holds one, EGRESS_DECISION puts the head of queue q on the line, removes it from its
queue, leaves the packets of every other queue of every egress as they were, counts it with its length and in the
performance counters of Weir, and changes nothing else but the buckets of the egress. A port that is paused or down,
or any while the device is asleep, sends nothing. -/
def Obligations.StrictQueuesLeaveFirst : Prop :=
  ∀ (s : State) (p : Fin 2), s.works routerFn = true →
    ((s.asleep = true ∨ s.works (portFn p) = false ∨ (s.router.ports[p]).up = false ∨ portPaused s p = true) →
      exec (.egressDecision (some p)) s = .next s) ∧
    (∀ (q : Fin 16) (x : Packet) (rest : List Packet),
      let g := s.router.egress[portEgress p]
      s.asleep = false → s.works (portFn p) = true → (s.router.ports[p]).up = true → portPaused s p = false →
      g.nextAt.toNat ≤ s.time.fabric.toNat → q.val < 4 → g.queues[q].packets = x :: rest →
      (∀ j : Fin 16, j < q → g.queues[j].packets = []) →
      weirEligible s.coh.active p.val (refillEgress s.coh.active p.val s.time.fabric g) q.val = true →
      ∃ t, exec (.egressDecision (some p)) s = .next t ∧
        t.router.ports = s.router.ports.set p { s.router.ports[p] with sent := x.data } ∧
        (t.router.egress[portEgress p]).queues[q].packets = rest ∧
        (∀ (e : Fin 6) (j : Fin 16), (e ≠ portEgress p ∨ j ≠ q) →
          (t.router.egress[e]).queues[j].packets = (s.router.egress[e]).queues[j].packets) ∧
        t.counters = ((countPort p 8 s).countN (portFn p) 9 (x.data.length + 4)).counters ∧
        t.cluster = (pmuEvent pmuWeir 0x10 1 (packetLength s.coh.active (portEgress p) x) s).cluster ∧
        t = { s with router := { s.router with egress := t.router.egress, ports := t.router.ports },
                     counters := t.counters, cluster := t.cluster })

/-- A taken ROUTER_CONFIG, WEIR_EGRESS_LOAD of an egress of its target, or PORT_CONFIG with every field in its range
stages its body under its part and answers RC_OK; ROUTE_LOAD and POLICER_LOAD of entries that pass their checks
stage each entry under its index, a route only while no more than 65,536 then wait; an egress of another target is
refused with RC_OPCODE_FUNCTION; POLICER_READ answers with the three counts of each policer named. A taken
TIME_CONFIG with every field in its range stages its body. TIME_SET is refused while source 4 is in force, and
without FORCE while another source than 0 disciplines time; mode 1 arms the second for the next edge; mode 0 with a
difference beyond JUMP and no FORCE is refused, and otherwise moves network time; mode 2 moves it by a signed number
of nanoseconds under the same limit, and needs valid time. TIME_READ answers with time, bound, Spring, fabric, ASN,
state and source as one snapshot. -/
def Obligations.RouterAndTimeCommands : Prop :=
  (
  ∀ (s : State) (m : Fin 4) (req : Req) (buf : Bytes),
    let h := takeReq m req s
    let body := fullBody req buf
    (Taken s 0x0801 m req → (u8 body 26 ≤ 15 ∨ u8 body 26 = 0xFF) → u8 body 27 ≤ 15 → (∀ i, i < 8 → u8 body (28 + i) ≤ 1) →
      (∀ i, i < 16 → u8 body (36 + i) ≤ 7) → u16 body 54 = 0 → (∀ i, i < 64 → u8 body (184 + i) ≤ 2) →
      exec (.routerConfig buf) s = .next (respond m req rcOk 0 [] (h.stage req.fn 0x0801 0 0 body))) ∧
    (Taken s 0x0802 m req →
      let es := chunks 32 (u16 body 4) (body.drop 8)
      u16 body 6 = 0 → 1 ≤ u16 body 4 → u16 body 4 ≤ (if req.indirect = true then 16384 else 126) →
      u32 body 0 + u16 body 4 ≤ 65536 → (∀ e ∈ es, checkRoute e = none) → s.writesOf 0x0802 + u16 body 4 ≤ 65536 →
      exec (.routeLoad buf) s = .next (respond m req rcOk 0 []
        (stageRun req.fn 0x0802 0 (u32 body 0) (es.map entryOrNone) (addWrites 0x0802 (u16 body 4) h)))) ∧
    (Taken s 0x0803 m req →
      (5 < u8 body 0 → exec (.weirEgressLoad buf) s = .next (respond m req rcFieldRange 0 [] h)) ∧
      (u8 body 0 ≤ 5 → egressOf req.fn (u8 body 0) = false →
        exec (.weirEgressLoad buf) s = .next (respond m req rcOpcodeFunction 0 [] h)) ∧
      (u8 body 0 ≤ 5 → egressOf req.fn (u8 body 0) = true → checkFields body (weirFields (u8 body 0)) = none →
        exec (.weirEgressLoad buf) s = .next (respond m req rcOk 0 [] (h.stage req.fn 0x0803 (u8 body 0) 0 body)))) ∧
    (Taken s 0x0804 m req →
      let es := chunks 24 (u16 body 2) (body.drop 8)
      u32 body 4 = 0 → 1 ≤ u16 body 2 → u16 body 2 ≤ (if req.indirect = true then 4096 else 169) →
      u16 body 0 + u16 body 2 ≤ 4096 → (∀ e ∈ es, checkFields e (policerFields e) = none) →
      exec (.policerLoad buf) s =
        .next (respond m req rcOk 0 [] (stageRun req.fn 0x0804 0 (u16 body 0) (es.map entryOrNone) h))) ∧
    (Taken s 0x0805 m req → u32 body 4 = 0 → 1 ≤ u16 body 2 → u16 body 2 ≤ 169 → u16 body 0 + u16 body 2 ≤ 4096 →
      let data := (List.range (u16 body 2)).flatMap fun i =>
        let x := mgetD s.router.policers (u16 body 0 + i) PolicerState.reset
        leBytes 8 x.green ++ leBytes 8 x.yellow ++ leBytes 8 x.red
      ResponseFits req [] data → ∃ t, exec (.policerRead buf) s = .next t ∧ AnswersOk m req [] data h t) ∧
    (Taken s 0x0806 m req → u8 body 0 ≤ 2 → u8 body 1 < 16 → u8 body 1 / 4 ≠ 3 → 1518 ≤ u16 body 2 → u16 body 2 ≤ 9018 →
      u16 body 10 ≤ 4094 → u8 body 12 ≤ 7 → field body 13 3 = 0 →
      exec (.portConfig buf) s = .next (respond m req rcOk 0 [] (h.stage req.fn 0x0806 0 0 body)))
  ) ∧
  (
  ∀ (s : State) (m : Fin 4) (req : Req) (buf : Bytes),
    let h := takeReq m req s
    let body := fullBody req buf
    (Taken s 0x0D01 m req → u8 body 0 ≤ 4 → (u8 body 1 ≤ 4 ∨ u8 body 1 = 0xFF) → u8 body 2 < 8 → u8 body 3 ≤ 127 →
      1000 ≤ u32 body 4 → u32 body 4 ≤ 1000000 → 100 ≤ u32 body 8 → u32 body 8 ≤ 1000000000 → 1000 ≤ u32 body 12 →
      u32 body 12 ≤ 100000 → -1000000 ≤ i32 body 16 → i32 body 16 ≤ 1000000 → 1 ≤ u32 body 20 → u32 body 20 ≤ 500000 →
      u16 body 24 ≤ 3600 → 1 ≤ u16 body 26 → 1 ≤ u32 body 28 → u32 body 28 ≤ 10000 → u16 body 40 ≤ 10000 →
      u16 body 42 ≤ 10000 → u32 body 44 = 0 →
      exec (.timeConfig buf) s = .next (respond m req rcOk 0 [] (h.stage req.fn 0x0D01 0 0 body))) ∧
    (Taken s 0x0D02 m req → u8 body 0 ≤ 1 → u8 body 1 ≤ 1 → u16 body 2 = 0 → u32 body 12 ≤ 999999999 →
      (u8 body 0 = 1 → u32 body 12 = 0) → s.enabled timeFn = true →
      let force := bit (u8 body 1) 0
      let free := s.time.source = 0 ∨ s.time.state = .holdover ∨ s.time.state = .refused ∨ force = true
      let d : Int := ((u64 body 4 * 1000000000 + u32 body 12 : Nat) : Int) - s.netNs
      ((s.time.source = 4 ∨ ¬ free) → exec (.timeSet buf) s = .next (respond m req rcTimeSourceActive 0 [] h)) ∧
      (s.time.source ≠ 4 → free → u8 body 0 = 1 → exec (.timeSet buf) s = .next (respond m req rcOk 0 []
        (h.onTime fun t => { t with ppsArmed := some (u64 body 4), ppsArmedForce := force, armedAt := t.fabric }))) ∧
      (s.time.source ≠ 4 → free → u8 body 0 = 0 → s.timeValid = true → jumpNs s.coh.active < absInt d → force = false →
        exec (.timeSet buf) s = .next (respond m req rcTimeJumpRefused 0 [] h)) ∧
      (s.time.source ≠ 4 → free → u8 body 0 = 0 → (absInt d ≤ jumpNs s.coh.active ∨ force = true ∨ s.timeValid = false) →
        exec (.timeSet buf) s = .next (respond m req rcOk 0 [] (setTime d force h)))) ∧
    (Taken s 0x0D02 m req → u8 body 0 = 2 → u8 body 1 ≤ 1 → u16 body 2 = 0 → u32 body 12 = 0 → s.enabled timeFn = true →
      let force := bit (u8 body 1) 0
      let free := s.time.source = 0 ∨ s.time.state = .holdover ∨ s.time.state = .refused ∨ force = true
      (s.time.source ≠ 4 → free → s.timeValid = false →
        exec (.timeSet buf) s = .next (respond m req rcTimeNotValid 0 [] h)) ∧
      (s.time.source ≠ 4 → free → s.timeValid = true → jumpNs s.coh.active < absInt (i64 body 4) → force = false →
        exec (.timeSet buf) s = .next (respond m req rcTimeJumpRefused 0 [] h)) ∧
      (s.time.source ≠ 4 → free → s.timeValid = true → (absInt (i64 body 4) ≤ jumpNs s.coh.active ∨ force = true) →
        exec (.timeSet buf) s = .next (respond m req rcOk 0 [] (setTime (i64 body 4) force h)))) ∧
    (Taken s 0x0D03 m req →
      let v := s.timeValid
      let data := leBytes 8 (if v = true then s.time.seconds.toNat else 0) ++ leBytes 4 (if v = true then s.time.nanos.toNat else 0)
        ++ leBytes 4 (errBound s) ++ leBytes 8 s.time.spring.toNat ++ leBytes 8 s.time.fabric.toNat
        ++ leBytes 8 s.asn64.toNat ++ leBytes 1 (timeStateCode s.time.state) ++ leBytes 1 s.time.source ++ zeros 6
      ResponseFits req data [] → ∃ t, exec (.timeRead buf) s = .next t ∧ AnswersOk m req data [] h t)
  )

/-- While PTP is in use: an Announce of the configured domain is followed where none is and only counts otherwise; a
Sync of the followed transmitter with an interval of 1/16 s to 2 s, fewer than 16 in the last second, begins an
exchange; its Follow_Up completes t1 and the correction; a Delay_Req stores t3, and is sent only when the interval
that the last Delay_Resp named has passed; the Delay_Resp that answers it ends the exchange, its delay enters the
last 8, and the offset becomes a sample (with PPS_PTP in force before time is valid it gives the seconds, of which
nothing is said here) unless the delay exceeds the smallest by more than 10 µs. A message of another version or
transport only counts. Without PTP in use no message changes anything. -/
def Obligations.PtpExchange : Prop :=
  ∀ (s : State) (clock : PtpSender) (seqId : BitVec 16),
    let h := s.count timeFn 1
    let b := timePart s.coh.active
    (ptpTaken s = false → (∀ d ts, exec (.ptpAnnounceRx clock d ts) s = .next s) ∧
      (∀ two t1 c st, exec (.ptpSyncRx clock seqId two t1 c st) s = .next s) ∧
      (∀ t1 c, exec (.ptpFollowUpRx clock seqId t1 c) s = .next s) ∧
      (∀ t4 c, exec (.ptpDelayRespRx clock seqId t4 c) s = .next s) ∧
      (∀ st, exec (.delayReqTx seqId st) s = .next s)) ∧
    (ptpTaken s = true → ptpScope s.coh.active clock = false →
      (∀ d ts, exec (.ptpAnnounceRx clock d ts) s = .next h) ∧ (∀ two t1 c st, exec (.ptpSyncRx clock seqId two t1 c st) s = .next h) ∧
      (∀ t1 c, exec (.ptpFollowUpRx clock seqId t1 c) s = .next h) ∧ (∀ t4 c, exec (.ptpDelayRespRx clock seqId t4 c) s = .next h)) ∧
    (ptpTaken s = true → ∀ st, delayDue s = false → exec (.delayReqTx seqId st) s = .next s) ∧
    (ptpTaken s = true → ptpScope s.coh.active clock = true →
      (∀ d : BitVec 8, s.time.ptpTx = none → d.toNat = u8 b 3 → (u64 b 32 = 0 ∨ u64 b 32 = clock.clock.toNat) →
        exec (.ptpAnnounceRx clock d true) s = .next (h.onTime fun t => { t with ptpTx := some clock.clock.toNat })) ∧
      (∀ d ts, s.time.ptpTx ≠ none → exec (.ptpAnnounceRx clock d ts) s = .next h) ∧
      (∀ (two : Bool) (t1 c st : Int), s.time.ptpTx = some clock.clock.toNat → -4 ≤ clock.interval → clock.interval ≤ 1 →
        let recent := s.time.syncTimes.filter fun t => (s.time.fabric - t).toNat < 400000000
        (recent.length < 16 → exec (.ptpSyncRx clock seqId two t1 c st) s = .next (h.onTime fun t =>
          { t with
            syncTimes := s.time.fabric :: recent
            ptpSync := some ⟨seqId.toNat, if two = true then none else some t1, st - u16 b 40, c, none, 0, clock.port⟩ })) ∧
        (16 ≤ recent.length → exec (.ptpSyncRx clock seqId two t1 c st) s = .next h)) ∧
      (∀ (y : PtpSync) (t1 c : Int), s.time.ptpTx = some clock.clock.toNat → s.time.ptpSync = some y → y.seqId = seqId.toNat →
        y.t1 = none → exec (.ptpFollowUpRx clock seqId t1 c) s = .next (h.onTime fun t =>
          { t with ptpSync := some { y with t1 := some t1, correction := y.correction + c } })) ∧
      (∀ (y : PtpSync) (st : Int), s.time.ptpTx ≠ none → s.time.ptpSync = some y → delayDue s = true →
        exec (.delayReqTx seqId st) s = .next ((s.count timeFn 2).onTime fun t =>
          { t with
            delayAt := some t.fabric, delayPort := some y.port
            ptpSync := some { y with t3 := some (st + u16 b 42), reqSeq := seqId.toNat } })) ∧
      (∀ (y : PtpSync) (t1 t3 t4 c : Int), s.time.ptpTx = some clock.clock.toNat → s.time.ptpSync = some y → y.t1 = some t1 →
        y.t3 = some t3 → y.reqSeq = seqId.toNat → (s.time.source ≠ 2 ∨ s.time.state ≠ .invalid) →
        let delay := ((y.t2 - t1 - y.correction) + (t4 - t3 - c)) / 2
        let ds := (delay :: s.time.ptpDelays).take 8
        let path := minInt delay ds
        let u := h.onTime fun t => { t with ptpDelays := ds, ptpSync := none, delayLog := clock.interval }
        (path + 10000 < delay → exec (.ptpDelayRespRx clock seqId t4 c) s = .next (u.count timeFn 4)) ∧
        (delay ≤ path + 10000 → exec (.ptpDelayRespRx clock seqId t4 c) s =
          .next (sampleFrom 1 (y.t2 - t1 - y.correction - path) (u.count timeFn 3)))))

/-- With the time unit working and the reference running, an edge more than 100 µs away from its second only counts; one
whose count of reference cycles is implausible gives no sample and raises EV_TIME_PLAUS_FAIL and fault source 104.
For PPS_HOST with time LOCKED, a sample whose offset is within SLEW_LIMIT leaves network time, source and state as
they are and stores the offset; one beyond it and within JUMP moves network time by minus the offset at once, counts
a step, and the slots realign. -/
def Obligations.PulseSamplesSlewOrStep : Prop :=
  ∀ (s : State) (cycles p : Nat), s.works timeFn = true → s.power.phase = .awake →
    let now := captureNs s
    let b := countEdge <| (s.onTime fun t => { t with ppsLast := some now, ppsPresent := true }).count timeFn 5
    s.time.ppsLast = some p →
    (100000 < absInt ((now : Int) - p - 1000000000) → exec (.ppsInEdge cycles) s = .next (s.count timeFn 6)) ∧
    (absInt ((now : Int) - p - 1000000000) ≤ 100000 → cyclesOk cycles s.time.freqEst 384 = false →
      s.time.ppsArmed = none → exec (.ppsInEdge cycles) s = .next (plausFail 1 104 cycles s.time.freqEst b)) ∧
    (∀ v : Nat, absInt ((now : Int) - p - 1000000000) ≤ 100000 → cyclesOk cycles s.time.freqEst 384 = true →
      s.time.source = 3 → s.time.ppsArmed = none → s.time.ppsSecond = some v → s.time.state = .locked →
      let off : Int := (now : Int) - (((v + 1 : Nat) : Int) * 1000000000 + ppsOffset s.coh.active)
      ∃ t, exec (.ppsInEdge cycles) s = .next t ∧ t.time.ppsSecond = some (v + 1) ∧ t.time.source = 3 ∧
        t.time.lastOffset = clampInt (2 ^ 31 - 1) off ∧
        (absInt off ≤ slewLimit s.coh.active → t.time.state = .locked ∧ t.time.seconds = s.time.seconds ∧
          t.time.nanos = s.time.nanos ∧ t.time.realign = s.time.realign ∧
          t = { s with time := t.time, counters := b.counters, freeCount := s.freeCount + 1 }) ∧
        (slewLimit s.coh.active < absInt off → absInt off ≤ jumpNs s.coh.active → t.time.state = .locked ∧
          t.time.seconds = BitVec.ofInt 64 (((s.netNs : Int) - off) / 1000000000) ∧
          t.time.nanos = BitVec.ofNat 32 (((s.netNs : Int) - off) % 1000000000).toNat ∧ t.time.realign = true) ∧
        (slewLimit s.coh.active < absInt off → jumpNs s.coh.active < absInt off → t.time.state = .refused ∧
          t.time.seconds = s.time.seconds ∧ t.time.nanos = s.time.nanos))

/-- With the time unit working: loss of the source in force switches to a backup with a usable sample in the last 2 s,
or without one enters HOLDOVER with the bound frozen and the phase term zero; HOLDOVER_EXPIRY ends a holdover that
has lasted HOLDOVER_MAX_S; SOURCE_REVERT returns to the primary once it has been usable for a REVERT_S that is not
zero. PPS_OUT rises at a whole second only in RUN or SLOT_IDLE with valid time and PPS_OUT_EN, and falls once its
width has passed. A PPS set lapses once armed for 2.5 s. A Spring count outside its limit raises event and fault
source 105; the first of all becomes SPRING_PPB, each later one moves it by 1/64 of the difference. -/
def Obligations.SourcesHoldoverAndSpring : Prop :=
  ∀ s : State,
    (s.works timeFn = true →
      (∀ k, k = s.time.source → 1 ≤ k → k ≤ 4 →
        ((k = 2 ∨ k = 3) → ∀ p, s.time.ppsLast = some p → p + 2500000000 ≤ s.netNs) → (k = 4 → s.link.sync ≠ .synced) →
        (s.time.backupAt = none → s.time.state = .locked → ∃ u, exec (.sourceLost k) s =
            .next (raiseEvent 164 timeFn (1 + k * 256) u) ∧
          u.time.state = .holdover ∧ u.time.phaseTerm = 0 ∧ u.time.source = k ∧ u.time.errBase = errBound s ∧
          u.time.errSince = s.time.fabric ∧ u = { s with time := u.time, counters := (s.count timeFn 11).counters }) ∧
        (∀ at_, s.time.backupAt = some at_ → (s.time.fabric - at_).toNat ≤ 800000000 → backupSource s.coh.active ∉ lostWith k →
          backupSource s.coh.active ≤ 4 → ∃ u, exec (.sourceLost k) s =
              .next (raiseEvent 163 timeFn (backupSource s.coh.active + k * 256 + 65536) u) ∧
            u.time.source = backupSource s.coh.active ∧ u.time.state = s.time.state ∧
            u = { s with time := u.time, counters := (s.count timeFn 10).counters })) ∧
      (s.time.state = .holdover →
        u16 (timePart s.coh.active) 26 * 400000000 ≤ (s.time.fabric - s.time.holdSince).toNat → exec .holdoverExpiry s =
        .next (raiseEvent 165 timeFn (errBound s) (s.onTime fun t => { t with state := .holdoverExpired }))) ∧
      (∀ at_, s.time.source ≠ primarySource s.coh.active → u16 (timePart s.coh.active) 24 ≠ 0 →
        s.time.primaryAt = some at_ → u16 (timePart s.coh.active) 24 * 400000000 ≤ (s.time.fabric - at_).toNat →
        exec .sourceRevert s = .next (raiseEvent 163 timeFn (primarySource s.coh.active + s.time.source * 256 + 2 * 65536)
          ((s.onTime fun t => { t with
            source := primarySource s.coh.active, backupAt := none, primaryAt := none }).count timeFn 10))) ∧
      (s.power.phase = .awake → s.timeValid = true → bit (u8 (timePart s.coh.active) 2) 0 = true →
        (wholeSecond s = true → exec .ppsOutRise s = .next (s.onTime fun t => { t with ppsOut := true, ppsOutAt := t.fabric })) ∧
        (wholeSecond s = false → exec .ppsOutRise s = .next s)) ∧
      (∀ cycles : Nat, s.power.phase = .awake → s.time.state = .locked →
        let u := if 7680 < absInt ((cycles : Int) - 38400000) then plausFail 2 105 cycles 0 s else s
        let n : Int := cycles * 1000000000 / 38400000 + (cycles : Int) * freqPpb u / 38400000
        let ppb := (1000000000 - n) * 1000000000 / n
        n ≠ 0 → exec (.springMeasurement cycles) s = .next (u.onTime fun x =>
          { x with
            springPpb := if x.springSeconds = 0 then ppb else x.springPpb + (ppb - x.springPpb) / 64
            springSeconds := x.springSeconds + 1, springDisc := x.springDisc || decide (64 ≤ x.springSeconds + 1) }))) ∧
    (s.timeValid = false → exec .ppsOutRise s = .next s) ∧
    (let width := u32 (timePart s.coh.active) 20 * 400
     (width ≤ (s.time.fabric - s.time.ppsOutAt).toNat → exec .ppsOutFall s = .next (s.onTime fun t => { t with ppsOut := false })) ∧
     ((s.time.fabric - s.time.ppsOutAt).toNat < width → exec .ppsOutFall s = .next s)) ∧
    (s.time.ppsArmed = none → exec .ppsSetLapse s = .next s) ∧
    (∀ v, s.time.ppsArmed = some v → (s.time.fabric - s.time.armedAt).toNat < 1000000000 → exec .ppsSetLapse s = .next s) ∧
    (∀ v, s.time.ppsArmed = some v → 1000000000 ≤ (s.time.fabric - s.time.armedAt).toNat → exec .ppsSetLapse s =
      .next ((s.onTime fun t => { t with ppsArmed := none, ppsArmedForce := false }).count timeFn 17))

/-- For a working, running unit in RUN or SLOT_IDLE that is not frozen, and with an ASN for a unit that counts slots,
one tick adds 1 to TICKS, moves COUNT up, to 0 after PERIOD, or in up/down mode down while DOWN is set; at zero a
shadowed period takes effect; an armed comparator at or up to half the range behind the new TICKS sets FIRED, a
one-shot one is disarmed, a stepping one moves past it by whole steps and stays armed; no other unit changes. A unit
that is to freeze freezes instead, and a stopped or frozen one stays as it is. -/
def Obligations.TimerTickCountsAndFires : Prop :=
  ∀ (s : State) (t : Fin 16),
    let u := s.timers[t]
    let b := timerPart s.coh.active t
    ((s.works (timerFn t) = false ∨ u.run = false ∨ timersRun s = false) → exec (.timerTick t) s = .next s) ∧
    (s.works (timerFn t) = true → u.run = true → timersRun s = true → (timerSource b ≠ 3 ∨ s.time.asn.isSome = true) →
      (freezeAsked s t = true → exec (.timerTick t) s = .next (s.onTimer t (setStatus 4096))) ∧
      (freezeAsked s t = false → u.status.getLsbD 12 = true → exec (.timerTick t) s = .next s) ∧
      (freezeAsked s t = false → u.status.getLsbD 12 = false → ∃ s', exec (.timerTick t) s = .next s' ∧
        let v := s'.timers[t]
        let now : BitVec 32 := (u.ticks + 1).setWidth 32
        v.ticks = u.ticks + 1 ∧
        ((timerCfg b).updown = false → v.count = (if u.period ≤ u.count then 0 else u.count + 1) ∧ v.down = false) ∧
        ((timerCfg b).updown = true → u.down = true → v.count = u.count - 1) ∧
        ((timerCfg b).updown = true → u.down = false → u.count < u.period → v.count = u.count + 1) ∧
        (v.count = 0 → v.period = u.periodShadow.getD u.period ∧ v.periodShadow = none ∧ v.status.getLsbD 8 = true) ∧
        (v.count ≠ 0 → v.period = u.period ∧ v.periodShadow = u.periodShadow) ∧
        (v.run = false ↔ v.count = 0 ∧ (timerCfg b).oneCycle = true) ∧
        (∀ n : Fin 4, u.armed.getLsbD n.val = true → (now - u.cmp[n]).toNat < 2 ^ 31 →
          v.status.getLsbD n.val = true ∧ (v.armed.getLsbD n.val = true ↔ u.step[n].toNat ≠ 0) ∧
          (u.step[n].toNat ≠ 0 → v.cmp[n] = u.cmp[n] +
            BitVec.ofNat 32 (((now - u.cmp[n]).toNat / u.step[n].toNat + 1) * u.step[n].toNat))) ∧
        (∀ n : Fin 4, (u.armed.getLsbD n.val = false ∨ 2 ^ 31 ≤ (now - u.cmp[n]).toNat) →
          v.armed.getLsbD n.val = u.armed.getLsbD n.val ∧ v.cmp[n] = u.cmp[n] ∧ v.missed[n] = u.missed[n] ∧
          v.status.getLsbD n.val = u.status.getLsbD n.val) ∧
        (∀ k : Fin 16, k ≠ t → s'.timers[k] = s.timers[k])))

/-- On a working unit the owner's write of TMR_CTRL sets RUN, and with CLEAR zeroes COUNT, and puts the outputs at idle
unless the unit was and stays running; TMR_PERIOD is shadowed, or with IMMEDIATE in force at once and clipped where
COUNT stands above it; a unit that starts notes the instant; TMR_CMPn leaves its value pending behind earlier ones,
to arm the comparator when the write takes effect; TMR_CMP_EN disarms; TMR_STATUS clears what is written as one.
Reading TMR_TICK_LO latches the high half, reading TMR_MISSEDn clears it. The access of another master raises fault
source 103. A core that sleep has stopped does nothing. A period of 0 is discarded (the model's choice, log entry
8). -/
def Obligations.TimerRegistersTakeTheirOwner : Prop :=
  ∀ (s : State) (by_ : BusMaster) (t : Fin 16) (run : Bool) (p : BitVec 31) (n : Fin 4) (value : BitVec 32),
    let u := s.timers[t]
    let cfg := timerCfg (timerPart s.coh.active t)
    let writes := [Instr.tmrCtrlRun by_ t run, .tmrCtrlClear by_ t run, .tmrPeriodShadow by_ t p, .tmrPeriodImmediate by_ t p,
      .tmrCmpWrite by_ t n value, .tmrCmpEnWrite by_ t value, .tmrStatusClear by_ t value]
    let reads := [Instr.tmrMissedRead by_ t n, .tmrTickLoRead by_ t]
    (coreOff s by_ = true → ∀ c ∈ writes ++ reads, exec c s = .next s) ∧
    (coreOff s by_ = false → s.works (timerFn t) = false → (∀ c ∈ writes, exec c s = .next s) ∧
      (∀ c ∈ reads, exec c s = .next (s.onKci fun k => { k with readOut := 0 }))) ∧
    (coreOff s by_ = false → s.works (timerFn t) = true → timerOwner s by_ t = false →
      (∀ c ∈ writes, exec c s = .next (raiseSource 103 (timerFn t) t.val s)) ∧
      (∀ c ∈ reads, exec c s =
        .next (raiseSource 103 (timerFn t) t.val (s.onKci fun k => { k with readOut := 0 })))) ∧
    (coreOff s by_ = false → s.works (timerFn t) = true → timerOwner s by_ t = true →
      let started := fun x : Timer =>
        if run = true ∧ u.run = false then { x with phaseFabric := s.time.fabric, phaseSpring := s.time.spring } else x
      exec (.tmrCtrlRun by_ t run) s = .next (s.onTimer t fun _ =>
        started { u with run := run, out := if run = true ∧ u.run = true then u.out else cfg.idle }) ∧
      exec (.tmrCtrlClear by_ t run) s = .next (s.onTimer t fun _ =>
        started { u with count := 0, down := false, run := run, out := if run = true ∧ u.run = true then u.out else cfg.idle }) ∧
      (p ≠ 0 → exec (.tmrPeriodShadow by_ t p) s =
        .next (s.onTimer t fun _ => { u with periodWritten := p.toNat, periodShadow := some p.toNat })) ∧
      (p = 0 → exec (.tmrPeriodShadow by_ t p) s = .next s ∧ exec (.tmrPeriodImmediate by_ t p) s = .next s) ∧
      (p ≠ 0 → u.count ≤ p.toNat → exec (.tmrPeriodImmediate by_ t p) s =
        .next (s.onTimer t fun _ => { u with periodWritten := p.toNat, periodShadow := none, period := p.toNat })) ∧
      (p ≠ 0 → p.toNat < u.count → ∃ s', exec (.tmrPeriodImmediate by_ t p) s = .next s' ∧
        s'.timers[t].period = p.toNat ∧ s'.timers[t].periodShadow = none ∧ s'.timers[t].count = u.count ∧
        (cfg.updown = false ∨ u.down = false → s'.timers[t].status.getLsbD 11 = true) ∧
        (cfg.updown = true → s'.timers[t].down = true) ∧ ∀ k : Fin 16, k ≠ t → s'.timers[k] = s.timers[k]) ∧
      exec (.tmrCmpWrite by_ t n value) s = .next (s.onTimer t fun _ =>
        { u with cmpNew := u.cmpNew.set n (u.cmpNew[n] ++ [value]) }) ∧
      (∃ s', exec (.tmrCmpEnWrite by_ t value) s = .next s' ∧ s'.timers[t].armed = u.armed &&& value.setWidth 4 ∧
        s' = s.onTimer t fun _ => { u with armed := s'.timers[t].armed, cmpNew := s'.timers[t].cmpNew }) ∧
      exec (.tmrStatusClear by_ t value) s = .next (s.onTimer t fun _ =>
        { u with status := u.status &&& ~~~((value.setWidth 12).setWidth 13) }) ∧
      exec (.tmrMissedRead by_ t n) s = .next ((s.onKci fun k => { k with readOut := u.missed[n].toNat }).onTimer t fun _ =>
        { u with missed := u.missed.set n 0 }) ∧
      exec (.tmrTickLoRead by_ t) s = .next
        ((s.onKci fun k => { k with readOut := (u.ticks.setWidth 32).toNat }).onTimer t fun _ =>
          { u with ticksHi := BitVec.ofNat 32 (u.ticks.toNat / 2 ^ 32) }))

/-- CMP_WRITE_EFFECT on a working unit moves the oldest pending value into the comparator and arms it; where it lies in
the future nothing fires; where it already lies behind, FIRED and LATE are set. DEBUG_HALT_FREEZE marks the core
halted; its release with no frozen unit clears the mark. A taken TIMER_CONFIG with every field in its range stages
its body; TIMER_ACCESS by the host that owns the unit reads the register with its effect on the unit, or writes it;
of a unit of the cluster it answers RC_TIMER_OWNER and raises fault source 103. -/
def Obligations.ComparesHaltsAndTimerCommands : Prop :=
  (∀ (s : State) (t : Fin 16) (n : Fin 4) (v : BitVec 32) (vs : List (BitVec 32)), s.works (timerFn t) = true →
    let u := s.timers[t]
    let now : BitVec 32 := u.ticks.setWidth 32
    u.cmpNew[n] = v :: vs →
    (2 ^ 31 ≤ (now - v).toNat → exec (.cmpWriteEffect t n) s =
      .next (s.onTimer t fun _ =>
        { u with armed := u.armed ||| BitVec.ofNat 4 (2 ^ n.val), cmp := u.cmp.set n v, cmpNew := u.cmpNew.set n vs })) ∧
    ((now - v).toNat < 2 ^ 31 → now ≠ v → u.status.getLsbD 12 = false →
      ∃ s', exec (.cmpWriteEffect t n) s = .next s' ∧ s'.timers[t].status.getLsbD n.val = true ∧
        s'.timers[t].status.getLsbD (4 + n.val) = true ∧ s'.timers[t].cmpNew[n] = vs ∧
        ∀ k : Fin 16, k ≠ t → s'.timers[k] = s.timers[k])) ∧
  (∀ (s : State) (c : Fin 8),
    exec (.debugHaltFreeze c) s = .next (s.onCore c fun x => { x with debugHalt := true }) ∧
    ((∀ t : Fin 16, s.timers[t].status.getLsbD 12 = false) →
      exec (.debugHaltRelease c) s = .next (s.onCore c fun x => { x with debugHalt := false }))) ∧
  (∀ (s : State) (m : Fin 4) (req : Req) (buf : Bytes),
    let h := takeReq m req s
    let body := fullBody req buf
    let t := timerOf req.fn
    (Taken s 0x0C01 m req → u8 body 0 ≤ 1 → (u8 body 0 = 1 ↔ u8 body 1 ≠ 0) → u8 body 2 ≤ 3 → u8 body 3 ≤ 3 →
      1 ≤ u32 body 4 → u32 body 4 ≤ 65536 → 1 ≤ u32 body 8 → u32 body 8 ≤ 0x7FFFFFFF → u8 body 12 ≤ 3 → u16 body 14 < 4096 →
      ((24 ≤ u8 body 16 ∧ u8 body 16 ≤ 47) ∨ u8 body 16 = 0xFF) → ((24 ≤ u8 body 18 ∧ u8 body 18 ≤ 47) ∨ u8 body 18 = 0xFF) →
      u8 body 20 ≤ 3 → field body 21 3 = 0 →
      exec (.timerConfig buf) s = .next (respond m req rcOk 0 [] (h.stage req.fn 0x0C01 0 0 body))) ∧
    (Taken s 0x0C02 m req → s.enabled req.fn = true → u8 body 1 = 0 → u8 body 0 ≤ 1 → u16 body 2 % 4 = 0 → u16 body 2 < 0x58 →
      (timerOwner s .host t = false →
        exec (.timerAccess buf) s = .next (respond m req rcTimerOwner 0 [] (raiseSource 103 req.fn t.val h))) ∧
      (timerOwner s .host t = true → u8 body 0 = 0 → exec (.timerAccess buf) s =
        .next (respond m req rcOk 0 (leBytes 4 (timerRead (u16 body 2) s.timers[t])) (h.onTimer t (timerReadEffect (u16 body 2))))) ∧
      (timerOwner s .host t = true → u8 body 0 = 1 → exec (.timerAccess buf) s =
        .next (respond m req rcOk 0 (zeros 4)
          (changeTimer t (timerWrite (timerCfg (timerPart s.coh.active t)) (u16 body 2) (BitVec.ofNat 32 (u32 body 4))) h)))))

/-- A taken POWER_CONFIG in its ranges stages its body. A taken, enabled POWER_ENTER that nothing refuses beforehand:
with no voter refusing passes P and answers RC_OK; with a refusing voter answers RC_SLEEP_REFUSED with its function
and stays awake; with a silent voter waits for it. AUTO_DOZE_ENTRY votes in the same way. A voter that never
acknowledges raises fault source 108 and refuses. Aborted automatic entries are reported once a second. An entry
that has passed P and meets no wake source reaches its state with its snapshot. -/
def Obligations.EntryIsVotedOn : Prop :=
  (∀ (s : State) (m : Fin 4) (req : Req) (buf : Bytes),
    let h := takeReq m req s
    let body := fullBody req buf
    (Taken s 0x0E01 m req → u8 body 0 ≤ 2 → u8 body 1 ≤ 3 → u8 body 2 < 32 → u8 body 2 % 4 = 0 → u8 body 3 = 0 →
      u16 body 4 ≤ 5000 → 100 ≤ u16 body 6 → u16 body 6 ≤ 50000 → 2000 ≤ u32 body 8 → u32 body 8 ≤ 10000000 →
      (∀ o, o = 12 ∨ o = 13 ∨ o = 14 → (24 ≤ u8 body o ∧ u8 body o ≤ 47) ∨ u8 body o = 0xFF) → u8 body 15 = 0 →
      exec (.powerConfig buf) s = .next (respond m req rcOk 0 [] (h.stage req.fn 0x0E01 0 0 body))) ∧
    (Taken s 0x0E02 m req → (u8 body 0 = 2 ∨ u8 body 0 = 3) → u8 body 1 ≤ 1 → u8 body 3 = 0 → u16 body 10 = 0 →
      s.enabled req.fn = true →
      let tgt := if u8 body 0 = 3 then PowerState.hibernate else .doze
      let u := h.onPower fun p =>
        { p with
          target := tgt
          commanded := true
          wakePending := none
          wakeMask := BitVec.ofNat 8 (u8 body 2)
          wakeSpring := if bit (u8 body 1) 0 = true then some (BitVec.ofNat 48 (u64 body 4)) else none }
      (∀ silent rc d, enterRefused h body = some (rc, d) →
        exec (.powerEnter buf silent) s = .next (respond m req rc d [] h)) ∧
      (enterRefused h body = none →
        (vote u tgt 14 = none → ∃ t, exec (.powerEnter buf none) s = .next t ∧ t = respond m req rcOk 0 [] (passP u) ∧
          (passP u).power.phase = .entering) ∧
        (∀ c fn, vote u tgt 14 = some (c, fn) → exec (.powerEnter buf none) s =
            .next (respond m req rcSleepRefused fn [] (rollback false c (c - 1) fn u)) ∧ (rollback false c (c - 1) fn u).power.phase = .awake) ∧
        (∀ k : Fin 14, vote u tgt k.val = none → exec (.powerEnter buf (some k)) s =
          .next ((u.onPower fun p => { p with phase := .voting (k.val + 1) }).onKci fun x =>
            { x with executing := some ⟨m, req⟩ }))))) ∧
  (∀ s : State,
    (s.power.phase = .awake → s.works powerFn = true → s.boot.ready = true → autoLevel s.coh.active = 2 →
      nextNeed s = none → gapRefused s = false → (∀ r : Fin 3, (s.radio r).powered = false) → s.kci.executing = none → s.power.commanded = false →
      let u := s.onPower fun p =>
        { p with target := .doze, wakePending := none, wakeMask := BitVec.ofNat 8 (wakeMaskAuto s.coh.active) }
      (vote u .doze 14 = none → exec (.autoDozeEntry none) s = .next (passP u)) ∧
      (∀ c fn, vote u .doze 14 = some (c, fn) → exec (.autoDozeEntry none) s = .next (rollback true c (c - 1) fn u))) ∧
    (∀ c, s.power.phase = .voting c → s.kci.executing = none →
      exec .voterAckTimeout s = .next (raiseSource 108 powerFn c (rollback true c (c - 1) (classFn c) s))) ∧
    (s.power.aborts = 0 → exec .sleepAbortReport s = .next s) ∧
    (s.power.aborts ≠ 0 → exec .sleepAbortReport s = .next (raiseEvent 210 powerFn
      (s.power.abortFirst + min s.power.aborts 0xFFFFFFFF * 2 ^ 32) (s.onPower fun p => { p with aborts := 0, abortFirst := 0 }))) ∧
    (s.power.phase = .entering → s.power.target = .doze → s.power.state = .run → s.power.wakePending = none →
      ∃ t, exec .sleepSnapshot s = .next t ∧ t.power.phase = .asleep ∧ t.power.state = .doze ∧ t.power.lastState = 2 ∧
        t.power.hibInd = false ∧
        t.time = { s.time with
          snapshot := some ⟨s.time.spring, s.netNs, s.time.slotBase, s.time.fabric, s.timeValid, s.time.asn⟩
          ppsOut := false } ∧
        t = { s with time := t.time, power := t.power, counters := (s.count powerFn 2).counters }))

/-- An enabled wake source during the vote refuses the entry, after the point of no return is kept, and in sleep begins
the exit with its number, REF_EN and, from HIBERNATE, the rails and a due warm start; a disabled one does nothing.
SCHEDULED_WAKE without a need does nothing, and for a pending commit wakes once its boundary is as near as a wake
takes. REFERENCE_QUALIFIED with the reference present, then WAKE_REBUILD from DOZE with a snapshot, load network
time with its value plus the elapsed time and drop the snapshot. WAKE_COMPLETE with nothing outstanding and the
rails above their warning levels reaches the awake phase, places the ready threads, feeds the waiting cores and
reports the source. -/
def Obligations.WakingRebuildsTheBases : Prop :=
  ∀ s : State,
    (∀ n : Fin 5,
      ((n = 1 ∨ sourceEnabled s n.val = false) → exec (.wakeSource n) s = .next s) ∧
      (n ≠ 1 → sourceEnabled s n.val = true →
        (s.power.phase = .asleep → s.power.state = .doze → ∃ t, exec (.wakeSource n) s = .next t ∧
          t.power = { s.power with
            phase := .waking, lastWake := BitVec.ofNat 8 n.val, wakeAt := s.time.spring, refEn := true, wakePending := none
            commanded := false } ∧ t = { s with power := t.power }) ∧
        (s.power.phase = .asleep → s.power.state = .hibernate → ∃ t, exec (.wakeSource n) s = .next t ∧
          t.power.phase = .waking ∧ t.boot = { s.boot with phase := .due .warm true } ∧
          (∀ r ∈ t.supply.removed, r ∈ s.supply.removed) ∧
          t = { s with power := t.power, boot := t.boot, supply := t.supply }) ∧
        (s.power.phase = .entering → s.power.wakePending = none →
          exec (.wakeSource n) s = .next (s.onPower fun p => { p with wakePending := some n.val })) ∧
        (∀ c, s.power.phase = .voting c → s.kci.executing = none →
          exec (.wakeSource n) s = .next (rollback true 1 (c - 1) powerFn s)))) ∧
    (latentNeeds s = [] → s.coh.commit = none → sourceEnabled s 1 = false → exec .scheduledWake s = .next s) ∧
    (∀ (c : Commit) n, latentNeeds s = [] → s.coh.commit = some c → c.boundary = .slot n → sourceEnabled s 1 = false →
      s.power.phase = .asleep → s.power.state = .doze →
      (s.time.spring.toNat < wakeInstant s (slotStartNs s.coh.active n) → exec .scheduledWake s = .next s) ∧
      (wakeInstant s (slotStartNs s.coh.active n) ≤ s.time.spring.toNat → ∃ t, exec .scheduledWake s = .next t ∧
        t.power.phase = .waking ∧ t.power.lastWake = 1 ∧
        t.power.wakeNeed = some (springOf s (slotStartNs s.coh.active n), 0) ∧ t = { s with power := t.power })) ∧
    (∀ need : Need, latentNeeds s = [need] → s.coh.commit = none → sourceEnabled s 1 = false → need.latent = true →
      s.power.phase = .asleep → s.power.state = .doze → wakeInstant s need.at_ ≤ s.time.spring.toNat → ∃ t, exec .scheduledWake s = .next t ∧ t.power.phase = .waking ∧ t.power.lastWake = 5 ∧
        t.power.wakeNeed = some (springOf s need.at_, need.fn) ∧ t = { s with power := t.power }) ∧
    (s.power.phase = .waking → s.supply.refPresent = true →
      exec .referenceQualified s = .next (s.onPower fun p => { p with phase := .qualified, pllsStopped := false })) ∧
    (s.supply.refPresent = false → exec .referenceQualified s = .next s) ∧
    (∀ p : Snapshot, s.power.phase = .qualified → s.power.state = .doze → s.time.snapshot = some p →
      (∀ k : Fin 16, s.timers[k].run = false) →
      let ns := elapsedNs s (s.time.spring - p.spring).toNat
      ∃ t, exec .wakeRebuild s = .next t ∧ t.power.phase = .rebuilt ∧
        t.power.state = (if autoLevel s.coh.active = 0 then .run else .slotIdle) ∧
        t.time.seconds = BitVec.ofNat 64 ((p.netNs + ns + 1667) / 1000000000) ∧
        t.time.nanos = BitVec.ofNat 32 ((p.netNs + ns + 1667) % 1000000000) ∧
        t.time.fabric = p.fabric + BitVec.ofNat 64 (ns * 2 / 5 + 667) ∧ t.time.snapshot = none ∧
        t.time.spring = s.time.spring ∧ (∀ k : Fin 16, t.timers[k] = { s.timers[k] with
          phase := entryPhase (timerPart s.coh.active k) p s.timers[k], phaseFabric := t.time.fabric, phaseSpring := s.time.spring })) ∧
    (s.power.phase = .rebuilt → s.power.state ≠ .hibernate → s.time.asn = none → s.power.wakeNeed = none → s.power.held = [] → s.power.hostHeld = [] →
      railsBack s = true → s.power.lastWake = 2 → ∃ u, exec .wakeComplete s =
          .next (raiseEvent 208 powerFn (2 + min (springUs (s.time.spring - s.power.wakeAt)) 0xFFFFFFFF * 2 ^ 8)
            (feedEvp (placeAll u))) ∧
        u.power.phase = .awake ∧ u.power.lastExitUs = BitVec.ofNat 16 (min (springUs (s.time.spring - s.power.wakeAt)) 0xFFFF) ∧
        u.safety = { s.safety with tokenAt := s.time.fabric } ∧
        u = { s with power := u.power, safety := u.safety, radios := u.radios })

/-- A reading of a removed rail, or at or above the warning level, changes nothing. The first warning, of a rail or of
SUPPLY_WARN_N, starts the dip: the frames on air are cut and reported with their number, transmission is inhibited,
cause and both times are kept, the warning is counted, and EV_SUPPLY_WARN and fault source 168 are raised with cause
and target; later warnings only keep their reading. DIP_RECOVERY with a rail still low, by the voltages now
measured, changes nothing; with every rail recovered it clears dip, warnings and minima, lifts the inhibit at once
where no ASN is established and at the next slot otherwise, adds the duration to its counter, and reports the lowest
rail, its minimum and the duration. -/
def Obligations.WarningsStartDipsAndRecoveryEndsThem : Prop :=
  ∀ s : State,
    let dip := fun (cause : Nat) (u : State) =>
      let n := onAirCount u 0 + onAirCount u 1 + onAirCount u 2
      let v := ([0, 1, 2] : List (Fin 3)).foldl (fun u r => cutRadio r rcTxAbortSupply .requeue u) u
      let v := if n = 0 then v else raiseEvent 96 sluiceFn (n + flag (cause == 15) * 2 ^ 16) (v.countN sluiceFn 17 n)
      let v := v.onSluice fun x => { x with inhibit := true, recovered := false }
      let v := v.onSupply fun x => { x with dip := some ⟨cause, v.time.fabric, v.time.spring⟩ }
      v.onThermal fun t => { t with span := { t.span with dip := true } }
    (∀ (rail : Fin 10) (mv : Nat),
      let low := s.onRail rail fun x => { x with present := mv, warn := true, minimum := some (min mv (x.minimum.getD mv)) }
      ((railRemoved s rail.val = true ∨ 93 * levelTarget s rail ≤ 100 * mv) → exec (.railWarningCrossing rail mv) s = .next s) ∧
      (railRemoved s rail.val = false → 100 * mv < 93 * levelTarget s rail →
        (s.supply.dip.isSome = true → exec (.railWarningCrossing rail mv) s = .next low) ∧
        (s.supply.dip = none →
          let p := rail.val + railTarget (dip rail.val low) rail * 2 ^ 16
          exec (.railWarningCrossing rail mv) s =
            .next (raiseSource 168 supplyFn p (raiseEvent 193 supplyFn p (countSupply 1 (dip rail.val low))))))) ∧
    (s.supply.dip = none → exec .supplyWarnNAssert s = .next (raiseSource 168 supplyFn 15 (raiseEvent 193 supplyFn 15
      (countSupply 2 (dip 15 (s.onSupply fun x => { x with warnBall := true })))))) ∧
    (s.supply.dip.isSome = true → exec .supplyWarnNAssert s = .next (s.onSupply fun x => { x with warnBall := true })) ∧
    (∀ mv minima : List Nat,
      let now := s.onSupply fun x => { x with rails := Vector.ofFn fun r : Fin 10 =>
        { x.rails[r] with present := mv.getD r.val (x.rails[r]).present
                          minimum := (x.rails[r]).minimum.map fun v => min v (minima.getD r.val v) } }
      (s.supply.dip = none → exec (.dipRecovery mv minima) s = .next s) ∧
      (∀ d, s.supply.dip = some d → (∃ r : Fin 10, railRemoved s r.val = false ∧
          100 * mv.getD r.val (s.supply.rails[r]).present < 94 * levelTarget now r) → exec (.dipRecovery mv minima) s = .next s) ∧
      (∀ d, s.supply.dip = some d → (∀ r : Fin 10, railRemoved s r.val = true ∨
          94 * levelTarget now r ≤ 100 * mv.getD r.val (s.supply.rails[r]).present) →
        let e := (lowestRail now).getD (15, 0)
        let us := dipUs s d
        exec (.dipRecovery mv minima) s = .next (raiseEvent 192 supplyFn (e.1 + e.2 * 2 ^ 16 + min us 0xFFFFFFFF * 2 ^ 32)
          ((((now.onSupply fun x => { x with
              dip := none, warnBall := false, rails := x.rails.map fun y => { y with warn := false, minimum := none } }).onThermal fun t =>
            { t with span := { t.span with dipMin := (lowestRail now).map fun e => (e.2, e.1) } }).onSluice fun x =>
              if s.time.asn = none then { x with inhibit := false, recovered := false } else { x with recovered := true }).countN
            supplyFn 3 us))))

/-- A reading at or below the high level, or at or above the reset level, and a spread up to 220 mV change nothing. A
rail above its high level raises fault source 170, a spread above 220 mV source 171. Below its reset level
VDD_SPRING resets the whole device as a power-on does; another rail raises source 169 in service, fails a warm start
in progress (at a step and for a reason that the spec leaves open, log entry 84), and is awaited by a cold start. -/
def Obligations.LevelCrossingsRaiseTheirFaults : Prop :=
  ∀ s : State,
    (∀ (rail : Fin 10) (mv : Nat),
      let low := s.onRail rail fun x => { x with present := mv }
      ((railRemoved s rail.val = true ∨ 100 * mv ≤ 110 * levelTarget s rail) → exec (.railOverCrossing rail mv) s = .next s) ∧
      (railRemoved s rail.val = false → 110 * levelTarget s rail < 100 * mv → exec (.railOverCrossing rail mv) s =
        .next (raiseSource 170 supplyFn (rail.val + mv * 2 ^ 16) low)) ∧
      ((railRemoved s rail.val = true ∨ 88 * levelTarget s rail ≤ 100 * mv) → exec (.railResetCrossing rail mv) s = .next s) ∧
      (railRemoved s rail.val = false → 100 * mv < 88 * levelTarget s rail →
        (rail = 2 → exec (.railResetCrossing rail mv) s = .next (porReset s.boot.springExt s)) ∧
        (rail ≠ 2 → (∀ k hib, s.boot.phase ≠ .due k hib) → exec (.railResetCrossing rail mv) s =
          .next (raiseSource 169 supplyFn (rail.val + mv * 2 ^ 16) low)) ∧
        (∀ hib, rail ≠ 2 → s.boot.phase = .due .warm hib → ∃ step reason u, exec (.railResetCrossing rail mv) s =
          .next (failStart .warm step reason false u) ∧ 1 ≤ step ∧ step ≤ 9 ∧ u = { low with freeCount := u.freeCount }) ∧
        (∀ hib, rail ≠ 2 → s.boot.phase = .due .cold hib → exec (.railResetCrossing rail mv) s = .next low))) ∧
    (∀ mv : Nat, (mv ≤ 220 → exec (.domainSpread mv) s = .next s) ∧
      (220 < mv → exec (.domainSpread mv) s = .next (raiseSource 171 supplyFn mv s)))

/-- An AVS measurement that asks for the present voltage changes nothing but its count; one far below lowers the target
by 5 mV. A PMIC write acknowledged on its repeat is settled, and 200 µs after the change a rail within 2 % ends its
settling, while one outside raises fault source 178. OPP_EVALUATION that selects the present point at its frequency
only clears its load counts; one that asks for another begins the change, voltage first where the frequency rises.
PLL_RELOCK_DONE puts the sought point in force. A fault of a running clock counts, is reported and raises its
source. A watchdog not serviced for its time raises source 176, fails a warm start in progress and leaves a cold
one, and WATCHDOG_SERVICE clears it. -/
def Obligations.TargetsPointsAndClocks : Prop :=
  ∀ s : State,
    (s.works supplyFn = true → s.supply.configured = true → avsEn s.coh.active = true → railRemoved s 0 = false →
      let old := (s.supply.rails[0]).target
      exec (.avsMeasurement old) s = .next (s.countN supplyFn 4 0) ∧
      (∀ demand, demand + 5 ≤ old → avsMin s.coh.active + 5 ≤ old →
        exec (.avsMeasurement demand) s = .next (setTarget 0 (old - 5) (s.countN supplyFn 4 1)))) ∧
    (∀ (rail : Fin 10) (old : Nat) (at_ : BitVec 64) (spring : BitVec 48), mget s.supply.settling rail.val = some ⟨old, at_, spring⟩ → s.power.phase = .awake →
      exec (.pmicWriteRetry rail true) s =
        .next ((countSupply 6 s).onSupply fun x => { x with pmic := mdel x.pmic rail.val }) ∧
      (mgetD s.supply.pmic rail.val 0 < 2 → exec (.pmicWriteRetry rail false) s = .next ((countSupply 6 s).onSupply fun x =>
        { x with pmic := mset x.pmic rail.val (mgetD s.supply.pmic rail.val 0 + 1) })) ∧
      (2 ≤ mgetD s.supply.pmic rail.val 0 → ∃ u, exec (.pmicWriteRetry rail false) s = .next (pmicFault rail.val 1 u) ∧
        (u.supply.rails[rail]).target = old ∧ u.supply.settling = mdel s.supply.settling rail.val ∧
        u.supply.pmic = mdel s.supply.pmic rail.val) ∧
      (∀ mv : Nat,
        let t := (s.supply.rails[rail]).target
        let u := (s.onRail rail fun x => { x with present := mv }).onSupply fun x => { x with settling := mdel x.settling rail.val }
        ((s.time.fabric - at_).toNat < 80000 → exec (.targetSettleTimeout rail mv) s = .next s) ∧
        (80000 ≤ (s.time.fabric - at_).toNat → 98 * t ≤ 100 * mv → 100 * mv ≤ 102 * t →
          exec (.targetSettleTimeout rail mv) s = .next u) ∧
        (80000 ≤ (s.time.fabric - at_).toNat → (100 * mv < 98 * t ∨ 102 * t < 100 * mv) → exec (.targetSettleTimeout rail mv) s = .next (pmicFault rail.val 2 u)))) ∧
    (s.works schedFn = true → s.asleep = false →
      let cores := ((List.range 8).filter fun c => s.enabled (coreFn c)).length
      let i := oppLimited s (oppSelected s.coh.active s.supply.opp s.cluster.evalBusy (s.cluster.evalClock * cores))
      let u := s.onCluster fun x => { x with evalBusy := 0, evalClock := 0 }
      (i = s.supply.opp → oppHolds i s = true → exec .oppEvaluation s = .next u) ∧
      ((i ≠ s.supply.opp ∨ oppHolds i s = false) → s.supply.oppNext = none → anyWarn s = false → ∃ t, exec .oppEvaluation s = .next t ∧
        (∃ at_, t.supply.oppNext = some ⟨i, at_⟩) ∧ t.supply.opp = s.supply.opp ∧
        (s.supply.mhz < oppMhz s.coh.active i → (t.supply.rails[1]).target = oppMv s.coh.active i) ∧
        (oppMhz s.coh.active i ≤ s.supply.mhz → t.supply.rails = s.supply.rails) ∧ t = { u with supply := t.supply })) ∧
    (∀ c, s.supply.oppNext = some c → s.relocking = false → exec .pllRelockDone s = .next s) ∧
    (∀ c, s.supply.oppNext = some c → s.relocking = true → ∃ t, exec .pllRelockDone s = .next t ∧ t.supply.opp = c.idx ∧
      t.supply.mhz = oppMhz s.coh.active c.idx ∧
      t.supply.oppNext = none ∧ (t.supply.rails[1]).target = oppMv s.coh.active c.idx) ∧
    (∀ (clock : Nat) (frequency : Bool), clockStopped s clock = true → exec (.clockMonitorFault clock frequency) s = .next s) ∧
    (∀ (clock : Nat) (frequency : Bool), clockStopped s clock = false → 2 ≤ clock → clock ≤ 9 → clock ≠ 6 →
      let p := clock + flag frequency * 2 ^ 8
      exec (.clockMonitorFault clock frequency) s = .next (raiseSource 173 supplyFn p (raiseEvent 194 supplyFn p
        ((s.onSupply fun x => { x with pllFaults := clock :: x.pllFaults.erase clock }).count supplyFn 7)))) ∧
    (clockStopped s 10 = false → exec (.clockMonitorFault 10 false) s = .next (raiseSource 175 supplyFn 10 (raiseEvent 194 supplyFn 10
        ((s.onSupply fun x => { x with springRuns := false }).count supplyFn 7)))) ∧
    ((s.asleep = true ∨ s.supply.watchdog < watchdogCycles) → exec .cpWatchdog s = .next s) ∧
    (s.asleep = false → watchdogCycles ≤ s.supply.watchdog →
      let u := countSupply 10 (s.onSupply fun x => { x with watchdog := 0 })
      ((∀ k hib, s.boot.phase ≠ .due k hib) → exec .cpWatchdog s = .next (raiseSource 176 supplyFn 0 u)) ∧
      (∀ hib, s.boot.phase = .due .cold hib → exec .cpWatchdog s = .next u) ∧
      (∀ hib, s.boot.phase = .due .warm hib → ∃ step reason v, exec .cpWatchdog s = .next (failStart .warm step reason false v) ∧
        1 ≤ step ∧ step ≤ 9 ∧ v = { u with freeCount := v.freeCount })) ∧
    exec .watchdogService s = .next (s.onSupply fun x => { x with watchdog := 0 })

/-- POR leaves every function at its reset state with flash, fuses and the PERST level kept, a cold start due and the
queue of commands untouched. RESET_N makes a cold start due with READY clear, keeps the Spring counter and the
images, clears the failure counts and counts itself. PCIE_PERST_N low resets the mailboxes, drops what they owe,
makes their long commands end without an event and closes the debug window; its release returns the registers of
BAR0 to their reset values and keeps the ring memory. A taken SUPPLY_CONFIG whose fields pass stages its body;
DEVICE_RESTART in its ranges commands the start, and in a dip answers RC_SUPPLY_LOW. -/
def Obligations.ResetsAndTheirCommands : Prop :=
  (∀ (s : State) (falling springExt : Bool), ∃ t, exec (.por falling springExt) s = .next t ∧
    t.pending = s.pending ∧ t.boot.phase = Boot.reset.phase ∧ t.boot.ready = false ∧ t.boot.warmFails = 0 ∧ t.boot.coldFails = 0 ∧
    t.boot.springExt = (if falling = true then s.boot.springExt else springExt) ∧ t.boot.fuses = s.boot.fuses ∧
    t.boot.slot0 = s.boot.slot0 ∧ t.boot.slot1 = s.boot.slot1 ∧ t.boot.perstLow = s.boot.perstLow ∧ t.coh = Coherence.reset ∧
    t.safety = Safety.reset ∧ t.time = Time.reset ∧ t.power = Power.reset ∧ t.supply = Supply.reset ∧ t.radios = Radios.reset ∧
    t.link = State.reset.link ∧ t.rx = State.reset.rx ∧ t.sluice = Sluice.reset ∧ t.router = Router.reset ∧
    t.timers = State.reset.timers ∧ t.cluster = State.reset.cluster ∧ t.counters = [] ∧ t.mem.record = s.mem.record ∧
    t.mem.phys = [] ∧ t.kci = { Kci.reset with hostMem := s.kci.hostMem } ∧ t.thermal.stored = s.thermal.stored) ∧
  (∀ s : State, ∃ t, exec .externalReset s = .next t ∧ t.boot.phase = .due .cold false ∧ t.boot.ready = false ∧
    t.boot.warmFails = 0 ∧ t.boot.coldFails = 0 ∧ t.boot.padHold = true ∧ t.boot.slot0 = s.boot.slot0 ∧ t.boot.slot1 = s.boot.slot1 ∧
    t.time.spring = s.time.spring ∧ t.coh.active = [] ∧ t.coh.generation = 0 ∧ t.safety.s4Held = s.safety.s4Held ∧
    t.mem.phys = [] ∧ t.pending = s.pending ∧ t.kci.mbx = Kci.reset.mbx ∧ t.sluice = Sluice.reset ∧ t.router = Router.reset) ∧
  (∀ s : State,
    (s.boot.perstLow = true → exec .pciePerstNAssert s = .next s) ∧
    (s.boot.perstLow = false → s.power.phase = .awake → exec .pciePerstNAssert s =
      .next (((s.onBoot fun b => { b with perstLow := true }).count supplyFn 9).onKci fun k =>
        { k with mbx := Vector.replicate 4 Mbx.reset, executing := none, dbgOpen := false
                 longs := k.longs.map fun l => { l with quiet := true } })) ∧
    (s.boot.perstLow = false → exec .pciePerstNRelease s = .next s) ∧
    (s.boot.perstLow = true → s.power.state ≠ .hibernate → ∃ t, exec .pciePerstNRelease s = .next t ∧ t.boot.perstLow = false ∧
      t.kci.bar0 = s.kci.bar0 ∧ t.kci.bar2 = s.kci.bar2 ∧ t.kci.hostMem = s.kci.hostMem ∧ t.kci.intEnable = Kci.reset.intEnable ∧
      t.kci.intPending = Kci.reset.intPending ∧ t.kci.evtHead = Kci.reset.evtHead ∧ t.kci.executing = none ∧
      t = { s with kci := t.kci, boot := t.boot })) ∧
  (∀ (s : State) (m : Fin 4) (req : Req) (buf : Bytes),
    let h := takeReq m req s
    let body := fullBody req buf
    (Taken s 0x1001 m req → u8 body 0 ≤ 1 → 1 ≤ u8 body 1 → u8 body 1 ≤ 8 → 650 ≤ u16 body 2 → u16 body 2 ≤ 850 →
      650 ≤ u16 body 4 → u16 body 4 ≤ 850 → 550 ≤ u16 body 6 → u16 body 6 ≤ 800 → 500 ≤ u16 body 8 → u16 body 8 ≤ 50000 →
      u16 body 10 = 0 → checkFields body (oppFields (u8 body 1)) = none → checkFields body (pmicFields body) = none →
      u32 body 124 = 0 → exec (.supplyConfig buf) s = .next (respond m req rcOk 0 [] (h.stage req.fn 0x1001 0 0 body))) ∧
    (Taken s 0x1002 m req → u8 body 0 ≤ 1 → field body 1 3 = 0 →
      (s.supply.dip.isSome = true → exec (.deviceRestart buf) s = .next (respond m req rcSupplyLow 0 [] h)) ∧
      (s.supply.dip = none → exec (.deviceRestart buf) s = .next (respond m req rcOk 0 [] (h.onBoot fun b =>
        { b with phase := .commanded (if u8 body 0 = 1 then .cold else .warm) })))))

/-- COLD_START and WARM_START do nothing while their start is not due or a rail is low, COLD_START also while RESET_N is
low. A due cold start in test mode goes to the factory test. One whose lock-step, monitor, SRAM and DRAM tests pass,
whose image checks and which nothing ends sets READY at step 0x0A with the pads held, generation 0 and the functions
enabled that R458 names; so does a due warm start, which from HIBERNATE also needs its Backwater check, checksums
included, and is said here for no raise held. One whose lock-step test fails counts and notes step and reason, and
the third makes SAFE_HOLD. START_TIMEOUT fails the start in the same way and START_SUCCESS ends the proving time
once 10 s of READY have passed. -/
def Obligations.StartsReachReadyOrFail : Prop :=
  (∀ (s : State) (f : StartFacts),
    ((startDue .cold s = false ∨ railsUp .cold s f = false ∨ f.resetN = false) → exec (.coldStart f) s = .next s) ∧
    ((startDue .warm s = false ∨ railsUp .warm s f = false) → exec (.warmStart f) s = .next s) ∧
    (startDue .cold s = true → railsUp .cold s f = true → f.resetN = true →
      let u := loadFuses f ((resetDevice .cold false s).onBoot fun b =>
        { b with hostSel := f.hostSel, refSel := f.refSel, testMode := f.testMode })
      (f.testMode = true → ∃ t, exec (.coldStart f) s = .next t ∧ t.boot.phase = .factoryTest ∧ t.boot.ready = false) ∧
      (f.testMode = false → s.safety.s4Held = false → f.lockstepPasses = false →
        exec (.coldStart f) s = .next (failStart .cold 1 rcBistFail false u)) ∧
      (∀ i, f.testMode = false → s.safety.s4Held = false → f.lockstepPasses = true → f.monitorsPass = true → f.sramPasses = true →
        f.dramPasses = true → (f.density = 4 ∨ f.density = 8 ∨ f.density = 16) → (f.ranks = 1 ∨ f.ranks = 2) → f.endedAt = none → (∀ r ∈ f.results, r.good = true) → f.reactionsPass = true → f.stressPasses = true → s.thermal.stored ≠ none →
        u.boot.select = .inl i →
        ∃ t, exec (.coldStart f) s = .next t ∧ t.boot.ready = true ∧ t.boot.step = 0x0A ∧ t.boot.phase = .proving .cold ∧
          t.boot.imageSlot = i ∧ t.boot.padHold = true ∧ t.boot.readyAt = s.time.spring ∧ t.coh.generation = 0 ∧
          t.coh.staged = t.coh.active ∧ (∀ fn ∈ [0x0900, 0x0910, 0x0911, 0x0D00, 0x0E00, 0x1000], t.enabled fn = true) ∧
          t.pending = s.pending)) ∧
    (startDue .warm s = true → railsUp .warm s f = true →
      let u := loadFuses { f with flash := none } (resetDevice .warm (fromHibernate s) s)
      (f.lockstepPasses = false → exec (.warmStart f) s = .next (failStart .warm 1 rcBistFail false u)) ∧
      (∀ i, f.lockstepPasses = true → f.monitorsPass = true → f.dramPasses = true → f.endedAt = none →
        (fromHibernate s = true → f.backwaterPasses = true ∧ s.power.sealed = some (backwaterSums s) ∧ s.power.held = []) → f.reactionsPass = true → u.boot.select = .inl i →
        ∃ t, exec (.warmStart f) s = .next t ∧ t.boot.ready = true ∧ t.boot.step = 0x0A ∧ t.boot.phase = .proving .warm ∧
          t.boot.readyAt = t.time.spring ∧ t.power.hibInd = false ∧ t.supply.watchdog = 0 ∧
          t.safety.tokenAt = t.time.fabric ∧ t.mem.scrubStart = t.time.fabric))) ∧
  (∀ (s : State) (step reason : Nat), step < 5 →
    (∀ n : BitVec 4, s.boot.coldFails = n → n.toNat < 2 → ∃ t, failStart .cold step reason false s = t ∧
      t.boot.coldFails = n + 1 ∧ t.boot.reasonStep = BitVec.ofNat 16 step ∧ t.boot.reasonCode = BitVec.ofNat 16 reason ∧
      t.boot.phase = .due .cold false ∧ t.boot.ready = false) ∧
    (∀ n : BitVec 4, s.boot.coldFails = n → 2 ≤ n.toNat → ∃ t, failStart .cold step reason false s = t ∧
      t.boot.phase = .safeHold ∧ t.boot.ready = true ∧ t.boot.padHold = true)) ∧
  (∀ (s : State) (step : Nat),
    (∀ k hib, s.boot.phase = .due k hib →
      exec (.startTimeout step) s = .next (failStart k step rcStartTimeout false s) ∧ exec .startSuccess s = .next s) ∧
    (s.boot.phase = .inService → exec (.startTimeout step) s = .next s ∧ exec .startSuccess s = .next s) ∧
    (∀ k, s.boot.phase = .proving k →
      (327680 ≤ (s.time.spring - s.boot.readyAt).toNat → exec .startSuccess s =
        .next (s.onBoot fun b => { b with phase := .inService, warmFails := 0, coldFails := 0 })) ∧
      ((s.time.spring - s.boot.readyAt).toNat < 327680 → exec .startSuccess s = .next s)))

/-- A taken IMAGE_WRITE in its ranges while the running image is not on trial answers RC_ACCEPTED_PENDING; on trial it
answers RC_IMAGE_UNCONFIRMED. IMAGE_WRITE_DONE of a plain write clears bits of the other slot only: each byte
becomes the old one and the new one, and the command ends with RC_OK. IMAGE_CONFIRM of a running image on trial
confirms it and raises the security floor; otherwise it only answers. IMAGE_STATUS answers with both slots and the
floor. PAD_HOLD_RELEASE clears the hold and raises EV_BOOT_STATUS, and without a hold only answers. -/
def Obligations.ImagesAndPadHold : Prop :=
  (∀ (s : State) (m : Fin 4) (req : Req) (buf : Bytes),
    let h := takeReq m req s
    let body := fullBody req buf
    (Taken s 0x1003 m req →
      (s.boot.padHold = false → exec (.padHoldRelease buf) s = .next (respond m req rcOk 0 [] h)) ∧
      (s.boot.padHold = true → exec (.padHoldRelease buf) s =
        .next (respond m req rcOk 0 [] (bootEvent (h.onBoot fun b => { b with padHold := false }))))) ∧
    (Taken s 0x1004 m req → u8 body 0 ≤ 3 → field body 1 3 = 0 → u32 body 4 % 8 = 0 → u32 body 4 + (body.length - 8) ≤ 0x400000 →
      (s.boot.running.trial = true → exec (.imageWrite buf) s = .next (respond m req rcImageUnconfirmed 0 [] h)) ∧
      (s.boot.running.trial = false → exec (.imageWrite buf) s = .next (respond m req rcAcceptedPending 0 []
        (h.onKci (addLong m req body))))) ∧
    (Taken s 0x1005 m req →
      (s.boot.running.trial = false → exec (.imageConfirm buf) s = .next (respond m req rcOk 0 [] h)) ∧
      (s.boot.running.trial = true → exec (.imageConfirm buf) s = .next (respond m req rcOk 0 [] (h.onBoot fun b =>
        { b.setSlot b.imageSlot b.running.confirm with
          fuses := { b.fuses with secFloor := max b.fuses.secFloor b.running.secVersion } })))) ∧
    (Taken s 0x1006 m req →
      let one (x : ImageSlot) : Bytes := leBytes 4 x.stateWord ++ leBytes 4 x.seq ++ leBytes 4 x.secVersion ++ x.read 24 8
      let data := one s.boot.slot0 ++ one s.boot.slot1 ++ leBytes 4 s.boot.fuses.secFloor
      ResponseFits req [] data → ∃ t, exec (.imageStatus buf) s = .next t ∧ AnswersOk m req [] data h t)) ∧
  (∀ s : State, (∀ l ∈ s.kci.longs, l.req.opcode ≠ 0x1004) → exec .imageWriteDone s = .next s) ∧
  (∀ (s : State) (l : LongCmd) (rest : List LongCmd), s.kci.longs = l :: rest → l.req.opcode = 0x1004 → u8 l.buf 0 = 0 →
    Memory.wf (s.boot.slot (!s.boot.imageSlot)).content = true →
    let data := l.buf.drop 8
    let at_ := u32 l.buf 4
    ∃ x u, exec .imageWriteDone s = .next (longDone l.id rcOk u) ∧ u = s.onBoot (Boot.setSlot (!s.boot.imageSlot) x) ∧
      (∀ i, i < data.length → x.read (at_ + i) 1 =
        List.zipWith (· &&& ·) ((s.boot.slot (!s.boot.imageSlot)).read (at_ + i) 1) [data.getD i 0]) ∧
      (∀ a, (a < at_ ∨ at_ + data.length ≤ a) → x.read a 1 = (s.boot.slot (!s.boot.imageSlot)).read a 1))

/-- Memory is in canonical form. For every master whose domain is on, every address and length: an allowed write away
from the tables of Backwater makes every byte of the range read as the data (unless capture streams over it) and
leaves every byte outside it; from the counter table on it leaves every byte; any allowed write changes nothing but
memory, the calibration store, counters and performance counters. An allowed read of words that are not poisoned
returns the bytes and changes no byte. A 4-byte access in a cipher page or timer is that block's, and any access in
a page that is not the master's is the page block's. Any other access is denied: it counts, raises fault source 73
with the address, and a denied read returns zero. A core that is off makes no access. -/
def Obligations.MemoryAccessReadsAndWrites : Prop :=
  ∀ (s : State) (by_ : BusMaster) (addr len : Nat), Memory.wf s.mem.phys = true →
    (coreOff s by_ = true → ∀ data, exec (.memAccess by_ addr data len) s = .next s) ∧
    (∀ d : Bytes, coreOff s by_ = false → accessAllowed s.mem by_ true addr d.length = true →
      ∃ t, exec (.memAccess by_ addr (some d) len) s = .next t ∧
        (offTables addr d.length = true → (∀ i, i < d.length → s.streams (addr + i) = false → t.byteAt (addr + i) = d.getD i 0) ∧
          (∀ a, (a < addr ∨ addr + d.length ≤ a) → t.byteAt a = s.byteAt a)) ∧
        (counterTable ≤ addr → addr + d.length ≤ tablesEnd → ∀ a, t.byteAt a = s.byteAt a) ∧
        Memory.wf t.mem.phys = true ∧
        t = { s with mem := t.mem, counters := t.counters, cluster := t.cluster,
                     radios := { s.radios with store := t.radios.store } }) ∧
    (coreOff s by_ = false → accessAllowed s.mem by_ false addr len = true → poisoned s.mem addr len = false →
      ∃ t, exec (.memAccess by_ addr none len) s = .next t ∧
        t.kci = { s.kci with readOut := leNat (s.load addr len) } ∧ (∀ a, t.byteAt a = s.byteAt a) ∧
        t = { s with kci := t.kci, mem := t.mem, counters := t.counters, cluster := t.cluster }) ∧
    (∀ v : Option (BitVec 32), coreOff s by_ = false → addr % 4 = 0 →
      let data := v.map fun v => leBytes 4 v.toNat
      (0x12000000 ≤ addr → addr < 0x12020000 → exec (.memAccess by_ addr data 4) s =
        exec (.pageAccess by_ (Fin.ofNat 32 (addr / 4096)) (addr % 4096) v) s) ∧
      (0x13000000 ≤ addr → addr < 0x13001000 → exec (.memAccess by_ addr data 4) s =
        .next (match v with
          | some v => timerWriteBy by_ (Fin.ofNat 16 (addr / 256)) (addr % 256) v s
          | none => timerReadBy by_ (Fin.ofNat 16 (addr / 256)) (addr % 256) s))) ∧
    (∀ v : Option Bytes, coreOff s by_ = false → foreignPage by_ addr s = true → exec (.memAccess by_ addr v len) s =
      exec (.pageAccess by_ (Fin.ofNat 32 (addr / 4096)) (addr % 4096) (v.map fun d => BitVec.ofNat 32 (leNat d))) s) ∧
    (∀ d : Bytes, coreOff s by_ = false → foreignPage by_ addr s = false → (inWindow addr = false ∨ d.length ≠ 4 ∨ addr % 4 ≠ 0) →
      accessAllowed s.mem by_ true addr d.length = false →
      exec (.memAccess by_ addr (some d) len) s = .next (raiseSource 73 dramFn addr (s.count dramFn 3))) ∧
    (coreOff s by_ = false → foreignPage by_ addr s = false → (inWindow addr = false ∨ len ≠ 4 ∨ addr % 4 ≠ 0) → accessAllowed s.mem by_ false addr len = false →
      exec (.memAccess by_ addr none len) s =
        .next ((raiseSource 73 dramFn addr (s.count dramFn 3)).onKci fun k => { k with readOut := 0 })) ∧
    (∀ (c : Fin 8) (fn : Nat), exec (.configWriteDenied c fn) s = .next (raiseSource 122 fn fn s))

/-- In RUN or SLOT_IDLE a scrub of a good word that is not the last advances the SRAM scrub offset by 8 and nothing
else; the last word ends the pass, restarts it and counts it. A pass older than 2 s raises source 72. A row scrubbed
without errors advances the DRAM row. A refresh due on a rank in use with postponing enabled and a recorder FIFO
holding data adds an eighth to its debt; with no FIFO holding data the payoff clears every debt. MR4_POLL stores the
refresh factor, and a drift above 50 schedules retraining. In self-refresh none of these does anything. A scheduled
retraining that is due, converges and that no command waits for clears its mark and counts; a migration whose copy
is whole and that no command awaits ends with its rank retired in the running state, in the record and in one being
written, and raises EV_DRAM_MIGRATION; a written parameter record becomes the record and ends SETTLING; a running
recorder writes its header and samples to its place in the ring and advances WRITE_SEQ; samples dropped by a full
FIFO are counted in the gap, and in an episode already reported nothing more happens. -/
def Obligations.MemoryUpkeepAndRecorder : Prop :=
  (
  ∀ s : State,
    (∀ syndrome : BitVec 8, (s.power.state = .run ∨ s.power.state = .slotIdle) →
      mgetD s.mem.poison (0x10000000 + s.mem.scrubOffset) false = false →
      (s.mem.scrubOffset + 8 < 0x1000000 → exec (.sramScrubStep 0 syndrome) s =
        .next { s with mem := { s.mem with scrubOffset := s.mem.scrubOffset + 8 } }) ∧
      (0x1000000 ≤ s.mem.scrubOffset + 8 → ∃ t, exec (.sramScrubStep 0 syndrome) s = .next t ∧
        t.mem = { s.mem with scrubOffset := 0, scrubStart := s.time.fabric } ∧ t = { s with mem := t.mem, counters := t.counters })) ∧
    ((s.power.state = .run ∨ s.power.state = .slotIdle) → 800000000 ≤ (s.time.fabric - s.mem.scrubStart).toNat → exec .sramScrubLate s = .next (raiseSource 72 dramFn 0 s)) ∧
    (0 < s.mem.ranks → s.asleep = false → s.mem.dramRow + 1 < totalRows s.mem →
      exec (.dramScrubRow []) s = .next { s with mem := { s.mem with dramRow := s.mem.dramRow + 1 } }) ∧
    (∀ ch rank : Fin 2, s.power.selfRefresh = false → rank.val < s.mem.ranks → bit (u8 (dramPart s.coh.active) 1) 0 = true →
      (∃ r : Fin 3, s.mem.recorders[r].fifo ≠ 0) → (s.channel ch).refBanks[rank] ≠ 7 →
      exec (.refreshDue ch rank) s =
        .next (s.onChannel ch fun x => { x with refBanks := x.refBanks.set rank (x.refBanks[rank] + 1) })) ∧
    (s.power.selfRefresh = false → (∀ r : Fin 3, s.mem.recorders[r].fifo = 0) → ∃ t, exec .refreshDebtPayoff s = .next t ∧
      t = { s with mem := { s.mem with channels := t.mem.channels } } ∧
      ∀ ch : Fin 2, t.mem.channels[ch] =
        { s.mem.channels[ch] with debt := Vector.replicate 2 0, refBanks := Vector.replicate 2 0 }) ∧
    (∀ (ch : Fin 2) (factor : Fin 3), s.power.selfRefresh = false → exec (.mr4Poll ch factor) s =
      .next (s.onChannel ch fun x => { x with rate := BitVec.ofNat 8 (2 ^ factor.val) })) ∧
    (∀ (ch : Fin 2) (drift : Nat),
      (s.power.selfRefresh = false → 50 < drift → (s.channel ch).retrain = false → exec (.dqsOscRead ch drift) s =
        .next (s.onChannel ch fun x => { x with retrain := true, retrainAt := s.time.fabric })) ∧
      ((drift ≤ 50 ∨ (s.channel ch).retrain = true) → exec (.dqsOscRead ch drift) s = .next s)) ∧
    (s.power.selfRefresh = true → ∀ (ch rank : Fin 2) (factor : Fin 3) (drift : Nat) (ok : Bool),
      ∀ i ∈ [Instr.refreshDue ch rank, .refreshDebtPayoff, .mr4Poll ch factor, .dqsOscRead ch drift, .dramRetrain ch ok],
        exec i s = .next s)
  ) ∧
  (
  ∀ s : State,
    (∀ ch : Fin 2, s.power.selfRefresh = false → (s.channel ch).retrain = true → (s.channel ch).retrainTags = [] → retrainDue s (s.channel ch) = true →
      exec (.dramRetrain ch true) s = .next ((s.onChannel ch fun x => { x with retrain := false }).count (channelFn ch) 6)) ∧
    (∀ (ch : Fin 2) (g : Migration), (s.channel ch).migration = some g → g.tag = none → s.works (channelFn ch) = true →
      usablePerRank s.mem.density * 1000 ≤ copiedKb s g →
      exec (.migrationComplete ch) s = .next (raiseEvent 233 dramFn (ch.val + 2 + g.cause * 2 ^ 8)
        (((s.onChannel ch fun x => { x with migration := none, ceTimes := [] }).onMem fun m =>
          { m with retired0 := m.retired0 || ch == 0, retired1 := m.retired1 || ch == 1
                   record := some (retire ch (m.record.getD (presentRecord m)))
                   recordNew := m.recordNew.map (retire ch) }).count dramFn 11))) ∧
    (∀ r : DramRecord, s.mem.recordNew = some r → keysRise s.coh.fns = true → ∃ t, exec .paramRecordDurable s = .next t ∧
      t.mem = { s.mem with record := some r, recordNew := none } ∧ (t.fnState dramFn).settling = false ∧
      t = { s with mem := t.mem, coh := { s.coh with fns := t.coh.fns } }) ∧
    (∀ (r : Fin 3) (samples : Bytes) (start asn : BitVec 64) (gen : BitVec 32) (left : Nat),
      let m := s.coh.active
      let x := s.mem.recorders[r]
      let data := samples.take 65472
      let blocks := max 1 (recorderSize m r / 65536)
      x.running = true → u8 (recorderPart m r) 2 = 0 →
      offTables (recorderBase m r + x.seq.toNat % blocks * 65536) (64 + data.length) = true →
      ∃ t, exec (.recorderBlockWritten r samples start asn gen left) s = .next t ∧
        t.mem.phys = memWrites s.mem.phys (recorderBase m r + x.seq.toNat % blocks * 65536)
          (blockHeader m r x data.length start asn gen ++ data) ∧
        t.mem.recorders[r] = { x with seq := x.seq + 1, writeSeq := x.seq + 1, gap := 0, fifo := left,
                                      overrun := x.overrun && decide (131072 ≤ left) } ∧
        (∀ q : Fin 3, q ≠ r → t.mem.recorders[q] = s.mem.recorders[q]) ∧
        t = { s with mem := t.mem, counters := t.counters }) ∧
    (∀ (r : Fin 3) (dropped : Nat), s.mem.recorders[r].running = true →
      let t := s.onRecorder r fun x => { x with fifo := 262144, gap := x.gap + dropped, overrun := true }
      (s.mem.recorders[r].overrun = true → exec (.recorderFifoFull r dropped) s = .next t) ∧
      (s.mem.recorders[r].overrun = false →
        exec (.recorderFifoFull r dropped) s = .next (raiseSource 71 dramFn r.val (raiseEvent 234 dramFn r.val t))))
  )

/-- A taken DRAM_CONFIG and RECORDER_CONFIG with every field in its range stage their body and answer RC_OK; DRAM_TRAIN
schedules retraining for this command and answers RC_ACCEPTED_PENDING; DRAM_SPARE_MIGRATE where a spare is left
starts the migration and answers RC_ACCEPTED_PENDING; RECORDER_READ within the ring answers with WRITE_SEQ and the
bytes; MEM_ERROR_LOG_READ answers with the number of errors and the log. A taken SCHED_CONFIG and THREAD_TABLE_LOAD
whose fields pass stage the body and the entries; CLUSTER_POST raises a source or adds an event; CLUSTER_MEM_WRITE
within the cluster's memory stores its data; THREAD_READ answers with the state of each thread, TRACE_READ with the
sequence number and the records, PMU_READ with the fixed counter and the eight counters; PMU_CONFIG sets the user
bit and restarts the counters that it programs. -/
def Obligations.MemoryAndClusterCommands : Prop :=
  (
  ∀ (s : State) (m : Fin 4) (req : Req) (buf : Bytes),
    let h := takeReq m req s
    let body := fullBody req buf
    (Taken s 0x0901 m req → u8 body 0 ≤ 1 → u8 body 1 ≤ 1 → 50 ≤ u16 body 2 → u16 body 2 ≤ 2000 → 1 ≤ u8 body 4 → u8 body 4 ≤ 24 →
      64 ≤ u16 body 6 → u16 body 6 ≤ 2048 → 8 ≤ u8 body 8 → u8 body 8 ≤ 16 → u8 body 9 ≤ 3 → u8 body 10 ≤ 1 → field body 11 5 = 0 →
      exec (.dramConfig buf) s = .next (respond m req rcOk 0 [] (h.stage req.fn 0x0901 0 0 body))) ∧
    (Taken s 0x0902 m req → ∃ t, exec (.dramTrain buf) s = .next t ∧
      t = respond m req rcAcceptedPending 0 [] ((h.onChannel (channelOf req.fn) fun x =>
        { x with retrain := true, retrainAt := if x.retrain = true then x.retrainAt else s.time.fabric
                 retrainTags := x.retrainTags ++ [h.kci.longNext] }).onKci (addLong m req body))) ∧
    (Taken s 0x0903 m req → canMigrate s.mem (channelOf req.fn) = true → ∃ t, exec (.dramSpareMigrate buf) s = .next t ∧
      t = respond m req rcAcceptedPending 0 [] ((startMigration (channelOf req.fn) 2 (some h.kci.longNext) h).onKci (addLong m req body))) ∧
    (Taken s 0x0904 m req → u8 body 0 ≤ 2 → 1 ≤ u8 body 1 → u8 body 1 ≤ 2 → (u8 body 1 = 1 → u8 body 3 = 0) → u8 body 2 ≤ 1 →
      field body 4 8 % 65536 = 0 → field body 12 4 % 64 = 0 → 1024 ≤ field body 12 4 → field body 12 4 ≤ 0xFFFFFFFF →
      exec (.recorderConfig buf) s = .next (respond m req rcOk 0 [] (h.stage req.fn 0x0904 (u8 body 0) 0 body))) ∧
    (Taken s 0x0905 m req → field body 1 3 = 0 → u8 body 0 < 3 → u32 body 4 + u32 body 8 ≤ recorderSize s.coh.active (u8 body 0) →
      u32 body 8 ≤ (if req.indirect = true then 0x100000 else 4048) →
      let w := (s.mem.recorders[Fin.ofNat 3 (u8 body 0)]).writeSeq.toNat
      let data := s.load (recorderBase s.coh.active (u8 body 0) + u32 body 4) (u32 body 8)
      ResponseFits req (leBytes 8 w ++ leBytes 8 w) data →
      ∃ t, exec (.recorderRead buf) s = .next t ∧ AnswersOk m req (leBytes 8 w ++ leBytes 8 w) data h t) ∧
    (Taken s 0x0906 m req → ResponseFits req (leBytes 4 s.mem.errCount.toNat) (slice s.mem.errLog.flatten 0 512) →
      ∃ t, exec (.memErrorLogRead buf) s = .next t ∧
        AnswersOk m req (leBytes 4 s.mem.errCount.toNat) (slice s.mem.errLog.flatten 0 512) h t)
  ) ∧
  (
  ∀ (s : State) (m : Fin 4) (req : Req) (buf : Bytes),
    let h := takeReq m req s
    let body := fullBody req buf
    (Taken s 0x0B01 m req → schedConfigCheck body = none → u8 body 1 ≤ 1 → 50 ≤ u8 body 5 → u8 body 5 ≤ 100 → u8 body 6 ≤ 90 →
      u8 body 7 ≤ 2 → (u16 body 8 = 0 ∨ (100 ≤ u16 body 8 ∧ u16 body 8 ≤ 50000)) → u16 body 10 = 0 →
      exec (.schedConfig buf) s = .next (respond m req rcOk 0 [] (h.stage req.fn 0x0B01 0 0 body))) ∧
    (Taken s 0x0B02 m req →
      let es := runEntries 8 32 (u16 body 2) body
      u32 body 4 = 0 → 1 ≤ u16 body 2 → u16 body 0 + u16 body 2 ≤ 1024 → (req.indirect = true ∨ u16 body 2 ≤ 126) →
      (∀ e ∈ es, u8 e 24 ≤ 63 ∧ u8 e 26 < 16 ∧ field e 27 5 = 0) →
      exec (.threadTableLoad buf) s =
        .next (respond m req rcOk 0 [] (stageRun 0x0B00 0x0B02 0 (u16 body 0) (es.map threadEntryForm) h))) ∧
    (Taken s 0x0B03 m req → s.enabled schedFn = true → u16 body 2 = 0 →
      (u8 body 0 = 0 → u8 body 1 < 8 → u64 body 4 = 0 →
        exec (.clusterPost buf) s = .next (respond m req rcOk 0 [] (raiseSched (48 + u8 body 1) h))) ∧
      (u8 body 0 = 1 → u8 body 1 < 64 →
        (16384 ≤ eventsQueued s → exec (.clusterPost buf) s = .next (respond m req rcQueueFull 0 [] h)) ∧
        (eventsQueued s < 16384 → exec (.clusterPost buf) s = .next (respond m req rcOk 0 [] (feedEvp (h.onCluster fun x =>
          { x with queues := mset x.queues (u8 body 1) (mgetD x.queues (u8 body 1) [] ++ [BitVec.ofNat 64 (u64 body 4)]) })))))) ∧
    (Taken s 0x0B04 m req →
      let a := u64 body 0
      let data := body.drop 8
      (inCluster s.mem a data.length = true → exec (.clusterMemWrite buf) s = .next (respond m req rcOk 0 [] (h.store a data))) ∧
      (inCluster s.mem a data.length = false → exec (.clusterMemWrite buf) s = .next (respond m req rcFieldRange 0 [] h))) ∧
    (Taken s 0x0B05 m req → 1 ≤ u16 body 2 → u16 body 2 ≤ 253 → u16 body 0 + u16 body 2 ≤ 1024 →
      let data := (List.range (u16 body 2)).flatMap fun i => threadBytes s (u16 body 0 + i)
      ResponseFits req [] data → ∃ t, exec (.threadRead buf) s = .next t ∧ AnswersOk m req [] data h t) ∧
    (Taken s 0x0B06 m req → field body 10 6 = 0 → 1 ≤ u16 body 8 → u16 body 8 ≤ (if req.indirect = true then 4096 else 253) →
      let fixed := leBytes 8 s.cluster.traceSeq ++ zeros 8
      let data := (List.range (u16 body 8)).flatMap fun i => traceAt s (u64 body 0 + i)
      ResponseFits req fixed data → ∃ t, exec (.traceRead buf) s = .next t ∧ AnswersOk m req fixed data h t) ∧
    (∀ bank : Fin 13, u8 body 0 = bank.val →
      (Taken s 0x0B07 m req → u8 body 1 ≤ 1 → u16 body 2 = 0 → (∀ e ∈ runEntries 4 16 8 body, pmcCheck bank.val e = none) →
        (bank.val < 8 ∨ field body 68 64 = 0) →
        let b := s.cluster.banks[bank]
        let fresh := b.counters.mapIdx fun i p => pmcProgram ((runEntries 4 16 8 body).getD i []) p
        let set_ : Bank := { b with user := bit (u8 body 1) 0, counters := fresh }
        exec (.pmuConfig buf) s = .next (respond m req rcOk 0 [] (h.onCluster fun x =>
          { x with banks := x.banks.set bank set_ }))) ∧
      (Taken s 0x0B08 m req → field body 1 3 = 0 →
        let data := leBytes 8 (fixedCounter s bank) ++
          (s.cluster.banks[bank].counters.toList.flatMap fun p => leBytes 8 p.value.toNat)
        exec (.pmuRead buf) s = .next (respond m req rcOk 0 data h)))
  )

/-- On a core without a context no operation does anything. For a running thread: NOP answers RC_OK; WAIT with something
pending answers at once and otherwise frees the core; POST counts at a thread that can take it and wakes it where it
waits, else RC_THREAD_STATE; YIELD gives the core to an equal READY thread that may run on it, and without one only
answers; EXIT stops the thread; START starts a dormant or faulted thread and in user privilege is a privilege
exception; RAISE raises sources 56 to 63; SET_PRIORITY changes the priority and gives way to a READY thread that is
then more urgent; NOTIFY raises its event. An EVP context that writes a thread operation, and a thread that writes
an EVP one, gets RC_CORE_MODE. -/
def Obligations.ThreadOperations : Prop :=
  ∀ (s : State) (c : Fin 8),
    (schedCtx s c = none → ∀ op ∈ [Instr.schNop c, .wait c, .post c, .yield c, .exit c, .start c none, .raise c, .flowEnter c,
        .flowRelease c, .flowDrop c, .takeEvent c, .putEvent c, .setPriority c none, .notify c, .endEvent c],
      exec op s = .next s) ∧
    (∀ k, schedCtx s c = some (.core k) → ∀ op ∈ [Instr.wait c, .yield c, .exit c, .flowRelease c, .setPriority c none],
      exec op s = .next (setResult (.core k) rcCoreMode s)) ∧
    (∀ t, schedCtx s c = some (.thread t) →
      let r := (s.thread t).regs
      let ok := setResult (.thread t) rcOk s
      let v := r.arg0.toNat
      exec (.schNop c) s = .next ok ∧
      (∀ op ∈ [Instr.takeEvent c, .endEvent c], exec op s = .next (setResult (.thread t) rcCoreMode s)) ∧
      (((s.thread t).wake ≠ 0 ∨ (s.thread t).posts ≠ 0) → exec (.wait c) s = .next ok) ∧
      ((s.thread t).wake = 0 → (s.thread t).posts = 0 → exec (.wait c) s =
        .next (freeCore c ((traceThread 3 c.val t 0xFF 0xFFFFFFFF s).onThread t fun y =>
          { y with status := .waiting, waits := .wait v, since := s.time.fabric }))) ∧
      ((1024 ≤ v ∨ noPost (s.thread v).status = true) → exec (.post c) s = .next (setResult (.thread t) rcThreadState s)) ∧
      (v < 1024 → noPost (s.thread v).status = false →
        let u := ok.onThread v fun x => { x with posts := if x.posts = 0xFFFFFFFF then x.posts else x.posts + 1 }
        ((∀ n, (u.thread v).waits ≠ .wait n) → exec (.post c) s = .next u) ∧
        (∀ n, (u.thread v).waits = .wait n → exec (.post c) s = .next (wakeThread v 64 rcOk u))) ∧
      ((∀ u ∈ s.cluster.ready, (ok.thread u).priority = (ok.thread t).priority → threadAffinity s.coh.active u c = false) →
        exec (.yield c) s = .next ok) ∧
      (∀ u ∈ s.cluster.ready, (ok.thread u).priority = (ok.thread t).priority → threadAffinity s.coh.active u c = true →
        exec (.yield c) s = .next (freeCore c (((traceThread 5 c.val t 0xFF 0 ok).onThread t fun x =>
          { x with status := .ready }).onCluster fun x => { x with ready := x.ready ++ [t] }))) ∧
      exec (.exit c) s = .next (stopThread t .dormant (traceThread 6 c.val t 0xFF 0 ok)) ∧
      (v < 1024 → ((s.thread v).status = .dormant ∨ (s.thread v).status = .faulted) →
        exec (.start c none) s = .next (startThread v ok)) ∧
      ((1024 ≤ v ∨ ((s.thread v).status ≠ .dormant ∧ (s.thread v).status ≠ .faulted)) →
        exec (.start c none) s = .next (setResult (.thread t) rcThreadState s)) ∧
      (∀ pc, exec (.start c (some pc)) s = .next (syncException c false pc s) ∧
        exec (.setPriority c (some pc)) s = .next (syncException c false pc s)) ∧
      (v < 8 → exec (.raise c) s = .next (raiseSched (56 + v) ok)) ∧
      (8 ≤ v → exec (.raise c) s = .next (setResult (.thread t) rcFieldRange s)) ∧
      (64 ≤ v → exec (.setPriority c none) s = .next (setResult (.thread t) rcFieldRange s)) ∧
      (v < 64 →
        let u := ok.onThread t fun x => { x with priority := BitVec.ofNat 6 v }
        (firstReady u c u.cluster.ready = none → exec (.setPriority c none) s = .next u) ∧
        (∀ n, firstReady u c u.cluster.ready = some n → exec (.setPriority c none) s = .next
          (if (u.thread n).priority.toNat < v then place t 0xFF (dispatch n c t 0xFF (preempt t c n u)) else u))) ∧
      exec (.notify c) s = .next (raiseEvent 237 schedFn (v + t * 2 ^ 32 + c.val * 2 ^ 48) ok))

/-- FLOW_ENTER by a context issues the ADMIT number as its ticket, or RC_TABLE_FULL at 65,536 unresolved tickets.
FLOW_RELEASE and FLOW_DROP of a ticket that the thread does not hold answer RC_FLOW_TICKET; a release at the gate
passes and advances it, one before its turn waits. PUT_EVENT of a queue above 63 is refused, at 16,384 queued events
answers RC_QUEUE_FULL, and otherwise adds the event at the tail. TAKE_EVENT with an event held answers
RC_EVENT_HELD, takes the head of the next queue, or waits; END_EVENT without one answers RC_NO_EVENT_HELD and with
DISCARD drops it. -/
def Obligations.FlowsAndEvents : Prop :=
  ∀ (s : State) (c : Fin 8),
    (∀ h, schedCtx s c = some h →
      let r := ctxRegs s h
      let f := r.arg0.toNat % 4096
      let q := r.arg0.toNat
      let ok := setResult h rcOk s
      (65536 ≤ (unresolved s).length → exec (.flowEnter c) s = .next (setResult h rcTableFull s)) ∧
      ((unresolved s).length < 65536 → exec (.flowEnter c) s =
        .next (setRegs h (fun x => { x with value := (s.flow f).nextTicket }) (setResult h rcOk ((s.onCluster fun x =>
          { x with
            flows := mset x.flows f { s.flow f with nextTicket := (s.flow f).nextTicket + 1 }
            tickets := x.tickets ++ [⟨f, (s.flow f).nextTicket, h, false⟩] }).count schedFn 7)))) ∧
      (heldTicket s h r = none → exec (.flowDrop c) s = .next (setResult h rcFlowTicket s)) ∧
      (∀ k, heldTicket s h r = some k → exec (.flowDrop c) s = .next (feedEvp (advance k.flow (resolve k.flow k.ticket ok)))) ∧
      (64 ≤ q → exec (.putEvent c) s = .next (setResult h rcFieldRange s)) ∧
      (q < 64 → 16384 ≤ eventsQueued s → exec (.putEvent c) s = .next (setResult h rcQueueFull s)) ∧
      (q < 64 → eventsQueued s < 16384 → exec (.putEvent c) s = .next (feedEvp (ok.onCluster fun x =>
        { x with queues := mset x.queues q (mgetD x.queues q [] ++ [r.arg2 ++ r.arg1]) })))) ∧
    (∀ t, schedCtx s c = some (.thread t) →
      (heldTicket s (.thread t) (s.thread t).regs = none →
        exec (.flowRelease c) s = .next (setResult (.thread t) rcFlowTicket s)) ∧
      (∀ k, heldTicket s (.thread t) (s.thread t).regs = some k →
        let ok := setResult (.thread t) rcOk s
        ((s.flow k.flow).gate = k.ticket → exec (.flowRelease c) s = .next (feedEvp (advance k.flow (passTicket k ok)))) ∧
        ((s.flow k.flow).gate ≠ k.ticket → exec (.flowRelease c) s =
          .next (freeCore c ((traceThread 3 c.val t 0xFF k.flow ok).onThread t fun y =>
            { y with status := .waiting, waits := .turn k.flow k.ticket.toNat }))))) ∧
    (schedCtx s c = some (.core c.val) →
      (∀ e, (s.core c).held = some e →
        exec (.takeEvent c) s = .next (setResult (.core c.val) rcEventHeld s) ∧
        (((s.core c).regs.arg0.getLsbD 0 = true ∨ e.ticket = none) →
          exec (.endEvent c) s = .next (endDiscard c (setResult (.core c.val) rcOk s)))) ∧
      ((s.core c).held = none →
        exec (.endEvent c) s = .next (setResult (.core c.val) rcNoEventHeld s) ∧
        (nextQueue s c = none → exec (.takeEvent c) s =
          .next (s.onCore c fun x => { x with waits := .take (s.core c).regs.arg0.toNat, since := s.time.fabric })) ∧
        (∀ q e es, nextQueue s c = some q → queueOf s q = e :: es → queueDiscipline s.coh.active q = 0 →
          keysRise s.cluster.queues = true → ∃ t, exec (.takeEvent c) s = .next t ∧ (t.core c).held = some ⟨q, e, none, none⟩ ∧ (t.core c).regs.result = 0 ∧
            queueOf t q = es ∧ ∀ d : Fin 8, d ≠ c → t.core d = s.core d)))

/-- SCH_WAKE_READ of a running thread returns half of its wake bits and clears that half; SCH_POSTS_READ returns and
clears the posts; without a thread both read zero. PMU_LOW_WORD_READ returns the low word and latches the high one.
A limited WAIT whose time has passed wakes with RC_WAIT_TIMEOUT. QUANTUM_EXPIRY does nothing without a quantum, a
READY thread or the time; otherwise the thread gives its core to an equal READY one and joins the tail. A core idle
for 2 µs is gated, a busy one is not. A synchronous exception faults its thread unless the thread handles it. A
working core that hangs while busy raises its source. -/
def Obligations.ReadsTimeoutsAndExceptions : Prop :=
  ∀ (s : State) (c : Fin 8),
    (∀ t, schedCtx s c = some (.thread t) →
      let w := (s.thread t).wake.toNat
      exec (.schWakeRead c false) s = .next ((s.onKci fun k => { k with readOut := w % 2 ^ 32 }).onThread t fun x =>
        { x with wake := BitVec.ofNat 64 (w / 2 ^ 32 * 2 ^ 32) }) ∧
      exec (.schWakeRead c true) s = .next ((s.onKci fun k => { k with readOut := w / 2 ^ 32 }).onThread t fun x =>
        { x with wake := BitVec.ofNat 64 (w % 2 ^ 32) }) ∧
      exec (.schPostsRead c) s = .next ((s.onKci fun k => { k with readOut := (s.thread t).posts.toNat }).onThread t fun x =>
        { x with posts := 0 })) ∧
    ((∀ t, schedCtx s c ≠ some (.thread t)) → ∀ op ∈ [Instr.schWakeRead c false, .schWakeRead c true, .schPostsRead c],
      exec op s = .next (s.onKci fun k => { k with readOut := 0 })) ∧
    (∀ (bank : Fin 13) (n : Fin 8) (pc : BitVec 64), s.asleep = false →
      let b := s.cluster.banks[bank]
      let v := b.counters[n].value.toNat
      (b.user = false → ∀ k, exec (.pmuLowWordRead c (some pc) bank k) s = .next (syncException c false pc s)) ∧
      let latched : Bank := { b with counters := b.counters.set n { b.counters[n] with latch := BitVec.ofNat 32 (v / 2 ^ 32) } }
      exec (.pmuLowWordRead c none bank n.succ) s = .next ((s.onKci fun k => { k with readOut := v % 2 ^ 32 }).onCluster fun x =>
        { x with banks := x.banks.set bank latched }) ∧
      exec (.pmuLowWordRead c none bank 0) s =
        .next ((s.onKci fun k => { k with readOut := fixedCounter s bank % 2 ^ 32 }).onCluster fun x =>
          { x with banks := x.banks.set bank { b with fixedLatch := BitVec.ofNat 32 (fixedCounter s bank / 2 ^ 32) } })) ∧
    (∀ t n, (s.thread t).waits = .wait (n + 1) → (n + 1) * 400 ≤ (s.time.fabric - (s.thread t).since).toNat →
      exec (.waitTimeout (.thread t)) s = .next (wakeThread t 65 rcWaitTimeout s)) ∧
    (∀ t, ((s.thread t).waits = .wait 0 ∨ (s.thread t).waits = .nothing ∨
        ∃ n, (s.thread t).waits = .wait (n + 1) ∧ (s.time.fabric - (s.thread t).since).toNat < (n + 1) * 400) →
      exec (.waitTimeout (.thread t)) s = .next s) ∧
    (∀ n, (s.core c).waits = .take (n + 1) → (n + 1) * 400 ≤ (s.time.fabric - (s.core c).since).toNat →
      exec (.waitTimeout (.core c)) s =
        .next (setResult (.core c.val) rcWaitTimeout (s.onCore c fun x => { x with waits := .nothing }))) ∧
    (((s.core c).thread = none ∨ quantumUs s.coh.active = 0 ∨ s.cluster.ready = [] ∨
        (s.time.fabric - (s.core c).since).toNat < quantumUs s.coh.active * 400) → exec (.quantumExpiry c) s = .next s) ∧
    (∀ t u, (s.core c).thread = some t → quantumUs s.coh.active ≠ 0 → u ∈ s.cluster.ready →
      (s.thread u).priority = (s.thread t).priority → threadAffinity s.coh.active u c = true →
      quantumUs s.coh.active * 400 ≤ (s.time.fabric - (s.core c).since).toNat →
      exec (.quantumExpiry c) s = .next (freeCore c (((traceThread 5 c.val t 66 0 (s.count schedFn 3)).onThread t fun x =>
        { x with status := .ready }).onCluster fun x => { x with ready := x.ready ++ [t] }))) ∧
    ((s.core c).thread = none → (s.core c).held = none → evpMode s.coh.active c = false →
      let idle := (s.time.fabric - (s.core c).since).toNat
      exec (.coreHang c) s = .next s ∧ (idle < 800 → exec (.coreClockGate c) s = .next s) ∧
      (800 ≤ idle → exec (.coreClockGate c) s = .next (s.onCore c fun y => { y with gated := true }))) ∧
    (((s.core c).thread ≠ none ∨ (s.core c).held ≠ none) → exec (.coreClockGate c) s = .next s ∧
      (s.works (coreFn c) = true → s.asleep = false →
        exec (.coreHang c) s = .next (raiseSource (77 + 3 * c.val) (coreFn c) 0 s))) ∧
    (∀ (bus : Bool) (pc : BitVec 64),
      ((s.works (coreFn c) = false ∨ s.asleep = true) → exec (.syncException c bus pc) s = .next s) ∧
      (∀ t, s.works (coreFn c) = true → s.asleep = false → (s.core c).thread = some t →
        let u := s.count (coreFn c) 2
        (threadToHandler s.coh.active t = true → exec (.syncException c false pc) s = .next u) ∧
        (threadToHandler s.coh.active t = false →
          exec (.syncException c false pc) s = .next (faultThread t c 1 pc u) ∧
          exec (.syncException c true pc) s = .next (faultThread t c 2 pc (pmuEventIf (fun p =>
            pmcPriv (threadUser s.coh.active t) p && p.base == 0 && p.limit == 0) (coreBank c) 0x12 1 1 (u.count (coreFn c) 3))))))

/-- FAULT_SOURCE_RAISE of a source that is not reserved, while Confluence supervises and the device is awake, counts at
its source. In an open shadow window it only counts as consequential in that reaction. At S0 or S1 with no interval
open it writes one log record and opens the interval, and changes no latch, reaction or output. At S3 with no latch
it latches its record, enters the safe state with FAULT_N asserted and SAFE_OK stopped, and asks for a warm restart.
After P and in DOZE it is held, with the instant of the raise, and wakes the device; in HIBERNATE nothing is raised.
A reserved source is never raised. -/
def Obligations.RaisesAreHandledBySeverity : Prop :=
  ∀ (s : State) (n : Fin 192) (named : Nat) (detail : BitVec 64),
    (supervises s = false → exec (.faultSourceRaise n named detail) s = .next s) ∧
    (supervises s = true → reservedSource n.val = true → exec (.faultSourceRaise n named detail) s = .next s) ∧
    (supervises s = true → reservedSource n.val = false → reactSeverity s n.val named < 3 →
      let held := s.power.held ++ [⟨n.val, named, detail, false, s.time.fabric, s.asn64, s.time.spring⟩]
      (s.power.phase = .entering → exec (.faultSourceRaise n named detail) s = .next (s.onPower fun p =>
        { p with held := held, wakePending := some (p.wakePending.getD 6) })) ∧
      (s.power.phase = .asleep → s.power.state = .doze → ∃ t, exec (.faultSourceRaise n named detail) s = .next t ∧
        t.power = { s.power with
          held := held, phase := .waking, lastWake := 6, wakeAt := s.time.spring, refEn := true, wakePending := none
          commanded := false } ∧ t = { s with power := t.power }) ∧
      (s.power.phase = .asleep → s.power.state = .hibernate → exec (.faultSourceRaise n named detail) s = .next s)) ∧
    (supervises s = true → reservedSource n.val = false → s.asleep = false → ∃ t,
      exec (.faultSourceRaise n named detail) s = .next t ∧
      mgetD t.safety.counts n.val 0 = mgetD s.safety.counts n.val 0 + 1 ∧
      (∀ k, k ≠ n.val → mgetD t.safety.counts k 0 = mgetD s.safety.counts k 0) ∧
      (∀ r, mergeInto s n.val named (severity s n.val) = some r → t.safety.logCount = s.safety.logCount ∧
        t.safety.reactions = s.safety.reactions.map (fun y => if y.recNo = r.recNo then
          { y with
            consequential := min (r.consequential + 1) 0xFFFF
            firstConseq := if r.firstConseq = 0xFFFF then n.val else r.firstConseq } else y) ∧
        t.safety.safeState = s.safety.safeState ∧ t.safety.faultN = s.safety.faultN) ∧
      (mergeInto s n.val named (severity s n.val) = none → severity s n.val ≤ 1 → mget s.safety.reports n.val = none →
        t.safety.logCount = s.safety.logCount + 1 ∧ t.safety.latch = s.safety.latch ∧ t.safety.reactions = s.safety.reactions ∧
        t.safety.safeState = s.safety.safeState ∧ t.safety.faultN = s.safety.faultN ∧ t.safety.safeOk = s.safety.safeOk ∧
        mget t.safety.reports n.val = some ⟨s.time.fabric, 0, 0, false⟩ ∧ t.coh = s.coh ∧ t.radios = s.radios ∧ t.sluice = s.sluice) ∧
      (mergeInto s n.val named (severity s n.val) = none → severity s n.val = 3 → s.safety.latch = none →
        t.safety.logCount = s.safety.logCount + 1 ∧ (∃ r, t.safety.latch = some r ∧ r.source = n.val ∧ r.severity = 3 ∧
          r.first = true ∧ r.overflow = false ∧ r.detail = detail ∧ r.fabric = s.time.fabric) ∧
        t.safety.springFirst = BitVec.ofNat 16 n.val ∧ t.safety.safeState = true ∧ t.safety.faultN = true ∧
        t.safety.safeOk = false ∧ t.safety.restartPending = !s.safety.s4Held ∧ t.coh.commit = none ∧ t.coh.resets = [] ∧
        (∀ r : Fin 3, (t.radio r).paEn = false)))

/-- After its second, a report interval that counted nothing ends, and one that counted reports and begins anew. The
window of a reaction closes with its event 50 µs after its end. A good token of the safety loop is taken, another
one only clears the mark; a late loop raises source 126. A read-back that differs for the third time in a row raises
source 123. A wrong firmware hash raises source 119. FAULT_TABLE_LOAD of entries that pass stages them;
FAULT_LOG_READ answers with latch, log and counts; FAULT_CLEAR and the raising commands are refused while a reaction
is active, and otherwise take effect. -/
def Obligations.SafetyEventsAndCommands : Prop :=
  (∀ s : State,
    (∀ n : Fin 192,
      (mget s.safety.reports n.val = none → exec (.faultReportInterval n) s = .next s) ∧
      (∀ p, mget s.safety.reports n.val = some p → (s.time.fabric - p.since).toNat < 400000000 →
        exec (.faultReportInterval n) s = .next s) ∧
      (∀ p, mget s.safety.reports n.val = some p → 400000000 ≤ (s.time.fabric - p.since).toNat → p.count = 0 →
        exec (.faultReportInterval n) s = .next (s.onSafety fun x => { x with reports := mdel x.reports n.val })) ∧
      (∀ p, mget s.safety.reports n.val = some p → 400000000 ≤ (s.time.fabric - p.since).toNat → p.count ≠ 0 →
        exec (.faultReportInterval n) s = .next (reportNote n.val (severity s n.val) p.count p.detail p.injected s))) ∧
    (∀ r, s.safety.reactions = [r] → r.ended = true → 20000 ≤ (s.time.fabric - r.endedAt).toNat → r.abandoned = false → exec (.shadowWindowClose r.recNo) s =
      .next (raiseEvent 225 safetyFn (r.source + r.severity * 2 ^ 8 + r.consequential * 2 ^ 16 + r.target * 2 ^ 32)
        (s.onSafety fun x => { x with reactions := [] }))) ∧
    (∀ no, (∀ r ∈ s.safety.reactions, r.recNo = no → r.ended = false ∨ (s.time.fabric - r.endedAt).toNat < 20000) → exec (.shadowWindowClose no) s = .next s) ∧
    ((s.safety.restartPending = false ∨ restartDue s = false) → exec .s3WarmRestart s = .next s) ∧
    (s.safety.restartPending = true → restartDue s = true → s.safety.s4Held = false → s.supply.dip = none → railsRecovered s = true → s.asleep = false →
      s.boot.phase = .inService → exec .s3WarmRestart s = .next (resetDevice .warm false s)) ∧
    (∀ (token : BitVec 32) (confirmed : Nat),
      (token = s.safety.token.rotateLeft 1 ^^^ BitVec.ofNat 32 confirmed → exec (.safetyLoopToken token confirmed) s =
        .next (s.onSafety fun x => { x with token := token, tokenGood := true, tokenAt := s.time.fabric })) ∧
      (token ≠ s.safety.token.rotateLeft 1 ^^^ BitVec.ofNat 32 confirmed → exec (.safetyLoopToken token confirmed) s =
        .next (s.onSafety fun x => { x with tokenGood := false }))) ∧
    ((s.time.fabric - s.safety.tokenAt).toNat < 800000 → exec .safetyLoopLate s = .next s) ∧
    (800000 ≤ (s.time.fabric - s.safety.tokenAt).toNat → s.asleep = false → s.boot.ready = true → supervises s = true →
      exec .safetyLoopLate s = .next (raiseSource 126 safetyFn 0 (s.onSafety fun x =>
        { x with safeOk := false, tokenGood := false, tokenAt := s.time.fabric }))) ∧
    (supervises s = true →
      (∃ t, exec (.safeOutputReadback 0 0) s = .next t ∧ t = s.onSafety fun x =>
        { x with mismatch := Vector.replicate 8 0, breach := Vector.replicate 3 0 }) ∧
      (s.safety.mismatch = Vector.replicate 8 2 → ∃ u, exec (.safeOutputReadback 1 0) s = .next (raiseSource 123 safetyFn 0 u) ∧
        u.safety.mismatch[0] = 3 ∧ u = { s with safety := u.safety }) ∧
      (s.asleep = false → exec (.fwIntegrity false) s = .next (raiseSource 119 safetyFn 0 s))) ∧
    (s.asleep = true → exec (.fwIntegrity false) s = .next s) ∧
    exec (.fwIntegrity true) s = .next s) ∧
  (∀ (s : State) (m : Fin 4) (req : Req) (buf : Bytes),
    let h := takeReq m req s
    let body := fullBody req buf
    (Taken s 0x0F01 m req →
      let es := runEntries 8 28 (u16 body 2) body
      u16 body 0 ≤ 191 → 1 ≤ u16 body 2 → u16 body 2 ≤ 144 → u32 body 4 = 0 → u16 body 0 + u16 body 2 ≤ 192 →
      (∀ i, i < u16 body 2 → faultEntryCheck (u16 body 0 + i) (slice body (8 + 28 * i) 28) = none) →
      exec (.faultTableLoad buf) s = .next (respond m req rcOk 0 [] (stageRun req.fn 0x0F01 0 (u16 body 0) es h))) ∧
    (Taken s 0x0F02 m req →
      let latch := (s.safety.latch.map recordBytes).getD (zeros 64)
      let log := (List.range 16).flatMap fun i => (s.safety.log[i]?.map fun e => recordBytes e.2).getD (zeros 64)
      let data := latch ++ leBytes 8 s.safety.logCount.toNat ++ log ++
        (List.range 192).flatMap fun n => leBytes 8 (mgetD s.safety.counts n 0)
      ResponseFits req [] data → ∃ t, exec (.faultLogRead buf) s = .next t ∧ AnswersOk m req [] data h t) ∧
    (reactionActive s = true → Taken s 0x0F03 m req →
      exec (.faultClear buf) s = .next (respond m req rcReactionActive 0 [] h)) ∧
    (reactionActive s = false → s.safety.s4Held = false →
      (Taken s 0x0F03 m req → exec (.faultClear buf) s =
        .next (respond m req rcOk 0 [] (h.onSafety fun x => { x with latch := none }))) ∧
      (Taken s 0x0F04 m req → u16 body 0 ≤ 191 → (u16 body 0 ≤ 144 ∨ 168 ≤ u16 body 0) → u16 body 2 = 0 →
        s.safety.safeState = false → exec (.faultInject buf) s = .next (respond m req rcOk 0 []
          (raiseFault (u16 body 0) (injectNamed s (u16 body 0)) (BitVec.ofNat 64 (u64 body 4)) true h))) ∧
      (Taken s 0x0F05 m req → u8 body 0 ≤ 15 → field body 1 3 = 0 → s.safety.safeState = false →
        exec (.faultRaise buf) s = .next (respond m req rcOk 0 []
          (raiseFault (129 + u8 body 0) 0 (BitVec.ofNat 64 (u64 body 4)) false (h.count safetyFn 9))))))

/-- A sample of eight equal readings between 100 and 105 °C at governor step 0 stores them, passes them to the radios,
and adds its time to its stress band, and raises nothing. In HIBERNATE a sample changes nothing. A telemetry record,
due as the Spring count begins a second and not asleep, enters the ring under the next number, beginning with the
Spring count, and opens a new span. STRESS_RECORD stores the totals. LIFE_STRESS raises source 191 when due.
TELEMETRY_READ and STRESS_READ answer with what is kept. -/
def Obligations.ThermalTelemetryAndStress : Prop :=
  (∀ s : State,
    ((s.power.state = .hibernate ∨ s.power.state = .off) → ∀ l bad, exec (.thermalSample l bad) s = .next s) ∧
    (∀ x : Int, s.power.state ≠ .hibernate → s.power.state ≠ .off → s.thermal.step = 0 → s.thermal.invalid = 0 → 800 < x → x < 840 →
      ∃ t, exec (.thermalSample (List.replicate 8 x) 0) s = .next t ∧
        t.thermal.readings = Vector.replicate 8 x ∧ t.thermal.invalid = 0 ∧ t.thermal.step = 0 ∧ t.thermal.coolMs = none ∧
        t.thermal.bandMs = s.thermal.bandMs.set 4 (s.thermal.bandMs[4] + 10) ∧ (∀ r : Fin 3, (t.radio r).temp = x) ∧
        t = { s with thermal := t.thermal, radios := t.radios }) ∧
    ((s.asleep = true ∨ s.time.spring.toNat % 32768 ≠ 0) → exec .telemetryRecord s = .next s) ∧
    (s.asleep = false → s.time.spring.toNat % 32768 = 0 → (∀ e ∈ s.thermal.ring, e.1 < s.thermal.seq) → ∃ t r, exec .telemetryRecord s = .next t ∧
      t.thermal.seq = s.thermal.seq + 1 ∧ mget t.thermal.ring s.thermal.seq = some r ∧ r.length = 64 ∧
      r.take 8 = leBytes 8 s.time.spring.toNat ∧
      t.thermal.span = { TelSpan.reset with dip := s.supply.dip.isSome } ∧
      t = { s with thermal := t.thermal, counters := (s.count supplyFn 15).counters, freeCount := s.freeCount + 1 }) ∧
    exec .stressRecord s = .next (s.onThermal fun t => { t with stored := some t.bandMs, records := t.records + 1 }) ∧
    (lifeDue s = false → exec .lifeStress s = .next s) ∧
    (lifeDue s = true → exec .lifeStress s = .next (raiseSource 191 supplyFn (lifePpm s.thermal) (s.onThermal fun t =>
      { t with lifeLimits := lifeLimits t, lifeAt := s.time.spring })))) ∧
  (∀ (s : State) (m : Fin 4) (req : Req) (buf : Bytes),
    let h := takeReq m req s
    let body := fullBody req buf
    (Taken s 0x1007 m req → 1 ≤ u16 body 8 → u16 body 8 ≤ (if req.indirect = true then 131072 else 63) → field body 10 6 = 0 →
      let fixed := leBytes 8 s.thermal.seq ++ zeros 8
      let data := (List.range (u16 body 8)).flatMap fun i => (mget s.thermal.ring (u64 body 0 + i)).getD (zeros 64)
      ResponseFits req fixed data → ∃ t, exec (.telemetryRead buf) s = .next t ∧ AnswersOk m req fixed data h t) ∧
    (Taken s 0x1008 m req →
      let data := s.thermal.bandMs.toList.flatMap (fun v => leBytes 8 (v / 1000)) ++ leBytes 4 (lifePpm s.thermal)
        ++ leBytes 4 (foldSat 32 (above100 s.thermal)) ++ leBytes 8 s.thermal.records
      ResponseFits req [] data → ∃ t, exec (.stressRead buf) s = .next t ∧ AnswersOk m req [] data h t))

/-- For a working unit with ONE_CYCLE set that may count: the tick that leaves COUNT at 0 clears RUN and sets
ONE_CYCLE_DONE, and no other tick clears RUN; while RUN is clear a tick changes nothing, so COUNT holds 0 and TICKS
holds; a write of RUN by the owner of a unit stopped at 0 sets RUN and leaves COUNT and TICKS, and the next tick
gives COUNT 1, counting up. -/
def Obligations.OneCycleUnitsStopAtZero : Prop :=
  ∀ (s : State) (t : Fin 16), s.works (timerFn t) = true → timersRun s = true →
    (timerSource (timerPart s.coh.active t) ≠ 3 ∨ s.time.asn.isSome = true) → freezeAsked s t = false →
    s.timers[t].status.getLsbD 12 = false → (timerCfg (timerPart s.coh.active t)).oneCycle = true →
    let u := s.timers[t]
    (u.run = true → ∃ s', exec (.timerTick t) s = .next s' ∧
      (s'.timers[t].count = 0 → s'.timers[t].run = false ∧ s'.timers[t].down = false ∧ s'.timers[t].status.getLsbD 10 = true) ∧
      (s'.timers[t].count ≠ 0 → s'.timers[t].run = true)) ∧
    (u.run = false → exec (.timerTick t) s = .next s) ∧
    (∀ by_ : BusMaster, coreOff s by_ = false → u.run = false → u.count = 0 → u.down = false → 1 < u.period → timerOwner s by_ t = true →
      ∃ s' s'', exec (.tmrCtrlRun by_ t true) s = .next s' ∧ s'.timers[t].run = true ∧ s'.timers[t].count = 0 ∧
        s'.timers[t].ticks = u.ticks ∧ exec (.timerTick t) s' = .next s'' ∧ s''.timers[t].count = 1 ∧ s''.timers[t].down = false ∧
        s''.timers[t].run = true ∧ s''.timers[t].ticks = u.ticks + 1)

/-- For every core and state in which the cluster is not off in a sleep: a read within the Eddy buffer and LLR store
whose words are not poisoned returns their bytes; a write there, and every read and write in Backwater, is denied. A
denied read returns zero, a denied write changes no byte, and each counts at the memory controller and raises its
fault source with the address. -/
def Obligations.CoresOnlyReadSampleMemory : Prop :=
  ∀ (s : State) (c : Fin 8) (addr len : Nat) (d : Bytes), s.asleep = false → 0 < len → d ≠ [] →
    (inSample addr len = true → poisoned s.mem addr len = false → ∃ t, exec (.memAccess (.core c) addr none len) s = .next t ∧
      t.kci.readOut = leNat (s.load addr len) ∧ t.mem.phys = s.mem.phys) ∧
    ((inSample addr d.length = true ∨ inBackwater addr d.length = true) →
      ∃ t, exec (.memAccess (.core c) addr (some d) len) s = .next t ∧ t.mem.phys = s.mem.phys ∧
        t = raiseSource 73 dramFn addr (s.count dramFn 3)) ∧
    (inBackwater addr len = true → ∃ t, exec (.memAccess (.core c) addr none len) s = .next t ∧ t.kci.readOut = 0 ∧
      t.mem.phys = s.mem.phys ∧ t = (raiseSource 73 dramFn addr (s.count dramFn 3)).onKci fun k => { k with readOut := 0 })

/-- For an event that may be raised and has a record, with 1,024 records in the ring: no byte of the ring and no pointer
changes, the drop counter counts one, and the event's pending bit is set. When the device is awake and the host's
write of EVT_HEAD makes space after drops, the next place of the ring gets one EV_EVENT_RING_OVERFLOW record whose
payload is the number dropped since the last such record, and that number starts anew. -/
def Obligations.FullEventRingCountsAndReports : Prop :=
  (∀ (s : State) (num fn payload : Nat), eventAllowed s num fn = true → recordless num = false → 1024 ≤ evtUsed s.kci →
    let t := raiseEvent num fn payload s
    t.kci.bar0 = s.kci.bar0 ∧ t.kci.evtTail = s.kci.evtTail ∧ t.kci.evtHead = s.kci.evtHead ∧ t.kci.dropped = s.kci.dropped + 1 ∧
      t.kci.droppedSince = s.kci.droppedSince + 1 ∧ t.kci.intPending.getLsbD num = true ∧ t = { s with kci := t.kci }) ∧
  (∀ (s : State) (value : BitVec 32), blockOff s = false → s.asleep = false →
    let h := hostAccess s
    let v := value.setWidth 11
    Memory.wf h.kci.bar0 = true → h.boot.ready = true → h.kci.droppedSince ≠ 0 →
    (v - h.kci.evtHead).toNat ≤ (h.kci.evtTail - h.kci.evtHead).toNat → (h.kci.evtTail - v).toNat < 1024 →
    ∃ t, exec (.evtHeadWrite value) s = .next t ∧ t.kci.evtHead = v ∧ t.kci.evtTail = h.kci.evtTail + 1 ∧
      t.kci.droppedSince = 0 ∧ t.kci.dropped = h.kci.dropped ∧
      memReads t.kci.bar0 (evtAddr h.kci.evtTail) 32 = eventBytes 5 0 h.coh.generation h.time.fabric h.asn64 h.kci.droppedSince)

/-- State.reset: all memories of the block are in canonical form; the queue is empty; a cold start is due with READY 0,
both failure counts 0 and the pads held; the generation number is 0 and no function is enabled but Confluence; no
mailbox pointer, event pointer, pending bit or counter is set; every radio is off with PA_EN and TR_SW deasserted;
no timer runs; network time is invalid; the power state and the governor step are those of a start. -/
def Obligations.ResetIsCanonicalAndAwaitsAStart : Prop :=
  let s := State.reset
  s.memoryCanonical ∧ s.pending = [] ∧ s.boot.phase = .due .cold false ∧ s.boot.ready = false ∧ s.boot.warmFails = 0 ∧
    s.boot.coldFails = 0 ∧ s.boot.padHold = true ∧ s.coh.generation = 0 ∧
    (∀ fn ∈ allFunctions, s.enabled fn = (fn == 0x0F00)) ∧
    (∀ m : Fin 4, s.kci.mbx[m] = Mbx.reset) ∧ s.kci.evtHead = 0 ∧ s.kci.evtTail = 0 ∧ s.kci.intPending = 0 ∧
    s.kci.intEnable = 0 ∧ s.counters = [] ∧
    (∀ r : Fin 3, (s.radio r).powered = false ∧ (s.radio r).paEn = false ∧ (s.radio r).trSw = false) ∧
    (∀ t : Fin 16, s.timers[t].run = false ∧ s.timers[t].count = 0) ∧ s.time.state = .invalid ∧ s.time.asn = none ∧
    s.power.phase = .awake ∧ s.thermal.step = 0 ∧ s.safety.latch = none

/-- From every state whose memories are in canonical form (the ring memory of BAR0, the buffer pool of BAR2, the host
buffers, PCIe configuration space and its copy in Backwater, physical memory and both firmware slots: addresses rise
and no cell holds what an unlisted address reads as), a step, of any command or of the clocks, that answers a next
state leaves them in canonical form; so equal memories stay equal data. -/
def Obligations.MemoriesStayCanonical : Prop :=
  ∀ s t : State, s.memoryCanonical → step s = .next t → t.memoryCanonical

/-- For every state and every number of steps k the run of k steps answers a next state, and its queue is the queue of
the first state without its first k commands. So no command ends in a fault or a refusal in any state, no command
puts itself or another into the queue, and a queue of n commands is empty after n steps. The queue is the model's
own device (log entry 1). -/
def Obligations.RunsGoOnAndTakeTheQueueInOrder : Prop :=
  ∀ (s : State) (k : Nat), ∃ t, Host.Core.run core k s = .next t ∧ t.pending = s.pending.drop k
end

