-- ==== Sys2Proof/Laws/State.lean ====
section
/-!
SUPPORT. One lemma per field and update of the state: an update changes its own field and leaves the others.
-/

namespace Sys2Proof.Machine

variable (s : State)

@[simp] theorem State.onKci_pending (f : Kci → Kci) : (s.onKci f).pending = s.pending := rfl
@[simp] theorem State.onKci_kci (f : Kci → Kci) : (s.onKci f).kci = f s.kci := rfl
@[simp] theorem State.onKci_coh (f : Kci → Kci) : (s.onKci f).coh = s.coh := rfl
@[simp] theorem State.onKci_boot (f : Kci → Kci) : (s.onKci f).boot = s.boot := rfl
@[simp] theorem State.onKci_safety (f : Kci → Kci) : (s.onKci f).safety = s.safety := rfl
@[simp] theorem State.onKci_time (f : Kci → Kci) : (s.onKci f).time = s.time := rfl
@[simp] theorem State.onKci_power (f : Kci → Kci) : (s.onKci f).power = s.power := rfl
@[simp] theorem State.onKci_supply (f : Kci → Kci) : (s.onKci f).supply = s.supply := rfl
@[simp] theorem State.onKci_radios (f : Kci → Kci) : (s.onKci f).radios = s.radios := rfl
@[simp] theorem State.onKci_sluice (f : Kci → Kci) : (s.onKci f).sluice = s.sluice := rfl
@[simp] theorem State.onKci_cipher (f : Kci → Kci) : (s.onKci f).cipher = s.cipher := rfl
@[simp] theorem State.onKci_link (f : Kci → Kci) : (s.onKci f).link = s.link := rfl
@[simp] theorem State.onKci_rx (f : Kci → Kci) : (s.onKci f).rx = s.rx := rfl
@[simp] theorem State.onKci_router (f : Kci → Kci) : (s.onKci f).router = s.router := rfl
@[simp] theorem State.onKci_thermal (f : Kci → Kci) : (s.onKci f).thermal = s.thermal := rfl
@[simp] theorem State.onKci_mem (f : Kci → Kci) : (s.onKci f).mem = s.mem := rfl
@[simp] theorem State.onKci_cluster (f : Kci → Kci) : (s.onKci f).cluster = s.cluster := rfl
@[simp] theorem State.onKci_timers (f : Kci → Kci) : (s.onKci f).timers = s.timers := rfl
@[simp] theorem State.onKci_counters (f : Kci → Kci) : (s.onKci f).counters = s.counters := rfl
@[simp] theorem State.onKci_freeCount (f : Kci → Kci) : (s.onKci f).freeCount = s.freeCount := rfl

@[simp] theorem State.onCoh_pending (f : Coherence → Coherence) : (s.onCoh f).pending = s.pending := rfl
@[simp] theorem State.onCoh_kci (f : Coherence → Coherence) : (s.onCoh f).kci = s.kci := rfl
@[simp] theorem State.onCoh_coh (f : Coherence → Coherence) : (s.onCoh f).coh = f s.coh := rfl
@[simp] theorem State.onCoh_boot (f : Coherence → Coherence) : (s.onCoh f).boot = s.boot := rfl
@[simp] theorem State.onCoh_safety (f : Coherence → Coherence) : (s.onCoh f).safety = s.safety := rfl
@[simp] theorem State.onCoh_time (f : Coherence → Coherence) : (s.onCoh f).time = s.time := rfl
@[simp] theorem State.onCoh_power (f : Coherence → Coherence) : (s.onCoh f).power = s.power := rfl
@[simp] theorem State.onCoh_supply (f : Coherence → Coherence) : (s.onCoh f).supply = s.supply := rfl
@[simp] theorem State.onCoh_radios (f : Coherence → Coherence) : (s.onCoh f).radios = s.radios := rfl
@[simp] theorem State.onCoh_sluice (f : Coherence → Coherence) : (s.onCoh f).sluice = s.sluice := rfl
@[simp] theorem State.onCoh_cipher (f : Coherence → Coherence) : (s.onCoh f).cipher = s.cipher := rfl
@[simp] theorem State.onCoh_link (f : Coherence → Coherence) : (s.onCoh f).link = s.link := rfl
@[simp] theorem State.onCoh_rx (f : Coherence → Coherence) : (s.onCoh f).rx = s.rx := rfl
@[simp] theorem State.onCoh_router (f : Coherence → Coherence) : (s.onCoh f).router = s.router := rfl
@[simp] theorem State.onCoh_thermal (f : Coherence → Coherence) : (s.onCoh f).thermal = s.thermal := rfl
@[simp] theorem State.onCoh_mem (f : Coherence → Coherence) : (s.onCoh f).mem = s.mem := rfl
@[simp] theorem State.onCoh_cluster (f : Coherence → Coherence) : (s.onCoh f).cluster = s.cluster := rfl
@[simp] theorem State.onCoh_timers (f : Coherence → Coherence) : (s.onCoh f).timers = s.timers := rfl
@[simp] theorem State.onCoh_counters (f : Coherence → Coherence) : (s.onCoh f).counters = s.counters := rfl
@[simp] theorem State.onCoh_freeCount (f : Coherence → Coherence) : (s.onCoh f).freeCount = s.freeCount := rfl

@[simp] theorem State.onBoot_pending (f : Boot → Boot) : (s.onBoot f).pending = s.pending := rfl
@[simp] theorem State.onBoot_kci (f : Boot → Boot) : (s.onBoot f).kci = s.kci := rfl
@[simp] theorem State.onBoot_coh (f : Boot → Boot) : (s.onBoot f).coh = s.coh := rfl
@[simp] theorem State.onBoot_boot (f : Boot → Boot) : (s.onBoot f).boot = f s.boot := rfl
@[simp] theorem State.onBoot_safety (f : Boot → Boot) : (s.onBoot f).safety = s.safety := rfl
@[simp] theorem State.onBoot_time (f : Boot → Boot) : (s.onBoot f).time = s.time := rfl
@[simp] theorem State.onBoot_power (f : Boot → Boot) : (s.onBoot f).power = s.power := rfl
@[simp] theorem State.onBoot_supply (f : Boot → Boot) : (s.onBoot f).supply = s.supply := rfl
@[simp] theorem State.onBoot_radios (f : Boot → Boot) : (s.onBoot f).radios = s.radios := rfl
@[simp] theorem State.onBoot_sluice (f : Boot → Boot) : (s.onBoot f).sluice = s.sluice := rfl
@[simp] theorem State.onBoot_cipher (f : Boot → Boot) : (s.onBoot f).cipher = s.cipher := rfl
@[simp] theorem State.onBoot_link (f : Boot → Boot) : (s.onBoot f).link = s.link := rfl
@[simp] theorem State.onBoot_rx (f : Boot → Boot) : (s.onBoot f).rx = s.rx := rfl
@[simp] theorem State.onBoot_router (f : Boot → Boot) : (s.onBoot f).router = s.router := rfl
@[simp] theorem State.onBoot_thermal (f : Boot → Boot) : (s.onBoot f).thermal = s.thermal := rfl
@[simp] theorem State.onBoot_mem (f : Boot → Boot) : (s.onBoot f).mem = s.mem := rfl
@[simp] theorem State.onBoot_cluster (f : Boot → Boot) : (s.onBoot f).cluster = s.cluster := rfl
@[simp] theorem State.onBoot_timers (f : Boot → Boot) : (s.onBoot f).timers = s.timers := rfl
@[simp] theorem State.onBoot_counters (f : Boot → Boot) : (s.onBoot f).counters = s.counters := rfl
@[simp] theorem State.onBoot_freeCount (f : Boot → Boot) : (s.onBoot f).freeCount = s.freeCount := rfl

@[simp] theorem State.onSafety_pending (f : Safety → Safety) : (s.onSafety f).pending = s.pending := rfl
@[simp] theorem State.onSafety_kci (f : Safety → Safety) : (s.onSafety f).kci = s.kci := rfl
@[simp] theorem State.onSafety_coh (f : Safety → Safety) : (s.onSafety f).coh = s.coh := rfl
@[simp] theorem State.onSafety_boot (f : Safety → Safety) : (s.onSafety f).boot = s.boot := rfl
@[simp] theorem State.onSafety_safety (f : Safety → Safety) : (s.onSafety f).safety = f s.safety := rfl
@[simp] theorem State.onSafety_time (f : Safety → Safety) : (s.onSafety f).time = s.time := rfl
@[simp] theorem State.onSafety_power (f : Safety → Safety) : (s.onSafety f).power = s.power := rfl
@[simp] theorem State.onSafety_supply (f : Safety → Safety) : (s.onSafety f).supply = s.supply := rfl
@[simp] theorem State.onSafety_radios (f : Safety → Safety) : (s.onSafety f).radios = s.radios := rfl
@[simp] theorem State.onSafety_sluice (f : Safety → Safety) : (s.onSafety f).sluice = s.sluice := rfl
@[simp] theorem State.onSafety_cipher (f : Safety → Safety) : (s.onSafety f).cipher = s.cipher := rfl
@[simp] theorem State.onSafety_link (f : Safety → Safety) : (s.onSafety f).link = s.link := rfl
@[simp] theorem State.onSafety_rx (f : Safety → Safety) : (s.onSafety f).rx = s.rx := rfl
@[simp] theorem State.onSafety_router (f : Safety → Safety) : (s.onSafety f).router = s.router := rfl
@[simp] theorem State.onSafety_thermal (f : Safety → Safety) : (s.onSafety f).thermal = s.thermal := rfl
@[simp] theorem State.onSafety_mem (f : Safety → Safety) : (s.onSafety f).mem = s.mem := rfl
@[simp] theorem State.onSafety_cluster (f : Safety → Safety) : (s.onSafety f).cluster = s.cluster := rfl
@[simp] theorem State.onSafety_timers (f : Safety → Safety) : (s.onSafety f).timers = s.timers := rfl
@[simp] theorem State.onSafety_counters (f : Safety → Safety) : (s.onSafety f).counters = s.counters := rfl
@[simp] theorem State.onSafety_freeCount (f : Safety → Safety) : (s.onSafety f).freeCount = s.freeCount := rfl

@[simp] theorem State.onTime_pending (f : Time → Time) : (s.onTime f).pending = s.pending := rfl
@[simp] theorem State.onTime_kci (f : Time → Time) : (s.onTime f).kci = s.kci := rfl
@[simp] theorem State.onTime_coh (f : Time → Time) : (s.onTime f).coh = s.coh := rfl
@[simp] theorem State.onTime_boot (f : Time → Time) : (s.onTime f).boot = s.boot := rfl
@[simp] theorem State.onTime_safety (f : Time → Time) : (s.onTime f).safety = s.safety := rfl
@[simp] theorem State.onTime_time (f : Time → Time) : (s.onTime f).time = f s.time := rfl
@[simp] theorem State.onTime_power (f : Time → Time) : (s.onTime f).power = s.power := rfl
@[simp] theorem State.onTime_supply (f : Time → Time) : (s.onTime f).supply = s.supply := rfl
@[simp] theorem State.onTime_radios (f : Time → Time) : (s.onTime f).radios = s.radios := rfl
@[simp] theorem State.onTime_sluice (f : Time → Time) : (s.onTime f).sluice = s.sluice := rfl
@[simp] theorem State.onTime_cipher (f : Time → Time) : (s.onTime f).cipher = s.cipher := rfl
@[simp] theorem State.onTime_link (f : Time → Time) : (s.onTime f).link = s.link := rfl
@[simp] theorem State.onTime_rx (f : Time → Time) : (s.onTime f).rx = s.rx := rfl
@[simp] theorem State.onTime_router (f : Time → Time) : (s.onTime f).router = s.router := rfl
@[simp] theorem State.onTime_thermal (f : Time → Time) : (s.onTime f).thermal = s.thermal := rfl
@[simp] theorem State.onTime_mem (f : Time → Time) : (s.onTime f).mem = s.mem := rfl
@[simp] theorem State.onTime_cluster (f : Time → Time) : (s.onTime f).cluster = s.cluster := rfl
@[simp] theorem State.onTime_timers (f : Time → Time) : (s.onTime f).timers = s.timers := rfl
@[simp] theorem State.onTime_counters (f : Time → Time) : (s.onTime f).counters = s.counters := rfl
@[simp] theorem State.onTime_freeCount (f : Time → Time) : (s.onTime f).freeCount = s.freeCount := rfl

@[simp] theorem State.onPower_pending (f : Power → Power) : (s.onPower f).pending = s.pending := rfl
@[simp] theorem State.onPower_kci (f : Power → Power) : (s.onPower f).kci = s.kci := rfl
@[simp] theorem State.onPower_coh (f : Power → Power) : (s.onPower f).coh = s.coh := rfl
@[simp] theorem State.onPower_boot (f : Power → Power) : (s.onPower f).boot = s.boot := rfl
@[simp] theorem State.onPower_safety (f : Power → Power) : (s.onPower f).safety = s.safety := rfl
@[simp] theorem State.onPower_time (f : Power → Power) : (s.onPower f).time = s.time := rfl
@[simp] theorem State.onPower_power (f : Power → Power) : (s.onPower f).power = f s.power := rfl
@[simp] theorem State.onPower_supply (f : Power → Power) : (s.onPower f).supply = s.supply := rfl
@[simp] theorem State.onPower_radios (f : Power → Power) : (s.onPower f).radios = s.radios := rfl
@[simp] theorem State.onPower_sluice (f : Power → Power) : (s.onPower f).sluice = s.sluice := rfl
@[simp] theorem State.onPower_cipher (f : Power → Power) : (s.onPower f).cipher = s.cipher := rfl
@[simp] theorem State.onPower_link (f : Power → Power) : (s.onPower f).link = s.link := rfl
@[simp] theorem State.onPower_rx (f : Power → Power) : (s.onPower f).rx = s.rx := rfl
@[simp] theorem State.onPower_router (f : Power → Power) : (s.onPower f).router = s.router := rfl
@[simp] theorem State.onPower_thermal (f : Power → Power) : (s.onPower f).thermal = s.thermal := rfl
@[simp] theorem State.onPower_mem (f : Power → Power) : (s.onPower f).mem = s.mem := rfl
@[simp] theorem State.onPower_cluster (f : Power → Power) : (s.onPower f).cluster = s.cluster := rfl
@[simp] theorem State.onPower_timers (f : Power → Power) : (s.onPower f).timers = s.timers := rfl
@[simp] theorem State.onPower_counters (f : Power → Power) : (s.onPower f).counters = s.counters := rfl
@[simp] theorem State.onPower_freeCount (f : Power → Power) : (s.onPower f).freeCount = s.freeCount := rfl

@[simp] theorem State.onSupply_pending (f : Supply → Supply) : (s.onSupply f).pending = s.pending := rfl
@[simp] theorem State.onSupply_kci (f : Supply → Supply) : (s.onSupply f).kci = s.kci := rfl
@[simp] theorem State.onSupply_coh (f : Supply → Supply) : (s.onSupply f).coh = s.coh := rfl
@[simp] theorem State.onSupply_boot (f : Supply → Supply) : (s.onSupply f).boot = s.boot := rfl
@[simp] theorem State.onSupply_safety (f : Supply → Supply) : (s.onSupply f).safety = s.safety := rfl
@[simp] theorem State.onSupply_time (f : Supply → Supply) : (s.onSupply f).time = s.time := rfl
@[simp] theorem State.onSupply_power (f : Supply → Supply) : (s.onSupply f).power = s.power := rfl
@[simp] theorem State.onSupply_supply (f : Supply → Supply) : (s.onSupply f).supply = f s.supply := rfl
@[simp] theorem State.onSupply_radios (f : Supply → Supply) : (s.onSupply f).radios = s.radios := rfl
@[simp] theorem State.onSupply_sluice (f : Supply → Supply) : (s.onSupply f).sluice = s.sluice := rfl
@[simp] theorem State.onSupply_cipher (f : Supply → Supply) : (s.onSupply f).cipher = s.cipher := rfl
@[simp] theorem State.onSupply_link (f : Supply → Supply) : (s.onSupply f).link = s.link := rfl
@[simp] theorem State.onSupply_rx (f : Supply → Supply) : (s.onSupply f).rx = s.rx := rfl
@[simp] theorem State.onSupply_router (f : Supply → Supply) : (s.onSupply f).router = s.router := rfl
@[simp] theorem State.onSupply_thermal (f : Supply → Supply) : (s.onSupply f).thermal = s.thermal := rfl
@[simp] theorem State.onSupply_mem (f : Supply → Supply) : (s.onSupply f).mem = s.mem := rfl
@[simp] theorem State.onSupply_cluster (f : Supply → Supply) : (s.onSupply f).cluster = s.cluster := rfl
@[simp] theorem State.onSupply_timers (f : Supply → Supply) : (s.onSupply f).timers = s.timers := rfl
@[simp] theorem State.onSupply_counters (f : Supply → Supply) : (s.onSupply f).counters = s.counters := rfl
@[simp] theorem State.onSupply_freeCount (f : Supply → Supply) : (s.onSupply f).freeCount = s.freeCount := rfl

@[simp] theorem State.onRadios_pending (f : Radios → Radios) : (s.onRadios f).pending = s.pending := rfl
@[simp] theorem State.onRadios_kci (f : Radios → Radios) : (s.onRadios f).kci = s.kci := rfl
@[simp] theorem State.onRadios_coh (f : Radios → Radios) : (s.onRadios f).coh = s.coh := rfl
@[simp] theorem State.onRadios_boot (f : Radios → Radios) : (s.onRadios f).boot = s.boot := rfl
@[simp] theorem State.onRadios_safety (f : Radios → Radios) : (s.onRadios f).safety = s.safety := rfl
@[simp] theorem State.onRadios_time (f : Radios → Radios) : (s.onRadios f).time = s.time := rfl
@[simp] theorem State.onRadios_power (f : Radios → Radios) : (s.onRadios f).power = s.power := rfl
@[simp] theorem State.onRadios_supply (f : Radios → Radios) : (s.onRadios f).supply = s.supply := rfl
@[simp] theorem State.onRadios_radios (f : Radios → Radios) : (s.onRadios f).radios = f s.radios := rfl
@[simp] theorem State.onRadios_sluice (f : Radios → Radios) : (s.onRadios f).sluice = s.sluice := rfl
@[simp] theorem State.onRadios_cipher (f : Radios → Radios) : (s.onRadios f).cipher = s.cipher := rfl
@[simp] theorem State.onRadios_link (f : Radios → Radios) : (s.onRadios f).link = s.link := rfl
@[simp] theorem State.onRadios_rx (f : Radios → Radios) : (s.onRadios f).rx = s.rx := rfl
@[simp] theorem State.onRadios_router (f : Radios → Radios) : (s.onRadios f).router = s.router := rfl
@[simp] theorem State.onRadios_thermal (f : Radios → Radios) : (s.onRadios f).thermal = s.thermal := rfl
@[simp] theorem State.onRadios_mem (f : Radios → Radios) : (s.onRadios f).mem = s.mem := rfl
@[simp] theorem State.onRadios_cluster (f : Radios → Radios) : (s.onRadios f).cluster = s.cluster := rfl
@[simp] theorem State.onRadios_timers (f : Radios → Radios) : (s.onRadios f).timers = s.timers := rfl
@[simp] theorem State.onRadios_counters (f : Radios → Radios) : (s.onRadios f).counters = s.counters := rfl
@[simp] theorem State.onRadios_freeCount (f : Radios → Radios) : (s.onRadios f).freeCount = s.freeCount := rfl

@[simp] theorem State.onSluice_pending (f : Sluice → Sluice) : (s.onSluice f).pending = s.pending := rfl
@[simp] theorem State.onSluice_kci (f : Sluice → Sluice) : (s.onSluice f).kci = s.kci := rfl
@[simp] theorem State.onSluice_coh (f : Sluice → Sluice) : (s.onSluice f).coh = s.coh := rfl
@[simp] theorem State.onSluice_boot (f : Sluice → Sluice) : (s.onSluice f).boot = s.boot := rfl
@[simp] theorem State.onSluice_safety (f : Sluice → Sluice) : (s.onSluice f).safety = s.safety := rfl
@[simp] theorem State.onSluice_time (f : Sluice → Sluice) : (s.onSluice f).time = s.time := rfl
@[simp] theorem State.onSluice_power (f : Sluice → Sluice) : (s.onSluice f).power = s.power := rfl
@[simp] theorem State.onSluice_supply (f : Sluice → Sluice) : (s.onSluice f).supply = s.supply := rfl
@[simp] theorem State.onSluice_radios (f : Sluice → Sluice) : (s.onSluice f).radios = s.radios := rfl
@[simp] theorem State.onSluice_sluice (f : Sluice → Sluice) : (s.onSluice f).sluice = f s.sluice := rfl
@[simp] theorem State.onSluice_cipher (f : Sluice → Sluice) : (s.onSluice f).cipher = s.cipher := rfl
@[simp] theorem State.onSluice_link (f : Sluice → Sluice) : (s.onSluice f).link = s.link := rfl
@[simp] theorem State.onSluice_rx (f : Sluice → Sluice) : (s.onSluice f).rx = s.rx := rfl
@[simp] theorem State.onSluice_router (f : Sluice → Sluice) : (s.onSluice f).router = s.router := rfl
@[simp] theorem State.onSluice_thermal (f : Sluice → Sluice) : (s.onSluice f).thermal = s.thermal := rfl
@[simp] theorem State.onSluice_mem (f : Sluice → Sluice) : (s.onSluice f).mem = s.mem := rfl
@[simp] theorem State.onSluice_cluster (f : Sluice → Sluice) : (s.onSluice f).cluster = s.cluster := rfl
@[simp] theorem State.onSluice_timers (f : Sluice → Sluice) : (s.onSluice f).timers = s.timers := rfl
@[simp] theorem State.onSluice_counters (f : Sluice → Sluice) : (s.onSluice f).counters = s.counters := rfl
@[simp] theorem State.onSluice_freeCount (f : Sluice → Sluice) : (s.onSluice f).freeCount = s.freeCount := rfl

@[simp] theorem State.onCipher_pending (f : Cipher → Cipher) : (s.onCipher f).pending = s.pending := rfl
@[simp] theorem State.onCipher_kci (f : Cipher → Cipher) : (s.onCipher f).kci = s.kci := rfl
@[simp] theorem State.onCipher_coh (f : Cipher → Cipher) : (s.onCipher f).coh = s.coh := rfl
@[simp] theorem State.onCipher_boot (f : Cipher → Cipher) : (s.onCipher f).boot = s.boot := rfl
@[simp] theorem State.onCipher_safety (f : Cipher → Cipher) : (s.onCipher f).safety = s.safety := rfl
@[simp] theorem State.onCipher_time (f : Cipher → Cipher) : (s.onCipher f).time = s.time := rfl
@[simp] theorem State.onCipher_power (f : Cipher → Cipher) : (s.onCipher f).power = s.power := rfl
@[simp] theorem State.onCipher_supply (f : Cipher → Cipher) : (s.onCipher f).supply = s.supply := rfl
@[simp] theorem State.onCipher_radios (f : Cipher → Cipher) : (s.onCipher f).radios = s.radios := rfl
@[simp] theorem State.onCipher_sluice (f : Cipher → Cipher) : (s.onCipher f).sluice = s.sluice := rfl
@[simp] theorem State.onCipher_cipher (f : Cipher → Cipher) : (s.onCipher f).cipher = f s.cipher := rfl
@[simp] theorem State.onCipher_link (f : Cipher → Cipher) : (s.onCipher f).link = s.link := rfl
@[simp] theorem State.onCipher_rx (f : Cipher → Cipher) : (s.onCipher f).rx = s.rx := rfl
@[simp] theorem State.onCipher_router (f : Cipher → Cipher) : (s.onCipher f).router = s.router := rfl
@[simp] theorem State.onCipher_thermal (f : Cipher → Cipher) : (s.onCipher f).thermal = s.thermal := rfl
@[simp] theorem State.onCipher_mem (f : Cipher → Cipher) : (s.onCipher f).mem = s.mem := rfl
@[simp] theorem State.onCipher_cluster (f : Cipher → Cipher) : (s.onCipher f).cluster = s.cluster := rfl
@[simp] theorem State.onCipher_timers (f : Cipher → Cipher) : (s.onCipher f).timers = s.timers := rfl
@[simp] theorem State.onCipher_counters (f : Cipher → Cipher) : (s.onCipher f).counters = s.counters := rfl
@[simp] theorem State.onCipher_freeCount (f : Cipher → Cipher) : (s.onCipher f).freeCount = s.freeCount := rfl

@[simp] theorem State.onLink_pending (f : Link → Link) : (s.onLink f).pending = s.pending := rfl
@[simp] theorem State.onLink_kci (f : Link → Link) : (s.onLink f).kci = s.kci := rfl
@[simp] theorem State.onLink_coh (f : Link → Link) : (s.onLink f).coh = s.coh := rfl
@[simp] theorem State.onLink_boot (f : Link → Link) : (s.onLink f).boot = s.boot := rfl
@[simp] theorem State.onLink_safety (f : Link → Link) : (s.onLink f).safety = s.safety := rfl
@[simp] theorem State.onLink_time (f : Link → Link) : (s.onLink f).time = s.time := rfl
@[simp] theorem State.onLink_power (f : Link → Link) : (s.onLink f).power = s.power := rfl
@[simp] theorem State.onLink_supply (f : Link → Link) : (s.onLink f).supply = s.supply := rfl
@[simp] theorem State.onLink_radios (f : Link → Link) : (s.onLink f).radios = s.radios := rfl
@[simp] theorem State.onLink_sluice (f : Link → Link) : (s.onLink f).sluice = s.sluice := rfl
@[simp] theorem State.onLink_cipher (f : Link → Link) : (s.onLink f).cipher = s.cipher := rfl
@[simp] theorem State.onLink_link (f : Link → Link) : (s.onLink f).link = f s.link := rfl
@[simp] theorem State.onLink_rx (f : Link → Link) : (s.onLink f).rx = s.rx := rfl
@[simp] theorem State.onLink_router (f : Link → Link) : (s.onLink f).router = s.router := rfl
@[simp] theorem State.onLink_thermal (f : Link → Link) : (s.onLink f).thermal = s.thermal := rfl
@[simp] theorem State.onLink_mem (f : Link → Link) : (s.onLink f).mem = s.mem := rfl
@[simp] theorem State.onLink_cluster (f : Link → Link) : (s.onLink f).cluster = s.cluster := rfl
@[simp] theorem State.onLink_timers (f : Link → Link) : (s.onLink f).timers = s.timers := rfl
@[simp] theorem State.onLink_counters (f : Link → Link) : (s.onLink f).counters = s.counters := rfl
@[simp] theorem State.onLink_freeCount (f : Link → Link) : (s.onLink f).freeCount = s.freeCount := rfl

@[simp] theorem State.onRx_pending (f : Rx → Rx) : (s.onRx f).pending = s.pending := rfl
@[simp] theorem State.onRx_kci (f : Rx → Rx) : (s.onRx f).kci = s.kci := rfl
@[simp] theorem State.onRx_coh (f : Rx → Rx) : (s.onRx f).coh = s.coh := rfl
@[simp] theorem State.onRx_boot (f : Rx → Rx) : (s.onRx f).boot = s.boot := rfl
@[simp] theorem State.onRx_safety (f : Rx → Rx) : (s.onRx f).safety = s.safety := rfl
@[simp] theorem State.onRx_time (f : Rx → Rx) : (s.onRx f).time = s.time := rfl
@[simp] theorem State.onRx_power (f : Rx → Rx) : (s.onRx f).power = s.power := rfl
@[simp] theorem State.onRx_supply (f : Rx → Rx) : (s.onRx f).supply = s.supply := rfl
@[simp] theorem State.onRx_radios (f : Rx → Rx) : (s.onRx f).radios = s.radios := rfl
@[simp] theorem State.onRx_sluice (f : Rx → Rx) : (s.onRx f).sluice = s.sluice := rfl
@[simp] theorem State.onRx_cipher (f : Rx → Rx) : (s.onRx f).cipher = s.cipher := rfl
@[simp] theorem State.onRx_link (f : Rx → Rx) : (s.onRx f).link = s.link := rfl
@[simp] theorem State.onRx_rx (f : Rx → Rx) : (s.onRx f).rx = f s.rx := rfl
@[simp] theorem State.onRx_router (f : Rx → Rx) : (s.onRx f).router = s.router := rfl
@[simp] theorem State.onRx_thermal (f : Rx → Rx) : (s.onRx f).thermal = s.thermal := rfl
@[simp] theorem State.onRx_mem (f : Rx → Rx) : (s.onRx f).mem = s.mem := rfl
@[simp] theorem State.onRx_cluster (f : Rx → Rx) : (s.onRx f).cluster = s.cluster := rfl
@[simp] theorem State.onRx_timers (f : Rx → Rx) : (s.onRx f).timers = s.timers := rfl
@[simp] theorem State.onRx_counters (f : Rx → Rx) : (s.onRx f).counters = s.counters := rfl
@[simp] theorem State.onRx_freeCount (f : Rx → Rx) : (s.onRx f).freeCount = s.freeCount := rfl

@[simp] theorem State.onRouter_pending (f : Router → Router) : (s.onRouter f).pending = s.pending := rfl
@[simp] theorem State.onRouter_kci (f : Router → Router) : (s.onRouter f).kci = s.kci := rfl
@[simp] theorem State.onRouter_coh (f : Router → Router) : (s.onRouter f).coh = s.coh := rfl
@[simp] theorem State.onRouter_boot (f : Router → Router) : (s.onRouter f).boot = s.boot := rfl
@[simp] theorem State.onRouter_safety (f : Router → Router) : (s.onRouter f).safety = s.safety := rfl
@[simp] theorem State.onRouter_time (f : Router → Router) : (s.onRouter f).time = s.time := rfl
@[simp] theorem State.onRouter_power (f : Router → Router) : (s.onRouter f).power = s.power := rfl
@[simp] theorem State.onRouter_supply (f : Router → Router) : (s.onRouter f).supply = s.supply := rfl
@[simp] theorem State.onRouter_radios (f : Router → Router) : (s.onRouter f).radios = s.radios := rfl
@[simp] theorem State.onRouter_sluice (f : Router → Router) : (s.onRouter f).sluice = s.sluice := rfl
@[simp] theorem State.onRouter_cipher (f : Router → Router) : (s.onRouter f).cipher = s.cipher := rfl
@[simp] theorem State.onRouter_link (f : Router → Router) : (s.onRouter f).link = s.link := rfl
@[simp] theorem State.onRouter_rx (f : Router → Router) : (s.onRouter f).rx = s.rx := rfl
@[simp] theorem State.onRouter_router (f : Router → Router) : (s.onRouter f).router = f s.router := rfl
@[simp] theorem State.onRouter_thermal (f : Router → Router) : (s.onRouter f).thermal = s.thermal := rfl
@[simp] theorem State.onRouter_mem (f : Router → Router) : (s.onRouter f).mem = s.mem := rfl
@[simp] theorem State.onRouter_cluster (f : Router → Router) : (s.onRouter f).cluster = s.cluster := rfl
@[simp] theorem State.onRouter_timers (f : Router → Router) : (s.onRouter f).timers = s.timers := rfl
@[simp] theorem State.onRouter_counters (f : Router → Router) : (s.onRouter f).counters = s.counters := rfl
@[simp] theorem State.onRouter_freeCount (f : Router → Router) : (s.onRouter f).freeCount = s.freeCount := rfl

@[simp] theorem State.onThermal_pending (f : Thermal → Thermal) : (s.onThermal f).pending = s.pending := rfl
@[simp] theorem State.onThermal_kci (f : Thermal → Thermal) : (s.onThermal f).kci = s.kci := rfl
@[simp] theorem State.onThermal_coh (f : Thermal → Thermal) : (s.onThermal f).coh = s.coh := rfl
@[simp] theorem State.onThermal_boot (f : Thermal → Thermal) : (s.onThermal f).boot = s.boot := rfl
@[simp] theorem State.onThermal_safety (f : Thermal → Thermal) : (s.onThermal f).safety = s.safety := rfl
@[simp] theorem State.onThermal_time (f : Thermal → Thermal) : (s.onThermal f).time = s.time := rfl
@[simp] theorem State.onThermal_power (f : Thermal → Thermal) : (s.onThermal f).power = s.power := rfl
@[simp] theorem State.onThermal_supply (f : Thermal → Thermal) : (s.onThermal f).supply = s.supply := rfl
@[simp] theorem State.onThermal_radios (f : Thermal → Thermal) : (s.onThermal f).radios = s.radios := rfl
@[simp] theorem State.onThermal_sluice (f : Thermal → Thermal) : (s.onThermal f).sluice = s.sluice := rfl
@[simp] theorem State.onThermal_cipher (f : Thermal → Thermal) : (s.onThermal f).cipher = s.cipher := rfl
@[simp] theorem State.onThermal_link (f : Thermal → Thermal) : (s.onThermal f).link = s.link := rfl
@[simp] theorem State.onThermal_rx (f : Thermal → Thermal) : (s.onThermal f).rx = s.rx := rfl
@[simp] theorem State.onThermal_router (f : Thermal → Thermal) : (s.onThermal f).router = s.router := rfl
@[simp] theorem State.onThermal_thermal (f : Thermal → Thermal) : (s.onThermal f).thermal = f s.thermal := rfl
@[simp] theorem State.onThermal_mem (f : Thermal → Thermal) : (s.onThermal f).mem = s.mem := rfl
@[simp] theorem State.onThermal_cluster (f : Thermal → Thermal) : (s.onThermal f).cluster = s.cluster := rfl
@[simp] theorem State.onThermal_timers (f : Thermal → Thermal) : (s.onThermal f).timers = s.timers := rfl
@[simp] theorem State.onThermal_counters (f : Thermal → Thermal) : (s.onThermal f).counters = s.counters := rfl
@[simp] theorem State.onThermal_freeCount (f : Thermal → Thermal) : (s.onThermal f).freeCount = s.freeCount := rfl

@[simp] theorem State.onMem_pending (f : Memory → Memory) : (s.onMem f).pending = s.pending := rfl
@[simp] theorem State.onMem_kci (f : Memory → Memory) : (s.onMem f).kci = s.kci := rfl
@[simp] theorem State.onMem_coh (f : Memory → Memory) : (s.onMem f).coh = s.coh := rfl
@[simp] theorem State.onMem_boot (f : Memory → Memory) : (s.onMem f).boot = s.boot := rfl
@[simp] theorem State.onMem_safety (f : Memory → Memory) : (s.onMem f).safety = s.safety := rfl
@[simp] theorem State.onMem_time (f : Memory → Memory) : (s.onMem f).time = s.time := rfl
@[simp] theorem State.onMem_power (f : Memory → Memory) : (s.onMem f).power = s.power := rfl
@[simp] theorem State.onMem_supply (f : Memory → Memory) : (s.onMem f).supply = s.supply := rfl
@[simp] theorem State.onMem_radios (f : Memory → Memory) : (s.onMem f).radios = s.radios := rfl
@[simp] theorem State.onMem_sluice (f : Memory → Memory) : (s.onMem f).sluice = s.sluice := rfl
@[simp] theorem State.onMem_cipher (f : Memory → Memory) : (s.onMem f).cipher = s.cipher := rfl
@[simp] theorem State.onMem_link (f : Memory → Memory) : (s.onMem f).link = s.link := rfl
@[simp] theorem State.onMem_rx (f : Memory → Memory) : (s.onMem f).rx = s.rx := rfl
@[simp] theorem State.onMem_router (f : Memory → Memory) : (s.onMem f).router = s.router := rfl
@[simp] theorem State.onMem_thermal (f : Memory → Memory) : (s.onMem f).thermal = s.thermal := rfl
@[simp] theorem State.onMem_mem (f : Memory → Memory) : (s.onMem f).mem = f s.mem := rfl
@[simp] theorem State.onMem_cluster (f : Memory → Memory) : (s.onMem f).cluster = s.cluster := rfl
@[simp] theorem State.onMem_timers (f : Memory → Memory) : (s.onMem f).timers = s.timers := rfl
@[simp] theorem State.onMem_counters (f : Memory → Memory) : (s.onMem f).counters = s.counters := rfl
@[simp] theorem State.onMem_freeCount (f : Memory → Memory) : (s.onMem f).freeCount = s.freeCount := rfl

@[simp] theorem State.onCluster_pending (f : Cluster → Cluster) : (s.onCluster f).pending = s.pending := rfl
@[simp] theorem State.onCluster_kci (f : Cluster → Cluster) : (s.onCluster f).kci = s.kci := rfl
@[simp] theorem State.onCluster_coh (f : Cluster → Cluster) : (s.onCluster f).coh = s.coh := rfl
@[simp] theorem State.onCluster_boot (f : Cluster → Cluster) : (s.onCluster f).boot = s.boot := rfl
@[simp] theorem State.onCluster_safety (f : Cluster → Cluster) : (s.onCluster f).safety = s.safety := rfl
@[simp] theorem State.onCluster_time (f : Cluster → Cluster) : (s.onCluster f).time = s.time := rfl
@[simp] theorem State.onCluster_power (f : Cluster → Cluster) : (s.onCluster f).power = s.power := rfl
@[simp] theorem State.onCluster_supply (f : Cluster → Cluster) : (s.onCluster f).supply = s.supply := rfl
@[simp] theorem State.onCluster_radios (f : Cluster → Cluster) : (s.onCluster f).radios = s.radios := rfl
@[simp] theorem State.onCluster_sluice (f : Cluster → Cluster) : (s.onCluster f).sluice = s.sluice := rfl
@[simp] theorem State.onCluster_cipher (f : Cluster → Cluster) : (s.onCluster f).cipher = s.cipher := rfl
@[simp] theorem State.onCluster_link (f : Cluster → Cluster) : (s.onCluster f).link = s.link := rfl
@[simp] theorem State.onCluster_rx (f : Cluster → Cluster) : (s.onCluster f).rx = s.rx := rfl
@[simp] theorem State.onCluster_router (f : Cluster → Cluster) : (s.onCluster f).router = s.router := rfl
@[simp] theorem State.onCluster_thermal (f : Cluster → Cluster) : (s.onCluster f).thermal = s.thermal := rfl
@[simp] theorem State.onCluster_mem (f : Cluster → Cluster) : (s.onCluster f).mem = s.mem := rfl
@[simp] theorem State.onCluster_cluster (f : Cluster → Cluster) : (s.onCluster f).cluster = f s.cluster := rfl
@[simp] theorem State.onCluster_timers (f : Cluster → Cluster) : (s.onCluster f).timers = s.timers := rfl
@[simp] theorem State.onCluster_counters (f : Cluster → Cluster) : (s.onCluster f).counters = s.counters := rfl
@[simp] theorem State.onCluster_freeCount (f : Cluster → Cluster) : (s.onCluster f).freeCount = s.freeCount := rfl

@[simp] theorem State.onTimer_pending (t : Fin 16) (f : Timer → Timer) : (s.onTimer t f).pending = s.pending := rfl
@[simp] theorem State.onTimer_kci (t : Fin 16) (f : Timer → Timer) : (s.onTimer t f).kci = s.kci := rfl
@[simp] theorem State.onTimer_coh (t : Fin 16) (f : Timer → Timer) : (s.onTimer t f).coh = s.coh := rfl
@[simp] theorem State.onTimer_boot (t : Fin 16) (f : Timer → Timer) : (s.onTimer t f).boot = s.boot := rfl
@[simp] theorem State.onTimer_safety (t : Fin 16) (f : Timer → Timer) : (s.onTimer t f).safety = s.safety := rfl
@[simp] theorem State.onTimer_time (t : Fin 16) (f : Timer → Timer) : (s.onTimer t f).time = s.time := rfl
@[simp] theorem State.onTimer_power (t : Fin 16) (f : Timer → Timer) : (s.onTimer t f).power = s.power := rfl
@[simp] theorem State.onTimer_supply (t : Fin 16) (f : Timer → Timer) : (s.onTimer t f).supply = s.supply := rfl
@[simp] theorem State.onTimer_radios (t : Fin 16) (f : Timer → Timer) : (s.onTimer t f).radios = s.radios := rfl
@[simp] theorem State.onTimer_sluice (t : Fin 16) (f : Timer → Timer) : (s.onTimer t f).sluice = s.sluice := rfl
@[simp] theorem State.onTimer_cipher (t : Fin 16) (f : Timer → Timer) : (s.onTimer t f).cipher = s.cipher := rfl
@[simp] theorem State.onTimer_link (t : Fin 16) (f : Timer → Timer) : (s.onTimer t f).link = s.link := rfl
@[simp] theorem State.onTimer_rx (t : Fin 16) (f : Timer → Timer) : (s.onTimer t f).rx = s.rx := rfl
@[simp] theorem State.onTimer_router (t : Fin 16) (f : Timer → Timer) : (s.onTimer t f).router = s.router := rfl
@[simp] theorem State.onTimer_thermal (t : Fin 16) (f : Timer → Timer) : (s.onTimer t f).thermal = s.thermal := rfl
@[simp] theorem State.onTimer_mem (t : Fin 16) (f : Timer → Timer) : (s.onTimer t f).mem = s.mem := rfl
@[simp] theorem State.onTimer_cluster (t : Fin 16) (f : Timer → Timer) : (s.onTimer t f).cluster = s.cluster := rfl
@[simp] theorem State.onTimer_timers (t : Fin 16) (f : Timer → Timer) : (s.onTimer t f).timers = s.timers.set t (f s.timers[t]) := rfl
@[simp] theorem State.onTimer_counters (t : Fin 16) (f : Timer → Timer) : (s.onTimer t f).counters = s.counters := rfl
@[simp] theorem State.onTimer_freeCount (t : Fin 16) (f : Timer → Timer) : (s.onTimer t f).freeCount = s.freeCount := rfl

@[simp] theorem State.onRadio_pending (r : Fin 3) (f : Radio → Radio) : (s.onRadio r f).pending = s.pending := rfl
@[simp] theorem State.onRadio_kci (r : Fin 3) (f : Radio → Radio) : (s.onRadio r f).kci = s.kci := rfl
@[simp] theorem State.onRadio_coh (r : Fin 3) (f : Radio → Radio) : (s.onRadio r f).coh = s.coh := rfl
@[simp] theorem State.onRadio_boot (r : Fin 3) (f : Radio → Radio) : (s.onRadio r f).boot = s.boot := rfl
@[simp] theorem State.onRadio_safety (r : Fin 3) (f : Radio → Radio) : (s.onRadio r f).safety = s.safety := rfl
@[simp] theorem State.onRadio_time (r : Fin 3) (f : Radio → Radio) : (s.onRadio r f).time = s.time := rfl
@[simp] theorem State.onRadio_power (r : Fin 3) (f : Radio → Radio) : (s.onRadio r f).power = s.power := rfl
@[simp] theorem State.onRadio_supply (r : Fin 3) (f : Radio → Radio) : (s.onRadio r f).supply = s.supply := rfl
@[simp] theorem State.onRadio_sluice (r : Fin 3) (f : Radio → Radio) : (s.onRadio r f).sluice = s.sluice := rfl
@[simp] theorem State.onRadio_cipher (r : Fin 3) (f : Radio → Radio) : (s.onRadio r f).cipher = s.cipher := rfl
@[simp] theorem State.onRadio_link (r : Fin 3) (f : Radio → Radio) : (s.onRadio r f).link = s.link := rfl
@[simp] theorem State.onRadio_rx (r : Fin 3) (f : Radio → Radio) : (s.onRadio r f).rx = s.rx := rfl
@[simp] theorem State.onRadio_router (r : Fin 3) (f : Radio → Radio) : (s.onRadio r f).router = s.router := rfl
@[simp] theorem State.onRadio_thermal (r : Fin 3) (f : Radio → Radio) : (s.onRadio r f).thermal = s.thermal := rfl
@[simp] theorem State.onRadio_mem (r : Fin 3) (f : Radio → Radio) : (s.onRadio r f).mem = s.mem := rfl
@[simp] theorem State.onRadio_cluster (r : Fin 3) (f : Radio → Radio) : (s.onRadio r f).cluster = s.cluster := rfl
@[simp] theorem State.onRadio_timers (r : Fin 3) (f : Radio → Radio) : (s.onRadio r f).timers = s.timers := rfl
@[simp] theorem State.onRadio_counters (r : Fin 3) (f : Radio → Radio) : (s.onRadio r f).counters = s.counters := rfl
@[simp] theorem State.onRadio_freeCount (r : Fin 3) (f : Radio → Radio) : (s.onRadio r f).freeCount = s.freeCount := rfl

@[simp] theorem State.onFn_pending (fn : Nat) (f : FnState → FnState) : (s.onFn fn f).pending = s.pending := rfl
@[simp] theorem State.onFn_kci (fn : Nat) (f : FnState → FnState) : (s.onFn fn f).kci = s.kci := rfl
@[simp] theorem State.onFn_boot (fn : Nat) (f : FnState → FnState) : (s.onFn fn f).boot = s.boot := rfl
@[simp] theorem State.onFn_safety (fn : Nat) (f : FnState → FnState) : (s.onFn fn f).safety = s.safety := rfl
@[simp] theorem State.onFn_time (fn : Nat) (f : FnState → FnState) : (s.onFn fn f).time = s.time := rfl
@[simp] theorem State.onFn_power (fn : Nat) (f : FnState → FnState) : (s.onFn fn f).power = s.power := rfl
@[simp] theorem State.onFn_supply (fn : Nat) (f : FnState → FnState) : (s.onFn fn f).supply = s.supply := rfl
@[simp] theorem State.onFn_radios (fn : Nat) (f : FnState → FnState) : (s.onFn fn f).radios = s.radios := rfl
@[simp] theorem State.onFn_sluice (fn : Nat) (f : FnState → FnState) : (s.onFn fn f).sluice = s.sluice := rfl
@[simp] theorem State.onFn_cipher (fn : Nat) (f : FnState → FnState) : (s.onFn fn f).cipher = s.cipher := rfl
@[simp] theorem State.onFn_link (fn : Nat) (f : FnState → FnState) : (s.onFn fn f).link = s.link := rfl
@[simp] theorem State.onFn_rx (fn : Nat) (f : FnState → FnState) : (s.onFn fn f).rx = s.rx := rfl
@[simp] theorem State.onFn_router (fn : Nat) (f : FnState → FnState) : (s.onFn fn f).router = s.router := rfl
@[simp] theorem State.onFn_thermal (fn : Nat) (f : FnState → FnState) : (s.onFn fn f).thermal = s.thermal := rfl
@[simp] theorem State.onFn_mem (fn : Nat) (f : FnState → FnState) : (s.onFn fn f).mem = s.mem := rfl
@[simp] theorem State.onFn_cluster (fn : Nat) (f : FnState → FnState) : (s.onFn fn f).cluster = s.cluster := rfl
@[simp] theorem State.onFn_timers (fn : Nat) (f : FnState → FnState) : (s.onFn fn f).timers = s.timers := rfl
@[simp] theorem State.onFn_counters (fn : Nat) (f : FnState → FnState) : (s.onFn fn f).counters = s.counters := rfl
@[simp] theorem State.onFn_freeCount (fn : Nat) (f : FnState → FnState) : (s.onFn fn f).freeCount = s.freeCount := rfl

@[simp] theorem State.stage_pending (fn op sel idx : Nat) (b : Bytes) : (s.stage fn op sel idx b).pending = s.pending := rfl
@[simp] theorem State.stage_kci (fn op sel idx : Nat) (b : Bytes) : (s.stage fn op sel idx b).kci = s.kci := rfl
@[simp] theorem State.stage_boot (fn op sel idx : Nat) (b : Bytes) : (s.stage fn op sel idx b).boot = s.boot := rfl
@[simp] theorem State.stage_safety (fn op sel idx : Nat) (b : Bytes) : (s.stage fn op sel idx b).safety = s.safety := rfl
@[simp] theorem State.stage_time (fn op sel idx : Nat) (b : Bytes) : (s.stage fn op sel idx b).time = s.time := rfl
@[simp] theorem State.stage_power (fn op sel idx : Nat) (b : Bytes) : (s.stage fn op sel idx b).power = s.power := rfl
@[simp] theorem State.stage_supply (fn op sel idx : Nat) (b : Bytes) : (s.stage fn op sel idx b).supply = s.supply := rfl
@[simp] theorem State.stage_radios (fn op sel idx : Nat) (b : Bytes) : (s.stage fn op sel idx b).radios = s.radios := rfl
@[simp] theorem State.stage_sluice (fn op sel idx : Nat) (b : Bytes) : (s.stage fn op sel idx b).sluice = s.sluice := rfl
@[simp] theorem State.stage_cipher (fn op sel idx : Nat) (b : Bytes) : (s.stage fn op sel idx b).cipher = s.cipher := rfl
@[simp] theorem State.stage_link (fn op sel idx : Nat) (b : Bytes) : (s.stage fn op sel idx b).link = s.link := rfl
@[simp] theorem State.stage_rx (fn op sel idx : Nat) (b : Bytes) : (s.stage fn op sel idx b).rx = s.rx := rfl
@[simp] theorem State.stage_router (fn op sel idx : Nat) (b : Bytes) : (s.stage fn op sel idx b).router = s.router := rfl
@[simp] theorem State.stage_thermal (fn op sel idx : Nat) (b : Bytes) : (s.stage fn op sel idx b).thermal = s.thermal := rfl
@[simp] theorem State.stage_mem (fn op sel idx : Nat) (b : Bytes) : (s.stage fn op sel idx b).mem = s.mem := rfl
@[simp] theorem State.stage_cluster (fn op sel idx : Nat) (b : Bytes) : (s.stage fn op sel idx b).cluster = s.cluster := rfl
@[simp] theorem State.stage_timers (fn op sel idx : Nat) (b : Bytes) : (s.stage fn op sel idx b).timers = s.timers := rfl
@[simp] theorem State.stage_counters (fn op sel idx : Nat) (b : Bytes) : (s.stage fn op sel idx b).counters = s.counters := rfl
@[simp] theorem State.stage_freeCount (fn op sel idx : Nat) (b : Bytes) : (s.stage fn op sel idx b).freeCount = s.freeCount := rfl

@[simp] theorem State.countN_pending (fn i n : Nat) : (s.countN fn i n).pending = s.pending := rfl
@[simp] theorem State.countN_kci (fn i n : Nat) : (s.countN fn i n).kci = s.kci := rfl
@[simp] theorem State.countN_coh (fn i n : Nat) : (s.countN fn i n).coh = s.coh := rfl
@[simp] theorem State.countN_boot (fn i n : Nat) : (s.countN fn i n).boot = s.boot := rfl
@[simp] theorem State.countN_safety (fn i n : Nat) : (s.countN fn i n).safety = s.safety := rfl
@[simp] theorem State.countN_time (fn i n : Nat) : (s.countN fn i n).time = s.time := rfl
@[simp] theorem State.countN_power (fn i n : Nat) : (s.countN fn i n).power = s.power := rfl
@[simp] theorem State.countN_supply (fn i n : Nat) : (s.countN fn i n).supply = s.supply := rfl
@[simp] theorem State.countN_radios (fn i n : Nat) : (s.countN fn i n).radios = s.radios := rfl
@[simp] theorem State.countN_sluice (fn i n : Nat) : (s.countN fn i n).sluice = s.sluice := rfl
@[simp] theorem State.countN_cipher (fn i n : Nat) : (s.countN fn i n).cipher = s.cipher := rfl
@[simp] theorem State.countN_link (fn i n : Nat) : (s.countN fn i n).link = s.link := rfl
@[simp] theorem State.countN_rx (fn i n : Nat) : (s.countN fn i n).rx = s.rx := rfl
@[simp] theorem State.countN_router (fn i n : Nat) : (s.countN fn i n).router = s.router := rfl
@[simp] theorem State.countN_thermal (fn i n : Nat) : (s.countN fn i n).thermal = s.thermal := rfl
@[simp] theorem State.countN_mem (fn i n : Nat) : (s.countN fn i n).mem = s.mem := rfl
@[simp] theorem State.countN_cluster (fn i n : Nat) : (s.countN fn i n).cluster = s.cluster := rfl
@[simp] theorem State.countN_timers (fn i n : Nat) : (s.countN fn i n).timers = s.timers := rfl
@[simp] theorem State.countN_freeCount (fn i n : Nat) : (s.countN fn i n).freeCount = s.freeCount := rfl

@[simp] theorem State.count_pending (fn i : Nat) : (s.count fn i).pending = s.pending := rfl
@[simp] theorem State.count_kci (fn i : Nat) : (s.count fn i).kci = s.kci := rfl
@[simp] theorem State.count_coh (fn i : Nat) : (s.count fn i).coh = s.coh := rfl
@[simp] theorem State.count_boot (fn i : Nat) : (s.count fn i).boot = s.boot := rfl
@[simp] theorem State.count_safety (fn i : Nat) : (s.count fn i).safety = s.safety := rfl
@[simp] theorem State.count_time (fn i : Nat) : (s.count fn i).time = s.time := rfl
@[simp] theorem State.count_power (fn i : Nat) : (s.count fn i).power = s.power := rfl
@[simp] theorem State.count_supply (fn i : Nat) : (s.count fn i).supply = s.supply := rfl
@[simp] theorem State.count_radios (fn i : Nat) : (s.count fn i).radios = s.radios := rfl
@[simp] theorem State.count_sluice (fn i : Nat) : (s.count fn i).sluice = s.sluice := rfl
@[simp] theorem State.count_cipher (fn i : Nat) : (s.count fn i).cipher = s.cipher := rfl
@[simp] theorem State.count_link (fn i : Nat) : (s.count fn i).link = s.link := rfl
@[simp] theorem State.count_rx (fn i : Nat) : (s.count fn i).rx = s.rx := rfl
@[simp] theorem State.count_router (fn i : Nat) : (s.count fn i).router = s.router := rfl
@[simp] theorem State.count_thermal (fn i : Nat) : (s.count fn i).thermal = s.thermal := rfl
@[simp] theorem State.count_mem (fn i : Nat) : (s.count fn i).mem = s.mem := rfl
@[simp] theorem State.count_cluster (fn i : Nat) : (s.count fn i).cluster = s.cluster := rfl
@[simp] theorem State.count_timers (fn i : Nat) : (s.count fn i).timers = s.timers := rfl
@[simp] theorem State.count_freeCount (fn i : Nat) : (s.count fn i).freeCount = s.freeCount := rfl

@[simp] theorem State.countMax_pending (fn i v : Nat) : (s.countMax fn i v).pending = s.pending := rfl
@[simp] theorem State.countMax_kci (fn i v : Nat) : (s.countMax fn i v).kci = s.kci := rfl
@[simp] theorem State.countMax_coh (fn i v : Nat) : (s.countMax fn i v).coh = s.coh := rfl
@[simp] theorem State.countMax_boot (fn i v : Nat) : (s.countMax fn i v).boot = s.boot := rfl
@[simp] theorem State.countMax_safety (fn i v : Nat) : (s.countMax fn i v).safety = s.safety := rfl
@[simp] theorem State.countMax_time (fn i v : Nat) : (s.countMax fn i v).time = s.time := rfl
@[simp] theorem State.countMax_power (fn i v : Nat) : (s.countMax fn i v).power = s.power := rfl
@[simp] theorem State.countMax_supply (fn i v : Nat) : (s.countMax fn i v).supply = s.supply := rfl
@[simp] theorem State.countMax_radios (fn i v : Nat) : (s.countMax fn i v).radios = s.radios := rfl
@[simp] theorem State.countMax_sluice (fn i v : Nat) : (s.countMax fn i v).sluice = s.sluice := rfl
@[simp] theorem State.countMax_cipher (fn i v : Nat) : (s.countMax fn i v).cipher = s.cipher := rfl
@[simp] theorem State.countMax_link (fn i v : Nat) : (s.countMax fn i v).link = s.link := rfl
@[simp] theorem State.countMax_rx (fn i v : Nat) : (s.countMax fn i v).rx = s.rx := rfl
@[simp] theorem State.countMax_router (fn i v : Nat) : (s.countMax fn i v).router = s.router := rfl
@[simp] theorem State.countMax_thermal (fn i v : Nat) : (s.countMax fn i v).thermal = s.thermal := rfl
@[simp] theorem State.countMax_mem (fn i v : Nat) : (s.countMax fn i v).mem = s.mem := rfl
@[simp] theorem State.countMax_cluster (fn i v : Nat) : (s.countMax fn i v).cluster = s.cluster := rfl
@[simp] theorem State.countMax_timers (fn i v : Nat) : (s.countMax fn i v).timers = s.timers := rfl
@[simp] theorem State.countMax_freeCount (fn i v : Nat) : (s.countMax fn i v).freeCount = s.freeCount := rfl

@[simp] theorem State.onMbx_pending (m : Fin 4) (f : Mbx → Mbx) : (s.onMbx m f).pending = s.pending := rfl
@[simp] theorem State.onMbx_coh (m : Fin 4) (f : Mbx → Mbx) : (s.onMbx m f).coh = s.coh := rfl
@[simp] theorem State.onMbx_boot (m : Fin 4) (f : Mbx → Mbx) : (s.onMbx m f).boot = s.boot := rfl
@[simp] theorem State.onMbx_safety (m : Fin 4) (f : Mbx → Mbx) : (s.onMbx m f).safety = s.safety := rfl
@[simp] theorem State.onMbx_time (m : Fin 4) (f : Mbx → Mbx) : (s.onMbx m f).time = s.time := rfl
@[simp] theorem State.onMbx_power (m : Fin 4) (f : Mbx → Mbx) : (s.onMbx m f).power = s.power := rfl
@[simp] theorem State.onMbx_supply (m : Fin 4) (f : Mbx → Mbx) : (s.onMbx m f).supply = s.supply := rfl
@[simp] theorem State.onMbx_radios (m : Fin 4) (f : Mbx → Mbx) : (s.onMbx m f).radios = s.radios := rfl
@[simp] theorem State.onMbx_sluice (m : Fin 4) (f : Mbx → Mbx) : (s.onMbx m f).sluice = s.sluice := rfl
@[simp] theorem State.onMbx_cipher (m : Fin 4) (f : Mbx → Mbx) : (s.onMbx m f).cipher = s.cipher := rfl
@[simp] theorem State.onMbx_link (m : Fin 4) (f : Mbx → Mbx) : (s.onMbx m f).link = s.link := rfl
@[simp] theorem State.onMbx_rx (m : Fin 4) (f : Mbx → Mbx) : (s.onMbx m f).rx = s.rx := rfl
@[simp] theorem State.onMbx_router (m : Fin 4) (f : Mbx → Mbx) : (s.onMbx m f).router = s.router := rfl
@[simp] theorem State.onMbx_thermal (m : Fin 4) (f : Mbx → Mbx) : (s.onMbx m f).thermal = s.thermal := rfl
@[simp] theorem State.onMbx_mem (m : Fin 4) (f : Mbx → Mbx) : (s.onMbx m f).mem = s.mem := rfl
@[simp] theorem State.onMbx_cluster (m : Fin 4) (f : Mbx → Mbx) : (s.onMbx m f).cluster = s.cluster := rfl
@[simp] theorem State.onMbx_timers (m : Fin 4) (f : Mbx → Mbx) : (s.onMbx m f).timers = s.timers := rfl
@[simp] theorem State.onMbx_counters (m : Fin 4) (f : Mbx → Mbx) : (s.onMbx m f).counters = s.counters := rfl
@[simp] theorem State.onMbx_freeCount (m : Fin 4) (f : Mbx → Mbx) : (s.onMbx m f).freeCount = s.freeCount := rfl

@[simp] theorem State.onRecord_pending (no : Nat) (f : FaultRec → FaultRec) : (s.onRecord no f).pending = s.pending := rfl
@[simp] theorem State.onRecord_kci (no : Nat) (f : FaultRec → FaultRec) : (s.onRecord no f).kci = s.kci := rfl
@[simp] theorem State.onRecord_coh (no : Nat) (f : FaultRec → FaultRec) : (s.onRecord no f).coh = s.coh := rfl
@[simp] theorem State.onRecord_boot (no : Nat) (f : FaultRec → FaultRec) : (s.onRecord no f).boot = s.boot := rfl
@[simp] theorem State.onRecord_time (no : Nat) (f : FaultRec → FaultRec) : (s.onRecord no f).time = s.time := rfl
@[simp] theorem State.onRecord_power (no : Nat) (f : FaultRec → FaultRec) : (s.onRecord no f).power = s.power := rfl
@[simp] theorem State.onRecord_supply (no : Nat) (f : FaultRec → FaultRec) : (s.onRecord no f).supply = s.supply := rfl
@[simp] theorem State.onRecord_radios (no : Nat) (f : FaultRec → FaultRec) : (s.onRecord no f).radios = s.radios := rfl
@[simp] theorem State.onRecord_sluice (no : Nat) (f : FaultRec → FaultRec) : (s.onRecord no f).sluice = s.sluice := rfl
@[simp] theorem State.onRecord_cipher (no : Nat) (f : FaultRec → FaultRec) : (s.onRecord no f).cipher = s.cipher := rfl
@[simp] theorem State.onRecord_link (no : Nat) (f : FaultRec → FaultRec) : (s.onRecord no f).link = s.link := rfl
@[simp] theorem State.onRecord_rx (no : Nat) (f : FaultRec → FaultRec) : (s.onRecord no f).rx = s.rx := rfl
@[simp] theorem State.onRecord_router (no : Nat) (f : FaultRec → FaultRec) : (s.onRecord no f).router = s.router := rfl
@[simp] theorem State.onRecord_thermal (no : Nat) (f : FaultRec → FaultRec) : (s.onRecord no f).thermal = s.thermal := rfl
@[simp] theorem State.onRecord_mem (no : Nat) (f : FaultRec → FaultRec) : (s.onRecord no f).mem = s.mem := rfl
@[simp] theorem State.onRecord_cluster (no : Nat) (f : FaultRec → FaultRec) : (s.onRecord no f).cluster = s.cluster := rfl
@[simp] theorem State.onRecord_timers (no : Nat) (f : FaultRec → FaultRec) : (s.onRecord no f).timers = s.timers := rfl
@[simp] theorem State.onRecord_counters (no : Nat) (f : FaultRec → FaultRec) : (s.onRecord no f).counters = s.counters := rfl
@[simp] theorem State.onRecord_freeCount (no : Nat) (f : FaultRec → FaultRec) : (s.onRecord no f).freeCount = s.freeCount := rfl

@[simp] theorem State.onAccount_pending (i : Fin 16) (f : Account → Account) : (s.onAccount i f).pending = s.pending := rfl
@[simp] theorem State.onAccount_kci (i : Fin 16) (f : Account → Account) : (s.onAccount i f).kci = s.kci := rfl
@[simp] theorem State.onAccount_coh (i : Fin 16) (f : Account → Account) : (s.onAccount i f).coh = s.coh := rfl
@[simp] theorem State.onAccount_boot (i : Fin 16) (f : Account → Account) : (s.onAccount i f).boot = s.boot := rfl
@[simp] theorem State.onAccount_safety (i : Fin 16) (f : Account → Account) : (s.onAccount i f).safety = s.safety := rfl
@[simp] theorem State.onAccount_time (i : Fin 16) (f : Account → Account) : (s.onAccount i f).time = s.time := rfl
@[simp] theorem State.onAccount_power (i : Fin 16) (f : Account → Account) : (s.onAccount i f).power = s.power := rfl
@[simp] theorem State.onAccount_supply (i : Fin 16) (f : Account → Account) : (s.onAccount i f).supply = s.supply := rfl
@[simp] theorem State.onAccount_radios (i : Fin 16) (f : Account → Account) : (s.onAccount i f).radios = s.radios := rfl
@[simp] theorem State.onAccount_cipher (i : Fin 16) (f : Account → Account) : (s.onAccount i f).cipher = s.cipher := rfl
@[simp] theorem State.onAccount_link (i : Fin 16) (f : Account → Account) : (s.onAccount i f).link = s.link := rfl
@[simp] theorem State.onAccount_rx (i : Fin 16) (f : Account → Account) : (s.onAccount i f).rx = s.rx := rfl
@[simp] theorem State.onAccount_router (i : Fin 16) (f : Account → Account) : (s.onAccount i f).router = s.router := rfl
@[simp] theorem State.onAccount_thermal (i : Fin 16) (f : Account → Account) : (s.onAccount i f).thermal = s.thermal := rfl
@[simp] theorem State.onAccount_mem (i : Fin 16) (f : Account → Account) : (s.onAccount i f).mem = s.mem := rfl
@[simp] theorem State.onAccount_cluster (i : Fin 16) (f : Account → Account) : (s.onAccount i f).cluster = s.cluster := rfl
@[simp] theorem State.onAccount_timers (i : Fin 16) (f : Account → Account) : (s.onAccount i f).timers = s.timers := rfl
@[simp] theorem State.onAccount_counters (i : Fin 16) (f : Account → Account) : (s.onAccount i f).counters = s.counters := rfl
@[simp] theorem State.onAccount_freeCount (i : Fin 16) (f : Account → Account) : (s.onAccount i f).freeCount = s.freeCount := rfl

@[simp] theorem State.onLaunch_pending (l : Nat) (f : Launch → Launch) : (s.onLaunch l f).pending = s.pending := rfl
@[simp] theorem State.onLaunch_kci (l : Nat) (f : Launch → Launch) : (s.onLaunch l f).kci = s.kci := rfl
@[simp] theorem State.onLaunch_coh (l : Nat) (f : Launch → Launch) : (s.onLaunch l f).coh = s.coh := rfl
@[simp] theorem State.onLaunch_boot (l : Nat) (f : Launch → Launch) : (s.onLaunch l f).boot = s.boot := rfl
@[simp] theorem State.onLaunch_safety (l : Nat) (f : Launch → Launch) : (s.onLaunch l f).safety = s.safety := rfl
@[simp] theorem State.onLaunch_time (l : Nat) (f : Launch → Launch) : (s.onLaunch l f).time = s.time := rfl
@[simp] theorem State.onLaunch_power (l : Nat) (f : Launch → Launch) : (s.onLaunch l f).power = s.power := rfl
@[simp] theorem State.onLaunch_supply (l : Nat) (f : Launch → Launch) : (s.onLaunch l f).supply = s.supply := rfl
@[simp] theorem State.onLaunch_radios (l : Nat) (f : Launch → Launch) : (s.onLaunch l f).radios = s.radios := rfl
@[simp] theorem State.onLaunch_cipher (l : Nat) (f : Launch → Launch) : (s.onLaunch l f).cipher = s.cipher := rfl
@[simp] theorem State.onLaunch_link (l : Nat) (f : Launch → Launch) : (s.onLaunch l f).link = s.link := rfl
@[simp] theorem State.onLaunch_rx (l : Nat) (f : Launch → Launch) : (s.onLaunch l f).rx = s.rx := rfl
@[simp] theorem State.onLaunch_router (l : Nat) (f : Launch → Launch) : (s.onLaunch l f).router = s.router := rfl
@[simp] theorem State.onLaunch_thermal (l : Nat) (f : Launch → Launch) : (s.onLaunch l f).thermal = s.thermal := rfl
@[simp] theorem State.onLaunch_mem (l : Nat) (f : Launch → Launch) : (s.onLaunch l f).mem = s.mem := rfl
@[simp] theorem State.onLaunch_cluster (l : Nat) (f : Launch → Launch) : (s.onLaunch l f).cluster = s.cluster := rfl
@[simp] theorem State.onLaunch_timers (l : Nat) (f : Launch → Launch) : (s.onLaunch l f).timers = s.timers := rfl
@[simp] theorem State.onLaunch_counters (l : Nat) (f : Launch → Launch) : (s.onLaunch l f).counters = s.counters := rfl
@[simp] theorem State.onLaunch_freeCount (l : Nat) (f : Launch → Launch) : (s.onLaunch l f).freeCount = s.freeCount := rfl

@[simp] theorem State.onFrame_pending (n : Nat) (f : DlFrame → DlFrame) : (s.onFrame n f).pending = s.pending := rfl
@[simp] theorem State.onFrame_kci (n : Nat) (f : DlFrame → DlFrame) : (s.onFrame n f).kci = s.kci := rfl
@[simp] theorem State.onFrame_coh (n : Nat) (f : DlFrame → DlFrame) : (s.onFrame n f).coh = s.coh := rfl
@[simp] theorem State.onFrame_boot (n : Nat) (f : DlFrame → DlFrame) : (s.onFrame n f).boot = s.boot := rfl
@[simp] theorem State.onFrame_safety (n : Nat) (f : DlFrame → DlFrame) : (s.onFrame n f).safety = s.safety := rfl
@[simp] theorem State.onFrame_time (n : Nat) (f : DlFrame → DlFrame) : (s.onFrame n f).time = s.time := rfl
@[simp] theorem State.onFrame_power (n : Nat) (f : DlFrame → DlFrame) : (s.onFrame n f).power = s.power := rfl
@[simp] theorem State.onFrame_supply (n : Nat) (f : DlFrame → DlFrame) : (s.onFrame n f).supply = s.supply := rfl
@[simp] theorem State.onFrame_radios (n : Nat) (f : DlFrame → DlFrame) : (s.onFrame n f).radios = s.radios := rfl
@[simp] theorem State.onFrame_cipher (n : Nat) (f : DlFrame → DlFrame) : (s.onFrame n f).cipher = s.cipher := rfl
@[simp] theorem State.onFrame_link (n : Nat) (f : DlFrame → DlFrame) : (s.onFrame n f).link = s.link := rfl
@[simp] theorem State.onFrame_rx (n : Nat) (f : DlFrame → DlFrame) : (s.onFrame n f).rx = s.rx := rfl
@[simp] theorem State.onFrame_router (n : Nat) (f : DlFrame → DlFrame) : (s.onFrame n f).router = s.router := rfl
@[simp] theorem State.onFrame_thermal (n : Nat) (f : DlFrame → DlFrame) : (s.onFrame n f).thermal = s.thermal := rfl
@[simp] theorem State.onFrame_mem (n : Nat) (f : DlFrame → DlFrame) : (s.onFrame n f).mem = s.mem := rfl
@[simp] theorem State.onFrame_cluster (n : Nat) (f : DlFrame → DlFrame) : (s.onFrame n f).cluster = s.cluster := rfl
@[simp] theorem State.onFrame_timers (n : Nat) (f : DlFrame → DlFrame) : (s.onFrame n f).timers = s.timers := rfl
@[simp] theorem State.onFrame_counters (n : Nat) (f : DlFrame → DlFrame) : (s.onFrame n f).counters = s.counters := rfl
@[simp] theorem State.onFrame_freeCount (n : Nat) (f : DlFrame → DlFrame) : (s.onFrame n f).freeCount = s.freeCount := rfl

@[simp] theorem State.onPage_pending (p : Fin 32) (f : Page → Page) : (s.onPage p f).pending = s.pending := rfl
@[simp] theorem State.onPage_kci (p : Fin 32) (f : Page → Page) : (s.onPage p f).kci = s.kci := rfl
@[simp] theorem State.onPage_coh (p : Fin 32) (f : Page → Page) : (s.onPage p f).coh = s.coh := rfl
@[simp] theorem State.onPage_boot (p : Fin 32) (f : Page → Page) : (s.onPage p f).boot = s.boot := rfl
@[simp] theorem State.onPage_safety (p : Fin 32) (f : Page → Page) : (s.onPage p f).safety = s.safety := rfl
@[simp] theorem State.onPage_time (p : Fin 32) (f : Page → Page) : (s.onPage p f).time = s.time := rfl
@[simp] theorem State.onPage_power (p : Fin 32) (f : Page → Page) : (s.onPage p f).power = s.power := rfl
@[simp] theorem State.onPage_supply (p : Fin 32) (f : Page → Page) : (s.onPage p f).supply = s.supply := rfl
@[simp] theorem State.onPage_radios (p : Fin 32) (f : Page → Page) : (s.onPage p f).radios = s.radios := rfl
@[simp] theorem State.onPage_sluice (p : Fin 32) (f : Page → Page) : (s.onPage p f).sluice = s.sluice := rfl
@[simp] theorem State.onPage_link (p : Fin 32) (f : Page → Page) : (s.onPage p f).link = s.link := rfl
@[simp] theorem State.onPage_rx (p : Fin 32) (f : Page → Page) : (s.onPage p f).rx = s.rx := rfl
@[simp] theorem State.onPage_router (p : Fin 32) (f : Page → Page) : (s.onPage p f).router = s.router := rfl
@[simp] theorem State.onPage_thermal (p : Fin 32) (f : Page → Page) : (s.onPage p f).thermal = s.thermal := rfl
@[simp] theorem State.onPage_mem (p : Fin 32) (f : Page → Page) : (s.onPage p f).mem = s.mem := rfl
@[simp] theorem State.onPage_cluster (p : Fin 32) (f : Page → Page) : (s.onPage p f).cluster = s.cluster := rfl
@[simp] theorem State.onPage_timers (p : Fin 32) (f : Page → Page) : (s.onPage p f).timers = s.timers := rfl
@[simp] theorem State.onPage_counters (p : Fin 32) (f : Page → Page) : (s.onPage p f).counters = s.counters := rfl
@[simp] theorem State.onPage_freeCount (p : Fin 32) (f : Page → Page) : (s.onPage p f).freeCount = s.freeCount := rfl

@[simp] theorem State.onJournal_pending (f : Journal → Journal) : (s.onJournal f).pending = s.pending := rfl
@[simp] theorem State.onJournal_kci (f : Journal → Journal) : (s.onJournal f).kci = s.kci := rfl
@[simp] theorem State.onJournal_coh (f : Journal → Journal) : (s.onJournal f).coh = s.coh := rfl
@[simp] theorem State.onJournal_boot (f : Journal → Journal) : (s.onJournal f).boot = s.boot := rfl
@[simp] theorem State.onJournal_safety (f : Journal → Journal) : (s.onJournal f).safety = s.safety := rfl
@[simp] theorem State.onJournal_time (f : Journal → Journal) : (s.onJournal f).time = s.time := rfl
@[simp] theorem State.onJournal_power (f : Journal → Journal) : (s.onJournal f).power = s.power := rfl
@[simp] theorem State.onJournal_supply (f : Journal → Journal) : (s.onJournal f).supply = s.supply := rfl
@[simp] theorem State.onJournal_radios (f : Journal → Journal) : (s.onJournal f).radios = s.radios := rfl
@[simp] theorem State.onJournal_sluice (f : Journal → Journal) : (s.onJournal f).sluice = s.sluice := rfl
@[simp] theorem State.onJournal_link (f : Journal → Journal) : (s.onJournal f).link = s.link := rfl
@[simp] theorem State.onJournal_rx (f : Journal → Journal) : (s.onJournal f).rx = s.rx := rfl
@[simp] theorem State.onJournal_router (f : Journal → Journal) : (s.onJournal f).router = s.router := rfl
@[simp] theorem State.onJournal_thermal (f : Journal → Journal) : (s.onJournal f).thermal = s.thermal := rfl
@[simp] theorem State.onJournal_mem (f : Journal → Journal) : (s.onJournal f).mem = s.mem := rfl
@[simp] theorem State.onJournal_cluster (f : Journal → Journal) : (s.onJournal f).cluster = s.cluster := rfl
@[simp] theorem State.onJournal_timers (f : Journal → Journal) : (s.onJournal f).timers = s.timers := rfl
@[simp] theorem State.onJournal_counters (f : Journal → Journal) : (s.onJournal f).counters = s.counters := rfl
@[simp] theorem State.onJournal_freeCount (f : Journal → Journal) : (s.onJournal f).freeCount = s.freeCount := rfl

@[simp] theorem State.onNb_pending (i : Nat) (f : NbState → NbState) : (s.onNb i f).pending = s.pending := rfl
@[simp] theorem State.onNb_kci (i : Nat) (f : NbState → NbState) : (s.onNb i f).kci = s.kci := rfl
@[simp] theorem State.onNb_coh (i : Nat) (f : NbState → NbState) : (s.onNb i f).coh = s.coh := rfl
@[simp] theorem State.onNb_boot (i : Nat) (f : NbState → NbState) : (s.onNb i f).boot = s.boot := rfl
@[simp] theorem State.onNb_safety (i : Nat) (f : NbState → NbState) : (s.onNb i f).safety = s.safety := rfl
@[simp] theorem State.onNb_time (i : Nat) (f : NbState → NbState) : (s.onNb i f).time = s.time := rfl
@[simp] theorem State.onNb_power (i : Nat) (f : NbState → NbState) : (s.onNb i f).power = s.power := rfl
@[simp] theorem State.onNb_supply (i : Nat) (f : NbState → NbState) : (s.onNb i f).supply = s.supply := rfl
@[simp] theorem State.onNb_radios (i : Nat) (f : NbState → NbState) : (s.onNb i f).radios = s.radios := rfl
@[simp] theorem State.onNb_sluice (i : Nat) (f : NbState → NbState) : (s.onNb i f).sluice = s.sluice := rfl
@[simp] theorem State.onNb_cipher (i : Nat) (f : NbState → NbState) : (s.onNb i f).cipher = s.cipher := rfl
@[simp] theorem State.onNb_rx (i : Nat) (f : NbState → NbState) : (s.onNb i f).rx = s.rx := rfl
@[simp] theorem State.onNb_router (i : Nat) (f : NbState → NbState) : (s.onNb i f).router = s.router := rfl
@[simp] theorem State.onNb_thermal (i : Nat) (f : NbState → NbState) : (s.onNb i f).thermal = s.thermal := rfl
@[simp] theorem State.onNb_mem (i : Nat) (f : NbState → NbState) : (s.onNb i f).mem = s.mem := rfl
@[simp] theorem State.onNb_cluster (i : Nat) (f : NbState → NbState) : (s.onNb i f).cluster = s.cluster := rfl
@[simp] theorem State.onNb_timers (i : Nat) (f : NbState → NbState) : (s.onNb i f).timers = s.timers := rfl
@[simp] theorem State.onNb_counters (i : Nat) (f : NbState → NbState) : (s.onNb i f).counters = s.counters := rfl
@[simp] theorem State.onNb_freeCount (i : Nat) (f : NbState → NbState) : (s.onNb i f).freeCount = s.freeCount := rfl

@[simp] theorem State.onWindow_pending (r : Fin 3) (w : Fin 2) (f : Window → Window) : (s.onWindow r w f).pending = s.pending := rfl
@[simp] theorem State.onWindow_kci (r : Fin 3) (w : Fin 2) (f : Window → Window) : (s.onWindow r w f).kci = s.kci := rfl
@[simp] theorem State.onWindow_coh (r : Fin 3) (w : Fin 2) (f : Window → Window) : (s.onWindow r w f).coh = s.coh := rfl
@[simp] theorem State.onWindow_boot (r : Fin 3) (w : Fin 2) (f : Window → Window) : (s.onWindow r w f).boot = s.boot := rfl
@[simp] theorem State.onWindow_safety (r : Fin 3) (w : Fin 2) (f : Window → Window) : (s.onWindow r w f).safety = s.safety := rfl
@[simp] theorem State.onWindow_time (r : Fin 3) (w : Fin 2) (f : Window → Window) : (s.onWindow r w f).time = s.time := rfl
@[simp] theorem State.onWindow_power (r : Fin 3) (w : Fin 2) (f : Window → Window) : (s.onWindow r w f).power = s.power := rfl
@[simp] theorem State.onWindow_supply (r : Fin 3) (w : Fin 2) (f : Window → Window) : (s.onWindow r w f).supply = s.supply := rfl
@[simp] theorem State.onWindow_sluice (r : Fin 3) (w : Fin 2) (f : Window → Window) : (s.onWindow r w f).sluice = s.sluice := rfl
@[simp] theorem State.onWindow_cipher (r : Fin 3) (w : Fin 2) (f : Window → Window) : (s.onWindow r w f).cipher = s.cipher := rfl
@[simp] theorem State.onWindow_link (r : Fin 3) (w : Fin 2) (f : Window → Window) : (s.onWindow r w f).link = s.link := rfl
@[simp] theorem State.onWindow_rx (r : Fin 3) (w : Fin 2) (f : Window → Window) : (s.onWindow r w f).rx = s.rx := rfl
@[simp] theorem State.onWindow_router (r : Fin 3) (w : Fin 2) (f : Window → Window) : (s.onWindow r w f).router = s.router := rfl
@[simp] theorem State.onWindow_thermal (r : Fin 3) (w : Fin 2) (f : Window → Window) : (s.onWindow r w f).thermal = s.thermal := rfl
@[simp] theorem State.onWindow_mem (r : Fin 3) (w : Fin 2) (f : Window → Window) : (s.onWindow r w f).mem = s.mem := rfl
@[simp] theorem State.onWindow_cluster (r : Fin 3) (w : Fin 2) (f : Window → Window) : (s.onWindow r w f).cluster = s.cluster := rfl
@[simp] theorem State.onWindow_timers (r : Fin 3) (w : Fin 2) (f : Window → Window) : (s.onWindow r w f).timers = s.timers := rfl
@[simp] theorem State.onWindow_counters (r : Fin 3) (w : Fin 2) (f : Window → Window) : (s.onWindow r w f).counters = s.counters := rfl
@[simp] theorem State.onWindow_freeCount (r : Fin 3) (w : Fin 2) (f : Window → Window) : (s.onWindow r w f).freeCount = s.freeCount := rfl

@[simp] theorem State.onChan_pending (ch : Nat) (f : Chan → Chan) : (s.onChan ch f).pending = s.pending := rfl
@[simp] theorem State.onChan_kci (ch : Nat) (f : Chan → Chan) : (s.onChan ch f).kci = s.kci := rfl
@[simp] theorem State.onChan_coh (ch : Nat) (f : Chan → Chan) : (s.onChan ch f).coh = s.coh := rfl
@[simp] theorem State.onChan_boot (ch : Nat) (f : Chan → Chan) : (s.onChan ch f).boot = s.boot := rfl
@[simp] theorem State.onChan_safety (ch : Nat) (f : Chan → Chan) : (s.onChan ch f).safety = s.safety := rfl
@[simp] theorem State.onChan_time (ch : Nat) (f : Chan → Chan) : (s.onChan ch f).time = s.time := rfl
@[simp] theorem State.onChan_power (ch : Nat) (f : Chan → Chan) : (s.onChan ch f).power = s.power := rfl
@[simp] theorem State.onChan_supply (ch : Nat) (f : Chan → Chan) : (s.onChan ch f).supply = s.supply := rfl
@[simp] theorem State.onChan_radios (ch : Nat) (f : Chan → Chan) : (s.onChan ch f).radios = s.radios := rfl
@[simp] theorem State.onChan_sluice (ch : Nat) (f : Chan → Chan) : (s.onChan ch f).sluice = s.sluice := rfl
@[simp] theorem State.onChan_cipher (ch : Nat) (f : Chan → Chan) : (s.onChan ch f).cipher = s.cipher := rfl
@[simp] theorem State.onChan_link (ch : Nat) (f : Chan → Chan) : (s.onChan ch f).link = s.link := rfl
@[simp] theorem State.onChan_router (ch : Nat) (f : Chan → Chan) : (s.onChan ch f).router = s.router := rfl
@[simp] theorem State.onChan_thermal (ch : Nat) (f : Chan → Chan) : (s.onChan ch f).thermal = s.thermal := rfl
@[simp] theorem State.onChan_mem (ch : Nat) (f : Chan → Chan) : (s.onChan ch f).mem = s.mem := rfl
@[simp] theorem State.onChan_cluster (ch : Nat) (f : Chan → Chan) : (s.onChan ch f).cluster = s.cluster := rfl
@[simp] theorem State.onChan_timers (ch : Nat) (f : Chan → Chan) : (s.onChan ch f).timers = s.timers := rfl
@[simp] theorem State.onChan_counters (ch : Nat) (f : Chan → Chan) : (s.onChan ch f).counters = s.counters := rfl
@[simp] theorem State.onChan_freeCount (ch : Nat) (f : Chan → Chan) : (s.onChan ch f).freeCount = s.freeCount := rfl

@[simp] theorem State.onRxFrame_pending (n : Nat) (f : RxFrame → RxFrame) : (s.onRxFrame n f).pending = s.pending := rfl
@[simp] theorem State.onRxFrame_kci (n : Nat) (f : RxFrame → RxFrame) : (s.onRxFrame n f).kci = s.kci := rfl
@[simp] theorem State.onRxFrame_coh (n : Nat) (f : RxFrame → RxFrame) : (s.onRxFrame n f).coh = s.coh := rfl
@[simp] theorem State.onRxFrame_boot (n : Nat) (f : RxFrame → RxFrame) : (s.onRxFrame n f).boot = s.boot := rfl
@[simp] theorem State.onRxFrame_safety (n : Nat) (f : RxFrame → RxFrame) : (s.onRxFrame n f).safety = s.safety := rfl
@[simp] theorem State.onRxFrame_time (n : Nat) (f : RxFrame → RxFrame) : (s.onRxFrame n f).time = s.time := rfl
@[simp] theorem State.onRxFrame_power (n : Nat) (f : RxFrame → RxFrame) : (s.onRxFrame n f).power = s.power := rfl
@[simp] theorem State.onRxFrame_supply (n : Nat) (f : RxFrame → RxFrame) : (s.onRxFrame n f).supply = s.supply := rfl
@[simp] theorem State.onRxFrame_radios (n : Nat) (f : RxFrame → RxFrame) : (s.onRxFrame n f).radios = s.radios := rfl
@[simp] theorem State.onRxFrame_sluice (n : Nat) (f : RxFrame → RxFrame) : (s.onRxFrame n f).sluice = s.sluice := rfl
@[simp] theorem State.onRxFrame_cipher (n : Nat) (f : RxFrame → RxFrame) : (s.onRxFrame n f).cipher = s.cipher := rfl
@[simp] theorem State.onRxFrame_link (n : Nat) (f : RxFrame → RxFrame) : (s.onRxFrame n f).link = s.link := rfl
@[simp] theorem State.onRxFrame_router (n : Nat) (f : RxFrame → RxFrame) : (s.onRxFrame n f).router = s.router := rfl
@[simp] theorem State.onRxFrame_thermal (n : Nat) (f : RxFrame → RxFrame) : (s.onRxFrame n f).thermal = s.thermal := rfl
@[simp] theorem State.onRxFrame_mem (n : Nat) (f : RxFrame → RxFrame) : (s.onRxFrame n f).mem = s.mem := rfl
@[simp] theorem State.onRxFrame_cluster (n : Nat) (f : RxFrame → RxFrame) : (s.onRxFrame n f).cluster = s.cluster := rfl
@[simp] theorem State.onRxFrame_timers (n : Nat) (f : RxFrame → RxFrame) : (s.onRxFrame n f).timers = s.timers := rfl
@[simp] theorem State.onRxFrame_counters (n : Nat) (f : RxFrame → RxFrame) : (s.onRxFrame n f).counters = s.counters := rfl
@[simp] theorem State.onRxFrame_freeCount (n : Nat) (f : RxFrame → RxFrame) : (s.onRxFrame n f).freeCount = s.freeCount := rfl

@[simp] theorem State.onQueue_pending (c : Fin 4) (f : JobQueue → JobQueue) : (s.onQueue c f).pending = s.pending := rfl
@[simp] theorem State.onQueue_kci (c : Fin 4) (f : JobQueue → JobQueue) : (s.onQueue c f).kci = s.kci := rfl
@[simp] theorem State.onQueue_coh (c : Fin 4) (f : JobQueue → JobQueue) : (s.onQueue c f).coh = s.coh := rfl
@[simp] theorem State.onQueue_boot (c : Fin 4) (f : JobQueue → JobQueue) : (s.onQueue c f).boot = s.boot := rfl
@[simp] theorem State.onQueue_safety (c : Fin 4) (f : JobQueue → JobQueue) : (s.onQueue c f).safety = s.safety := rfl
@[simp] theorem State.onQueue_time (c : Fin 4) (f : JobQueue → JobQueue) : (s.onQueue c f).time = s.time := rfl
@[simp] theorem State.onQueue_power (c : Fin 4) (f : JobQueue → JobQueue) : (s.onQueue c f).power = s.power := rfl
@[simp] theorem State.onQueue_supply (c : Fin 4) (f : JobQueue → JobQueue) : (s.onQueue c f).supply = s.supply := rfl
@[simp] theorem State.onQueue_radios (c : Fin 4) (f : JobQueue → JobQueue) : (s.onQueue c f).radios = s.radios := rfl
@[simp] theorem State.onQueue_sluice (c : Fin 4) (f : JobQueue → JobQueue) : (s.onQueue c f).sluice = s.sluice := rfl
@[simp] theorem State.onQueue_cipher (c : Fin 4) (f : JobQueue → JobQueue) : (s.onQueue c f).cipher = s.cipher := rfl
@[simp] theorem State.onQueue_link (c : Fin 4) (f : JobQueue → JobQueue) : (s.onQueue c f).link = s.link := rfl
@[simp] theorem State.onQueue_router (c : Fin 4) (f : JobQueue → JobQueue) : (s.onQueue c f).router = s.router := rfl
@[simp] theorem State.onQueue_thermal (c : Fin 4) (f : JobQueue → JobQueue) : (s.onQueue c f).thermal = s.thermal := rfl
@[simp] theorem State.onQueue_mem (c : Fin 4) (f : JobQueue → JobQueue) : (s.onQueue c f).mem = s.mem := rfl
@[simp] theorem State.onQueue_cluster (c : Fin 4) (f : JobQueue → JobQueue) : (s.onQueue c f).cluster = s.cluster := rfl
@[simp] theorem State.onQueue_timers (c : Fin 4) (f : JobQueue → JobQueue) : (s.onQueue c f).timers = s.timers := rfl
@[simp] theorem State.onQueue_counters (c : Fin 4) (f : JobQueue → JobQueue) : (s.onQueue c f).counters = s.counters := rfl
@[simp] theorem State.onQueue_freeCount (c : Fin 4) (f : JobQueue → JobQueue) : (s.onQueue c f).freeCount = s.freeCount := rfl

@[simp] theorem State.onEngine_pending (e : Fin 48) (f : Engine → Engine) : (s.onEngine e f).pending = s.pending := rfl
@[simp] theorem State.onEngine_kci (e : Fin 48) (f : Engine → Engine) : (s.onEngine e f).kci = s.kci := rfl
@[simp] theorem State.onEngine_coh (e : Fin 48) (f : Engine → Engine) : (s.onEngine e f).coh = s.coh := rfl
@[simp] theorem State.onEngine_boot (e : Fin 48) (f : Engine → Engine) : (s.onEngine e f).boot = s.boot := rfl
@[simp] theorem State.onEngine_safety (e : Fin 48) (f : Engine → Engine) : (s.onEngine e f).safety = s.safety := rfl
@[simp] theorem State.onEngine_time (e : Fin 48) (f : Engine → Engine) : (s.onEngine e f).time = s.time := rfl
@[simp] theorem State.onEngine_power (e : Fin 48) (f : Engine → Engine) : (s.onEngine e f).power = s.power := rfl
@[simp] theorem State.onEngine_supply (e : Fin 48) (f : Engine → Engine) : (s.onEngine e f).supply = s.supply := rfl
@[simp] theorem State.onEngine_radios (e : Fin 48) (f : Engine → Engine) : (s.onEngine e f).radios = s.radios := rfl
@[simp] theorem State.onEngine_sluice (e : Fin 48) (f : Engine → Engine) : (s.onEngine e f).sluice = s.sluice := rfl
@[simp] theorem State.onEngine_cipher (e : Fin 48) (f : Engine → Engine) : (s.onEngine e f).cipher = s.cipher := rfl
@[simp] theorem State.onEngine_link (e : Fin 48) (f : Engine → Engine) : (s.onEngine e f).link = s.link := rfl
@[simp] theorem State.onEngine_router (e : Fin 48) (f : Engine → Engine) : (s.onEngine e f).router = s.router := rfl
@[simp] theorem State.onEngine_thermal (e : Fin 48) (f : Engine → Engine) : (s.onEngine e f).thermal = s.thermal := rfl
@[simp] theorem State.onEngine_mem (e : Fin 48) (f : Engine → Engine) : (s.onEngine e f).mem = s.mem := rfl
@[simp] theorem State.onEngine_cluster (e : Fin 48) (f : Engine → Engine) : (s.onEngine e f).cluster = s.cluster := rfl
@[simp] theorem State.onEngine_timers (e : Fin 48) (f : Engine → Engine) : (s.onEngine e f).timers = s.timers := rfl
@[simp] theorem State.onEngine_counters (e : Fin 48) (f : Engine → Engine) : (s.onEngine e f).counters = s.counters := rfl
@[simp] theorem State.onEngine_freeCount (e : Fin 48) (f : Engine → Engine) : (s.onEngine e f).freeCount = s.freeCount := rfl

@[simp] theorem State.onThread_pending (t : Nat) (f : Thread → Thread) : (s.onThread t f).pending = s.pending := rfl
@[simp] theorem State.onThread_kci (t : Nat) (f : Thread → Thread) : (s.onThread t f).kci = s.kci := rfl
@[simp] theorem State.onThread_coh (t : Nat) (f : Thread → Thread) : (s.onThread t f).coh = s.coh := rfl
@[simp] theorem State.onThread_boot (t : Nat) (f : Thread → Thread) : (s.onThread t f).boot = s.boot := rfl
@[simp] theorem State.onThread_safety (t : Nat) (f : Thread → Thread) : (s.onThread t f).safety = s.safety := rfl
@[simp] theorem State.onThread_time (t : Nat) (f : Thread → Thread) : (s.onThread t f).time = s.time := rfl
@[simp] theorem State.onThread_power (t : Nat) (f : Thread → Thread) : (s.onThread t f).power = s.power := rfl
@[simp] theorem State.onThread_supply (t : Nat) (f : Thread → Thread) : (s.onThread t f).supply = s.supply := rfl
@[simp] theorem State.onThread_radios (t : Nat) (f : Thread → Thread) : (s.onThread t f).radios = s.radios := rfl
@[simp] theorem State.onThread_sluice (t : Nat) (f : Thread → Thread) : (s.onThread t f).sluice = s.sluice := rfl
@[simp] theorem State.onThread_cipher (t : Nat) (f : Thread → Thread) : (s.onThread t f).cipher = s.cipher := rfl
@[simp] theorem State.onThread_link (t : Nat) (f : Thread → Thread) : (s.onThread t f).link = s.link := rfl
@[simp] theorem State.onThread_rx (t : Nat) (f : Thread → Thread) : (s.onThread t f).rx = s.rx := rfl
@[simp] theorem State.onThread_router (t : Nat) (f : Thread → Thread) : (s.onThread t f).router = s.router := rfl
@[simp] theorem State.onThread_thermal (t : Nat) (f : Thread → Thread) : (s.onThread t f).thermal = s.thermal := rfl
@[simp] theorem State.onThread_mem (t : Nat) (f : Thread → Thread) : (s.onThread t f).mem = s.mem := rfl
@[simp] theorem State.onThread_timers (t : Nat) (f : Thread → Thread) : (s.onThread t f).timers = s.timers := rfl
@[simp] theorem State.onThread_counters (t : Nat) (f : Thread → Thread) : (s.onThread t f).counters = s.counters := rfl
@[simp] theorem State.onThread_freeCount (t : Nat) (f : Thread → Thread) : (s.onThread t f).freeCount = s.freeCount := rfl

@[simp] theorem State.onCore_pending (c : Fin 8) (f : Core → Core) : (s.onCore c f).pending = s.pending := rfl
@[simp] theorem State.onCore_kci (c : Fin 8) (f : Core → Core) : (s.onCore c f).kci = s.kci := rfl
@[simp] theorem State.onCore_coh (c : Fin 8) (f : Core → Core) : (s.onCore c f).coh = s.coh := rfl
@[simp] theorem State.onCore_boot (c : Fin 8) (f : Core → Core) : (s.onCore c f).boot = s.boot := rfl
@[simp] theorem State.onCore_safety (c : Fin 8) (f : Core → Core) : (s.onCore c f).safety = s.safety := rfl
@[simp] theorem State.onCore_time (c : Fin 8) (f : Core → Core) : (s.onCore c f).time = s.time := rfl
@[simp] theorem State.onCore_power (c : Fin 8) (f : Core → Core) : (s.onCore c f).power = s.power := rfl
@[simp] theorem State.onCore_supply (c : Fin 8) (f : Core → Core) : (s.onCore c f).supply = s.supply := rfl
@[simp] theorem State.onCore_radios (c : Fin 8) (f : Core → Core) : (s.onCore c f).radios = s.radios := rfl
@[simp] theorem State.onCore_sluice (c : Fin 8) (f : Core → Core) : (s.onCore c f).sluice = s.sluice := rfl
@[simp] theorem State.onCore_cipher (c : Fin 8) (f : Core → Core) : (s.onCore c f).cipher = s.cipher := rfl
@[simp] theorem State.onCore_link (c : Fin 8) (f : Core → Core) : (s.onCore c f).link = s.link := rfl
@[simp] theorem State.onCore_rx (c : Fin 8) (f : Core → Core) : (s.onCore c f).rx = s.rx := rfl
@[simp] theorem State.onCore_router (c : Fin 8) (f : Core → Core) : (s.onCore c f).router = s.router := rfl
@[simp] theorem State.onCore_thermal (c : Fin 8) (f : Core → Core) : (s.onCore c f).thermal = s.thermal := rfl
@[simp] theorem State.onCore_mem (c : Fin 8) (f : Core → Core) : (s.onCore c f).mem = s.mem := rfl
@[simp] theorem State.onCore_timers (c : Fin 8) (f : Core → Core) : (s.onCore c f).timers = s.timers := rfl
@[simp] theorem State.onCore_counters (c : Fin 8) (f : Core → Core) : (s.onCore c f).counters = s.counters := rfl
@[simp] theorem State.onCore_freeCount (c : Fin 8) (f : Core → Core) : (s.onCore c f).freeCount = s.freeCount := rfl

@[simp] theorem State.onRail_pending (r : Fin 10) (f : Rail → Rail) : (s.onRail r f).pending = s.pending := rfl
@[simp] theorem State.onRail_kci (r : Fin 10) (f : Rail → Rail) : (s.onRail r f).kci = s.kci := rfl
@[simp] theorem State.onRail_coh (r : Fin 10) (f : Rail → Rail) : (s.onRail r f).coh = s.coh := rfl
@[simp] theorem State.onRail_boot (r : Fin 10) (f : Rail → Rail) : (s.onRail r f).boot = s.boot := rfl
@[simp] theorem State.onRail_safety (r : Fin 10) (f : Rail → Rail) : (s.onRail r f).safety = s.safety := rfl
@[simp] theorem State.onRail_time (r : Fin 10) (f : Rail → Rail) : (s.onRail r f).time = s.time := rfl
@[simp] theorem State.onRail_power (r : Fin 10) (f : Rail → Rail) : (s.onRail r f).power = s.power := rfl
@[simp] theorem State.onRail_radios (r : Fin 10) (f : Rail → Rail) : (s.onRail r f).radios = s.radios := rfl
@[simp] theorem State.onRail_sluice (r : Fin 10) (f : Rail → Rail) : (s.onRail r f).sluice = s.sluice := rfl
@[simp] theorem State.onRail_cipher (r : Fin 10) (f : Rail → Rail) : (s.onRail r f).cipher = s.cipher := rfl
@[simp] theorem State.onRail_link (r : Fin 10) (f : Rail → Rail) : (s.onRail r f).link = s.link := rfl
@[simp] theorem State.onRail_rx (r : Fin 10) (f : Rail → Rail) : (s.onRail r f).rx = s.rx := rfl
@[simp] theorem State.onRail_router (r : Fin 10) (f : Rail → Rail) : (s.onRail r f).router = s.router := rfl
@[simp] theorem State.onRail_thermal (r : Fin 10) (f : Rail → Rail) : (s.onRail r f).thermal = s.thermal := rfl
@[simp] theorem State.onRail_mem (r : Fin 10) (f : Rail → Rail) : (s.onRail r f).mem = s.mem := rfl
@[simp] theorem State.onRail_cluster (r : Fin 10) (f : Rail → Rail) : (s.onRail r f).cluster = s.cluster := rfl
@[simp] theorem State.onRail_timers (r : Fin 10) (f : Rail → Rail) : (s.onRail r f).timers = s.timers := rfl
@[simp] theorem State.onRail_counters (r : Fin 10) (f : Rail → Rail) : (s.onRail r f).counters = s.counters := rfl
@[simp] theorem State.onRail_freeCount (r : Fin 10) (f : Rail → Rail) : (s.onRail r f).freeCount = s.freeCount := rfl

@[simp] theorem State.onEgress_pending (e : Fin 6) (f : Egress → Egress) : (s.onEgress e f).pending = s.pending := rfl
@[simp] theorem State.onEgress_kci (e : Fin 6) (f : Egress → Egress) : (s.onEgress e f).kci = s.kci := rfl
@[simp] theorem State.onEgress_coh (e : Fin 6) (f : Egress → Egress) : (s.onEgress e f).coh = s.coh := rfl
@[simp] theorem State.onEgress_boot (e : Fin 6) (f : Egress → Egress) : (s.onEgress e f).boot = s.boot := rfl
@[simp] theorem State.onEgress_safety (e : Fin 6) (f : Egress → Egress) : (s.onEgress e f).safety = s.safety := rfl
@[simp] theorem State.onEgress_time (e : Fin 6) (f : Egress → Egress) : (s.onEgress e f).time = s.time := rfl
@[simp] theorem State.onEgress_power (e : Fin 6) (f : Egress → Egress) : (s.onEgress e f).power = s.power := rfl
@[simp] theorem State.onEgress_supply (e : Fin 6) (f : Egress → Egress) : (s.onEgress e f).supply = s.supply := rfl
@[simp] theorem State.onEgress_radios (e : Fin 6) (f : Egress → Egress) : (s.onEgress e f).radios = s.radios := rfl
@[simp] theorem State.onEgress_sluice (e : Fin 6) (f : Egress → Egress) : (s.onEgress e f).sluice = s.sluice := rfl
@[simp] theorem State.onEgress_cipher (e : Fin 6) (f : Egress → Egress) : (s.onEgress e f).cipher = s.cipher := rfl
@[simp] theorem State.onEgress_link (e : Fin 6) (f : Egress → Egress) : (s.onEgress e f).link = s.link := rfl
@[simp] theorem State.onEgress_rx (e : Fin 6) (f : Egress → Egress) : (s.onEgress e f).rx = s.rx := rfl
@[simp] theorem State.onEgress_thermal (e : Fin 6) (f : Egress → Egress) : (s.onEgress e f).thermal = s.thermal := rfl
@[simp] theorem State.onEgress_mem (e : Fin 6) (f : Egress → Egress) : (s.onEgress e f).mem = s.mem := rfl
@[simp] theorem State.onEgress_cluster (e : Fin 6) (f : Egress → Egress) : (s.onEgress e f).cluster = s.cluster := rfl
@[simp] theorem State.onEgress_timers (e : Fin 6) (f : Egress → Egress) : (s.onEgress e f).timers = s.timers := rfl
@[simp] theorem State.onEgress_counters (e : Fin 6) (f : Egress → Egress) : (s.onEgress e f).counters = s.counters := rfl
@[simp] theorem State.onEgress_freeCount (e : Fin 6) (f : Egress → Egress) : (s.onEgress e f).freeCount = s.freeCount := rfl

@[simp] theorem State.onChannel_pending (c : Fin 2) (f : Channel → Channel) : (s.onChannel c f).pending = s.pending := rfl
@[simp] theorem State.onChannel_kci (c : Fin 2) (f : Channel → Channel) : (s.onChannel c f).kci = s.kci := rfl
@[simp] theorem State.onChannel_coh (c : Fin 2) (f : Channel → Channel) : (s.onChannel c f).coh = s.coh := rfl
@[simp] theorem State.onChannel_boot (c : Fin 2) (f : Channel → Channel) : (s.onChannel c f).boot = s.boot := rfl
@[simp] theorem State.onChannel_safety (c : Fin 2) (f : Channel → Channel) : (s.onChannel c f).safety = s.safety := rfl
@[simp] theorem State.onChannel_time (c : Fin 2) (f : Channel → Channel) : (s.onChannel c f).time = s.time := rfl
@[simp] theorem State.onChannel_power (c : Fin 2) (f : Channel → Channel) : (s.onChannel c f).power = s.power := rfl
@[simp] theorem State.onChannel_supply (c : Fin 2) (f : Channel → Channel) : (s.onChannel c f).supply = s.supply := rfl
@[simp] theorem State.onChannel_radios (c : Fin 2) (f : Channel → Channel) : (s.onChannel c f).radios = s.radios := rfl
@[simp] theorem State.onChannel_sluice (c : Fin 2) (f : Channel → Channel) : (s.onChannel c f).sluice = s.sluice := rfl
@[simp] theorem State.onChannel_cipher (c : Fin 2) (f : Channel → Channel) : (s.onChannel c f).cipher = s.cipher := rfl
@[simp] theorem State.onChannel_link (c : Fin 2) (f : Channel → Channel) : (s.onChannel c f).link = s.link := rfl
@[simp] theorem State.onChannel_rx (c : Fin 2) (f : Channel → Channel) : (s.onChannel c f).rx = s.rx := rfl
@[simp] theorem State.onChannel_router (c : Fin 2) (f : Channel → Channel) : (s.onChannel c f).router = s.router := rfl
@[simp] theorem State.onChannel_thermal (c : Fin 2) (f : Channel → Channel) : (s.onChannel c f).thermal = s.thermal := rfl
@[simp] theorem State.onChannel_cluster (c : Fin 2) (f : Channel → Channel) : (s.onChannel c f).cluster = s.cluster := rfl
@[simp] theorem State.onChannel_timers (c : Fin 2) (f : Channel → Channel) : (s.onChannel c f).timers = s.timers := rfl
@[simp] theorem State.onChannel_counters (c : Fin 2) (f : Channel → Channel) : (s.onChannel c f).counters = s.counters := rfl
@[simp] theorem State.onChannel_freeCount (c : Fin 2) (f : Channel → Channel) : (s.onChannel c f).freeCount = s.freeCount := rfl

@[simp] theorem State.onRecorder_pending (r : Fin 3) (f : Recorder → Recorder) : (s.onRecorder r f).pending = s.pending := rfl
@[simp] theorem State.onRecorder_kci (r : Fin 3) (f : Recorder → Recorder) : (s.onRecorder r f).kci = s.kci := rfl
@[simp] theorem State.onRecorder_coh (r : Fin 3) (f : Recorder → Recorder) : (s.onRecorder r f).coh = s.coh := rfl
@[simp] theorem State.onRecorder_boot (r : Fin 3) (f : Recorder → Recorder) : (s.onRecorder r f).boot = s.boot := rfl
@[simp] theorem State.onRecorder_safety (r : Fin 3) (f : Recorder → Recorder) : (s.onRecorder r f).safety = s.safety := rfl
@[simp] theorem State.onRecorder_time (r : Fin 3) (f : Recorder → Recorder) : (s.onRecorder r f).time = s.time := rfl
@[simp] theorem State.onRecorder_power (r : Fin 3) (f : Recorder → Recorder) : (s.onRecorder r f).power = s.power := rfl
@[simp] theorem State.onRecorder_supply (r : Fin 3) (f : Recorder → Recorder) : (s.onRecorder r f).supply = s.supply := rfl
@[simp] theorem State.onRecorder_radios (r : Fin 3) (f : Recorder → Recorder) : (s.onRecorder r f).radios = s.radios := rfl
@[simp] theorem State.onRecorder_sluice (r : Fin 3) (f : Recorder → Recorder) : (s.onRecorder r f).sluice = s.sluice := rfl
@[simp] theorem State.onRecorder_cipher (r : Fin 3) (f : Recorder → Recorder) : (s.onRecorder r f).cipher = s.cipher := rfl
@[simp] theorem State.onRecorder_link (r : Fin 3) (f : Recorder → Recorder) : (s.onRecorder r f).link = s.link := rfl
@[simp] theorem State.onRecorder_rx (r : Fin 3) (f : Recorder → Recorder) : (s.onRecorder r f).rx = s.rx := rfl
@[simp] theorem State.onRecorder_router (r : Fin 3) (f : Recorder → Recorder) : (s.onRecorder r f).router = s.router := rfl
@[simp] theorem State.onRecorder_thermal (r : Fin 3) (f : Recorder → Recorder) : (s.onRecorder r f).thermal = s.thermal := rfl
@[simp] theorem State.onRecorder_cluster (r : Fin 3) (f : Recorder → Recorder) : (s.onRecorder r f).cluster = s.cluster := rfl
@[simp] theorem State.onRecorder_timers (r : Fin 3) (f : Recorder → Recorder) : (s.onRecorder r f).timers = s.timers := rfl
@[simp] theorem State.onRecorder_counters (r : Fin 3) (f : Recorder → Recorder) : (s.onRecorder r f).counters = s.counters := rfl
@[simp] theorem State.onRecorder_freeCount (r : Fin 3) (f : Recorder → Recorder) : (s.onRecorder r f).freeCount = s.freeCount := rfl

/-! ### Physical memory -/

/-- A byte of the tables of Backwater changes the calibration store and the bytes of memory alone. -/
theorem State.storeTable_frame (a : Nat) (b : Byte) : ∃ st ph,
    s.storeTable a b = { s with radios := { s.radios with store := st }, mem := { s.mem with phys := ph } } := by
  unfold State.storeTable
  split
  · dsimp only
    split
    · exact ⟨_, _, rfl⟩
    · exact ⟨_, _, rfl⟩
  · exact ⟨s.radios.store, s.mem.phys, rfl⟩

theorem State.storeEach_frame (b : Bytes) : ∀ (s : State) (a : Nat), ∃ st ph,
    s.storeEach a b = { s with radios := { s.radios with store := st }, mem := { s.mem with phys := ph } } := by
  induction b with
  | nil => exact fun s a => ⟨s.radios.store, s.mem.phys, rfl⟩
  | cons x xs ih =>
    intro s a
    unfold State.storeEach
    split
    · obtain ⟨st, ph, h⟩ := ih (s.onMem fun m => { m with phys := memWrite m.phys a x }) (a + 1)
      exact ⟨st, ph, by rw [h]; rfl⟩
    · obtain ⟨u, v, e⟩ := s.storeTable_frame a x
      obtain ⟨st, ph, h⟩ := ih (s.storeTable a x) (a + 1)
      exact ⟨st, ph, by rw [h, e]⟩

/-- A store changes the calibration store, the bytes of memory and the poison marks alone. -/
theorem State.store_frame (a : Nat) (b : Bytes) : ∃ st ph po,
    s.store a b = { s with radios := { s.radios with store := st }, mem := { s.mem with phys := ph, poison := po } } := by
  unfold State.store
  split
  · exact ⟨s.radios.store, _, _, rfl⟩
  · obtain ⟨st, ph, h⟩ := State.storeEach_frame b s a
    exact ⟨st, ph, _, by rw [h]; rfl⟩

/-- Away from the tables of Backwater a store writes its bytes to memory and leaves the calibration store. -/
theorem State.store_plain (a : Nat) (b : Bytes) (h : offTables a b.length = true) :
    (s.store a b).mem.phys = memWrites s.mem.phys a b ∧ (s.store a b).radios = s.radios := by
  unfold State.store
  rw [if_pos h]
  exact ⟨rfl, rfl⟩

/-- The counter table takes no store (R300). -/
theorem State.storeTable_counters (a : Nat) (b : Byte) (h : counterTable ≤ a) : s.storeTable a b = s := by
  unfold State.storeTable
  rw [if_neg (Nat.not_lt.mpr h)]

@[simp] theorem State.store_pending (a : Nat) (b : Bytes) : (s.store a b).pending = s.pending := by
  obtain ⟨_, _, _, h⟩ := s.store_frame a b; rw [h]
@[simp] theorem State.store_kci (a : Nat) (b : Bytes) : (s.store a b).kci = s.kci := by
  obtain ⟨_, _, _, h⟩ := s.store_frame a b; rw [h]
@[simp] theorem State.store_coh (a : Nat) (b : Bytes) : (s.store a b).coh = s.coh := by
  obtain ⟨_, _, _, h⟩ := s.store_frame a b; rw [h]
@[simp] theorem State.store_boot (a : Nat) (b : Bytes) : (s.store a b).boot = s.boot := by
  obtain ⟨_, _, _, h⟩ := s.store_frame a b; rw [h]
@[simp] theorem State.store_safety (a : Nat) (b : Bytes) : (s.store a b).safety = s.safety := by
  obtain ⟨_, _, _, h⟩ := s.store_frame a b; rw [h]
@[simp] theorem State.store_time (a : Nat) (b : Bytes) : (s.store a b).time = s.time := by
  obtain ⟨_, _, _, h⟩ := s.store_frame a b; rw [h]
@[simp] theorem State.store_power (a : Nat) (b : Bytes) : (s.store a b).power = s.power := by
  obtain ⟨_, _, _, h⟩ := s.store_frame a b; rw [h]
@[simp] theorem State.store_supply (a : Nat) (b : Bytes) : (s.store a b).supply = s.supply := by
  obtain ⟨_, _, _, h⟩ := s.store_frame a b; rw [h]
@[simp] theorem State.store_sluice (a : Nat) (b : Bytes) : (s.store a b).sluice = s.sluice := by
  obtain ⟨_, _, _, h⟩ := s.store_frame a b; rw [h]
@[simp] theorem State.store_cipher (a : Nat) (b : Bytes) : (s.store a b).cipher = s.cipher := by
  obtain ⟨_, _, _, h⟩ := s.store_frame a b; rw [h]
@[simp] theorem State.store_link (a : Nat) (b : Bytes) : (s.store a b).link = s.link := by
  obtain ⟨_, _, _, h⟩ := s.store_frame a b; rw [h]
@[simp] theorem State.store_rx (a : Nat) (b : Bytes) : (s.store a b).rx = s.rx := by
  obtain ⟨_, _, _, h⟩ := s.store_frame a b; rw [h]
@[simp] theorem State.store_router (a : Nat) (b : Bytes) : (s.store a b).router = s.router := by
  obtain ⟨_, _, _, h⟩ := s.store_frame a b; rw [h]
@[simp] theorem State.store_thermal (a : Nat) (b : Bytes) : (s.store a b).thermal = s.thermal := by
  obtain ⟨_, _, _, h⟩ := s.store_frame a b; rw [h]
@[simp] theorem State.store_cluster (a : Nat) (b : Bytes) : (s.store a b).cluster = s.cluster := by
  obtain ⟨_, _, _, h⟩ := s.store_frame a b; rw [h]
@[simp] theorem State.store_timers (a : Nat) (b : Bytes) : (s.store a b).timers = s.timers := by
  obtain ⟨_, _, _, h⟩ := s.store_frame a b; rw [h]
@[simp] theorem State.store_counters (a : Nat) (b : Bytes) : (s.store a b).counters = s.counters := by
  obtain ⟨_, _, _, h⟩ := s.store_frame a b; rw [h]
@[simp] theorem State.store_freeCount (a : Nat) (b : Bytes) : (s.store a b).freeCount = s.freeCount := by
  obtain ⟨_, _, _, h⟩ := s.store_frame a b; rw [h]

end Sys2Proof.Machine
end

