-- ==== Sys2Proof/Laws/Tables.lean ====
section
/-!
SUPPORT. Laws of sparse tables and of byte memory: reading what was written, leaving the rest, and keeping the canonical form.
-/

namespace Sys2Proof.Machine

variable {α : Type}

/-! ### Reading after writing -/

@[simp] theorem mget_mset_same (m : NMap α) (k : Nat) (v : α) : mget (mset m k v) k = some v := by
  induction m with
  | nil => simp [mset, mget]
  | cons e r ih =>
    obtain ⟨j, w⟩ := e
    simp only [mset]
    split
    · simp [mget]
    · split
      · simp [mget]
      · rename_i h1 h2
        simp only [beq_iff_eq] at h2
        simp [mget, h1, h2, ih]

theorem mget_mset_other (m : NMap α) (k j : Nat) (v : α) (h : j ≠ k) : mget (mset m k v) j = mget m j := by
  induction m with
  | nil => simp only [mset, mget]; split <;> simp_all
  | cons e r ih =>
    obtain ⟨i, w⟩ := e
    simp only [mset]
    split
    · rename_i hk
      simp only [mget, beq_iff_eq]
      rw [if_neg h]
      split
      · rename_i hj
        rw [if_neg (by omega), if_pos (by omega)]
      · rfl
    · split
      · rename_i hk
        simp only [beq_iff_eq] at hk
        subst hk
        simp [mget, h]
      · simp only [mget, ih]

/-- Keys above a bound. -/
def keysAbove (b : Nat) (m : NMap α) : Bool := m.all fun e => decide (b < e.1)

theorem keysRise_cons (e : Nat × α) (r : NMap α) : keysRise (e :: r) = true ↔ keysAbove e.1 r = true ∧ keysRise r = true := by
  induction r generalizing e with
  | nil => simp [keysRise, keysAbove]
  | cons f r ih =>
    obtain ⟨j, v⟩ := e
    obtain ⟨k, w⟩ := f
    have h2 := ih (k, w)
    simp only [keysRise, keysAbove, Bool.and_eq_true, decide_eq_true_eq, List.all_cons, List.all_eq_true] at h2 ⊢
    constructor
    · rintro ⟨h, h1⟩
      have h3 := (h2.mp h1).1
      exact ⟨⟨h, fun x hx => Nat.lt_trans h (h3 x hx)⟩, h1⟩
    · rintro ⟨⟨h, _⟩, h1⟩
      exact ⟨h, h1⟩

theorem mget_below (m : NMap α) (b k : Nat) (h : keysAbove b m = true) (hk : k ≤ b) : mget m k = none := by
  cases m with
  | nil => rfl
  | cons e r =>
    obtain ⟨j, v⟩ := e
    simp only [keysAbove, List.all_cons, Bool.and_eq_true, decide_eq_true_eq] at h
    simp only [mget, beq_iff_eq]
    rw [if_neg (by omega), if_pos (by omega)]

@[simp] theorem mget_mdel_same (m : NMap α) (k : Nat) (h : keysRise m = true) : mget (mdel m k) k = none := by
  induction m with
  | nil => rfl
  | cons e r ih =>
    obtain ⟨j, v⟩ := e
    rw [keysRise_cons] at h
    simp only [mdel]
    split
    · rename_i hk
      simp only [mget, beq_iff_eq]
      rw [if_neg (by omega), if_pos hk]
    · split
      · rename_i hk
        simp only [beq_iff_eq] at hk
        exact mget_below r j k h.1 (by simp [hk])
      · rename_i h1 h2
        simp only [beq_iff_eq] at h2
        simp only [mget, beq_iff_eq, if_neg h2, if_neg h1]
        exact ih h.2

theorem mget_mdel_other (m : NMap α) (k j : Nat) (h : keysRise m = true) (hj : j ≠ k) : mget (mdel m k) j = mget m j := by
  induction m with
  | nil => rfl
  | cons e r ih =>
    obtain ⟨i, v⟩ := e
    rw [keysRise_cons] at h
    simp only [mdel]
    split
    · rfl
    · split
      · rename_i hk
        simp only [beq_iff_eq] at hk
        subst hk
        simp only [mget, beq_iff_eq, if_neg hj]
        split
        · exact mget_below r k j h.1 (by omega)
        · rfl
      · simp only [mget, ih h.2]

theorem mget_msetD_same [DecidableEq α] (d : α) (m : NMap α) (k : Nat) (v : α) (h : keysRise m = true) :
    (mget (msetD d m k v) k).getD d = v := by
  unfold msetD
  split
  · rename_i hv; simp [h, hv]
  · simp

theorem mget_msetD_other [DecidableEq α] (d : α) (m : NMap α) (k j : Nat) (v : α) (h : keysRise m = true) (hj : j ≠ k) :
    mget (msetD d m k v) j = mget m j := by
  unfold msetD
  split
  · exact mget_mdel_other m k j h hj
  · exact mget_mset_other m k j v hj

theorem mgetD_mmod_same [DecidableEq α] (d : α) (m : NMap α) (k : Nat) (f : α → α) (h : keysRise m = true) :
    mgetD (mmod d m k f) k d = f (mgetD m k d) := mget_msetD_same d m k _ h

theorem mgetD_mmod_other [DecidableEq α] (d : α) (m : NMap α) (k j : Nat) (f : α → α) (h : keysRise m = true) (hj : j ≠ k) :
    mgetD (mmod d m k f) j d = mgetD m j d := by
  unfold mgetD mmod
  rw [mget_msetD_other d m k j _ h hj]

/-! ### The canonical form -/

theorem keysAbove_mset (b : Nat) (m : NMap α) (k : Nat) (v : α) (h : keysAbove b m = true) (hk : b < k) :
    keysAbove b (mset m k v) = true := by
  induction m with
  | nil => simp [mset, keysAbove, hk]
  | cons e r ih =>
    obtain ⟨j, w⟩ := e
    simp only [keysAbove, List.all_cons, Bool.and_eq_true, decide_eq_true_eq] at h ih
    simp only [mset]
    split
    · simp only [keysAbove, List.all_cons, Bool.and_eq_true, decide_eq_true_eq]; exact ⟨hk, h.1, h.2⟩
    · split
      · simp only [keysAbove, List.all_cons, Bool.and_eq_true, decide_eq_true_eq]; exact ⟨hk, h.2⟩
      · simp only [keysAbove, List.all_cons, Bool.and_eq_true, decide_eq_true_eq]; exact ⟨h.1, ih h.2⟩

theorem keysAbove_of_lt (b c : Nat) (m : NMap α) (h : keysAbove c m = true) (hb : b ≤ c) : keysAbove b m = true := by
  simp only [keysAbove, List.all_eq_true, decide_eq_true_eq] at h ⊢
  exact fun x hx => Nat.lt_of_le_of_lt hb (h x hx)

theorem keysRise_mset (m : NMap α) (k : Nat) (v : α) (h : keysRise m = true) : keysRise (mset m k v) = true := by
  induction m with
  | nil => rfl
  | cons e r ih =>
    obtain ⟨j, w⟩ := e
    have h' := (keysRise_cons (j, w) r).mp h
    simp only [mset]
    split
    · rename_i hk
      rw [keysRise_cons]
      refine ⟨?_, h⟩
      have h3 := keysAbove_of_lt k j r h'.1 (by omega)
      simp only [keysAbove, List.all_cons, Bool.and_eq_true, decide_eq_true_eq] at h3 ⊢
      exact ⟨hk, h3⟩
    · split
      · rename_i hk
        simp only [beq_iff_eq] at hk
        subst hk
        rw [keysRise_cons]; exact h'
      · rename_i h1 h2
        simp only [beq_iff_eq] at h2
        rw [keysRise_cons]
        exact ⟨keysAbove_mset j r k v h'.1 (by omega), ih h'.2⟩

theorem keysAbove_mdel (b : Nat) (m : NMap α) (k : Nat) (h : keysAbove b m = true) : keysAbove b (mdel m k) = true := by
  induction m with
  | nil => rfl
  | cons e r ih =>
    obtain ⟨j, w⟩ := e
    simp only [keysAbove, List.all_cons, Bool.and_eq_true, decide_eq_true_eq] at h ih
    simp only [mdel]
    split
    · simp only [keysAbove, List.all_cons, Bool.and_eq_true, decide_eq_true_eq]; exact h
    · split
      · exact h.2
      · simp only [keysAbove, List.all_cons, Bool.and_eq_true, decide_eq_true_eq]; exact ⟨h.1, ih h.2⟩

theorem keysRise_mdel (m : NMap α) (k : Nat) (h : keysRise m = true) : keysRise (mdel m k) = true := by
  induction m with
  | nil => rfl
  | cons e r ih =>
    obtain ⟨j, w⟩ := e
    have h' := (keysRise_cons (j, w) r).mp h
    simp only [mdel]
    split
    · exact h
    · split
      · exact h'.2
      · rw [keysRise_cons]; exact ⟨keysAbove_mdel j r k h'.1, ih h'.2⟩

theorem keysRise_msetD [DecidableEq α] (d : α) (m : NMap α) (k : Nat) (v : α) (h : keysRise m = true) :
    keysRise (msetD d m k v) = true := by
  unfold msetD
  split
  · exact keysRise_mdel m k h
  · exact keysRise_mset m k v h

theorem keysAbove_filter (b : Nat) (m : NMap α) (p : Nat × α → Bool) (h : keysAbove b m = true) :
    keysAbove b (m.filter p) = true := by
  simp only [keysAbove, List.all_eq_true, decide_eq_true_eq, List.mem_filter] at h ⊢
  exact fun x hx => h x hx.1

theorem keysRise_filter (m : NMap α) (p : Nat × α → Bool) (h : keysRise m = true) : keysRise (m.filter p) = true := by
  induction m with
  | nil => rfl
  | cons e r ih =>
    have h' := (keysRise_cons e r).mp h
    simp only [List.filter_cons]
    split
    · rw [keysRise_cons]; exact ⟨keysAbove_filter e.1 r p h'.1, ih h'.2⟩
    · exact ih h'.2

/-! ### Byte memory -/

theorem mem_mset (m : NMap α) (k : Nat) (v : α) (e : Nat × α) (h : e ∈ mset m k v) : e = (k, v) ∨ e ∈ m := by
  induction m with
  | nil => simp only [mset, List.mem_singleton] at h; exact .inl h
  | cons f r ih =>
    obtain ⟨j, w⟩ := f
    simp only [mset] at h
    split at h
    · simp only [List.mem_cons] at h ⊢; exact h
    · split at h
      · simp only [List.mem_cons] at h ⊢
        rcases h with h | h
        · exact .inl h
        · exact .inr (.inr h)
      · simp only [List.mem_cons] at h ⊢
        rcases h with h | h
        · exact .inr (.inl h)
        · rcases ih h with h | h
          · exact .inl h
          · exact .inr (.inr h)

theorem mem_mdel (m : NMap α) (k : Nat) (e : Nat × α) (h : e ∈ mdel m k) : e ∈ m := by
  induction m with
  | nil => exact h
  | cons f r ih =>
    obtain ⟨j, w⟩ := f
    simp only [mdel] at h
    split at h
    · exact h
    · split at h
      · exact List.mem_cons_of_mem _ h
      · simp only [List.mem_cons] at h ⊢
        rcases h with h | h
        · exact .inl h
        · exact .inr (ih h)

@[simp] theorem Memory.wf_nil : Memory.wf [] = true := rfl

theorem memWrite_wf (m : Mem) (a : Nat) (b : Byte) (h : Memory.wf m = true) : Memory.wf (memWrite m a b) = true := by
  simp only [Memory.wf, Bool.and_eq_true, List.all_eq_true, bne_iff_ne, ne_eq, memWrite] at h ⊢
  refine ⟨keysRise_msetD _ m a b h.1, ?_⟩
  intro x hx
  unfold msetD at hx
  split at hx
  · exact h.2 x (mem_mdel m a x hx)
  · rename_i hb
    rcases mem_mset m a b x hx with hx | hx
    · rw [hx]; exact hb
    · exact h.2 x hx

theorem memWrites_wf (bs : Bytes) : ∀ (m : Mem) (a : Nat), Memory.wf m = true → Memory.wf (memWrites m a bs) = true := by
  induction bs with
  | nil => exact fun _ _ h => h
  | cons b bs ih => exact fun m a h => ih _ _ (memWrite_wf m a b h)

theorem Memory.wf_filter (m : Mem) (p : Host.Cell → Bool) (h : Memory.wf m = true) : Memory.wf (m.filter p) = true := by
  simp only [Memory.wf, Bool.and_eq_true, List.all_eq_true, List.mem_filter] at h ⊢
  exact ⟨keysRise_filter m p h.1, fun x hx => h.2 x hx.1⟩

theorem Memory.wf_keysRise (m : Mem) (h : Memory.wf m = true) : keysRise m = true := by
  simp only [Memory.wf, Bool.and_eq_true] at h; exact h.1

theorem memRead_memWrite_same (m : Mem) (a : Nat) (b : Byte) (h : Memory.wf m = true) : memRead (memWrite m a b) a = b :=
  mget_msetD_same memUnlisted m a b (Memory.wf_keysRise m h)

theorem memRead_memWrite_other (m : Mem) (a k : Nat) (b : Byte) (h : Memory.wf m = true) (hk : k ≠ a) :
    memRead (memWrite m a b) k = memRead m k := by
  unfold memRead mgetD memWrite
  rw [mget_msetD_other memUnlisted m a k b (Memory.wf_keysRise m h) hk]

/-- A byte outside the run written reads as before. -/
theorem memRead_memWrites_outside (bs : Bytes) : ∀ (m : Mem) (a k : Nat), Memory.wf m = true → (k < a ∨ a + bs.length ≤ k) →
    memRead (memWrites m a bs) k = memRead m k := by
  induction bs with
  | nil => exact fun _ _ _ _ _ => rfl
  | cons b bs ih =>
    intro m a k h hk
    simp only [List.length_cons] at hk
    rw [memWrites, ih _ _ k (memWrite_wf m a b h) (by omega), memRead_memWrite_other m a k b h (by omega)]

/-- A byte of the run written reads as written. -/
theorem memRead_memWrites_inside (bs : Bytes) : ∀ (m : Mem) (a i : Nat), Memory.wf m = true → i < bs.length →
    memRead (memWrites m a bs) (a + i) = bs.getD i 0 := by
  induction bs with
  | nil => intro _ _ i _ h; simp at h
  | cons b bs ih =>
    intro m a i h hi
    rw [memWrites]
    cases i with
    | zero =>
      rw [memRead_memWrites_outside bs _ _ _ (memWrite_wf m a b h) (by omega)]
      simpa using memRead_memWrite_same m a b h
    | succ i =>
      have h2 := ih (memWrite m a b) (a + 1) i (memWrite_wf m a b h) (by simp at hi; omega)
      rw [show a + (i + 1) = a + 1 + i by omega, h2]
      simp

@[simp] theorem memReads_length (m : Mem) (n : Nat) : ∀ a, (memReads m a n).length = n := by
  induction n with
  | zero => intro a; rfl
  | succ n ih => intro a; simp [memReads, ih]

theorem memReads_getD (m : Mem) (n : Nat) : ∀ (a i : Nat), i < n → (memReads m a n).getD i 0 = memRead m (a + i) := by
  induction n with
  | zero => intro _ i h; omega
  | succ n ih =>
    intro a i h
    cases i with
    | zero => simp [memReads]
    | succ i =>
      have h2 := ih (a + 1) i (by omega)
      simp only [memReads, List.getD_cons_succ]
      rw [h2, show a + (i + 1) = a + 1 + i by omega]

/-- A run written reads back whole. -/
theorem memReads_memWrites (m : Mem) (a : Nat) (bs : Bytes) (h : Memory.wf m = true) :
    memReads (memWrites m a bs) a bs.length = bs := by
  apply List.ext_getElem
  · simp
  · intro i h1 h2
    have h3 := memReads_getD (memWrites m a bs) bs.length a i h2
    rw [memRead_memWrites_inside bs m a i h h2] at h3
    simpa [List.getD_eq_getElem?_getD, h1, h2] using h3

end Sys2Proof.Machine
end

