-- ==== Sys2Proof/Laws/Ops.lean ====
section
/-!
SUPPORT. What the shared operations of the interface can do: raising an event, writing a response, taking and running a request.
-/

namespace Sys2Proof.Machine

/-! ### Interrupts and events -/

/-- Sending messages changes the vectors alone. -/
theorem sendMsix_frame (k : Kci) : sendMsix k = { k with vecs := (sendMsix k).vecs } := by
  unfold sendMsix; split <;> rfl

/-- Setting a pending bit changes that bit and the vectors alone. -/
theorem setPendingBit_frame (k : Kci) (n : Nat) :
    setPendingBit k n =
      { k with intPending := k.intPending ||| BitVec.ofNat 256 (2 ^ n), vecs := (setPendingBit k n).vecs } := by
  unfold setPendingBit; rw [sendMsix_frame]

/-- A record changes the event ring, its tail and the drop counters alone, and keeps the ring memory canonical. -/
theorem putEvent_frame (k : Kci) (rec : Bytes) :
    putEvent k rec = { k with
      bar0 := (putEvent k rec).bar0, evtTail := (putEvent k rec).evtTail, dropped := (putEvent k rec).dropped
      droppedSince := (putEvent k rec).droppedSince } := by
  unfold putEvent; split <;> rfl

theorem putEvent_wf (k : Kci) (rec : Bytes) (h : Memory.wf k.bar0 = true) : Memory.wf (putEvent k rec).bar0 = true := by
  unfold putEvent; split
  · exact h
  · exact memWrites_wf rec k.bar0 _ h

/-- A full ring takes no record and counts it. -/
theorem putEvent_full (k : Kci) (rec : Bytes) (h : 1024 ≤ evtUsed k) :
    putEvent k rec = { k with dropped := k.dropped + 1, droppedSince := k.droppedSince + 1 } := by
  simp [putEvent, h]

/-- A ring with space takes the record at its tail. -/
theorem putEvent_space (k : Kci) (rec : Bytes) (h : evtUsed k < 1024) :
    putEvent k rec = { k with bar0 := memWrites k.bar0 (evtAddr k.evtTail) rec, evtTail := k.evtTail + 1 } := by
  simp [putEvent, Nat.not_le.mpr h]

theorem raiseEvent_not_allowed (s : State) (num fn payload : Nat) (h : eventAllowed s num fn = false) :
    raiseEvent num fn payload s = s := by
  simp [raiseEvent, raiseEventAt, h]

/-- Raising an event changes the host control block alone. -/
theorem raiseEventAt_frame (num fn : Nat) (gen : BitVec 32) (asn : BitVec 64) (payload : Nat) (s : State) :
    raiseEventAt num fn gen asn payload s = { s with kci := (raiseEventAt num fn gen asn payload s).kci } := by
  unfold raiseEventAt; split <;> rfl

theorem raiseEvent_frame (num fn payload : Nat) (s : State) :
    raiseEvent num fn payload s = { s with kci := (raiseEvent num fn payload s).kci } := raiseEventAt_frame ..

/-- The parts of the host control block that an event leaves. -/
theorem raiseEventAt_kci (num fn : Nat) (gen : BitVec 32) (asn : BitVec 64) (payload : Nat) (s : State) :
    let t := raiseEventAt num fn gen asn payload s
    t.kci = { s.kci with
      bar0 := t.kci.bar0, evtTail := t.kci.evtTail, dropped := t.kci.dropped, droppedSince := t.kci.droppedSince
      intPending := t.kci.intPending, vecs := t.kci.vecs } := by
  unfold raiseEventAt
  split
  · simp only [State.onKci]
    split
    · rw [setPendingBit_frame]
    · rw [setPendingBit_frame, putEvent_frame]
  · rfl

theorem raiseEventAt_bar0 (num fn : Nat) (gen : BitVec 32) (asn : BitVec 64) (payload : Nat) (s : State)
    (h : Memory.wf s.kci.bar0 = true) : Memory.wf (raiseEventAt num fn gen asn payload s).kci.bar0 = true := by
  unfold raiseEventAt
  split
  · simp only [State.onKci]
    rw [setPendingBit_frame]
    split
    · exact h
    · exact putEvent_wf _ _ h
  · exact h

section
variable (num fn payload : Nat) (s : State)

@[simp] theorem raiseEvent_pending : (raiseEvent num fn payload s).pending = s.pending := by rw [raiseEvent_frame]
@[simp] theorem raiseEvent_coh : (raiseEvent num fn payload s).coh = s.coh := by rw [raiseEvent_frame]
@[simp] theorem raiseEvent_boot : (raiseEvent num fn payload s).boot = s.boot := by rw [raiseEvent_frame]
@[simp] theorem raiseEvent_safety : (raiseEvent num fn payload s).safety = s.safety := by rw [raiseEvent_frame]
@[simp] theorem raiseEvent_time : (raiseEvent num fn payload s).time = s.time := by rw [raiseEvent_frame]
@[simp] theorem raiseEvent_power : (raiseEvent num fn payload s).power = s.power := by rw [raiseEvent_frame]
@[simp] theorem raiseEvent_supply : (raiseEvent num fn payload s).supply = s.supply := by rw [raiseEvent_frame]
@[simp] theorem raiseEvent_radios : (raiseEvent num fn payload s).radios = s.radios := by rw [raiseEvent_frame]
@[simp] theorem raiseEvent_sluice : (raiseEvent num fn payload s).sluice = s.sluice := by rw [raiseEvent_frame]
@[simp] theorem raiseEvent_cipher : (raiseEvent num fn payload s).cipher = s.cipher := by rw [raiseEvent_frame]
@[simp] theorem raiseEvent_link : (raiseEvent num fn payload s).link = s.link := by rw [raiseEvent_frame]
@[simp] theorem raiseEvent_rx : (raiseEvent num fn payload s).rx = s.rx := by rw [raiseEvent_frame]
@[simp] theorem raiseEvent_router : (raiseEvent num fn payload s).router = s.router := by rw [raiseEvent_frame]
@[simp] theorem raiseEvent_thermal : (raiseEvent num fn payload s).thermal = s.thermal := by rw [raiseEvent_frame]
@[simp] theorem raiseEvent_mem : (raiseEvent num fn payload s).mem = s.mem := by rw [raiseEvent_frame]
@[simp] theorem raiseEvent_cluster : (raiseEvent num fn payload s).cluster = s.cluster := by rw [raiseEvent_frame]
@[simp] theorem raiseEvent_timers : (raiseEvent num fn payload s).timers = s.timers := by rw [raiseEvent_frame]
@[simp] theorem raiseEvent_counters : (raiseEvent num fn payload s).counters = s.counters := by rw [raiseEvent_frame]
@[simp] theorem raiseEvent_freeCount : (raiseEvent num fn payload s).freeCount = s.freeCount := by rw [raiseEvent_frame]
@[simp] theorem raiseEvent_kci_bar2 : (raiseEvent num fn payload s).kci.bar2 = s.kci.bar2 := by
  unfold raiseEvent; rw [raiseEventAt_kci]
@[simp] theorem raiseEvent_kci_hostMem : (raiseEvent num fn payload s).kci.hostMem = s.kci.hostMem := by
  unfold raiseEvent; rw [raiseEventAt_kci]
@[simp] theorem raiseEvent_kci_mbx : (raiseEvent num fn payload s).kci.mbx = s.kci.mbx := by
  unfold raiseEvent; rw [raiseEventAt_kci]
@[simp] theorem raiseEvent_kci_longs : (raiseEvent num fn payload s).kci.longs = s.kci.longs := by
  unfold raiseEvent; rw [raiseEventAt_kci]
@[simp] theorem raiseEvent_kci_executing : (raiseEvent num fn payload s).kci.executing = s.kci.executing := by
  unfold raiseEvent; rw [raiseEventAt_kci]
@[simp] theorem raiseEvent_kci_seq : (raiseEvent num fn payload s).kci.seq = s.kci.seq := by
  unfold raiseEvent; rw [raiseEventAt_kci]
@[simp] theorem raiseEvent_kci_lastServed : (raiseEvent num fn payload s).kci.lastServed = s.kci.lastServed := by
  unfold raiseEvent; rw [raiseEventAt_kci]
@[simp] theorem raiseEvent_kci_evtHead : (raiseEvent num fn payload s).kci.evtHead = s.kci.evtHead := by
  unfold raiseEvent; rw [raiseEventAt_kci]
@[simp] theorem raiseEvent_kci_readOut : (raiseEvent num fn payload s).kci.readOut = s.kci.readOut := by
  unfold raiseEvent; rw [raiseEventAt_kci]

end

/-! ### Responses -/

theorem ringWrite_wf (bs : Bytes) : ∀ (m : Mem) (base idx k : Nat), Memory.wf m = true → Memory.wf (ringWrite m base idx k bs) = true := by
  induction bs with
  | nil => exact fun _ _ _ _ h => h
  | cons b bs ih => exact fun m base idx k h => ih _ _ _ _ (memWrite_wf m _ b h)

/-- Writing a response changes the host control block alone. -/
theorem putRsp_frame (m : Fin 4) (bytes : Bytes) (s : State) : putRsp m bytes s = { s with kci := (putRsp m bytes s).kci } := by
  unfold putRsp; rw [raiseEvent_frame]; rfl

theorem putRsp_bar0 (m : Fin 4) (bytes : Bytes) (s : State) (h : Memory.wf s.kci.bar0 = true) :
    Memory.wf (putRsp m bytes s).kci.bar0 = true := by
  unfold putRsp
  exact raiseEventAt_bar0 _ _ _ _ _ _ (ringWrite_wf _ _ _ _ _ h)

theorem putRsp_bar2 (m : Fin 4) (bytes : Bytes) (s : State) : (putRsp m bytes s).kci.bar2 = s.kci.bar2 := by
  unfold putRsp; simp [State.onMbx, State.onKci]

theorem putRsp_hostMem (m : Fin 4) (bytes : Bytes) (s : State) : (putRsp m bytes s).kci.hostMem = s.kci.hostMem := by
  unfold putRsp; simp [State.onMbx, State.onKci]

/-- Answering a request changes the host control block alone. -/
theorem respond_frame (m : Fin 4) (req : Req) (rc detail : Nat) (body : Bytes) (s : State) :
    respond m req rc detail body s = { s with kci := (respond m req rc detail body s).kci } := by
  unfold respond
  simp only
  split
  · rw [putRsp_frame]; rfl
  · rfl

theorem respond_bar0 (m : Fin 4) (req : Req) (rc detail : Nat) (body : Bytes) (s : State) (h : Memory.wf s.kci.bar0 = true) :
    Memory.wf (respond m req rc detail body s).kci.bar0 = true := by
  unfold respond
  simp only
  split
  · exact putRsp_bar0 _ _ _ h
  · exact h

section
variable (m : Fin 4) (req : Req) (rc detail : Nat) (body : Bytes) (s : State)

@[simp] theorem respond_bar2 : (respond m req rc detail body s).kci.bar2 = s.kci.bar2 := by
  unfold respond; simp only; split
  · rw [putRsp_bar2]; rfl
  · rfl

@[simp] theorem respond_hostMem : (respond m req rc detail body s).kci.hostMem = s.kci.hostMem := by
  unfold respond; simp only; split
  · rw [putRsp_hostMem]; rfl
  · rfl

@[simp] theorem respond_pending : (respond m req rc detail body s).pending = s.pending := by rw [respond_frame]
@[simp] theorem respond_coh : (respond m req rc detail body s).coh = s.coh := by rw [respond_frame]
@[simp] theorem respond_boot : (respond m req rc detail body s).boot = s.boot := by rw [respond_frame]
@[simp] theorem respond_safety : (respond m req rc detail body s).safety = s.safety := by rw [respond_frame]
@[simp] theorem respond_time : (respond m req rc detail body s).time = s.time := by rw [respond_frame]
@[simp] theorem respond_power : (respond m req rc detail body s).power = s.power := by rw [respond_frame]
@[simp] theorem respond_supply : (respond m req rc detail body s).supply = s.supply := by rw [respond_frame]
@[simp] theorem respond_radios : (respond m req rc detail body s).radios = s.radios := by rw [respond_frame]
@[simp] theorem respond_sluice : (respond m req rc detail body s).sluice = s.sluice := by rw [respond_frame]
@[simp] theorem respond_cipher : (respond m req rc detail body s).cipher = s.cipher := by rw [respond_frame]
@[simp] theorem respond_link : (respond m req rc detail body s).link = s.link := by rw [respond_frame]
@[simp] theorem respond_rx : (respond m req rc detail body s).rx = s.rx := by rw [respond_frame]
@[simp] theorem respond_router : (respond m req rc detail body s).router = s.router := by rw [respond_frame]
@[simp] theorem respond_thermal : (respond m req rc detail body s).thermal = s.thermal := by rw [respond_frame]
@[simp] theorem respond_mem : (respond m req rc detail body s).mem = s.mem := by rw [respond_frame]
@[simp] theorem respond_cluster : (respond m req rc detail body s).cluster = s.cluster := by rw [respond_frame]
@[simp] theorem respond_timers : (respond m req rc detail body s).timers = s.timers := by rw [respond_frame]
@[simp] theorem respond_counters : (respond m req rc detail body s).counters = s.counters := by rw [respond_frame]
@[simp] theorem respond_freeCount : (respond m req rc detail body s).freeCount = s.freeCount := by rw [respond_frame]

end

/-! ### Taking and running a request -/

/-- Taking a request moves its mailbox and the rotation alone. -/
theorem takeReq_frame (m : Fin 4) (req : Req) (s : State) :
    takeReq m req s =
      { s with kci := { s.kci with mbx := (takeReq m req s).kci.mbx, lastServed := (takeReq m req s).kci.lastServed } } := by
  unfold takeReq; simp only [State.onMbx, State.onKci]; split <;> rfl

section
variable (m : Fin 4) (req : Req) (s : State)

@[simp] theorem takeReq_pending : (takeReq m req s).pending = s.pending := by rw [takeReq_frame]
@[simp] theorem takeReq_coh : (takeReq m req s).coh = s.coh := by rw [takeReq_frame]
@[simp] theorem takeReq_boot : (takeReq m req s).boot = s.boot := by rw [takeReq_frame]
@[simp] theorem takeReq_safety : (takeReq m req s).safety = s.safety := by rw [takeReq_frame]
@[simp] theorem takeReq_time : (takeReq m req s).time = s.time := by rw [takeReq_frame]
@[simp] theorem takeReq_power : (takeReq m req s).power = s.power := by rw [takeReq_frame]
@[simp] theorem takeReq_supply : (takeReq m req s).supply = s.supply := by rw [takeReq_frame]
@[simp] theorem takeReq_radios : (takeReq m req s).radios = s.radios := by rw [takeReq_frame]
@[simp] theorem takeReq_sluice : (takeReq m req s).sluice = s.sluice := by rw [takeReq_frame]
@[simp] theorem takeReq_cipher : (takeReq m req s).cipher = s.cipher := by rw [takeReq_frame]
@[simp] theorem takeReq_link : (takeReq m req s).link = s.link := by rw [takeReq_frame]
@[simp] theorem takeReq_rx : (takeReq m req s).rx = s.rx := by rw [takeReq_frame]
@[simp] theorem takeReq_router : (takeReq m req s).router = s.router := by rw [takeReq_frame]
@[simp] theorem takeReq_thermal : (takeReq m req s).thermal = s.thermal := by rw [takeReq_frame]
@[simp] theorem takeReq_mem : (takeReq m req s).mem = s.mem := by rw [takeReq_frame]
@[simp] theorem takeReq_cluster : (takeReq m req s).cluster = s.cluster := by rw [takeReq_frame]
@[simp] theorem takeReq_timers : (takeReq m req s).timers = s.timers := by rw [takeReq_frame]
@[simp] theorem takeReq_counters : (takeReq m req s).counters = s.counters := by rw [takeReq_frame]
@[simp] theorem takeReq_freeCount : (takeReq m req s).freeCount = s.freeCount := by rw [takeReq_frame]
@[simp] theorem takeReq_kci_bar0 : (takeReq m req s).kci.bar0 = s.kci.bar0 := by rw [takeReq_frame]
@[simp] theorem takeReq_kci_bar2 : (takeReq m req s).kci.bar2 = s.kci.bar2 := by rw [takeReq_frame]
@[simp] theorem takeReq_kci_hostMem : (takeReq m req s).kci.hostMem = s.kci.hostMem := by rw [takeReq_frame]
@[simp] theorem takeReq_kci_longs : (takeReq m req s).kci.longs = s.kci.longs := by rw [takeReq_frame]
@[simp] theorem takeReq_kci_executing : (takeReq m req s).kci.executing = s.kci.executing := by rw [takeReq_frame]
@[simp] theorem takeReq_kci_seq : (takeReq m req s).kci.seq = s.kci.seq := by rw [takeReq_frame]

end

/-- A request that passes the common checks is taken and gets its own meaning. -/
theorem runKci_taken {s : State} {op : Nat} {m : Fin 4} {req : Req} (h : Taken s op m req) (buf : Bytes) (f : Meaning) :
    runKci op buf f s = deliver (takeReq m req s) m req (f (takeReq m req s) m req (fullBody req buf)) := by
  obtain ⟨h1, h2, h3⟩ := h
  simp [runKci, h1, h2, execute, h3]

/-- With no request to take, or one of another command, nothing happens. -/
theorem runKci_idle {s : State} {op : Nat} (h : ∀ m req, nextReq s = some (m, req) → req.opcode ≠ op) (buf : Bytes) (f : Meaning) :
    runKci op buf f s = s := by
  unfold runKci
  split
  · rfl
  · rename_i m req hr
    simp [h m req hr]

@[simp] theorem deliver_refuse (s0 : State) (m : Fin 4) (req : Req) (rc d : Nat) (b : Bytes) :
    deliver s0 m req (.refuse rc d b) = respond m req rc d b s0 := rfl

@[simp] theorem deliver_bare (s0 t : State) (m : Fin 4) (req : Req) (rc d : Nat) :
    deliver s0 m req (.done t rc d [] []) = respond m req rc d [] t := by
  simp [deliver]

/-- A body that fits is delivered as R55 says. -/
theorem deliver_fits {req : Req} {fixed var : Bytes} (h : ResponseFits req fixed var) (s0 u : State) (m : Fin 4) :
    AnswersOk m req fixed var u (deliver s0 m req (.done u rcOk 0 fixed var)) := by
  unfold ResponseFits at h
  unfold AnswersOk deliver
  by_cases hi : req.indirect = true
  · have h2 : ¬ (req.bufLen < var.length) := by simpa [hi] using h
    refine ⟨by simp [hi], ?_, ?_⟩
    · intro _ h4; simp [hi, h2, h4]
    · intro _ h4; simp [hi, h4]
  · have h2 : ¬ (4064 < fixed.length + var.length) := by simpa [hi] using h
    simp [hi, h2]

/-- Whether fields pass is decided field by field. -/
theorem checkFields_none (b : Bytes) (fs : List FieldSpec) :
    checkFields b fs = none ↔ ∀ f ∈ fs, checkField b f = none := by
  simp [checkFields, List.findSome?_eq_none_iff]

/-- A staging command whose fields pass writes its part and answers RC_OK. -/
theorem stageOne_passes (op sel idx : Nat) (fs : List FieldSpec) (s : State) (m : Fin 4) (req : Req) (body : Bytes)
    (h : checkFields body fs = none) : stageOne op sel idx fs s m req body = ok (s.stage req.fn op sel idx body) := by
  simp [stageOne, h]

end Sys2Proof.Machine
end

