-- ==== Sys2Proof/WellFormed.lean ====
section
/-!
DEFINITION. The checks that a command sent to the block passes: ranges and lengths that its carrier fixes.  The meanings are
total, and no meaning rests on a check.
-/

namespace Sys2Proof

/-- A plain register write names a whole word: in the 8 MB map of R41 for the host, in physical address space otherwise. -/
def addrOk (by_ : BusMaster) (a : Nat) : Bool :=
  a % 4 == 0 && match by_ with
    | .host => decide (a < 0x800000)
    | _ => decide (a < 2 ^ 40)

/-- The content of an indirect buffer: at most 1 MB (R54). -/
def bufOk (b : Bytes) : Bool := decide (b.length ≤ 0x100000)

/-- The command is well formed. -/
def Instr.wellFormed (i : Instr) : Bool :=
  match i with
  | .ringHostIdxWrite _ _ bufs => bufs.all fun b => decide (b.length ≤ 16384)
  | .spiTransaction mosi => !mosi.isEmpty
  | .registerWrite by_ addr _ => addrOk by_ addr
  | .configWriteDenied _ fn => decide (fn < 65536)
  | .memAccess _ addr data len => decide (addr + len < 2 ^ 40) && (match data with | some d => !d.isEmpty && decide (addr + d.length < 2 ^ 40) | none => len != 0)
  | .functionResetComplete fn => decide (fn < 65536)
  | .slotBoundary peaks => peaks.length == 6
  | .ctxSave _ _ _ addr => decide (addr < 2 ^ 40)
  | .ctxRestore _ _ _ addr => decide (addr < 2 ^ 40)
  | .pageAccess _ _ offset _ => offset % 4 == 0 && decide (offset < 4096)
  | .ethFrameReceived _ frame _ => decide (14 ≤ frame.length)
  | .sourceLost k => decide (k ≤ 4)
  | .dipRecovery mv minima => mv.length == 10 && minima.length == 10
  | .startTimeout step => decide (step ≤ 10)
  | .dramScrubRow bad => bad.all fun w => decide (0x800000000 ≤ w.addr)
  | .faultSourceRaise _ named _ => decide (named < 65536)
  | .thermalSample readings _ => readings.length == 8
  | .deviceInfo buf | .statusRead buf | .counterRead buf | .echo buf | .debugWindowOpen buf | .functionEnable buf
  | .stageDiscard buf | .configCommit buf | .configCancel buf | .configRead buf | .functionReset buf
  | .frameRingConfig buf | .linkConfig buf | .hopsetLoad buf | .slotframeLoad buf | .neighbourWrite buf
  | .neighbourRead buf | .linkResync buf | .radioConfig buf | .radioFePins buf | .radioCalibrate buf
  | .radioPinDrive buf | .calStoreRead buf | .groupPlanLoad buf | .eddyConfig buf | .riffleConfig buf
  | .sluiceConfig buf | .gateListLoad buf | .dutyBandLoad buf | .txTest buf | .cipherPageConfig buf | .keyImport buf
  | .keyDelete buf | .keyStoreRead buf | .pageRun buf | .keyCounterRead buf | .routerConfig buf | .routeLoad buf
  | .weirEgressLoad buf | .policerLoad buf | .policerRead buf | .portConfig buf | .timeConfig buf | .timeSet buf
  | .timeRead buf | .timerConfig buf | .timerAccess buf | .powerConfig buf | .powerEnter buf _ | .deviceRestart buf
  | .supplyConfig buf | .padHoldRelease buf | .imageWrite buf | .imageConfirm buf | .imageStatus buf
  | .dramConfig buf | .dramTrain buf | .dramSpareMigrate buf | .recorderConfig buf | .recorderRead buf
  | .memErrorLogRead buf | .schedConfig buf | .threadTableLoad buf | .clusterPost buf | .clusterMemWrite buf
  | .threadRead buf | .traceRead buf | .pmuConfig buf | .pmuRead buf | .faultTableLoad buf | .faultLogRead buf
  | .faultClear buf | .faultInject buf | .faultRaise buf | .telemetryRead buf | .stressRead buf | .padConfig buf => bufOk buf
  | .mbxReqTailWrite _ _ | .mbxRspHeadWrite _ _ | .mbxControlReset _ _ | .evtHeadWrite _ | .evtDroppedLoRead
  | .intPendingClear _ _ | .intVecEoi _ | .msixHoldoffExpiry _ | .dbgBaseWrite _ _ | .commitApply | .beaconMissed
  | .neighbourLostSyncReport | .listenIntervalStart _ | .listenIntervalEnd _ | .preambleDetected _ _
  | .syncSearchTimeout _ | .syncWordAccepted _ _ _ _ | .phrReceived _ _ _ _ | .frameHandOff _ _ _ _
  | .trellisDecodeDone _ _ | .subtractionDone _ | .redemodStart _ | .redemodAbandon _ | .redemodDone _ _
  | .riffleJobComplete _ _ | .engineClockGate _ | .twinSecondPartTimeout _ | .decodeTimeout _ | .releaseGatePass _ _
  | .tagVerifyVerdict _ | .agcClipStep _ _ | .agcPinned _ _ _ | .noiseFloorBlock _ _ | .testToneInject _ _ _ _
  | .latentTestLate _ _ | .radioCalibrateDone _ _ | .radioChangeStart _ | .synthLock _ _ | .synthUnlock _
  | .synthRelockTimeout _ | .obsSynthUnlock | .backgroundCalDone _ _ | .calStarvedTimeout _ | .channelReloadDone _
  | .eddyRingChange _ | .launchSelection _ _ | .loClassify _ | .retuneStart _ | .trSwAssert _ | .paEnAssert _
  | .rampUpStart _ _ | .launchStart _ | .obsPowerVerdict _ _ | .obsFrequencyVerdict _ _ _ | .rampDownStart _
  | .paEnDeassert _ | .trSwDeassert _ | .blankingEnd _ | .ackStage5Deadline _ | .dlAckWindowExpiry _
  | .dlLifetimeExpiry _ | .gateEntry _ _ | .dutyBucketAdvance _ | .txTestEnd _ | .keyLoad _ _ | .pageNop _ _
  | .enc _ _ | .dec _ _ | .macIn _ _ | .macRead _ _ | .loadQ _ _ _ _ | .ctrQ _ _ _ _ | .macQ _ _ _ _ | .tagVerify _ _
  | .clear _ _ | .journalProgramDone _ | .journalRetry | .sectorEraseDone _ | .portLinkChange _ _ _
  | .egressDecision _ | .queueDropsReport | .ptpAnnounceRx _ _ _ | .ptpSyncRx _ _ _ _ _ _ | .ptpFollowUpRx _ _ _ _
  | .ptpDelayRespRx _ _ _ _ | .delayReqTx _ _ | .sourceRevert | .holdoverExpiry | .ppsInEdge _ | .ppsSetLapse
  | .ppsOutRise | .ppsOutFall | .springMeasurement _ | .timerTick _ | .tmrCtrlRun _ _ _ | .tmrCtrlClear _ _ _
  | .tmrPeriodShadow _ _ _ | .tmrPeriodImmediate _ _ _ | .tmrCmpWrite _ _ _ _ | .cmpWriteEffect _ _
  | .tmrCmpEnWrite _ _ _ | .tmrStatusClear _ _ _ | .tmrMissedRead _ _ _ | .tmrTickLoRead _ _ | .debugHaltFreeze _
  | .debugHaltRelease _ | .autoDozeEntry _ | .voterAckTimeout | .sleepAbortReport | .sleepSnapshot | .scheduledWake
  | .wakeSource _ | .referenceQualified | .wakeRebuild | .wakeComplete | .radioPowerUp _ | .rxActiveAssert _
  | .radioPowerDown _ | .railWarningCrossing _ _ | .supplyWarnNAssert | .railResetCrossing _ _
  | .railOverCrossing _ _ | .domainSpread _ | .por _ _ | .externalReset | .pciePerstNAssert | .pciePerstNRelease
  | .avsMeasurement _ | .pmicWriteRetry _ _ | .targetSettleTimeout _ _ | .oppEvaluation | .pllRelockDone
  | .clockMonitorFault _ _ | .cpWatchdog | .coldStart _ | .warmStart _ | .startSuccess | .imageWriteDone
  | .sramScrubStep _ _ | .sramScrubLate | .refreshDue _ _ | .refreshDebtPayoff | .mr4Poll _ _ | .dqsOscRead _ _
  | .dramRetrain _ _ | .migrationComplete _ | .paramRecordDurable | .recorderBlockWritten _ _ _ _ _ _
  | .recorderFifoFull _ _ | .schNop _ | .wait _ | .post _ | .yield _ | .exit _ | .start _ _ | .raise _ | .flowEnter _
  | .flowRelease _ | .flowDrop _ | .takeEvent _ | .putEvent _ | .setPriority _ _ | .notify _ | .endEvent _
  | .schWakeRead _ _ | .schPostsRead _ | .waitTimeout _ | .quantumExpiry _ | .coreClockGate _ | .syncException _ _ _
  | .coreHang _ | .pmuLowWordRead _ _ _ _ | .faultReportInterval _ | .shadowWindowClose _ | .s3WarmRestart
  | .safetyLoopToken _ _ | .safetyLoopLate | .safeOutputReadback _ _ | .fwIntegrity _ | .telemetryRecord
  | .stressRecord | .lifeStress | .badOpcodeRequest | .watchdogService | .pageOperationDone _ _ => true

end Sys2Proof
end

