-- ==== Sys2Proof/Laws/PerInstr.lean ====
section
/-!
SUPPORT. A statement for every command as syntax, one lemma per constructor: a command that comes as a request has an opcode of the
interface's table (R613), and a well-formed one carries at most 1 MB of indirect buffer (R54).
-/

namespace Sys2Proof.Laws.Named

/-- The statement of the family. -/
def Statement (i : Instr) : Prop :=
  ∀ op buf, i.request = some (op, buf) →
    (Machine.cmdInfo op).isSome = true ∧ (i.wellFormed = true → buf.length ≤ 0x100000)

/-- A command that is no request has nothing to show. -/
theorem of_none {i : Instr} (h : i.request = none) : Statement i := by
  intro op buf e
  rw [h] at e
  cases e

/-- A request with opcode `op` and the buffer `b`. -/
theorem of_some {i : Instr} {op : Nat} {b : Bytes} (h : i.request = some (op, b)) (k : (Machine.cmdInfo op).isSome = true)
    (w : i.wellFormed = bufOk b) : Statement i := by
  intro op' buf e
  rw [h] at e
  cases e
  refine ⟨k, fun hw => ?_⟩
  rw [w] at hw
  exact of_decide_eq_true hw

theorem mbxReqTailWrite (m : Fin 4) (value : BitVec 32) : Statement (.mbxReqTailWrite m value) := of_none rfl
theorem mbxRspHeadWrite (m : Fin 4) (value : BitVec 32) : Statement (.mbxRspHeadWrite m value) := of_none rfl
theorem mbxControlReset (m : Fin 4) (value : BitVec 32) : Statement (.mbxControlReset m value) := of_none rfl
theorem evtHeadWrite (value : BitVec 32) : Statement (.evtHeadWrite value) := of_none rfl
theorem evtDroppedLoRead : Statement .evtDroppedLoRead := of_none rfl
theorem intPendingClear (k : Fin 8) (value : BitVec 32) : Statement (.intPendingClear k value) := of_none rfl
theorem intVecEoi (value : BitVec 32) : Statement (.intVecEoi value) := of_none rfl
theorem msixHoldoffExpiry (v : Fin 32) : Statement (.msixHoldoffExpiry v) := of_none rfl
theorem dbgBaseWrite (high : Bool) (value : BitVec 32) : Statement (.dbgBaseWrite high value) := of_none rfl
theorem ringHostIdxWrite (r : Fin 16) (value : BitVec 32) (bufs : List Bytes) : Statement (.ringHostIdxWrite r value bufs) := of_none rfl
theorem spiTransaction (mosi : List Byte) : Statement (.spiTransaction mosi) := of_none rfl
theorem registerWrite (by_ : BusMaster) (addr : Nat) (value : BitVec 32) : Statement (.registerWrite by_ addr value) := of_none rfl
theorem configWriteDenied (c : Fin 8) (fn : Nat) : Statement (.configWriteDenied c fn) := of_none rfl
theorem memAccess (by_ : BusMaster) (addr : Nat) (data : Option Bytes) (len : Nat) : Statement (.memAccess by_ addr data len) := of_none rfl
theorem deviceInfo (buf : Bytes) : Statement (.deviceInfo buf) := of_some rfl rfl rfl
theorem statusRead (buf : Bytes) : Statement (.statusRead buf) := of_some rfl rfl rfl
theorem counterRead (buf : Bytes) : Statement (.counterRead buf) := of_some rfl rfl rfl
theorem echo (buf : Bytes) : Statement (.echo buf) := of_some rfl rfl rfl
theorem debugWindowOpen (buf : Bytes) : Statement (.debugWindowOpen buf) := of_some rfl rfl rfl
theorem functionEnable (buf : Bytes) : Statement (.functionEnable buf) := of_some rfl rfl rfl
theorem stageDiscard (buf : Bytes) : Statement (.stageDiscard buf) := of_some rfl rfl rfl
theorem configCommit (buf : Bytes) : Statement (.configCommit buf) := of_some rfl rfl rfl
theorem configCancel (buf : Bytes) : Statement (.configCancel buf) := of_some rfl rfl rfl
theorem configRead (buf : Bytes) : Statement (.configRead buf) := of_some rfl rfl rfl
theorem functionReset (buf : Bytes) : Statement (.functionReset buf) := of_some rfl rfl rfl
theorem functionResetComplete (fn : Nat) : Statement (.functionResetComplete fn) := of_none rfl
theorem frameRingConfig (buf : Bytes) : Statement (.frameRingConfig buf) := of_some rfl rfl rfl
theorem commitApply : Statement .commitApply := of_none rfl
theorem linkConfig (buf : Bytes) : Statement (.linkConfig buf) := of_some rfl rfl rfl
theorem hopsetLoad (buf : Bytes) : Statement (.hopsetLoad buf) := of_some rfl rfl rfl
theorem slotframeLoad (buf : Bytes) : Statement (.slotframeLoad buf) := of_some rfl rfl rfl
theorem neighbourWrite (buf : Bytes) : Statement (.neighbourWrite buf) := of_some rfl rfl rfl
theorem neighbourRead (buf : Bytes) : Statement (.neighbourRead buf) := of_some rfl rfl rfl
theorem linkResync (buf : Bytes) : Statement (.linkResync buf) := of_some rfl rfl rfl
theorem slotBoundary (peaks : List Int) : Statement (.slotBoundary peaks) := of_none rfl
theorem beaconMissed : Statement .beaconMissed := of_none rfl
theorem neighbourLostSyncReport : Statement .neighbourLostSyncReport := of_none rfl
theorem listenIntervalStart (ch : Fin 256) : Statement (.listenIntervalStart ch) := of_none rfl
theorem listenIntervalEnd (ch : Fin 256) : Statement (.listenIntervalEnd ch) := of_none rfl
theorem preambleDetected (ch : Fin 256) (seen : Detection) : Statement (.preambleDetected ch seen) := of_none rfl
theorem syncSearchTimeout (f : Nat) : Statement (.syncSearchTimeout f) := of_none rfl
theorem syncWordAccepted (f syncOffset : Nat) (afc : Int) (word : BitVec 32) : Statement (.syncWordAccepted f syncOffset afc word) := of_none rfl
theorem phrReceived (f : Nat) (phr : BitVec 32) (agree : Bool) (rssi : Int) : Statement (.phrReceived f phr agree rssi) := of_none rfl
theorem frameHandOff (f : Nat) (llrs : List Int) (snr : Int) (evm : Nat) : Statement (.frameHandOff f llrs snr evm) := of_none rfl
theorem trellisDecodeDone (f : Nat) (soft : List Int) : Statement (.trellisDecodeDone f soft) := of_none rfl
theorem subtractionDone (lane : Fin 64) : Statement (.subtractionDone lane) := of_none rfl
theorem redemodStart (lane : Fin 64) : Statement (.redemodStart lane) := of_none rfl
theorem redemodAbandon (lane : Fin 64) : Statement (.redemodAbandon lane) := of_none rfl
theorem redemodDone (lane : Fin 64) (llrs : List Int) : Statement (.redemodDone lane llrs) := of_none rfl
theorem riffleJobComplete (e : Fin 48) (agrees : Bool) : Statement (.riffleJobComplete e agrees) := of_none rfl
theorem engineClockGate (e : Fin 48) : Statement (.engineClockGate e) := of_none rfl
theorem twinSecondPartTimeout (f : Nat) : Statement (.twinSecondPartTimeout f) := of_none rfl
theorem decodeTimeout (f : Nat) : Statement (.decodeTimeout f) := of_none rfl
theorem releaseGatePass (f : Nat) (p : Fin 4) : Statement (.releaseGatePass f p) := of_none rfl
theorem tagVerifyVerdict (p : Fin 32) : Statement (.tagVerifyVerdict p) := of_none rfl
theorem agcClipStep (r : Fin 3) (w : Fin 2) : Statement (.agcClipStep r w) := of_none rfl
theorem agcPinned (r : Fin 3) (w : Fin 2) (dead : Bool) : Statement (.agcPinned r w dead) := of_none rfl
theorem noiseFloorBlock (ch : Fin 256) (power : Int) : Statement (.noiseFloorBlock ch power) := of_none rfl
theorem testToneInject (r : Fin 3) (w : Fin 2) (level : Int) (calibrated : Int) : Statement (.testToneInject r w level calibrated) := of_none rfl
theorem latentTestLate (r : Fin 3) (w : Fin 2) : Statement (.latentTestLate r w) := of_none rfl
theorem radioConfig (buf : Bytes) : Statement (.radioConfig buf) := of_some rfl rfl rfl
theorem radioFePins (buf : Bytes) : Statement (.radioFePins buf) := of_some rfl rfl rfl
theorem radioCalibrate (buf : Bytes) : Statement (.radioCalibrate buf) := of_some rfl rfl rfl
theorem radioCalibrateDone (r : Fin 3) (results : List CalResult) : Statement (.radioCalibrateDone r results) := of_none rfl
theorem radioPinDrive (buf : Bytes) : Statement (.radioPinDrive buf) := of_some rfl rfl rfl
theorem calStoreRead (buf : Bytes) : Statement (.calStoreRead buf) := of_some rfl rfl rfl
theorem radioChangeStart (r : Fin 3) : Statement (.radioChangeStart r) := of_none rfl
theorem synthLock (r : Fin 3) (result : CalResult) : Statement (.synthLock r result) := of_none rfl
theorem synthUnlock (r : Fin 3) : Statement (.synthUnlock r) := of_none rfl
theorem synthRelockTimeout (r : Fin 3) : Statement (.synthRelockTimeout r) := of_none rfl
theorem obsSynthUnlock : Statement .obsSynthUnlock := of_none rfl
theorem backgroundCalDone (r : Fin 3) (result : CalResult) : Statement (.backgroundCalDone r result) := of_none rfl
theorem calStarvedTimeout (r : Fin 3) : Statement (.calStarvedTimeout r) := of_none rfl
theorem groupPlanLoad (buf : Bytes) : Statement (.groupPlanLoad buf) := of_some rfl rfl rfl
theorem channelReloadDone (ch : Fin 256) : Statement (.channelReloadDone ch) := of_none rfl
theorem eddyConfig (buf : Bytes) : Statement (.eddyConfig buf) := of_some rfl rfl rfl
theorem eddyRingChange (ch : Fin 256) : Statement (.eddyRingChange ch) := of_none rfl
theorem riffleConfig (buf : Bytes) : Statement (.riffleConfig buf) := of_some rfl rfl rfl
theorem launchSelection (what : LaunchWhat) (asn : Nat) : Statement (.launchSelection what asn) := of_none rfl
theorem loClassify (l : Nat) : Statement (.loClassify l) := of_none rfl
theorem retuneStart (l : RetuneFor) : Statement (.retuneStart l) := of_none rfl
theorem trSwAssert (l : Nat) : Statement (.trSwAssert l) := of_none rfl
theorem paEnAssert (l : Nat) : Statement (.paEnAssert l) := of_none rfl
theorem rampUpStart (l : Nat) (lateUs : Nat) : Statement (.rampUpStart l lateUs) := of_none rfl
theorem launchStart (l : Nat) : Statement (.launchStart l) := of_none rfl
theorem obsPowerVerdict (r : Fin 3) (measured : Int) : Statement (.obsPowerVerdict r measured) := of_none rfl
theorem obsFrequencyVerdict (r : Fin 3) (errors : List (Nat × Int)) (outside : Int) : Statement (.obsFrequencyVerdict r errors outside) := of_none rfl
theorem rampDownStart (l : Nat) : Statement (.rampDownStart l) := of_none rfl
theorem paEnDeassert (r : Fin 3) : Statement (.paEnDeassert r) := of_none rfl
theorem trSwDeassert (r : Fin 3) : Statement (.trSwDeassert r) := of_none rfl
theorem blankingEnd (r : Fin 3) : Statement (.blankingEnd r) := of_none rfl
theorem ackStage5Deadline (l : Nat) : Statement (.ackStage5Deadline l) := of_none rfl
theorem dlAckWindowExpiry (f : Nat) : Statement (.dlAckWindowExpiry f) := of_none rfl
theorem dlLifetimeExpiry (f : Nat) : Statement (.dlLifetimeExpiry f) := of_none rfl
theorem gateEntry (list : Fin 3) (idx : Nat) : Statement (.gateEntry list idx) := of_none rfl
theorem dutyBucketAdvance (band : Fin 16) : Statement (.dutyBucketAdvance band) := of_none rfl
theorem sluiceConfig (buf : Bytes) : Statement (.sluiceConfig buf) := of_some rfl rfl rfl
theorem gateListLoad (buf : Bytes) : Statement (.gateListLoad buf) := of_some rfl rfl rfl
theorem dutyBandLoad (buf : Bytes) : Statement (.dutyBandLoad buf) := of_some rfl rfl rfl
theorem txTest (buf : Bytes) : Statement (.txTest buf) := of_some rfl rfl rfl
theorem txTestEnd (r : Fin 3) : Statement (.txTestEnd r) := of_none rfl
theorem keyLoad (by_ : BusMaster) (p : Fin 32) : Statement (.keyLoad by_ p) := of_none rfl
theorem pageNop (by_ : BusMaster) (p : Fin 32) : Statement (.pageNop by_ p) := of_none rfl
theorem enc (by_ : BusMaster) (p : Fin 32) : Statement (.enc by_ p) := of_none rfl
theorem dec (by_ : BusMaster) (p : Fin 32) : Statement (.dec by_ p) := of_none rfl
theorem macIn (by_ : BusMaster) (p : Fin 32) : Statement (.macIn by_ p) := of_none rfl
theorem macRead (by_ : BusMaster) (p : Fin 32) : Statement (.macRead by_ p) := of_none rfl
theorem loadQ (by_ : BusMaster) (p : Fin 32) (block : Fin 128) (len : Fin 16) : Statement (.loadQ by_ p block len) := of_none rfl
theorem ctrQ (by_ : BusMaster) (p : Fin 32) (block : Fin 128) (len : Fin 16) : Statement (.ctrQ by_ p block len) := of_none rfl
theorem macQ (by_ : BusMaster) (p : Fin 32) (block : Fin 128) (len : Fin 16) : Statement (.macQ by_ p block len) := of_none rfl
theorem tagVerify (by_ : BusMaster) (p : Fin 32) : Statement (.tagVerify by_ p) := of_none rfl
theorem clear (by_ : BusMaster) (p : Fin 32) : Statement (.clear by_ p) := of_none rfl
theorem ctxSave (by_ : BusMaster) (p : Fin 32) (wrapped : Bool) (addr : Nat) : Statement (.ctxSave by_ p wrapped addr) := of_none rfl
theorem ctxRestore (by_ : BusMaster) (p : Fin 32) (wrapped : Bool) (addr : Nat) : Statement (.ctxRestore by_ p wrapped addr) := of_none rfl
theorem pageAccess (by_ : BusMaster) (p : Fin 32) (offset : Nat) (value : Option (BitVec 32)) : Statement (.pageAccess by_ p offset value) := of_none rfl
theorem cipherPageConfig (buf : Bytes) : Statement (.cipherPageConfig buf) := of_some rfl rfl rfl
theorem keyImport (buf : Bytes) : Statement (.keyImport buf) := of_some rfl rfl rfl
theorem keyDelete (buf : Bytes) : Statement (.keyDelete buf) := of_some rfl rfl rfl
theorem keyStoreRead (buf : Bytes) : Statement (.keyStoreRead buf) := of_some rfl rfl rfl
theorem pageRun (buf : Bytes) : Statement (.pageRun buf) := of_some rfl rfl rfl
theorem keyCounterRead (buf : Bytes) : Statement (.keyCounterRead buf) := of_some rfl rfl rfl
theorem journalProgramDone (ok : Bool) : Statement (.journalProgramDone ok) := of_none rfl
theorem journalRetry : Statement .journalRetry := of_none rfl
theorem sectorEraseDone (ok : Bool) : Statement (.sectorEraseDone ok) := of_none rfl
theorem ethFrameReceived (p : Fin 2) (frame : Bytes) (fcsOk : Bool) : Statement (.ethFrameReceived p frame fcsOk) := of_none rfl
theorem portLinkChange (p : Fin 2) (up : Bool) (speed : Fin 5) : Statement (.portLinkChange p up speed) := of_none rfl
theorem egressDecision (port : Option (Fin 2)) : Statement (.egressDecision port) := of_none rfl
theorem queueDropsReport : Statement .queueDropsReport := of_none rfl
theorem routerConfig (buf : Bytes) : Statement (.routerConfig buf) := of_some rfl rfl rfl
theorem routeLoad (buf : Bytes) : Statement (.routeLoad buf) := of_some rfl rfl rfl
theorem weirEgressLoad (buf : Bytes) : Statement (.weirEgressLoad buf) := of_some rfl rfl rfl
theorem policerLoad (buf : Bytes) : Statement (.policerLoad buf) := of_some rfl rfl rfl
theorem policerRead (buf : Bytes) : Statement (.policerRead buf) := of_some rfl rfl rfl
theorem portConfig (buf : Bytes) : Statement (.portConfig buf) := of_some rfl rfl rfl
theorem ptpAnnounceRx (clock : PtpSender) (domain : BitVec 8) (ptpTimescale : Bool) : Statement (.ptpAnnounceRx clock domain ptpTimescale) := of_none rfl
theorem ptpSyncRx (clock : PtpSender) (seqId : BitVec 16) (twoStep : Bool) (t1 : Int) (correction : Int) (stamp : Int) : Statement (.ptpSyncRx clock seqId twoStep t1 correction stamp) := of_none rfl
theorem ptpFollowUpRx (clock : PtpSender) (seqId : BitVec 16) (t1 : Int) (correction : Int) : Statement (.ptpFollowUpRx clock seqId t1 correction) := of_none rfl
theorem ptpDelayRespRx (clock : PtpSender) (seqId : BitVec 16) (t4 : Int) (correction : Int) : Statement (.ptpDelayRespRx clock seqId t4 correction) := of_none rfl
theorem delayReqTx (seqId : BitVec 16) (stamp : Int) : Statement (.delayReqTx seqId stamp) := of_none rfl
theorem sourceLost (k : Nat) : Statement (.sourceLost k) := of_none rfl
theorem sourceRevert : Statement .sourceRevert := of_none rfl
theorem holdoverExpiry : Statement .holdoverExpiry := of_none rfl
theorem ppsInEdge (cycles : Nat) : Statement (.ppsInEdge cycles) := of_none rfl
theorem ppsSetLapse : Statement .ppsSetLapse := of_none rfl
theorem ppsOutRise : Statement .ppsOutRise := of_none rfl
theorem ppsOutFall : Statement .ppsOutFall := of_none rfl
theorem springMeasurement (cycles : Nat) : Statement (.springMeasurement cycles) := of_none rfl
theorem timeConfig (buf : Bytes) : Statement (.timeConfig buf) := of_some rfl rfl rfl
theorem timeSet (buf : Bytes) : Statement (.timeSet buf) := of_some rfl rfl rfl
theorem timeRead (buf : Bytes) : Statement (.timeRead buf) := of_some rfl rfl rfl
theorem timerTick (t : Fin 16) : Statement (.timerTick t) := of_none rfl
theorem tmrCtrlRun (by_ : BusMaster) (t : Fin 16) (run : Bool) : Statement (.tmrCtrlRun by_ t run) := of_none rfl
theorem tmrCtrlClear (by_ : BusMaster) (t : Fin 16) (run : Bool) : Statement (.tmrCtrlClear by_ t run) := of_none rfl
theorem tmrPeriodShadow (by_ : BusMaster) (t : Fin 16) (period : BitVec 31) : Statement (.tmrPeriodShadow by_ t period) := of_none rfl
theorem tmrPeriodImmediate (by_ : BusMaster) (t : Fin 16) (period : BitVec 31) : Statement (.tmrPeriodImmediate by_ t period) := of_none rfl
theorem tmrCmpWrite (by_ : BusMaster) (t : Fin 16) (n : Fin 4) (value : BitVec 32) : Statement (.tmrCmpWrite by_ t n value) := of_none rfl
theorem cmpWriteEffect (t : Fin 16) (n : Fin 4) : Statement (.cmpWriteEffect t n) := of_none rfl
theorem tmrCmpEnWrite (by_ : BusMaster) (t : Fin 16) (value : BitVec 32) : Statement (.tmrCmpEnWrite by_ t value) := of_none rfl
theorem tmrStatusClear (by_ : BusMaster) (t : Fin 16) (value : BitVec 32) : Statement (.tmrStatusClear by_ t value) := of_none rfl
theorem tmrMissedRead (by_ : BusMaster) (t : Fin 16) (n : Fin 4) : Statement (.tmrMissedRead by_ t n) := of_none rfl
theorem tmrTickLoRead (by_ : BusMaster) (t : Fin 16) : Statement (.tmrTickLoRead by_ t) := of_none rfl
theorem debugHaltFreeze (c : Fin 8) : Statement (.debugHaltFreeze c) := of_none rfl
theorem debugHaltRelease (c : Fin 8) : Statement (.debugHaltRelease c) := of_none rfl
theorem timerConfig (buf : Bytes) : Statement (.timerConfig buf) := of_some rfl rfl rfl
theorem timerAccess (buf : Bytes) : Statement (.timerAccess buf) := of_some rfl rfl rfl
theorem autoDozeEntry (silent : Option (Fin 14)) : Statement (.autoDozeEntry silent) := of_none rfl
theorem voterAckTimeout : Statement .voterAckTimeout := of_none rfl
theorem sleepAbortReport : Statement .sleepAbortReport := of_none rfl
theorem sleepSnapshot : Statement .sleepSnapshot := of_none rfl
theorem scheduledWake : Statement .scheduledWake := of_none rfl
theorem wakeSource (n : Fin 5) : Statement (.wakeSource n) := of_none rfl
theorem referenceQualified : Statement .referenceQualified := of_none rfl
theorem wakeRebuild : Statement .wakeRebuild := of_none rfl
theorem wakeComplete : Statement .wakeComplete := of_none rfl
theorem radioPowerUp (r : Fin 3) : Statement (.radioPowerUp r) := of_none rfl
theorem rxActiveAssert (r : Fin 3) : Statement (.rxActiveAssert r) := of_none rfl
theorem radioPowerDown (r : Fin 3) : Statement (.radioPowerDown r) := of_none rfl
theorem powerConfig (buf : Bytes) : Statement (.powerConfig buf) := of_some rfl rfl rfl
theorem powerEnter (buf : Bytes) (silent : Option (Fin 14)) : Statement (.powerEnter buf silent) := of_some rfl rfl rfl
theorem railWarningCrossing (rail : Fin 10) (mv : Nat) : Statement (.railWarningCrossing rail mv) := of_none rfl
theorem supplyWarnNAssert : Statement .supplyWarnNAssert := of_none rfl
theorem dipRecovery (mv minima : List Nat) : Statement (.dipRecovery mv minima) := of_none rfl
theorem railResetCrossing (rail : Fin 10) (mv : Nat) : Statement (.railResetCrossing rail mv) := of_none rfl
theorem railOverCrossing (rail : Fin 10) (mv : Nat) : Statement (.railOverCrossing rail mv) := of_none rfl
theorem domainSpread (mv : Nat) : Statement (.domainSpread mv) := of_none rfl
theorem por (falling springExt : Bool) : Statement (.por falling springExt) := of_none rfl
theorem externalReset : Statement .externalReset := of_none rfl
theorem pciePerstNAssert : Statement .pciePerstNAssert := of_none rfl
theorem pciePerstNRelease : Statement .pciePerstNRelease := of_none rfl
theorem avsMeasurement (demandMv : Nat) : Statement (.avsMeasurement demandMv) := of_none rfl
theorem pmicWriteRetry (rail : Fin 10) (acked : Bool) : Statement (.pmicWriteRetry rail acked) := of_none rfl
theorem targetSettleTimeout (rail : Fin 10) (mv : Nat) : Statement (.targetSettleTimeout rail mv) := of_none rfl
theorem oppEvaluation : Statement .oppEvaluation := of_none rfl
theorem pllRelockDone : Statement .pllRelockDone := of_none rfl
theorem clockMonitorFault (clock : Nat) (frequency : Bool) : Statement (.clockMonitorFault clock frequency) := of_none rfl
theorem cpWatchdog : Statement .cpWatchdog := of_none rfl
theorem deviceRestart (buf : Bytes) : Statement (.deviceRestart buf) := of_some rfl rfl rfl
theorem supplyConfig (buf : Bytes) : Statement (.supplyConfig buf) := of_some rfl rfl rfl
theorem coldStart (facts : StartFacts) : Statement (.coldStart facts) := of_none rfl
theorem warmStart (facts : StartFacts) : Statement (.warmStart facts) := of_none rfl
theorem startTimeout (step : Nat) : Statement (.startTimeout step) := of_none rfl
theorem startSuccess : Statement .startSuccess := of_none rfl
theorem padHoldRelease (buf : Bytes) : Statement (.padHoldRelease buf) := of_some rfl rfl rfl
theorem imageWrite (buf : Bytes) : Statement (.imageWrite buf) := of_some rfl rfl rfl
theorem imageWriteDone : Statement .imageWriteDone := of_none rfl
theorem imageConfirm (buf : Bytes) : Statement (.imageConfirm buf) := of_some rfl rfl rfl
theorem imageStatus (buf : Bytes) : Statement (.imageStatus buf) := of_some rfl rfl rfl
theorem sramScrubStep (bad : Fin 3) (syndrome : BitVec 8) : Statement (.sramScrubStep bad syndrome) := of_none rfl
theorem sramScrubLate : Statement .sramScrubLate := of_none rfl
theorem dramScrubRow (bad : List BadWord) : Statement (.dramScrubRow bad) := of_none rfl
theorem refreshDue (ch : Fin 2) (rank : Fin 2) : Statement (.refreshDue ch rank) := of_none rfl
theorem refreshDebtPayoff : Statement .refreshDebtPayoff := of_none rfl
theorem mr4Poll (ch : Fin 2) (factor : Fin 3) : Statement (.mr4Poll ch factor) := of_none rfl
theorem dqsOscRead (ch : Fin 2) (drift : Nat) : Statement (.dqsOscRead ch drift) := of_none rfl
theorem dramRetrain (ch : Fin 2) (converges : Bool) : Statement (.dramRetrain ch converges) := of_none rfl
theorem migrationComplete (ch : Fin 2) : Statement (.migrationComplete ch) := of_none rfl
theorem paramRecordDurable : Statement .paramRecordDurable := of_none rfl
theorem recorderBlockWritten (r : Fin 3) (samples : Bytes) (start : BitVec 64) (asn : BitVec 64) (gen : BitVec 32) (left : Nat) : Statement (.recorderBlockWritten r samples start asn gen left) := of_none rfl
theorem recorderFifoFull (r : Fin 3) (dropped : Nat) : Statement (.recorderFifoFull r dropped) := of_none rfl
theorem dramConfig (buf : Bytes) : Statement (.dramConfig buf) := of_some rfl rfl rfl
theorem dramTrain (buf : Bytes) : Statement (.dramTrain buf) := of_some rfl rfl rfl
theorem dramSpareMigrate (buf : Bytes) : Statement (.dramSpareMigrate buf) := of_some rfl rfl rfl
theorem recorderConfig (buf : Bytes) : Statement (.recorderConfig buf) := of_some rfl rfl rfl
theorem recorderRead (buf : Bytes) : Statement (.recorderRead buf) := of_some rfl rfl rfl
theorem memErrorLogRead (buf : Bytes) : Statement (.memErrorLogRead buf) := of_some rfl rfl rfl
theorem schNop (c : Fin 8) : Statement (.schNop c) := of_none rfl
theorem wait (c : Fin 8) : Statement (.wait c) := of_none rfl
theorem post (c : Fin 8) : Statement (.post c) := of_none rfl
theorem yield (c : Fin 8) : Statement (.yield c) := of_none rfl
theorem exit (c : Fin 8) : Statement (.exit c) := of_none rfl
theorem start (c : Fin 8) (userPc : Option (BitVec 64)) : Statement (.start c userPc) := of_none rfl
theorem raise (c : Fin 8) : Statement (.raise c) := of_none rfl
theorem flowEnter (c : Fin 8) : Statement (.flowEnter c) := of_none rfl
theorem flowRelease (c : Fin 8) : Statement (.flowRelease c) := of_none rfl
theorem flowDrop (c : Fin 8) : Statement (.flowDrop c) := of_none rfl
theorem takeEvent (c : Fin 8) : Statement (.takeEvent c) := of_none rfl
theorem putEvent (c : Fin 8) : Statement (.putEvent c) := of_none rfl
theorem setPriority (c : Fin 8) (userPc : Option (BitVec 64)) : Statement (.setPriority c userPc) := of_none rfl
theorem notify (c : Fin 8) : Statement (.notify c) := of_none rfl
theorem endEvent (c : Fin 8) : Statement (.endEvent c) := of_none rfl
theorem schWakeRead (c : Fin 8) (high : Bool) : Statement (.schWakeRead c high) := of_none rfl
theorem schPostsRead (c : Fin 8) : Statement (.schPostsRead c) := of_none rfl
theorem waitTimeout (who : Waiter) : Statement (.waitTimeout who) := of_none rfl
theorem quantumExpiry (c : Fin 8) : Statement (.quantumExpiry c) := of_none rfl
theorem coreClockGate (c : Fin 8) : Statement (.coreClockGate c) := of_none rfl
theorem syncException (c : Fin 8) (bus : Bool) (pc : BitVec 64) : Statement (.syncException c bus pc) := of_none rfl
theorem coreHang (c : Fin 8) : Statement (.coreHang c) := of_none rfl
theorem pmuLowWordRead (c : Fin 8) (userPc : Option (BitVec 64)) (bank : Fin 13) (n : Fin 9) : Statement (.pmuLowWordRead c userPc bank n) := of_none rfl
theorem schedConfig (buf : Bytes) : Statement (.schedConfig buf) := of_some rfl rfl rfl
theorem threadTableLoad (buf : Bytes) : Statement (.threadTableLoad buf) := of_some rfl rfl rfl
theorem clusterPost (buf : Bytes) : Statement (.clusterPost buf) := of_some rfl rfl rfl
theorem clusterMemWrite (buf : Bytes) : Statement (.clusterMemWrite buf) := of_some rfl rfl rfl
theorem threadRead (buf : Bytes) : Statement (.threadRead buf) := of_some rfl rfl rfl
theorem traceRead (buf : Bytes) : Statement (.traceRead buf) := of_some rfl rfl rfl
theorem pmuConfig (buf : Bytes) : Statement (.pmuConfig buf) := of_some rfl rfl rfl
theorem pmuRead (buf : Bytes) : Statement (.pmuRead buf) := of_some rfl rfl rfl
theorem faultSourceRaise (n : Fin 192) (named : Nat) (detail : BitVec 64) : Statement (.faultSourceRaise n named detail) := of_none rfl
theorem faultReportInterval (n : Fin 192) : Statement (.faultReportInterval n) := of_none rfl
theorem shadowWindowClose (recNo : Nat) : Statement (.shadowWindowClose recNo) := of_none rfl
theorem s3WarmRestart : Statement .s3WarmRestart := of_none rfl
theorem safetyLoopToken (token : BitVec 32) (confirmed : Nat) : Statement (.safetyLoopToken token confirmed) := of_none rfl
theorem safetyLoopLate : Statement .safetyLoopLate := of_none rfl
theorem safeOutputReadback (differ : BitVec 8) (hotRadios : BitVec 3) : Statement (.safeOutputReadback differ hotRadios) := of_none rfl
theorem fwIntegrity (same : Bool) : Statement (.fwIntegrity same) := of_none rfl
theorem faultTableLoad (buf : Bytes) : Statement (.faultTableLoad buf) := of_some rfl rfl rfl
theorem faultLogRead (buf : Bytes) : Statement (.faultLogRead buf) := of_some rfl rfl rfl
theorem faultClear (buf : Bytes) : Statement (.faultClear buf) := of_some rfl rfl rfl
theorem faultInject (buf : Bytes) : Statement (.faultInject buf) := of_some rfl rfl rfl
theorem faultRaise (buf : Bytes) : Statement (.faultRaise buf) := of_some rfl rfl rfl
theorem thermalSample (readings : List Int) (bad : BitVec 8) : Statement (.thermalSample readings bad) := of_none rfl
theorem telemetryRecord : Statement .telemetryRecord := of_none rfl
theorem stressRecord : Statement .stressRecord := of_none rfl
theorem lifeStress : Statement .lifeStress := of_none rfl
theorem telemetryRead (buf : Bytes) : Statement (.telemetryRead buf) := of_some rfl rfl rfl
theorem stressRead (buf : Bytes) : Statement (.stressRead buf) := of_some rfl rfl rfl
theorem padConfig (buf : Bytes) : Statement (.padConfig buf) := of_some rfl rfl rfl
theorem badOpcodeRequest : Statement .badOpcodeRequest := of_none rfl
theorem watchdogService : Statement .watchdogService := of_none rfl
theorem pageOperationDone (p : Fin 32) (disagree : Option (Fin 4)) : Statement (.pageOperationDone p disagree) := of_none rfl

end Sys2Proof.Laws.Named
end

