-- ==== Sys2Proof/Laws/Shared.lean ====
section
/-!
SUPPORT. What the shared operations of cipher pages and of sample memory can do: granting AES cores, beginning a page
operation, drawing free values, and meeting uncorrectable words.
-/

namespace Sys2Proof.Machine

variable (s : State)

/-! ### Cipher pages -/

/-- A grant changes the cores and their rotation alone. -/
theorem grantCore_frame (c : Fin 4) : ∃ cores low high run, grantCore s c =
    { s with cipher := { s.cipher with cores := cores, lastLow := low, lastHigh := high, lowRun := run } } := by
  have keep : ∃ cores low high run, s =
      { s with cipher := { s.cipher with cores := cores, lastLow := low, lastHigh := high, lowRun := run } } :=
    ⟨s.cipher.cores, s.cipher.lastLow, s.cipher.lastHigh, s.cipher.lowRun, rfl⟩
  unfold grantCore
  split
  · exact keep
  · dsimp only
    split
    · split <;> exact ⟨_, _, _, _, rfl⟩
    · exact ⟨_, _, _, _, rfl⟩
    · exact ⟨_, _, _, _, rfl⟩
    · exact keep

theorem grantCores_frame : ∃ cores low high run, grantCores s =
    { s with cipher := { s.cipher with cores := cores, lastLow := low, lastHigh := high, lowRun := run } } := by
  unfold grantCores
  generalize List.finRange 4 = l
  induction l generalizing s with
  | nil => exact ⟨s.cipher.cores, s.cipher.lastLow, s.cipher.lastHigh, s.cipher.lowRun, rfl⟩
  | cons c l ih =>
    obtain ⟨a, b, d, e, h⟩ := grantCore_frame s c
    obtain ⟨a', b', d', e', h'⟩ := ih (grantCore s c)
    exact ⟨a', b', d', e', by rw [List.foldl_cons, h', h]⟩

/-- Granting cores leaves every page. -/
@[simp] theorem grantCores_page (p : Fin 32) : (grantCores s).page p = s.page p := by
  obtain ⟨_, _, _, _, h⟩ := grantCores_frame s
  rw [h]; rfl

@[simp] theorem leaveCore_page (p q : Fin 32) : (leaveCore p s).page q = s.page q := rfl

@[simp] theorem onPage_page (p : Fin 32) (f : Page → Page) : (s.onPage p f).page p = f (s.page p) := by
  simp [State.page, State.onPage, State.onCipher]

theorem onPage_page_ne (p q : Fin 32) (f : Page → Page) (h : q ≠ p) : (s.onPage p f).page q = s.page q := by
  simp only [State.page, State.onPage, State.onCipher, Fin.getElem_fin]
  exact Vector.getElem_set_ne _ _ fun e => h (Fin.ext e.symm)

/-- A page that begins an operation is busy with it. -/
@[simp] theorem beginJob_page (p : Fin 32) (op rc : Nat) (good : Bool) : (beginJob p op rc good s).page p =
    { s.page p with busy := some ⟨op, rc, good, none, (s.page p).dest, (s.page p).relLen.toNat⟩, done := false } := by
  simp [beginJob]

theorem beginJob_page_ne (p q : Fin 32) (op rc : Nat) (good : Bool) (h : q ≠ p) :
    (beginJob p op rc good s).page q = s.page q := by
  simp [beginJob, onPage_page_ne _ _ _ _ h]

/-- Beginning an operation changes the cipher engine alone. -/
theorem beginJob_frame (p : Fin 32) (op rc : Nat) (good : Bool) :
    beginJob p op rc good s = { s with cipher := (beginJob p op rc good s).cipher } := by
  unfold beginJob
  obtain ⟨_, _, _, _, h⟩ := grantCores_frame (s.onPage p fun x =>
    { x with busy := some ⟨op, rc, good, none, x.dest, x.relLen.toNat⟩, done := false })
  rw [h]; rfl

/-- Free bytes use up free values and change nothing else. -/
theorem freeBytes_frame : ∀ (n : Nat) (s : State), (freeBytes n s).2 = { s with freeCount := s.freeCount + n }
  | 0, s => rfl
  | n + 1, s => by
    simp only [freeBytes, State.free]
    rw [freeBytes_frame n]
    simp [Nat.add_assoc, Nat.add_comm 1 n]

/-! ### Sample memory -/

/-- Without an uncorrectable word in its region a read of sample memory meets none. -/
theorem meetPoison_none (lo hi : Nat) (h : ∀ e ∈ s.mem.poison, e.1 < lo ∨ hi ≤ e.1) : meetPoison lo hi s = (none, s) := by
  have : ((s.mem.poison.map (·.1)).filter fun a => decide (lo ≤ a) && decide (a < hi)) = [] := by
    rw [List.filter_eq_nil_iff]
    intro a ha
    obtain ⟨e, he, rfl⟩ := List.mem_map.mp ha
    have := h e he
    simp; omega
  unfold meetPoison
  simp [this]

/-- Whether a word is met is a free choice; the state changes in its free values alone. -/
theorem meetPoison_frame (lo hi : Nat) :
    (meetPoison lo hi s).2 = s ∨ (meetPoison lo hi s).2 = { s with freeCount := s.freeCount + 1 } := by
  unfold meetPoison
  dsimp only
  split
  · exact .inl rfl
  · exact .inr rfl

end Sys2Proof.Machine
end

