-- ==== Sys2Proof/Machine/Pads.lean ====
section
/-!
DEFINITION. What the control, GPIO and safety balls carry, read off the state (R143, R361, R394, R418, R539, R540,
R588 to R592).
-/

namespace Sys2Proof.Machine

/-- What a pad carries. -/
inductive Pad where
  | driven (level : Bool)
  /-- The 1 kHz square wave of SAFE_OK (R539). -/
  | wave
  /-- High impedance, with the PULL code of R589: 0 none, 1 down, 2 up. -/
  | floating (pull : Nat)
  deriving DecidableEq, Repr

/-- Pad hold, or HIBERNATE, in which the balls are as in pad hold (R591). -/
def padsHeld (s : State) : Bool := s.boot.padHold || s.power.state == .hibernate

/-- Front-end control ball `i` of radio `r` (R140, R143, R591, R592). -/
def fePad (s : State) (r : Fin 3) (i : Nat) : Pad :=
  if padsHeld s || pinFunction s.coh.active r.val i == 0 then .floating 1 else .driven (pinLevel s r i)

/-- The `PAD_CONFIG` byte of GPIO `b` (R589). -/
def padByte (m : NMap Bytes) (b : Nat) : Nat := u8 (part m 0x1000 0x1009 0 0) (b - 24)

/-- PULL of GPIO `b`; it acts only while the ball is not driven as an output. -/
def padPull (m : NMap Bytes) (b : Nat) : Nat := bits (padByte m b) 3 2

/-- The level of the timer output that names GPIO `b`, of the enabled unit of lowest ID (R394). -/
def timerLevel (s : State) (b : Nat) : Option Bool :=
  (List.finRange 16).findSome? fun t =>
    let p := timerPart s.coh.active t
    if enabledIn s.coh.active (timerFn t) then
      if u8 p 16 = b then some ((s.timers[t]).out.getLsbD 0)
      else if u8 p 18 = b then some ((s.timers[t]).out.getLsbD 1)
      else none
    else none

/-- GPIO ball `b`, 24 to 47.  HIB_IND is not held; REF_EN is low in HIBERNATE and in pad hold from its wake source on; a ball that no function names is an input; where the power manager and a
timer unit name one ball, the power manager has it (DESIGN CHOICE, log entry 153). -/
def gpioPad (s : State) (b : Nat) : Pad :=
  let m := s.coh.active
  let p := powerPart m
  if u8 p 14 = b then .driven s.power.hibInd
  else if refEnUsed m && u8 p 13 = b && !s.boot.padHold && (s.power.state != .hibernate || s.power.phase == .asleep) then
    .driven s.power.refEn
  else if padsHeld s then .floating 1
  else
    match timerLevel s b with
    | some v => .driven v
    | none => .floating (padPull m b)

/-- PPS_OUT: driven in service, not in pad hold, DOZE or HIBERNATE (R361, R591). -/
def ppsPad (s : State) : Pad := if padsHeld s || s.asleep then .floating 1 else .driven s.time.ppsOut

/-- SAFE_OK (R539, R591). -/
def safeOkPad (s : State) : Pad := if s.safety.safeOk then .wave else .driven false

/-- FAULT_N, asserted low (R540, R591). -/
def faultPad (s : State) : Pad := .driven (!s.safety.faultN)

/-! ### Balls of the memory and link interfaces (R591) -/

/-- A start has begun. -/
def started (s : State) : Bool :=
  match s.boot.phase with
  | .due _ _ => false
  | .factoryTest => false
  | _ => true

/-- What the DDRn_ balls carry. -/
inductive DramPads where
  | driven
  /-- DDRn_RESET_N is low. -/
  | reset
  /-- Self-refresh, with CKE low. -/
  | selfRefresh
  | unpowered
  deriving DecidableEq, Repr

def dramPads (s : State) : DramPads :=
  if s.power.state == .hibernate then .unpowered
  else if !started s || s.boot.phase == .safeHold then .reset
  else if s.power.selfRefresh then .selfRefresh
  else .driven

/-- What the balls of a serial link carry. -/
inductive LinkPads where
  | driven
  /-- PCIe in L1. -/
  | l1
  | idle
  deriving DecidableEq, Repr

/-- The PCIe balls. -/
def pciePads (s : State) : LinkPads :=
  if s.boot.hostSel || s.power.state == .hibernate || s.boot.perstLow || !started s then .idle
  else if s.asleep then .l1
  else .driven

/-- The SerDes balls of port `p`. -/
def portPads (s : State) (p : Fin 2) : LinkPads :=
  if (s.router.ports[p]).up && s.power.state != .hibernate && started s && s.boot.phase != .safeHold then .driven else .idle

end Sys2Proof.Machine
end

