-- ==== Sys2Proof/Tests/Slice0.lean ====
section
/-!
SUPPORT. Own tests: ill-formed commands, values written out from the spec, and for the statements of Obligations.lean states
and operands that meet their hypotheses.
-/

namespace Sys2Proof.Tests

open Sys2Proof Sys2Proof.Machine

set_option Elab.async false

/-- Functions that the base state enables. -/
def baseFns : List Nat :=
  [0x0100, 0x0101, 0x0102, 0x0200, 0x0300, 0x0400, 0x0500, 0x0600, 0x0700, 0x0720, 0x0800, 0x0810, 0x0811, 0x0900, 0x0910, 0x0911,
    0x0A00, 0x0A01, 0x0B00, 0x0C10, 0x0D00, 0x0E00, 0x1000]

/-- A state in service with these functions enabled. -/
def base : State :=
  { State.reset with
    boot := { State.reset.boot with ready := true, phase := .inService }
    coh := { State.reset.coh with active := enableFns baseFns State.reset.coh.active } }

/-- `s` with one part of the active set. -/
def withPart (fn op sel idx : Nat) (b : Bytes) (s : State) : State :=
  s.onCoh fun c => { c with active := setPart c.active fn op sel idx b }

/-- A request without flags and with the tag 1. -/
def ask (op fn : Nat) (body : Bytes) : Req :=
  { opcode := op, flags := 0, tag := 1, fn := fn, length := body.length, expectGen := 0, bufAddr := 0, bufLen := 0, reserved := 0
    body := body }

/-- `s` with a request waiting in mailbox `m`. -/
def asked (m : Fin 4) (r : Req) (s : State) : State := s.onMbx m fun b => { b with waiting := [r] }

/-- A body of `n` bytes, zero but for the little-endian fields `(offset, size, value)`. -/
def fields (n : Nat) (l : List (Nat × Nat × Nat)) : Bytes :=
  l.foldl (fun b f => patch b f.1 (leBytes f.2.1 f.2.2)) (zeros n)

/-- The state after a command; the state before it when it stops. -/
def after (c : Instr) (s : State) : State :=
  match exec c s with
  | .next t => t
  | _ => s


/-! ### Witnesses: steps and the host interface -/

theorem witness_StepRunsFrontCommand :
    ({ base with pending := [.rxActiveAssert 0, .commitApply] }).pending = .rxActiveAssert 0 :: [.commitApply] := rfl

theorem witness_EmptyQueueTicksTheClocks :
    base.pending = [] ∧ fabricRuns base = true ∧ State.reset.pending = [] ∧ fabricRuns State.reset = false ∧
    State.reset.supply.springRuns = true ∧
    fabricRuns (State.reset.onSupply fun x => { x with springRuns := false }) = false := by decide +kernel

/-- A doorbell for one request and for a whole ring of empty ones; a release; EVT_HEAD up to EVT_TAIL. -/
theorem witness_HostPointerWrites :
    let s := (base.onMbx 2 fun b => { b with rspTail := 1, rspOut := [1] }).onKci fun k => { k with evtTail := 1024 }
    let h := hostAccess s
    blockOff s = false ∧ h.boot.ready = true ∧ (h.kci.mbx[(2 : Fin 4)]).error = false ∧
    (readReqs h.kci.bar0 2 1 0 1).isSome = true ∧ (readReqs h.kci.bar0 2 256 0 256).isSome = true ∧
    releaseRsp (h.kci.mbx[(2 : Fin 4)]).rspOut 1 = some [] ∧ (h.kci.mbx[(2 : Fin 4)]).rspHeld = [] ∧
    ((1024 : BitVec 11) - h.kci.evtHead).toNat ≤ (h.kci.evtTail - h.kci.evtHead).toNat ∧ h.kci.droppedSince = 0 := by
  decide +kernel

theorem witness_PointerErrorsStopTheMailbox :
    let s := base.onMbx 1 fun b => { b with reqTail := 2 }
    let e := base.onMbx 1 fun b => { b with error := true }
    let b := (hostAccess s).kci.mbx[(1 : Fin 4)]
    blockOff s = false ∧ (hostAccess s).boot.ready = true ∧ b.error = false ∧ 256 < ((257 : BitVec 9) - b.reqHead).toNat ∧
    ((1 : BitVec 9) - b.reqHead).toNat < (b.reqTail - b.reqHead).toNat ∧
    (b.rspTail - b.rspHead).toNat < ((1 : BitVec 9) - b.rspHead).toNat ∧
    blockOff e = false ∧ ((hostAccess e).kci.mbx[(1 : Fin 4)]).error = true ∧
    ((hostAccess s).kci.evtTail - (hostAccess s).kci.evtHead).toNat < ((1 : BitVec 11) - (hostAccess s).kci.evtHead).toNat := by
  decide +kernel

theorem witness_InterruptAndWindowRegisters :
    blockOff base = false ∧ (hostAccess base).kci.intMode = false ∧ base.kci.intMode = false := by decide +kernel

/-- The base state with host rings 0 and 8 enabled, with 64 descriptors each. -/
def ringed : State := withPart 0x0800 0x0040 0 0 [0, 1, 6, 0, 0, 0, 0, 0] (withPart 0x0800 0x0040 8 0 [8, 1, 6, 0, 0, 8, 0, 0] base)

/-- The base state with thread 3 on core 0. -/
def threaded : State := (base.onThread 3 fun x => { x with status := .running }).onCore 0 fun x => { x with thread := some 3 }

theorem witness_RingIndexesSpiAndPlainRegisters :
    blockOff base = false ∧ ringEnabled (hostAccess base).coh.active 15 = false ∧
    blockOff ringed = false ∧ linkDown (hostAccess ringed) = false ∧
    (∀ r : Fin 16, r = 0 ∨ r = 8 →
      let t := (hostAccess ringed).onKci fun k => { k with ringHost := k.ringHost.set r 63 }
      ringEnabled (hostAccess ringed).coh.active r.val = true ∧ 63 < ringSize (hostAccess ringed).coh.active r.val ∧
        ringOwned (hostAccess ringed) r ≤ ringOwned t r ∧ ringOwned t r ≤ ringSize (hostAccess ringed).coh.active r.val) ∧
    blockOff { base with boot.hostSel := true } = false ∧ base.asleep = false ∧
    isReg (beNat [0, 4, 0]) = true ∧ beNat [0, 4, 0] % 4 = 0 ∧ isReg (beNat [0x20, 0, 1]) = false ∧
    (hostAccess base).kci.intMode = false ∧ blockOff threaded = false ∧ schedCtx threaded 0 = some (.thread 3) := by
  decide +kernel

/-! ### Witnesses: requests, commits and resets -/

/-- A request of mailbox `m` is the one taken next and passes the common checks. -/
abbrev Takes (m : Fin 4) (r : Req) (s : State) : Prop := Taken (asked m r s) r.opcode m r

theorem witness_RequestsAreTakenOrTurnedAway :
    nextReq base = none ∧ nextReq (asked 3 (ask 4 0 []) base) = some (3, ask 4 0 []) ∧ (ask 4 0 []).opcode ≠ 1 ∧
    commonCheck (takeReq 3 (ask 4 0x100 []) (asked 3 (ask 4 0x100 []) base)) 3 (ask 4 0x100 []) = some (rcOpcodeFunction, 0) := by
  decide +kernel

theorem witness_ResponseStandsInTheRing :
    let r := ask 0x0004 0 (List.replicate 4064 7)
    Takes 3 r base ∧ r.indirect = false ∧ Memory.wf base.kci.bar0 = true ∧ (base.kci.mbx[(3 : Fin 4)]).rspHeld = [] ∧
      rspUsed base.kci.mbx[(3 : Fin 4)] + entriesFor r.body.length ≤ 256 := by
  unfold Takes Taken; decide +kernel

theorem witness_IdentityAndSnapshotCommands :
    Takes 0 (ask 1 0 []) base ∧ ResponseFits (ask 1 0 []) (infoBytes base.boot) [] ∧
    (∀ op : Nat, op = 2 ∨ op = 3 → Takes 3 (ask op 0 [1, 0, 0, 0, 0, 1]) base) ∧ knownFn 0x0100 = true ∧
    (snapBlock base 0x0100 (fnStatus base 0x0100)).length + 24 ≤ 4064 ∧
    Takes 1 (ask 0x0014 0x0500 (fields 16 [(0, 2, 0x0010)])) base ∧ stagesInto 0x0010 0x0500 = true ∧
    (configBody base.coh.active 0x0500 0x0010 0 0 0 false).isSome = true := by
  refine ⟨?_, ?_, ?_, ?_⟩
  · unfold Takes Taken; decide +kernel
  · unfold ResponseFits; decide +kernel
  · rintro op (rfl | rfl) <;> (unfold Takes Taken; decide +kernel)
  · unfold Takes Taken; decide +kernel

theorem witness_StagingCommandsOfTheInterface :
    Takes 1 (ask 0x0010 0x0500 [1, 0, 0, 0]) base ∧
    Takes 1 (ask 0x0040 0x0800 [15, 1, 12, 0, 0, 0, 2, 0]) base ∧ u32 [15, 1, 12, 0, 0, 0, 2, 0] 4 % (32 * 2 ^ 12) = 0 ∧
    Takes 1 (ask 0x1009 0x1000 (List.replicate 24 27)) base ∧ (∀ b ∈ List.replicate 24 (27 : Byte), b.toNat < 32 ∧ b.toNat / 4 % 4 ≠ 3) ∧
    Takes 1 (ask 0x0011 0x0500 []) base ∧ Takes 3 (ask 0x0005 0 [1, 0, 0, 0]) base ∧ base.kci.dbgOpen = false ∧
    nextReq (asked 1 (ask 0x7777 0 []) base) = some (1, ask 0x7777 0 []) ∧ cmdInfo 0x7777 = none ∧ base.safety.s4Held = false := by
  unfold Takes Taken; decide +kernel

/-- `s` 1,000 s after the epoch of network time, in the slot that holds it. -/
def clocked (s : State) : State :=
  let t := { s with time := { s.time with seconds := 1000, state := .locked } }
  { t with time := { t.time with asn := some (slotNow t) } }

/-- A device whose DRAM is configured and whose Riffle pool is to be enabled. -/
def started : State :=
  let m := startSet State.reset.mem []
  clocked { base with coh := { base.coh with active := m, staged := setPart m 0x0400 0x0010 0 0 [1, 0, 0, 0] } }

theorem witness_CommitAndCancel :
    (∀ kind, kind ≤ 2 →
      let r := ask 0x0012 0 (fields 12 [(0, 1, kind), (4, 6, slotNow started + 10)])
      let fns := commitScope started []
      nextReq (asked 1 r started) = some (1, r) ∧ commonCheck (takeReq 1 r (asked 1 r started)) 1 r = none ∧
      namesCheck [] [] = none ∧ started.coh.commit = none ∧
      r.expectsGen = false ∧ fns = [0x0400] ∧ (∀ f ∈ fns, started.inReset f = false) ∧
      checkSet started (commitResult started.coh.active started.coh.staged fns) = none ∧
      (takeBoundary started kind (slotNow started + 10)).isLeft = true) ∧
    Takes 0 (ask 0x0013 0 []) base ∧ base.coh.commit = none ∧ started.asleep = false ∧ 0 < slotNow started := by
  unfold Takes Taken; decide +kernel

theorem witness_CommitReplacesTheActiveSet :
    ∀ f ∈ [0x0300, 0x0400, 0x0F00], f = 0x0300 ∨ f = 0x0400 ∨ f = 0x0F00 := by decide

theorem witness_FunctionResets :
    Takes 0 (ask 0x0020 0x0400 []) base ∧ resettable 0x0400 = true ∧ base.safety.safeState = false ∧
    (∀ f ∈ resetScope 0x0400, base.inReset f = false) ∧ base.coh.commit = none ∧
    ((startReset 0x0400 none base).coh.resets.find? fun x => x.fn == 0x0400) = some ⟨0x0400, none⟩ := by
  unfold Takes Taken; decide +kernel

/-! ### Witnesses: link -/

/-- A LINK_CONFIG body of a relay at the upper ends of its ranges. -/
def relayBody : Bytes :=
  fields 48 [(0, 1, 1), (1, 1, 7), (4, 2, 32767), (8, 4, 500000), (12, 4, 100000), (16, 4, 20000), (20, 4, 5000), (32, 4, 262143),
    (36, 4, 262143), (40, 4, 0xFFFFFFFF), (44, 1, 1), (46, 2, 1023)]

/-- A LINK_CONFIG body of a root at the lower ends of its ranges. -/
def rootBody : Bytes := fields 48 [(4, 2, 164), (8, 4, 100), (12, 4, 100), (16, 4, 500), (20, 4, 50), (40, 4, 0xFFFFFFFF)]

/-- A relay in the given state of its parent synchronisation. -/
def relay (y : LinkSync) : State := (clocked (withPart 0x0600 0x0601 0 0 relayBody base)).onLink fun l => { l with sync := y }

/-- A cell of the given first word, for frames of 24 bytes. -/
def cell (first : Nat) : Bytes := fields 16 [(0, 4, first), (8, 2, 24)]

theorem witness_LinkConfigurationCommands :
    Takes 1 (ask 0x0601 0x0600 relayBody) base ∧ Takes 1 (ask 0x0601 0x0600 rootBody) base ∧
    Takes 1 (ask 0x0602 0x0600 ([7, 64, 0, 0] ++ (List.range 64).map (BitVec.ofNat 8))) base ∧
    (((List.range 64).map (BitVec.ofNat 8)).map BitVec.toNat).Nodup ∧
    Takes 2 (ask 0x0603 0x0600 (fields 36 [(0, 1, 7), (1, 1, 1), (2, 1, 7), (4, 4, 1), (8, 4, 1048575), (12, 4, 1), (16, 4, 1048576), (28, 2, 24)])) base ∧
    checkFields (cell 0) (cellFields 1 (cell 0)) = none ∧
    Takes 2 (ask 0x0604 0x0600 (fields 72 [(0, 4, 262143), (4, 2, 1)])) base ∧ checkFields (zeros 64) nbFields = none ∧
    base.writesOf 0x0604 + 1 ≤ 65536 ∧
    Takes 2 (ask 0x0605 0x0600 (fields 8 [(0, 4, 262081), (4, 2, 63)])) base ∧
    ((List.range 63).flatMap fun i => nbBytes base (262081 + i)).length ≤ 4064 ∧
    (∀ y, y = LinkSync.scan ∨ y = LinkSync.search → Takes 0 (ask 0x0606 0x0600 []) (relay y) ∧ (relay y).enabled linkFn = true ∧
      linkRelay (relay y).coh.active = true ∧ (relay y).link.sync = y) := by
  unfold Takes Taken
  refine ⟨?_, ?_, ?_, ?_, ?_, ?_, ?_, ?_, ?_, ?_, ?_, ?_⟩
  case refine_12 => rintro y (rfl | rfl) <;> decide +kernel
  all_goals decide +kernel

theorem witness_SynchronisationEvents :
    (∀ y ∈ [LinkSync.synced, .search, .scan], (relay y).works linkFn = true ∧ linkRelay (relay y).coh.active = true ∧
      (relay y).time.asn = some 1000 ∧ (relay y).link.sync = y) ∧
    (relay LinkSync.search).link.missed < 3 ∧ 3 ≤ ((relay LinkSync.search).onLink fun l => { l with missed := 3 }).link.missed ∧
    (base.onLink fun l => { l with lostCount := 1 }).link.lostCount ≠ 0 ∧ base.link.lostCount = 0 := by decide +kernel

/-- A root at its first slot boundary, and in a slot at or below ASN_FLOOR. -/
theorem witness_SlotBoundaryRunsOrIdlesTheSlot :
    let s := { clocked base with time.asn := none }
    let f := { clocked base with time.asn := none, time.asnFloor := 1000 }
    let k := clocked base
    (∀ x ∈ [s, f], let s1 := takePeaks (List.replicate 6 (-80)) (beaconRealign x)
      asnReady s1 = true ∧ x.power.phase = .awake ∧ x.time.asn = none ∧ s1.time.asn ≠ some (boundarySlot x s1)) ∧
    s.time.asnFloor.toNat < 1000 ∧ boundarySlot s s = 1000 ∧ boundarySlot f f = 1000 ∧
    asnReady k = true ∧ k.power.phase = .awake ∧ k.time.realign = false ∧ k.time.asn = some (boundarySlot k k) := by decide +kernel

/-! ### Witnesses: radios -/

/-- A RADIO_CONFIG body with `windows` windows, mode 0 and AUTO gain. -/
def radioBody (windows : Nat) : Bytes :=
  fields 36 ([(1, 1, windows), (4, 4, 140000000), (8, 4, 28000000), (20, 1, 76), (22, 1, 226), (23, 1, 3), (24, 2, 40), (28, 2, 240),
    (30, 1, 2), (31, 1, 60), (32, 1, 20)] ++ if windows = 1 then [] else [(12, 4, 2700000000), (16, 4, 1000000), (21, 1, 76)])

/-- Radio A powered and locked, with one window. -/
def radioOn : State :=
  (withPart 0x0100 0x0101 0 0 (radioBody 1) base).onRadio 0 fun x => { x with powered := true, synth := .locked, lo := 868000000 }

/-- The gain of window 0 of radio A, in a slot with a cell of channel 0. -/
def gained (g : Nat) : State :=
  (radioOn.onWindow 0 0 fun y => { y with gain := g, clipAt := some 0 }).onLink fun l =>
    { l with slotCells := [⟨0, 0, zeros 16, 0, 0, 4000, 0, radioOn.coh.generation⟩] }

theorem witness_GainAndLatentTests :
    let s := { gained 1 with time.fabric := 40000 }
    windowOpen s 0 0 = true ∧ u8 (radioPart s.coh.active 0) 2 = 0 ∧ 40000 ≤ (s.time.fabric - 0).toNat ∧
    ((s.radio 0).windows[(0 : Fin 2)]).gain ≠ 0 ∧
    windowOpen (gained 0) 0 0 = true ∧ (((gained 0).radio 0).windows[(0 : Fin 2)]).gain = 0 ∧
    windowOpen (gained 76) 0 0 = true ∧ (((gained 76).radio 0).windows[(0 : Fin 2)]).gain = maxGain (gained 76).coh.active 0 ∧
    windowHasCell (gained 76) 0 0 = true ∧ s.radios.obsServes = none ∧
    s.enabled 0x0100 = true ∧ 0 < windowCount s.coh.active 0 ∧ ((-40 : Int) - (-52)).natAbs ≤ 12 ∧ 12 < ((-40 : Int) - (-53)).natAbs ∧
    ((s.radio 0).windows[(0 : Fin 2)]).toneAt = none ∧
    1600000000 ≤ (({ s with time.fabric := 1600000000 } : State).time.fabric - 0).toNat := by decide +kernel

theorem witness_RadioCommands :
    Takes 1 (ask 0x0101 0x0100 (radioBody 1)) base ∧ checkFields (radioBody 1) (radioConfigFields 1) = none ∧
    Takes 1 (ask 0x0101 0x0100 (radioBody 2)) base ∧ checkFields (radioBody 2) (radioConfigFields 2) = none ∧
    Takes 1 (ask 0x0102 0x0102 ((List.replicate 8 [55, 3]).flatten ++ leBytes 2 50 ++ leBytes 2 40 ++ leBytes 2 40 ++ leBytes 2 50
      ++ leBytes 2 500 ++ zeros 2)) base ∧
    Takes 1 (ask 0x0103 0x0100 [2, 1, 0, 0, 0, 0, 0, 1]) base ∧ Takes 1 (ask 0x0103 0x0100 (zeros 8)) base ∧
    radioOf 0x0100 = some 0 ∧ base.enabled 0x0100 = true ∧ (base.radio 0).hostCal = none ∧
    Takes 0 (ask 0x0104 0x0100 [255, 170, 0, 0]) base ∧
    Takes 2 (ask 0x0105 0x0100 (leBytes 2 4095 ++ leBytes 2 1)) base ∧ Takes 2 (ask 0x0105 0x0100 (leBytes 2 0 ++ leBytes 2 126)) base ∧
    ((List.range 126).flatMap fun i => match mget base.radios.store i with
      | some e => calBytes e
      | none => zeros 32).length ≤ 4064 := by
  unfold Takes Taken; decide +kernel

/-- A result of a calibration that succeeded. -/
def goodCal : CalResult := ⟨0, 868000000, 0, true, 1, 2, 3, 4, 5, 6⟩

/-- Radio A with the given synthesiser state and marks. -/
def synth (y : Synth) (forced unlocked : Bool) : State :=
  radioOn.onRadio 0 fun x => { x with synth := y, forced := forced, unlocked := unlocked, loNext := 868000000 }

theorem witness_SynthesiserAndCalibrationEvents :
    (∀ f : Bool, ((synth .settling f false).radio 0).synth = .settling ∧ ((synth .settling f false).radio 0).forced = f) ∧
    inLock radioOn 0 = true ∧ ((synth .settling false true).radio 0).unlocked = true ∧
    ((synth .settling false true).radio 0).synth = .settling ∧ ((synth .settling false true).radio 0).forced = false ∧
    (base.onRadios fun x => { x with obsServes := some 0 }).radios.obsServes = some 0 ∧ goodCal.good = true ∧
    ((base.onRadio 0 fun x => { x with bgCal := some ⟨0, 868000000, 0, true⟩ }).radio 0).bgCal = some ⟨0, 868000000, 0, true⟩ ∧
    (let h := (base.onRadio 0 fun x => { x with hostCal := some 7 }).radio 0
     h.hostCal = some 7 ∧ hostTones h = false) ∧
    ((base.onRadio 0 fun x => { x with calQueue := [⟨0, 868000000, 0, true⟩] }).radio 0).calQueue = [⟨0, 868000000, 0, true⟩] ∧
    (base.radio 0).starved = false := by decide +kernel

theorem witness_RadioPowerAndChanges :
    let p := { withPart 0x0E00 0x0E01 0 0 [1] radioOn with power.phase := .awake }
    base.enabled (radioFn 0) = true ∧ (base.radio 0).powered = false ∧ base.power.phase = .awake ∧
    (let q := radioOn.onRadio 0 fun x => { x with synth := .off }
     (q.radio 0).powered = true ∧ (q.radio 0).synth = .off ∧ q.works (radioFn 0) = true) ∧
    (p.radio 0).powered = true ∧ p.power.phase = .awake ∧ autoLevel p.coh.active ≠ 0 ∧ radioNeeded p 0 = false ∧ radioSoon p 0 = false ∧
    (p.radio 0).bgCal = none ∧ (p.radio 0).hostCal = none ∧ (p.radio 0).change = none ∧ (base.radio 0).trSw = false ∧
    (let c : RadioChange := ⟨true, false, true, true, false⟩
     earlierWork base 0 c = false ∧ earlierTwin base 0 c = false ∧
       ((base.onRadio 0 fun x => { x with change := some c }).radio 0).change = some c) := by decide +kernel

/-! ### Witnesses: reception -/

/-- Channel 0 of group 0 on window 0 of radio A in Oxgon mode 5 with capture, and channel 1 in SUN-FSK mode 17. -/
def tuned : State :=
  withPart 0x0200 0x0201 1 1 (fields 28 [(0, 4, 868300000), (6, 1, 0x11), (16, 1, 8)])
    (withPart 0x0200 0x0201 1 0 (fields 28 [(0, 4, 868000000), (5, 1, 4), (6, 1, 5), (7, 1, 1)])
      (withPart 0x0200 0x0201 0 0 (fields 16 [(8, 2, 16), (10, 2, 100), (14, 1, 1)]) radioOn))

/-- Channel 0 listens. -/
def listens : State := tuned.onChan 0 fun x => { x with listening := true }

/-- A state with one frame in reception on channel `ch`, changed by `g`. -/
def receiving (ch : Nat) (g : RxFrame → RxFrame) : State :=
  listens.onRx fun x => { x with frames := [g { newRx listens ch (-300) none with id := 9 }] }

/-- The cell of a slot for channel 0, whose window is 0 to 4,000 µs after the slot start. -/
def slotCell (s : State) : SlotCell := ⟨0, 0, zeros 16, 0, 0, 4000, 0, s.coh.generation⟩

theorem witness_ListeningAndPreambles :
    let m := tuned.coh.active
    (let d := tuned.onLink fun l => { l with slotCells := [slotCell tuned] }
     d.works (groupFn 0) = true ∧ (d.chan 0).shed = false ∧ (d.chan 0).listening = false ∧ listenDue d 0 = true) ∧
    (let s := (receiving 0 id).onChan 0 fun x => { x with shed := true }
     laneSearches s 0 = false ∧ onChannel s 0 ≠ [] ∧ s.works (groupFn 0) = true) ∧
    listenDue listens 0 = false ∧ (listens.chan 0).listening = true ∧
    laneSearches listens 0 = true ∧ (detectQ (listens.setOf (cellsGen listens (cellsFor listens 0))) 0 : Int) < 17 ∧
    onChannel listens 0 = [] ∧
    (let y := { newRx listens 0 (-300) none with id := 9 }
     let s := receiving 0 id
     laneSearches s 0 = true ∧ (onChannel s 0).getLast? = some y ∧ captureEn m 0 = true ∧ y.rssi + captureMargin m 0 ≤ -276 ∧
       -277 < y.rssi + captureMargin m 0) ∧
    (let g := fun x : RxFrame => { x with began := 0 - 400000000 }
     let y := g { newRx listens 0 (-300) none with id := 9 }
     let s := receiving 0 g
     s.rxFrame 9 = some y ∧ y.stage = .search ∧
       (preambleLen (rxSet s y) y.ch + 48) * 400000000 / chanRate (rxSet s y) y.ch ≤ (s.time.fabric - y.began).toNat) := by
  decide +kernel

/-- The frame of a state `receiving`. -/
def theFrame (ch : Nat) (g : RxFrame → RxFrame) : RxFrame := g { newRx listens ch (-300) none with id := 9 }

theorem witness_SyncWordsAndHeaders :
    let g := fun x : RxFrame => { x with cells := [slotCell listens] }
    let s := receiving 0 g
    let m := rxSet s (theFrame 0 g)
    s.rxFrame 9 = some (theFrame 0 g) ∧ (theFrame 0 g).stage = .search ∧ syncMatch s (theFrame 0 g) 0 = none ∧
    syncMatch s (theFrame 0 g) 0x7A0ED3B5 = some false ∧
    (∀ o ∈ [ceilDiv (headNs m 0 * 24) 625, (4000000 + headNs m 0) * 24 / 625],
      ((theFrame 0 g).cells.filter fun c => decide ((c.early : Int) * 1000 ≤ (o : Int) * 625 / 24 - headNs m 0)
        && decide ((o : Int) * 625 / 24 - headNs m 0 ≤ (c.late : Int) * 1000)) ≠ []) ∧
    5 * (-(6 * afcRange (chanMode m 0) (chanBw m 0) / 5 : Nat) : Int).natAbs ≤ 6 * afcRange (chanMode m 0) (chanBw m 0) ∧
    (receiving 0 id).rxFrame 9 = some (theFrame 0 id) ∧ (theFrame 0 id).cells = [] ∧ scanning (receiving 0 id) 0 = false ∧
    awaitsAck (receiving 0 id) 0 (syncEndNs (receiving 0 id) (theFrame 0 id) 0 - headNs m 0) = false ∧
    (∀ ch : Fin 2, (receiving ch.val fun y => { y with stage := .synced }).rxFrame 9 =
      some (theFrame ch.val fun y => { y with stage := .synced })) ∧
    (oxMode (chanMode m 0)).isSome = true ∧ oxMode (chanMode m 1) = none := by decide +kernel

theorem witness_HandOffAndTrellis :
    (∀ ch : Fin 2, (receiving ch.val fun y => { y with stage := .psdu }).rxFrame 9 = some (theFrame ch.val fun y => { y with stage := .psdu })) ∧
    (theFrame 1 fun y => { y with stage := .psdu }).coded = false ∧ (theFrame 0 fun y => { y with stage := .psdu }).mate = none ∧
    listens.works riffleFn = true ∧
    (let g := fun y : RxFrame => { y with stage := .trellis, len := 7 }
     (receiving 1 g).rxFrame 9 = some (theFrame 1 g) ∧ (∀ y ∈ (receiving 1 g).rx.frames, y.id = 9) ∧
       (let soft := (List.replicate 16 false ++ airBits (withFcs [1, 2, 3] true)).map fun b => if b then (-9 : Int) else 9
        fcsOk (sunPsdu 0 false false 7 soft) true = true) ∧ fcsOk (sunPsdu 0 false false 7 []) true = false) := by decide +kernel

/-- Lane 5 in a phase, over a frame that it displaced. -/
def lane (p : CapturePhase) (d : Option Subtraction) : Capture :=
  ⟨30, 0, p, none, ⟨0, 0, 0, 0, 0⟩, listens.coh.generation, d⟩

def capturing (p : CapturePhase) (d : Option Subtraction) : State :=
  setCapture 5 (some (lane p d)) (receiving 0 fun y => { y with stage := .decode, parkedBy := some 30 })

theorem witness_CaptureLanes :
    (∀ p ∈ [CapturePhase.subtract, .ready, .redemod, .frame], ∀ d ∈ [none, some ⟨5, 0, 0, 0, [true], [], 0, [(256, 0)]⟩],
      (capturing p d).rx.captures[(5 : Fin 64)] = some (lane p d) ∧
      owedFrame (capturing p d) (lane p d) = some (theFrame 0 fun y => { y with stage := .decode, parkedBy := some 30 })) ∧
    (capturing .ready none).mem.poison = [] ∧ redemodLate (capturing .ready none) (lane .ready none) = false ∧
    inProgress (theFrame 0 fun y => { y with stage := .decode, parkedBy := some 30 }) = false ∧
    (let s := withPart 0x0300 0x0301 0 0 [1, 1] (capturing .ready none); sicEn (s.setOf (lane .ready none).generation) = true) ∧
    histMs (listens.setOf listens.coh.generation) (chanMode (listens.setOf listens.coh.generation) 0) * 400000 - 100000
      ≤ ((7900000 : BitVec 64) - 0).toNat := by decide +kernel

theorem witness_DecodeEnginesAndDeadlines :
    listens.works riffleFn = true ∧ 4000 ≤ ((4000 : BitVec 64) - (listens.rx.engines[(47 : Fin 48)]).idleAt).toNat ∧
    (listens.rx.engines[(47 : Fin 48)]).idleAt = 0 ∧ engineFree listens.rx.engines[(47 : Fin 48)] = true ∧ listens.mem.poison = [] ∧
    (let s := listens.onEngine 47 fun g => { g with job := some (9, 0) }
     s.rx.engines[(47 : Fin 48)].job = some (9, 0) ∧ s.rx.engines[(47 : Fin 48)].stalled = false) ∧
    (∀ f ∈ [some 9, none], ((listens.onPage 3 fun x => { x with busy := some ⟨9, rcOk, true, f, 0, 0⟩ }).page 3).busy = some ⟨9, rcOk, true, f, 0, 0⟩) ∧
    (let g := fun y : RxFrame => { y with kind := 1, stage := .twinWait }
     (receiving 0 g).rxFrame 9 = some (theFrame 0 g) ∧ (theFrame 0 g).second = none ∧ ∀ y ∈ (receiving 0 g).rx.frames, y.mate ≠ some 9) ∧
    (let g := fun y : RxFrame => { y with stage := .decode, handedAt := 0 - 400000000 }
     (receiving 0 g).rxFrame 9 = some (theFrame 0 g) ∧
       (∀ e ∈ (receiving 0 g).rx.engines.toList, e.stalled = false) ∧
       u16 (rifflePart (rxSet (receiving 0 g) (theFrame 0 g))) 6 * 400000 ≤ ((receiving 0 g).time.fabric - (theFrame 0 g).handedAt).toNat) ∧
    (∀ c ∈ [RxClass.none, .reacked, .stale, .rejected, .join, .fresh, .control], ∀ k ∈ [0, 2],
      let g := fun y : RxFrame => { y with stage := .gate, cls := c, psdu := [0, 0, 0, 0, BitVec.ofNat 8 k] ++ zeros 20 }
      (receiving 0 g).rxFrame 9 = some (theFrame 0 g) ∧ gateOpenFor (receiving 0 g) (theFrame 0 g) = true ∧
        verifyAhead (receiving 0 g) (theFrame 0 g) = false ∧ (macOf (receiving 0 g) (theFrame 0 g)).map (·.level) = some k ∧
        ((receiving 0 g).page 0).busy = none) := by decide +kernel

theorem witness_NoiseFloorsAndReloads :
    listens.works (groupFn 0) = true ∧ chanExists listens.coh.active 0 = true ∧ chanMonitor listens.coh.active 0 = false ∧
    (listens.chan 0).shed = false ∧ (listens.chan 0).settling = false ∧ (listens.chan 0).listening = true ∧
    chanReceives listens 0 = true ∧ onChannel listens 0 = [] ∧
    ((listens.onChan 0 fun x => { x with settling := true }).chan 0).settling = true ∧ secondExpected listens 0 = false ∧
    (listens.ring 1).kb = ringKb listens.coh.active 1 ∧ (listens.ring 0).kb ≠ ringKb listens.coh.active 0 ∧
    (∀ lane : Fin 64, listens.rx.captures[lane] = none) := by decide +kernel

theorem witness_ReceptionConfigurationCommands :
    (let b := fields 68 [(0, 1, 2), (1, 1, 1), (2, 1, 31), (3, 1, 1), (4, 1, 32), (5, 1, 1), (8, 2, 64), (10, 2, 4096), (12, 2, 200), (14, 1, 1), (15, 1, 3),
      (45, 1, 8), (46, 1, 5), (47, 1, 63), (48, 2, 64), (50, 2, 60)]
     Takes 2 (ask 0x0201 0x0207 b) base ∧ checkFields b (planFields b) = none ∧ ∀ e ∈ chunks 28 1 (b.drop 40), checkFields e (chanFields e) = none) ∧
    (let b := fields 40 [(8, 2, 64), (10, 2, 4096), (12, 2, 200), (14, 1, 1), (15, 1, 3)]
     Takes 2 (ask 0x0201 0x0200 b) base ∧ checkFields b (planFields b) = none ∧ bit (u8 b 5) 0 = false) ∧
    Takes 1 (ask 0x0301 0x0300 (fields 32 [(0, 1, 2), (1, 1, 1), (4, 2, 2000), (16, 2, 2000), (20, 1, 32), (27, 1, 32)])) base ∧
    Takes 1 (ask 0x0401 0x0400 ([1, 24, 1, 24, 64, 3] ++ leBytes 2 10000 ++ leBytes 2 1024 ++ zeros 6)) base := by
  unfold Takes Taken; decide +kernel

/-! ### Witnesses: transmission -/

/-- Radio A on the LO of channel 0, with its pads released. -/
def txBase : State :=
  let t := clocked { tuned with boot.padHold := false }
  t.onRadio 0 fun x => { x with lo := chanLo t.coh.active 0 }

/-- A launch of 2 ms on channel 0 at the given step, changed by `g`. -/
def theLaunch (st : LaunchStep) (g : Launch → Launch) : Launch :=
  g { newLaunch txBase .downlink 0 (txBase.netNs + 1000000) 20 2000 1000 40 with id := 4, step := st }

def launching (st : LaunchStep) (g : Launch → Launch) : State := txBase.onSluice fun x => { x with launches := [theLaunch st g] }

theorem witness_LaunchChainUpToTheAir :
    txBase.time.asn = some 1000 ∧ txBase.enabled sluiceFn = true ∧ 0 < ({ txBase with time.asnFloor := 1 }).time.asnFloor.toNat ∧ txBase.inReset (radioFn 0) = false ∧ txBase.enabled linkFn = true ∧
    (∀ st ∈ [LaunchStep.selected, .classified, .retuned, .trOn, .paOn, .ramping],
      findLaunch (launching st id) 4 = some (theLaunch st id) ∧ (theLaunch st id).step = st) ∧
    (theLaunch .classified fun x => { x with needRetune := true }).needRetune = true ∧
    txBlocked (launching .selected id) 0 0 (theLaunch .selected id).t0 = none ∧
    txBlocked ({ launching .selected id with boot.padHold := true }) 0 0 (theLaunch .selected id).t0 = some rcPadsHeld ∧
    (∀ st ∈ [LaunchStep.trOn, .paOn], turnBlocked (launching st id) (theLaunch st id) = none ∧
      turnBlocked ({ launching st id with boot.padHold := true }) (theLaunch st id) = some rcPadsHeld) ∧
    (theLaunch .paOn id).kind ≠ .test ∧ 20 ≤ (theLaunch .paOn id).lateTol ∧ (theLaunch .paOn id).lateTol < 21 ∧
    ((launching .paOn id).radio 0).synth = .locked ∧ ((launching .paOn id).radio 0).lo = chanLo txBase.coh.active 0 := by decide +kernel

theorem witness_LaunchEndsAndObservation :
    (∀ f ∈ [none, some 3], let g := fun x : Launch => { x with frame := f }
      findLaunch (launching .onAir g) 4 = some (theLaunch .onAir g) ∧ (theLaunch .onAir g).step = .onAir ∧
        (theLaunch .onAir g).kind ≠ .test ∧ framesOnAir (launching .onAir g) 0 = [theLaunch .onAir g]) ∧
    (∀ x ∈ (launching .rampDown id).sluice.launches, x.radio = 0 → x.step ≠ .paOn ∧ x.step ≠ .ramping ∧ x.step ≠ .onAir) ∧
    (let m := txBase.coh.active
     let e := expectedQ m 0 (theLaunch .onAir id).power
     powerOf (e + (obsTolQ m 0 : Int)) ≤ powerOf (e + (obsTolQ m 0 : Int)) ∧ powerOf e ≤ powerOf (e + 2 * (obsTolQ m 0 : Int)) ∧
       powerOf (e + (obsTolQ m 0 : Int)) < powerOf (e + (obsTolQ m 0 : Int) + 1) ∧
       (-(obsAclr m 0 * 100 : Int)) ≤ -(obsAclr m 0 * 100 : Int) ∧ (-2000 : Int).natAbs ≤ obsFreqTol m 0 * 100 ∧
       obsFreqTol m 0 * 100 < (2001 : Int).natAbs) ∧
    (let g := fun x : Launch => { x with kind := .test }
     (launching .onAir g).sluice.launches.find? (fun y => y.radio == 0 && y.kind == .test && y.step == .onAir) = some (theLaunch .onAir g)) := by
  decide +kernel

/-- A downlink frame in the list of neighbour 0, changed by `g`. -/
def theDl (g : DlFrame → DlFrame) : DlFrame :=
  g { id := 3, cookie := 0, neighbour := 0, queue := 0, ackMode := true, level := 0, key := 0, payload := [], taken := true, counter := 0,
      waiting := false, sealed := none, micEcho := 0, psdu := none, pendingBit := false, admitted := 0 - 400000 * 3600000, launches := 1, requeued := false, lastAsn := none,
      lastPath := 0, lastChannel := 0, lastPower := 0, charged := 0, lastLate := 0, generation := txBase.coh.generation,
      inFlight := false, awaiting := none, expired := false, endNs := 0 }

def queued (g : DlFrame → DlFrame) : State := txBase.onSluice fun x => { x with queued := [theDl g] }

theorem witness_QueueGateAndBucketEvents :
    (∀ e : Bool, ∀ n ∈ [1, 8], let g := fun y : DlFrame => { y with awaiting := some 0, expired := e, launches := n }
      findFrame (queued g) 3 = some (theDl g) ∧ (theDl g).awaiting.isSome = true ∧ (theDl g).expired = e ∧ (theDl g).launches = n) ∧
    dlAttempts txBase.coh.active ≤ 8 ∧ 1 < dlAttempts txBase.coh.active ∧
    dlLifetimeMs txBase.coh.active * 400000 ≤ ((queued id).time.fabric - (theDl id).admitted).toNat ∧
    findFrame (queued id) 3 = some (theDl id) ∧ (theDl id).inFlight = false ∧ (theDl id).awaiting = none ∧
    findLaunch (launching .booked id) 4 = some (theLaunch .booked id) ∧
    (let h := fields 16 [(1, 1, 1), (2, 2, 1), (12, 4, 3)]
     let s := (withPart 0x0500 0x0502 16 0 (fields 16 [(0, 4, 1), (10, 2, 0xFFFF)]) (withPart 0x0500 0x0502 0 0 h txBase)).onSluice fun x =>
       { x with gates := x.gates.set 0 { x.gates[(0 : Fin 3)] with activation := some 1000 } }
     s.time.asn = some 1000 ∧ s.time.idling = false ∧ gateInForce s 0 1000 = some (h, [fields 16 [(0, 4, 1), (10, 2, 0xFFFF)]]) ∧ gateSlot h 1000 = 1) ∧
    (let s := withPart 0x0500 0x0503 0 15 (zeros 16) txBase
     s.asleep = false ∧ bandExists s.coh.active 15 = true) := by decide +kernel

theorem witness_TransmitCommands :
    (let radio := [(0, 1, 8), (1, 1, 12), (2, 2, 40), (4, 2, 200), (6, 2, 200)]
     let b := fields 36 ([(0, 1, 7), (1, 1, 1), (2, 1, 255), (3, 1, 64), (4, 4, 3600000), (8, 1, 8)]
       ++ ([12, 20, 28].flatMap fun o => radio.map fun f => (o + f.1, f.2)))
     Takes 1 (ask 0x0501 0x0500 b) base ∧ checkFields b (sluiceRadioFields 12) = none ∧ checkFields b (sluiceRadioFields 20) = none ∧
       checkFields b (sluiceRadioFields 28) = none) ∧
    (let b := fields 32 [(0, 1, 2), (1, 1, 1), (2, 2, 1), (12, 4, 65536), (24, 1, 1), (25, 1, 15), (30, 2, 200)]
     Takes 2 (ask 0x0502 0x0500 b) base ∧ ∀ e ∈ chunks 16 1 (b.drop 16), checkFields e (gateFields e) = none) ∧
    Takes 1 (ask 0x0503 0x0500 ([16, 0, 0, 0] ++ (List.replicate 16 (fields 16 [(8, 4, 1000000), (12, 2, 3600), (15, 1, 100)])).flatten)) base ∧
    (let r := ask 0x0504 0x0500 (fields 8 [(3, 1, 1), (4, 4, 1000000)])
     let h := takeReq 3 r (asked 3 r txBase)
     Takes 3 r txBase ∧ txBase.enabled sluiceFn = true ∧ chanUsable txBase.coh.active 0 = true ∧ chanRadioFin txBase.coh.active 0 = 0 ∧
       radioScheduled txBase.coh.active 0 = false ∧
       launchRefused h { newLaunchOf h txBase.coh.active .test 0 h.netNs 0 1000000 0 (signed 8 0) with long := h.kci.longNext, pn9 := true } false = none) := by
  unfold Takes Taken; decide +kernel

/-! ### Witnesses: cipher engine and keys -/

/-- Page 0 (firmware) changed by `g`, with a valid key of usage 3 at index 0. -/
def paged (g : Page → Page) : State := (withPart 0x0700 0x0702 0 0 (fields 64 [(48, 1, 1), (49, 1, 3)]) base).onPage 0 g

theorem witness_PlainPageOperations :
    let s := paged fun x => { x with key := some (0, zeros 16) }
    coreOff s .firmware = false ∧ pageWorks s 0 = true ∧ pageAllowed s .firmware 0 = true ∧ (s.page 0).busy = none ∧ (s.page 0).key = some (0, zeros 16) ∧
    (79 : Fin 128).val < 80 ∧ (s.page 0).held = false ∧ (s.page 0).keyIndex.toNat = 0 ∧ keyValid s.coh.active 0 = true ∧
    usageAllowed s.coh.active 0 (keyUsage s.coh.active 0) = true := by decide +kernel

theorem witness_PageAccessIsGuarded :
    coreOff base (.core 7) = false ∧ coreOff { base with power.phase := .asleep } .firmware = true ∧ pageAllowed base (.core 7) 0 = false ∧ pageAllowed base .host 0 = false ∧ pageWorks base 0 = true ∧
    pageAllowed base .firmware 0 = true := by decide +kernel

theorem witness_TagVerificationAndContexts :
    let s := paged fun x => { x with key := some (0, zeros 16), tagLen := 16, relLen := 1280, dest := 0x10700000 }
    let c : SavedCtx := ⟨zeros 64, false, none, zeros 16, zeros 16, 0, 0⟩
    let r := s.onCipher fun x => { x with contexts := [c] }
    coreOff s .firmware = false ∧ pageWorks s 0 = true ∧ pageAllowed s .firmware 0 = true ∧ (s.page 0).busy = none ∧
    verifyRefused (s.page 0) (regOp (s.page 0) 9 0 0) = none ∧ destOk s 0 = true ∧ (s.page 0).held = false ∧
    ctxPlace true 0x10700000 = true ∧ ctxPlace false 0x106FFFC0 = true ∧
    r.cipher.contexts.find? (fun d => d.wrapped == false && d.blob == r.load 0x106FFFC0 64) = some c ∧
    (∀ good : Bool, ((paged fun x => { x with busy := some ⟨9, rcOk, good, none, 0x10700000, 1280⟩ }).page 0).busy = some ⟨9, rcOk, good, none, 0x10700000, 1280⟩) ∧
    pageOwner s.coh.active 0 = 0 ∧ inGeneral 0x10700000 1280 = true ∧ offTables 0x106FFFC0 64 = true ∧
    (let b := (paged fun x => { x with busy := some ⟨2, rcOk, false, none, 0, 0⟩ }).onCipher fun c => { c with cores := c.cores.set 0 (some 0) }
     pageWaits b 0 = false ∧ (b.page 0).busy = some ⟨2, rcOk, false, none, 0, 0⟩) := by
  decide +kernel

theorem witness_KeyCommands :
    Takes 1 (ask 0x0701 0x0720 [2, 255, 0, 0]) base ∧ Takes 1 (ask 0x0701 0x0720 [1, 0, 0, 0]) base ∧
    Takes 2 (ask 0x0702 0x0700 (fields 64 [(2, 2, 1), (4, 4, 0xFFFFFFFF), (8, 4, 262143)])) base ∧
    Takes 2 (ask 0x0702 0x0700 (fields 72 [(0, 1, 2), (2, 2, 1), (4, 4, 0xFFFFFFFF)])) base ∧
    Takes 2 (ask 0x0702 0x0700 (fields 64 [(0, 1, 1), (2, 2, 1)])) base ∧
    Takes 1 (ask 0x0703 0x0700 (fields 8 [(0, 2, 1), (4, 4, 262143)])) base ∧ base.writesOf 0x0702 + 1 ≤ 65536 ∧
    Takes 2 (ask 0x0704 0x0700 (fields 8 [(0, 4, 262143), (4, 4, 1)])) base ∧
    (let s := withPart 0x0720 0x0701 0 0 [1, 0, 0, 0] base
     Takes 2 (ask 0x0705 0x0720 (fields 56 [(1, 1, 1)])) s ∧ s.enabled 0x0720 = true ∧ s.enabled cipherFn = true ∧
       (s.fnState cipherFn).inReset = false ∧ pageOwner s.coh.active (pageOf 0x0720) = 1) ∧
    Takes 3 (ask 0x0706 0x0700 (leBytes 4 262143)) base := by
  unfold Takes Taken; decide +kernel

/-- A journal with one record waiting, after `n` failures. -/
def journal (n : Nat) : State := base.onJournal fun j => { j with queue := [⟨5, 1, false, false⟩], fails := n }

theorem witness_JournalEvents :
    headFull (journal 3).cipher.journal = false ∧
    headFull { base.cipher.journal with sectors := base.cipher.journal.sectors.set (Fin.ofNat 16 base.cipher.journal.head) { Sector.reset with words := List.replicate 8188 0 } } = true ∧
    (journal 3).cipher.journal.queue = [⟨5, 1, false, false⟩] ∧ (journal 3).cipher.journal.fails < 4 ∧
    mget (journal 3).cipher.slots 5 = none ∧ (journal 2).cipher.journal.queue = [⟨5, 1, false, false⟩] ∧
    (journal 2).cipher.journal.fails < 3 ∧ (base.onJournal fun j => { j with fault := true }).cipher.journal.fault = true ∧
    (base.onJournal fun j => { j with reclaim := some 15 }).cipher.journal.reclaim = some 15 ∧ base.cipher.journal.queue = [] := by
  decide +kernel

/-! ### Witnesses: router and Weir -/

/-- Port 1 is up. -/
def linked : State := base.onRouter fun r => { r with ports := r.ports.set 1 ⟨true, 3, none, []⟩ }

/-- A broadcast Ethernet frame with an IPv6 packet without payload. -/
def ethFrame : Bytes :=
  List.replicate 6 0xFF ++ [2, 0, 0, 0, 0, 1] ++ [0x86, 0xDD] ++ [0x60, 0, 0, 0, 0, 0, 59, 64] ++ zeros 32

theorem witness_RouterEvents :
    (base.works (portFn 1) = false ∨ (base.router.ports[(1 : Fin 2)]).up = false) ∧
    linked.asleep = false ∧ linked.works (portFn 1) = true ∧ (linked.router.ports[(1 : Fin 2)]).up = true ∧
    beNat (slice ethFrame 12 2) = 0x86DD ∧ ethFrame.length + 4 ≤ maxFrame linked.coh.active 1 ∧
    maxFrame linked.coh.active 1 < (ethFrame ++ zeros 1461).length + 4 ∧ (ethFrame ++ zeros 1460).length + 4 = maxFrame linked.coh.active 1 ∧
    addressedTo linked.coh.active 1 (ethFrame.take 6) = true ∧ ipPacket (ethFrame.drop 14) = some (ethFrame.drop 14) ∧
    ipVersion (ethFrame.drop 14) = 6 ∧ linked.works routerFn = true ∧ base.router.drops = 0 ∧
    (base.onRouter fun r => { r with drops := 1 }).router.drops ≠ 0 := by decide +kernel

theorem witness_StrictQueuesLeaveFirst :
    let x : Packet := ⟨ethFrame, 0, 0⟩
    let s := linked.onRouter fun r => { r with egress := r.egress.set 1 { Egress.reset with
      queues := Egress.reset.queues.set 3 { EgQueue.reset with packets := [x] } } }
    let g := s.router.egress[portEgress 1]
    s.works routerFn = true ∧ s.asleep = false ∧ s.works (portFn 1) = true ∧ (s.router.ports[(1 : Fin 2)]).up = true ∧ portPaused s 1 = false ∧
    g.nextAt.toNat ≤ s.time.fabric.toNat ∧ (g.queues[(3 : Fin 16)]).packets = [x] ∧
    (∀ j : Fin 16, j < 3 → g.queues[j].packets = []) ∧
    weirEligible s.coh.active 1 (refillEgress s.coh.active 1 s.time.fabric g) 3 = true ∧
    portPaused (s.onRouter fun r => { r with ports := r.ports.set 1 ⟨true, 3, some (0, 1), []⟩ }) 1 = true := by
  decide +kernel

/-- A body of POLICER_LOAD: a single-rate policer with the least rate and burst. -/
def policerEntry : Bytes := fields 24 [(0, 1, 1), (4, 4, 8), (12, 4, 2048)]

/-- A body of WEIR_EGRESS_LOAD for egress 1. -/
def weirBody : Bytes :=
  fields 268 ([(0, 1, 1), (4, 4, 64)] ++ (List.range 16).flatMap fun q =>
    [(12 + 16 * q, 1, if q < 4 then 0 else 1), (14 + 16 * q, 2, 65535)])

theorem witness_RouterCommands :
    Takes 1 (ask 0x0801 0x0800 (fields 248 [(26, 1, 0xFF), (36, 1, 7), (184, 1, 2)])) base ∧
    Takes 2 (ask 0x0802 0x0800 (fields 40 [(0, 4, 65535), (4, 2, 1), (20, 2, 0xFFFF), (24, 1, 128), (25, 1, 1)])) base ∧
    checkRoute (fields 32 [(16, 1, 128), (17, 1, 1)]) = none ∧
    Takes 1 (ask 0x0803 0x0800 weirBody) base ∧ egressOf 0x0800 1 = true ∧ checkFields weirBody (weirFields 1) = none ∧
    Takes 1 (ask 0x0803 0x0800 (patch weirBody 0 [2])) base ∧ egressOf 0x0800 2 = false ∧
    Takes 1 (ask 0x0803 0x0800 (patch weirBody 0 [6])) base ∧
    Takes 2 (ask 0x0804 0x0800 (fields 8 [(0, 2, 4095), (2, 2, 1)] ++ policerEntry)) base ∧
    checkFields policerEntry (policerFields policerEntry) = none ∧
    Takes 3 (ask 0x0805 0x0800 (fields 8 [(0, 2, 4095), (2, 2, 1)])) base ∧
    ResponseFits (ask 0x0805 0x0800 (fields 8 [(0, 2, 4095), (2, 2, 1)])) [] (zeros 24) ∧
    Takes 1 (ask 0x0806 0x0811 (fields 16 [(0, 1, 2), (1, 1, 11), (2, 2, 9018), (10, 2, 4094), (12, 1, 7)])) base := by
  unfold Takes Taken ResponseFits; decide +kernel

/-! ### Witnesses: time -/

/-- The base with PRIMARY 1 and BACKUP 2, and its time unit changed by `g`. -/
def timed (g : Time → Time) : State :=
  (withPart 0x0D00 0x0D01 0 0 (patch timeConfigDefault 0 [1, 2, 1]) base).onTime g

theorem witness_PtpExchange :
    let s := timed fun t => { t with ptpTx := some 7 }
    let y : PtpSync := ⟨0xFFFF, none, 1000, 0, none, 0, 1⟩
    let z : PtpSync := ⟨0xFFFF, some 0, 1000, 0, some 2000, 0xFFFF, 1⟩
    let c : PtpSender := ⟨7, 2, 1, false, 1, -4⟩
    ptpScope s.coh.active c = true ∧ ptpScope s.coh.active { c with version := 1 } = false ∧ delayDue s = true ∧
    delayDue (s.onTime fun t => { t with delayAt := some t.fabric }) = false ∧
    ptpTaken base = false ∧ ptpTaken s = true ∧ (timed id).time.ptpTx = none ∧ u64 (timePart s.coh.active) 32 = 0 ∧
    s.time.ptpTx = some 7 ∧ ((s.time.syncTimes.filter fun t => (s.time.fabric - t).toNat < 400000000).length < 16) ∧
    (16 ≤ ((s.onTime fun t => { t with syncTimes := List.replicate 16 t.fabric }).time.syncTimes.filter
      fun t => (s.time.fabric - t).toNat < 400000000).length) ∧
    (s.onTime fun t => { t with ptpSync := some y }).time.ptpSync = some y ∧ y.t1 = none ∧
    (s.onTime fun t => { t with ptpSync := some z }).time.ptpSync = some z ∧ z.t1 = some 0 ∧ z.t3 = some 2000 ∧
    (s.time.source ≠ 2 ∨ s.time.state ≠ .invalid) ∧
    (let ds := [(1000 + 1000 : Int) / 2, -9000]; minInt 1000 ds + 10000 ≤ 1000 ∧ ¬ minInt 1000 ds + 10000 < 1000) := by
  decide +kernel

theorem witness_PulseSamplesSlewOrStep :
    let s := timed fun t => { t with seconds := 10, ppsLast := some 9000000000, source := 3, state := .locked, ppsSecond := some 9 }
    s.works timeFn = true ∧ s.power.phase = .awake ∧ s.time.ppsLast = some 9000000000 ∧ s.netNs = 10000000000 ∧
    absInt ((s.netNs : Int) - 9000100000 - 1000000000) ≤ 100000 ∧ 100000 < absInt ((s.netNs : Int) - 9000100001 - 1000000000) ∧
    cyclesOk 38400384 s.time.freqEst 384 = true ∧ cyclesOk 38400385 s.time.freqEst 384 = false ∧ s.time.ppsArmed = none ∧
    (s.onTime fun t => { t with source := 2 }).time.source = 2 ∧ s.time.ppsSecond = some 9 ∧
    absInt ((s.netNs : Int) - (10 * 1000000000 + ppsOffset s.coh.active)) ≤ slewLimit s.coh.active ∧
    (let u := s.onTime fun t => { t with nanos := 100001, ppsLast := some 9000100001 }
     let off := (u.netNs : Int) - (10 * 1000000000 + ppsOffset u.coh.active)
     slewLimit s.coh.active < absInt off ∧ absInt off ≤ jumpNs s.coh.active) ∧
    (let off := (10000000000 : Int) - (20 * 1000000000 + ppsOffset s.coh.active)
     slewLimit s.coh.active < absInt off ∧ jumpNs s.coh.active < absInt off) := by decide +kernel

theorem witness_SourcesHoldoverAndSpring :
    let s := timed fun t => { t with source := 4, state := .locked }
    let r := s.onTime fun t => { t with backupAt := some (t.fabric - 800000000) }
    s.works timeFn = true ∧ s.time.backupAt = none ∧ s.time.state = .locked ∧
    (s.onLink fun l => { l with sync := .search }).link.sync ≠ .synced ∧
    (let p := timed fun t => { t with source := 2, state := .locked, seconds := 3, ppsLast := some 500000000 }
     p.time.source = 2 ∧ p.time.ppsLast = some 500000000 ∧ 500000000 + 2500000000 ≤ p.netNs) ∧
    (let h := timed fun t => { t with state := .holdover, fabric := 10000 * 400000000 }
     h.time.state = .holdover ∧ u16 (timePart h.coh.active) 26 * 400000000 ≤ (h.time.fabric - h.time.holdSince).toNat) ∧
    (let v := s.onTime fun t => { t with primaryAt := some 0, fabric := 3600 * 400000000 }
     v.time.primaryAt = some 0 ∧ v.time.source ≠ primarySource v.coh.active ∧
       u16 (timePart v.coh.active) 24 * 400000000 ≤ (v.time.fabric - 0).toNat) ∧
    (r.time.fabric - (r.time.fabric - 800000000)).toNat ≤ 800000000 ∧ backupSource r.coh.active ∉ lostWith 4 ∧
    backupSource r.coh.active ≤ 4 ∧ (s.onTime fun t => { t with state := .holdover }).time.state = .holdover ∧
    s.time.source ≠ primarySource s.coh.active ∧ u16 (timePart s.coh.active) 24 ≠ 0 ∧ s.power.phase = .awake ∧
    s.timeValid = true ∧ bit (u8 (timePart s.coh.active) 2) 0 = true ∧ wholeSecond s = true ∧
    wholeSecond (s.onTime fun t => { t with nanos := 6 }) = false ∧
    (let w := s.onTime fun t => { t with ppsOut := true, ppsOutAt := 0 - 400 * 500000 }
     u32 (timePart w.coh.active) 20 * 400 ≤ (w.time.fabric - w.time.ppsOutAt).toNat) ∧
    (s.time.fabric - s.time.ppsOutAt).toNat < u32 (timePart s.coh.active) 20 * 400 ∧ base.timeValid = false ∧
    7680 < absInt ((38407681 : Int) - 38400000) ∧ absInt ((38392320 : Int) - 38400000) ≤ 7680 ∧ s.time.springSeconds = 0 ∧
    s.time.springDisc = false ∧ (38392320 : Int) * 1000000000 / 38400000 + (38392320 : Int) * freqPpb s / 38400000 ≠ 0 ∧
    s.time.ppsArmed = none ∧ (s.onTime fun t => { t with ppsArmed := some 0 }).time.ppsArmed = some 0 ∧
    (s.time.fabric - s.time.armedAt).toNat < 1000000000 ∧
    1000000000 ≤ ((1000000000 : BitVec 64) - s.time.armedAt).toNat := by decide +kernel

/-- A body of TIME_CONFIG at one end of every range. -/
def timeBody : Bytes :=
  fields 48 [(0, 1, 4), (1, 1, 0xFF), (2, 1, 7), (3, 1, 127), (4, 4, 1000000), (8, 4, 100), (12, 4, 1000), (16, 4, 0xFFF0BDC0), (20, 4, 1),
    (24, 2, 3600), (26, 2, 1), (28, 4, 1), (40, 2, 10000), (42, 2, 10000)]

theorem witness_TimeCommands :
    Takes 1 (ask 0x0D01 0x0D00 timeBody) base ∧ i32 timeBody 16 = -1000000 ∧
    (let r := ask 0x0D02 0x0D00 (fields 16 [(0, 1, 0), (4, 8, 0xFFFFFFFF), (12, 4, 999999999)])
     Takes 0 r base ∧ base.time.source = 0 ∧ base.time.source ≠ 4 ∧ base.timeValid = false ∧ base.enabled timeFn = true ∧
       Takes 0 r (timed fun t => { t with source := 4 }) ∧ Takes 0 r (timed fun t => { t with source := 1, state := .locked }) ∧
       (let s := timed fun t => { t with source := 1, state := .holdover }
        Takes 0 r s ∧ s.timeValid = true ∧ jumpNs s.coh.active < absInt ((0xFFFFFFFF * 1000000000 + 999999999 : Nat) - s.netNs))) ∧
    Takes 0 (ask 0x0D02 0x0D00 (fields 16 [(0, 1, 1), (1, 1, 1), (4, 8, 5)])) base ∧
    Takes 0 (ask 0x0D03 0x0D00 []) base ∧ ResponseFits (ask 0x0D03 0x0D00 []) (zeros 48) [] := by
  unfold Takes Taken ResponseFits; decide +kernel

theorem witness_TimeCommands_by_difference :
    let r := ask 0x0D02 0x0D00 (fields 16 [(0, 1, 2), (4, 8, 2 ^ 63)])
    let s := timed fun t => { t with source := 1, state := .holdover }
    Takes 0 r base ∧ base.time.source = 0 ∧ base.timeValid = false ∧ Takes 0 r s ∧ s.time.source ≠ 4 ∧ s.timeValid = true ∧
    jumpNs s.coh.active < absInt (i64 r.body 4) ∧ Takes 0 (ask 0x0D02 0x0D00 (fields 16 [(0, 1, 2), (4, 8, 1)])) s ∧
    absInt 1 ≤ jumpNs s.coh.active := by
  unfold Takes Taken; decide +kernel

/-! ### Witnesses: timers -/

/-- Unit 0 with the configuration `b`, changed by `g`. -/
def unit0 (b : Bytes) (g : Timer → Timer) : State := (withPart 0x0C10 0x0C01 0 0 b base).onTimer 0 g

theorem witness_TimerTickCountsAndFires :
    let s := unit0 timerConfigDefault fun u =>
      { u with run := true, ticks := 0xFFFFFFFF, cmp := u.cmp.set 3 0x80000001, armed := 8, step := u.step.set 3 1, period := 5, count := 5 }
    let v := unit0 (patch timerConfigDefault 3 [3]) fun u => { u with run := true, down := true, count := 1 }
    let f := (unit0 (patch timerConfigDefault 12 [2, 1]) fun u => { u with run := true }).onCore 0 fun x => { x with debugHalt := true }
    base.works (timerFn 1) = false ∧ s.works (timerFn 0) = true ∧ (s.timers[(0 : Fin 16)]).run = true ∧ timersRun s = true ∧
    timerSource (timerPart s.coh.active 0) ≠ 3 ∧ freezeAsked s 0 = false ∧ (s.timers[(0 : Fin 16)]).status.getLsbD 12 = false ∧
    (timerCfg (timerPart s.coh.active 0)).updown = false ∧ (s.timers[(0 : Fin 16)]).armed.getLsbD 3 = true ∧
    ((0xFFFFFFFF + 1 : BitVec 64).setWidth 32 - 0x80000001 : BitVec 32).toNat < 2 ^ 31 ∧
    2 ^ 31 ≤ ((0xFFFFFFFF + 1 : BitVec 64).setWidth 32 - 0x80000000 : BitVec 32).toNat ∧
    (timerCfg (timerPart v.coh.active 0)).updown = true ∧ (timerCfg (timerPart v.coh.active 0)).oneCycle = true ∧
    (v.timers[(0 : Fin 16)]).down = true ∧ f.works (timerFn 0) = true ∧ (f.timers[(0 : Fin 16)]).run = true ∧ timersRun f = true ∧
    freezeAsked f 0 = true := by decide +kernel

theorem witness_TimerRegistersTakeTheirOwner :
    let s := unit0 timerConfigDefault fun u => { u with count := 8, period := 9, down := true }
    coreOff { base with power.phase := .asleep } (.core 0) = true ∧ coreOff base (.core 0) = false ∧ coreOff base .host = false ∧
    base.works (timerFn 1) = false ∧ s.works (timerFn 0) = true ∧ timerOwner s (.core 0) 0 = false ∧ timerOwner s .host 0 = true ∧
    (7 : BitVec 31) ≠ 0 ∧ (s.timers[(0 : Fin 16)]).count ≤ (8 : BitVec 31).toNat ∧
    (7 : BitVec 31).toNat < (s.timers[(0 : Fin 16)]).count ∧ (timerCfg (timerPart s.coh.active 0)).updown = false ∧
    (timerCfg (patch timerConfigDefault 3 [1])).updown = true ∧
    timerOwner (unit0 (patch timerConfigDefault 0 [1, 128]) id) (.core 7) 0 = true := by decide +kernel

/-- A body of TIMER_CONFIG for a unit of core 7. -/
def timerBody : Bytes :=
  fields 24 [(0, 1, 1), (1, 1, 128), (2, 1, 3), (3, 1, 3), (4, 4, 65536), (8, 4, 0x7FFFFFFF), (12, 1, 3), (14, 2, 4095), (16, 1, 47), (18, 1, 0xFF),
    (20, 1, 3)]

theorem witness_ComparesHaltsAndTimerCommands :
    let s := unit0 timerConfigDefault fun u => { u with ticks := 10, armed := 1, cmpNew := u.cmpNew.set 0 [9, 11] }
    let v := unit0 timerConfigDefault fun u => { u with ticks := 10, cmpNew := u.cmpNew.set 3 [0x8000000A] }
    let o := unit0 (patch timerConfigDefault 0 [1, 128]) id
    s.works (timerFn 0) = true ∧ (s.timers[(0 : Fin 16)]).cmpNew[(0 : Fin 4)] = [9, 11] ∧ ((10 : BitVec 32) - 9).toNat < 2 ^ 31 ∧
    (s.timers[(0 : Fin 16)]).armed.getLsbD 0 = true ∧ (s.timers[(0 : Fin 16)]).status.getLsbD 12 = false ∧
    v.works (timerFn 0) = true ∧ (v.timers[(0 : Fin 16)]).cmpNew[(3 : Fin 4)] = [0x8000000A] ∧
    2 ^ 31 ≤ ((10 : BitVec 32) - 0x8000000A).toNat ∧ (∀ t : Fin 16, (base.timers[t]).status.getLsbD 12 = false) ∧
    Takes 1 (ask 0x0C01 0x0C10 timerBody) base ∧
    Takes 0 (ask 0x0C02 0x0C10 (fields 8 [(0, 1, 0), (2, 2, 0x54)])) o ∧ timerOwner o .host (timerOf 0x0C10) = false ∧
    Takes 0 (ask 0x0C02 0x0C10 (fields 8 [(0, 1, 1), (2, 2, 0x54)])) base ∧ timerOwner base .host (timerOf 0x0C10) = true ∧
    Takes 0 (ask 0x0C02 0x0C10 (fields 8 [(2, 2, 0x54)])) base ∧ base.enabled 0x0C10 = true := by
  unfold Takes Taken; decide +kernel

/-! ### Witnesses: power states -/

/-- The base asleep in DOZE, by the host's command with WAKE_MASK `w`, changed by `g`. -/
def dozing (w : BitVec 8) (g : Power → Power) : State :=
  base.onPower fun p => g { p with phase := .asleep, state := .doze, target := .doze, commanded := true, wakeMask := w }

/-- A body of POWER_CONFIG at one end of every range. -/
def powerBody : Bytes :=
  fields 16 [(0, 1, 2), (1, 1, 3), (2, 1, 28), (4, 2, 5000), (6, 2, 100), (8, 4, 2000), (12, 1, 24), (13, 1, 47), (14, 1, 0xFF)]

theorem witness_EntryIsVotedOn :
    let r := ask 0x0E02 0x0E00 (fields 12 [(0, 1, 2)])
    let n := ask 0x0E02 0x0E00 (fields 12 [(0, 1, 3)])
    let s := base.onSafety fun x => { x with restartPending := true }
    let a := withPart 0x0E00 0x0E01 0 0 (patch powerConfigDefault 0 [2]) base
    Takes 1 (ask 0x0E01 0x0E00 powerBody) base ∧ Takes 1 r base ∧ base.enabled 0x0E00 = true ∧
    enterRefused (takeReq 1 r (asked 1 r base)) r.body = none ∧
    vote (takeReq 1 r (asked 1 r base)) .doze 14 = none ∧ Takes 1 r s ∧ enterRefused (takeReq 1 r (asked 1 r s)) r.body = none ∧
    vote (takeReq 1 r (asked 1 r s)) .doze 14 = some (2, 0x0F00) ∧
    Takes 1 n base ∧ enterRefused (takeReq 1 n (asked 1 n base)) n.body = some (rcNoWakeSource, 0) ∧
    a.power.phase = .awake ∧ a.works powerFn = true ∧ a.boot.ready = true ∧ autoLevel a.coh.active = 2 ∧ nextNeed a = none ∧ gapRefused a = false ∧
    (∀ k : Fin 3, (a.radio k).powered = false) ∧ a.kci.executing = none ∧ a.power.commanded = false ∧ vote a .doze 14 = none ∧
    vote (a.onSafety fun x => { x with restartPending := true }) .doze 14 = some (2, 0x0F00) ∧
    (base.onPower fun p => { p with phase := .voting 14 }).power.phase = .voting 14 ∧ base.kci.executing = none ∧
    base.power.aborts = 0 ∧ (base.onPower fun p => { p with aborts := 1 }).power.aborts ≠ 0 ∧
    (let e := base.onPower fun p => { p with phase := .entering, target := .doze }
     e.power.phase = .entering ∧ e.power.target = .doze ∧ e.power.state = .run ∧ e.power.wakePending = none) := by
  unfold Takes Taken; decide +kernel

theorem witness_WakingRebuildsTheBases :
    let d := dozing 4 id
    let h := dozing 4 fun p => { p with state := .hibernate, target := .hibernate }
    let e := dozing 4 fun p => { p with phase := .entering, state := .run }
    let v := dozing 4 fun p => { p with phase := .voting 1, state := .run }
    let n := (withPart 0x0100 0x0101 0 0 (fields 36 [(1, 1, 1)]) (d.onRadio 0 fun x =>
      { x with windows := x.windows.set 0 { x.windows[0] with toneAt := some 0 } })).onTime fun t => { t with fabric := 800000000 }
    let k := fun b => d.onCoh fun x => { x with commit := some ⟨[], [], .slot b, 0, []⟩ }
    let p : Snapshot := ⟨0, 0, Vector.replicate 3 0, 0, true, none⟩
    sourceEnabled d 1 = false ∧ sourceEnabled d 0 = false ∧ sourceEnabled d 2 = true ∧ d.power.phase = .asleep ∧ d.power.state = .doze ∧
    sourceEnabled h 2 = true ∧ sourceEnabled h 4 = false ∧ h.power.phase = .asleep ∧ h.power.state = .hibernate ∧
    sourceEnabled e 2 = true ∧ e.power.phase = .entering ∧ e.power.wakePending = none ∧ sourceEnabled v 2 = true ∧
    v.power.phase = .voting 1 ∧ v.kci.executing = none ∧ latentNeeds d = [] ∧
    d.coh.commit = none ∧ latentNeeds (k 0) = [] ∧ sourceEnabled (k 0) 1 = false ∧
    (wakeInstant (k 0) (slotStartNs (k 0).coh.active 0) ≤ (k 0).time.spring.toNat ∧
      (k 0).time.spring.toNat < wakeInstant (k (10 ^ 9)) (slotStartNs (k 0).coh.active (10 ^ 9))) ∧
    (∃ need : Need, latentNeeds n = [need] ∧ need.latent = true ∧ wakeInstant n need.at_ ≤ n.time.spring.toNat) ∧ sourceEnabled n 1 = false ∧ n.power.phase = .asleep ∧
    n.power.state = .doze ∧ (dozing 8 fun p => { p with phase := .waking }).power.phase = .waking ∧ d.supply.refPresent = true ∧
    (d.onSupply fun x => { x with refPresent := false }).supply.refPresent = false ∧
    (dozing 8 fun p => { p with phase := .qualified }).power.phase = .qualified ∧
    (d.onTime fun t => { t with snapshot := some p }).time.snapshot = some p ∧ (∀ k : Fin 16, (d.timers[k]).run = false) ∧
    (let c := dozing 8 fun p => { p with phase := .rebuilt, state := .run, lastWake := 2 }
     c.power.phase = .rebuilt ∧ c.power.state ≠ .hibernate ∧ c.time.asn = none ∧ c.power.wakeNeed = none ∧ c.power.held = [] ∧ c.power.hostHeld = [] ∧ railsBack c = true ∧
       c.power.lastWake = 2) := by
  intro d h e v n k p
  refine ⟨?_, ?_, ?_, ?_, ?_, ?_, ?_, ?_, ?_, ?_, ?_, ?_, ?_, ?_, ?_, ?_, ?_, ?_, ?_, ?_, ⟨⟨0, 0x0100, true⟩, ?_, ?_, ?_⟩, ?_, ?_, ?_, ?_, ?_, ?_, ?_, ?_, ?_, ?_⟩ <;>
    decide +kernel

/-! ### Witnesses: supplies, clocks and resets -/

/-- The base with its supply state changed by `g`. -/
def supplied (g : Supply → Supply) : State := base.onSupply g

theorem witness_WarningsStartDipsAndRecoveryEndsThem :
    let s := supplied fun x => { x with dip := some ⟨0, 0, 0⟩ }
    let now := fun mv : List Nat => s.onSupply fun x => { x with rails := Vector.ofFn fun r : Fin 10 =>
      { x.rails[r] with present := mv.getD r.val (x.rails[r]).present } }
    railRemoved base 0 = false ∧ railRemoved (supplied fun x => { x with removed := [0] }) 0 = true ∧ levelTarget base 0 = 750 ∧
    100 * 697 < 93 * levelTarget base 0 ∧ 93 * levelTarget base 0 ≤ 100 * 698 ∧ base.supply.dip = none ∧
    s.supply.dip = some ⟨0, 0, 0⟩ ∧ s.supply.dip.isSome = true ∧ railRemoved s 0 = false ∧
    100 * ([704] : List Nat).getD 0 (s.supply.rails[(0 : Fin 10)]).present < 94 * levelTarget (now [704]) 0 ∧
    (∀ r : Fin 10, railRemoved s r.val = true ∨
      94 * levelTarget (now [705]) r ≤ 100 * ([705] : List Nat).getD r.val (s.supply.rails[r]).present) ∧
    s.time.asn = none ∧ (clocked s).time.asn ≠ none := by decide +kernel

theorem witness_LevelCrossingsRaiseTheirFaults :
    railRemoved base 0 = false ∧ railRemoved (supplied fun x => { x with removed := [0] }) 0 = true ∧
    110 * levelTarget base 0 ≤ 100 * 825 ∧ 110 * levelTarget base 0 < 100 * 826 ∧ 88 * levelTarget base 0 ≤ 100 * 660 ∧
    100 * 659 < 88 * levelTarget base 0 ∧ base.boot.phase = .inService ∧ railRemoved base 2 = false ∧
    100 * 703 < 88 * levelTarget base 2 ∧
    (∀ k ∈ [StartKind.cold, .warm], let s := base.onBoot fun b => { b with phase := .due k true }
      railRemoved s 0 = false ∧ 100 * 659 < 88 * levelTarget s 0 ∧ s.boot.phase = .due k true) := by decide +kernel

theorem witness_TargetsPointsAndClocks :
    let a := supplied fun x => { x with configured := true }
    let w := supplied fun x => { x with settling := [(9, ⟨1000, 0, 0⟩)], pmic := [(9, 1)] }
    let f := supplied fun x => { x with settling := [(9, ⟨1000, 0, 0⟩)], pmic := [(9, 2)] }
    let cores := fun s : State => ((List.range 8).filter fun c => s.enabled (coreFn c)).length
    let i := fun s : State => oppLimited s (oppSelected s.coh.active s.supply.opp s.cluster.evalBusy (s.cluster.evalClock * cores s))
    let b := a.onCluster fun x => { x with evalBusy := 81, evalClock := 100 }
    let r := supplied fun x => { x with oppNext := some ⟨3, 0⟩ }
    let n := supplied fun x => { x with oppNext := some ⟨3, 10⟩ }
    a.works supplyFn = true ∧ a.supply.configured = true ∧ avsEn a.coh.active = true ∧ railRemoved a 0 = false ∧
    (a.supply.rails[(0 : Fin 10)]).target = 750 ∧ avsMin a.coh.active + 5 ≤ 750 ∧
    mget w.supply.settling 9 = some ⟨1000, 0, 0⟩ ∧ (w.time.fabric - 0).toNat < 80000 ∧ 80000 ≤ ((80000 : BitVec 64) - 0).toNat ∧ w.power.phase = .awake ∧ mgetD w.supply.pmic 9 0 < 2 ∧
    mget f.supply.settling 9 = some ⟨1000, 0, 0⟩ ∧ f.power.phase = .awake ∧ 2 ≤ mgetD f.supply.pmic 9 0 ∧
    (let t := (w.supply.rails[(9 : Fin 10)]).target; 98 * t ≤ 100 * t ∧ 100 * t ≤ 102 * t ∧ 102 * t < 100 * (2 * t) ∧ 100 * 0 < 98 * t) ∧
    base.works schedFn = true ∧ base.asleep = false ∧ i base = base.supply.opp ∧ oppHolds (i base) base = true ∧ b.works schedFn = true ∧
    (i (b.onCluster fun x => { x with evalBusy := 161 }) ≠ b.supply.opp) ∧ b.supply.oppNext = none ∧ anyWarn b = false ∧
    r.supply.oppNext = some ⟨3, 0⟩ ∧ r.relocking = true ∧ n.supply.oppNext = some ⟨3, 10⟩ ∧ n.relocking = false ∧
    clockStopped base 2 = false ∧ clockStopped base 10 = false ∧ clockStopped (dozing 0 fun p => { p with state := .hibernate }) 10 = true ∧
    base.boot.phase = .inService ∧ (base.onBoot fun b => { b with phase := .due .cold false }).boot.phase = .due .cold false ∧
    (base.onBoot fun b => { b with phase := .due .warm true }).boot.phase = .due .warm true ∧
    base.supply.watchdog < watchdogCycles ∧ watchdogCycles ≤ (supplied fun x => { x with watchdog := 38095238 }).supply.watchdog := by
  decide +kernel

/-- A body of SUPPLY_CONFIG at one end of every range. -/
def supplyBody : Bytes :=
  fields 128 ([(1, 1, 8), (2, 2, 850), (4, 2, 650), (6, 2, 550), (8, 2, 50000)]
    ++ (List.range 8).flatMap (fun i => [(12 + 4 * i, 2, 1600), (14 + 4 * i, 2, 850)]) ++ [(44, 1, 127), (46, 1, 7), (47, 1, 0), (50, 2, 1)])

theorem witness_ResetsAndTheirCommands :
    let s := base.onBoot fun b => { b with perstLow := true }
    let d := supplied fun x => { x with dip := some ⟨0, 0, 0⟩ }
    s.boot.perstLow = true ∧ s.power.state ≠ .hibernate ∧ base.boot.perstLow = false ∧ base.power.phase = .awake ∧
    Takes 1 (ask 0x1001 0x1000 supplyBody) base ∧ checkFields supplyBody (oppFields 8) = none ∧
    checkFields supplyBody (pmicFields supplyBody) = none ∧ Takes 1 (ask 0x1002 0x1000 [1, 0, 0, 0]) base ∧
    base.supply.dip = none ∧ Takes 1 (ask 0x1002 0x1000 [1, 0, 0, 0]) d ∧ d.supply.dip.isSome = true := by
  unfold Takes Taken; decide +kernel

/-! ### Witnesses: starts -/

/-- A firmware image of one body byte with IMAGE_SEQ 8: header, signature and public key, each as one number.  The key is
chosen so that R465's test of the signature verifies with both scalars 1. -/
def imageBytes : Bytes :=
  beBytes 64 0x57465848010000000100000003000000080000000000000000000000000000004bf5122f344554c53bde2ebb8cd2b7e3d1600ad631c385a5d7cce23c7785459a
    ++ beBytes 64 0x05e5440b1b77df71ac8d10e98799c880efe3d1a12a17a9c7fe177347bc84f99505e5440b1b77df71ac8d10e98799c880efe3d1a12a17a9c7fe177347bc84f995
    ++ beBytes 64 0x956b122c6d5b487ad99a4c08b19070d018803cd9128e708168e5a258818dcaa3b9a4ee477614271a9e9a0014b168a91a55588421d4cfdbe66c3bef6219cf7767
    ++ zeros 64 ++ [1]

/-- What a good start finds. -/
def goodFacts : StartFacts where
  rails := List.replicate 10 5000
  hostSel := true
  refSel := false
  testMode := false
  fuses := ⟨some (beBytes 32 0xb96877fa62f8e19a1ced700434f7f8e8562b336618a893559a5b8a700ecf5160), true, 3, 850, 1, []⟩
  flash := some (imageBytes, [])
  lockstepPasses := true
  reactionsPass := true
  monitorsPass := true
  sramPasses := true
  dramPasses := true
  backwaterPasses := true
  density := 16
  ranks := 2
  rate := 3
  recordPasses := true
  stressPasses := true
  results := []
  endedAt := none
  resetN := true

/-- A device after POR that holds a stress record. -/
def fresh : State := State.reset.onThermal fun t => { t with stored := some (Vector.replicate 8 0) }

/-- A device in the start phase `p`. -/
def inPhase (p : StartPhase) : State := base.onBoot fun b => { b with phase := p }

theorem witness_StartsReachReadyOrFail :
    let f := goodFacts
    let u := loadFuses f ((resetDevice .cold false fresh).onBoot fun b => { b with hostSel := f.hostSel, refSel := f.refSel, testMode := f.testMode })
    startDue .cold base = false ∧ railsUp .cold fresh { f with rails := [] } = false ∧ startDue .warm base = false ∧ startDue .cold fresh = true ∧
    railsUp .cold fresh f = true ∧ f.resetN = true ∧ f.density = 16 ∧ f.ranks = 2 ∧ f.testMode = false ∧ fresh.safety.s4Held = false ∧ f.lockstepPasses = true ∧ f.monitorsPass = true ∧
    f.sramPasses = true ∧ f.dramPasses = true ∧ f.endedAt = none ∧ (∀ r ∈ f.results, r.good = true) ∧ f.reactionsPass = true ∧
    f.stressPasses = true ∧ fresh.thermal.stored ≠ none ∧ u.boot.select = .inl false ∧
    (let w := (loadFuses f fresh).onBoot fun b => { b with phase := .due .warm false }
     startDue .warm w = true ∧ railsUp .warm w f = true ∧ fromHibernate w = false ∧
       (loadFuses { f with flash := none } (resetDevice .warm (fromHibernate w) w)).boot.select = .inl false) ∧ (4 : Nat) < 5 ∧
    (base.onBoot fun b => { b with coldFails := 1 }).boot.coldFails = 1 ∧ (base.onBoot fun b => { b with coldFails := 2 }).boot.coldFails = 2 ∧
    (inPhase (.due .cold false)).boot.phase = .due .cold false ∧ base.boot.phase = .inService ∧
    (inPhase (.proving .cold)).boot.phase = .proving .cold ∧
    (let s := (inPhase (.proving .warm)).onTime fun t => { t with spring := 327680 }
     s.boot.phase = .proving .warm ∧ 327680 ≤ (s.time.spring - s.boot.readyAt).toNat) ∧
    ((inPhase (.proving .cold)).time.spring - (inPhase (.proving .cold)).boot.readyAt).toNat < 327680 := by decide +kernel

theorem witness_ImagesAndPadHold :
    let t := base.onBoot fun b => { b with padHold := true }
    let c := base.onBoot fun b => b.setSlot false b.slot0.confirm
    let d := base.onBoot fun b => { b with padHold := false }
    let w := ask 0x1004 0x1000 (fields 16 [(0, 1, 3), (4, 4, 0x3FFFF8)])
    let l : LongCmd := ⟨0, 2, w, patch w.body 0 [0], false⟩
    Takes 1 (ask 0x1003 0x1000 []) t ∧ t.boot.padHold = true ∧ Takes 1 (ask 0x1003 0x1000 []) d ∧ d.boot.padHold = false ∧
    Takes 2 w base ∧ base.boot.running.trial = true ∧ Takes 2 w c ∧ c.boot.running.trial = false ∧
    Takes 1 (ask 0x1005 0x1000 []) base ∧ Takes 1 (ask 0x1005 0x1000 []) c ∧ Takes 1 (ask 0x1006 0x1000 []) base ∧
    ResponseFits (ask 0x1006 0x1000 []) [] (zeros 44) ∧ (∀ x ∈ base.kci.longs, x.req.opcode ≠ 0x1004) ∧
    (let s := base.onKci fun k => { k with longs := [l] }
     s.kci.longs = [l] ∧ l.req.opcode = 0x1004 ∧ u8 l.buf 0 = 0 ∧ Memory.wf (s.boot.slot (!s.boot.imageSlot)).content = true) := by
  unfold Takes Taken ResponseFits; decide +kernel

/-! ### Witnesses: memory -/

/-- The base with two ranks of DRAM, changed by `g`. -/
def fitted (g : Memory → Memory) : State := base.onMem fun m => g { m with density := 16, ranks := 2, spare := true }

theorem witness_MemoryAccessReadsAndWrites :
    let s := fitted fun m => { m with poison := [(0x10FFFFF8, true)] }
    Memory.wf s.mem.phys = true ∧ accessAllowed s.mem (.core 7) true 0x10FFFFFF 1 = true ∧
    accessAllowed s.mem (.core 7) false 0x10FFFFF0 8 = true ∧ poisoned s.mem 0x10FFFFF0 8 = false ∧
    poisoned s.mem 0x10FFFFF1 8 = true ∧ accessAllowed s.mem (.core 7) true 0x10FFFFFF 2 = false ∧
    accessAllowed s.mem (.core 0) true 0x10000000 1 = false ∧ accessAllowed s.mem (.core 0) false 0x10000000 1 = true ∧
    accessAllowed s.mem .host false 0x10FFFFFF 2 = false ∧ coreOff s (.core 7) = false ∧ coreOff (dozing 0 id) (.core 7) = true ∧
    offTables 0x10FFFFFF 1 = true ∧ s.streams 0x10FFFFFF = false ∧ foreignPage (.core 7) 0x10FFFFFF s = false ∧
    foreignPage (.core 7) 0x12000FFF s = true ∧ accessAllowed s.mem .firmware true 0x10620000 8 = true ∧ counterTable ≤ 0x10620000 ∧
    0x10620000 + 8 ≤ tablesEnd ∧ inWindow 0x10FFFFFF = false ∧ (0x12000000 % 4 = 0) ∧ (0x13000FFC % 4 = 0) := by decide +kernel

theorem witness_ScrubRefreshAndDriftSteps :
    let s := fitted fun m => { m with scrubOffset := 0xFFFFF0 }
    let e := fitted fun m => { m with scrubOffset := 0xFFFFF8 }
    let l := base.onTime fun t => { t with fabric := 800000000 }
    let r := (withPart 0x0900 0x0901 0 0 (patch dramConfigDefault 1 [1]) (fitted id)).onRecorder 2 fun x => { x with fifo := 1 }
    (s.power.state = .run ∨ s.power.state = .slotIdle) ∧ s.power.selfRefresh = false ∧
    (s.onPower fun p => { p with selfRefresh := true }).power.selfRefresh = true ∧ mgetD s.mem.poison (0x10000000 + s.mem.scrubOffset) false = false ∧
    s.mem.scrubOffset + 8 < 0x1000000 ∧ mgetD e.mem.poison (0x10000000 + e.mem.scrubOffset) false = false ∧
    0x1000000 ≤ e.mem.scrubOffset + 8 ∧ 800000000 ≤ (l.time.fabric - l.mem.scrubStart).toNat ∧ 0 < s.mem.ranks ∧ s.asleep = false ∧
    s.mem.dramRow + 1 < totalRows s.mem ∧ (1 : Fin 2).val < r.mem.ranks ∧ bit (u8 (dramPart r.coh.active) 1) 0 = true ∧
    (r.mem.recorders[(2 : Fin 3)]).fifo ≠ 0 ∧ ((r.channel 1).refBanks[(1 : Fin 2)]) ≠ 7 ∧
    (∀ k : Fin 3, (s.mem.recorders[k]).fifo = 0) ∧ (50 : Nat) < 51 ∧ (s.channel 1).retrain = false := by decide +kernel

theorem witness_RetrainingMigrationAndRecorderSteps :
    let s := fitted fun m => { m with recordNew := some ⟨12, 3, true, false, false⟩ }
    let t := (s.onChannel 1 fun x => { x with retrain := true, migration := some ⟨0, 2, none, 0, none⟩ }).onTime fun x =>
      { x with fabric := 400000000000 }
    let r := (s.onRecorder 2 fun x => { x with running := true }).onCoh fun c => { c with active := [] }
    let o := r.onRecorder 2 fun x => { x with overrun := true }
    retrainDue t (t.channel 1) = true ∧ t.power.selfRefresh = false ∧ t.works (channelFn 1) = true ∧
    usablePerRank t.mem.density * 1000 ≤ copiedKb t ⟨0, 2, none, 0, none⟩ ∧
    offTables (recorderBase r.coh.active 2) (64 + 65472) = true ∧ (t.channel 1).retrain = true ∧ (t.channel 1).retrainTags = [] ∧ (t.channel 1).migration = some ⟨0, 2, none, 0, none⟩ ∧
    s.mem.recordNew = some ⟨12, 3, true, false, false⟩ ∧ keysRise s.coh.fns = true ∧ (r.mem.recorders[(2 : Fin 3)]).running = true ∧
    u8 (recorderPart r.coh.active 2) 2 = 0 ∧ (r.mem.recorders[(2 : Fin 3)]).overrun = false ∧
    (o.mem.recorders[(2 : Fin 3)]).running = true ∧ (o.mem.recorders[(2 : Fin 3)]).overrun = true := by decide +kernel

theorem witness_MemoryCommands :
    Takes 1 (ask 0x0901 0x0900 (fields 16 [(0, 1, 1), (1, 1, 1), (2, 2, 2000), (4, 1, 24), (6, 2, 2048), (8, 1, 16), (9, 1, 3), (10, 1, 1)])) base ∧
    Takes 1 (ask 0x0902 0x0911 []) base ∧ Takes 1 (ask 0x0903 0x0911 []) (fitted id) ∧ canMigrate (fitted id).mem (channelOf 0x0911) = true ∧
    Takes 1 (ask 0x0904 0x0900 (fields 16 [(0, 1, 2), (1, 1, 2), (2, 1, 1), (3, 1, 255), (4, 8, 0x8_0000_0000), (12, 4, 0xFFFFFFC0)])) base ∧
    (let s := withPart 0x0900 0x0904 2 0 (fields 16 [(0, 1, 2), (1, 1, 2), (12, 4, 1024)]) base
     let r := ask 0x0905 0x0900 (fields 12 [(0, 1, 2), (4, 4, 1024 * 1024 - 4048), (8, 4, 4048)])
     Takes 2 r s ∧ u32 r.body 4 + u32 r.body 8 = recorderSize s.coh.active 2 ∧ ResponseFits r (zeros 16) (zeros 4048)) ∧
    Takes 3 (ask 0x0906 0x0900 []) base ∧ ResponseFits (ask 0x0906 0x0900 []) (leBytes 4 base.mem.errCount.toNat)
      (slice base.mem.errLog.flatten 0 512) := by
  unfold Takes Taken ResponseFits; decide +kernel

/-! ### Witnesses: cluster and task scheduler -/

/-- Core 1 runs thread 1023, whose scheduler registers are `r`. -/
def running (r : SchRegs) : State :=
  (base.onCore 1 fun x => { x with thread := some 1023 }).onThread 1023 fun x => { x with status := .running, regs := r }

/-- SCHED_CONFIG puts core 1 into EVP mode, with queue 63 for it; its own registers are `r`. -/
def evp (r : SchRegs) : State :=
  (withPart 0x0B00 0x0B01 0 0 (patch (patch schedConfigDefault 0 [2]) (140 + 4 * 63) [0, 0, 7, 2]) base).onCore 1 fun x => { x with regs := r }

theorem witness_ThreadOperations :
    let s := running ⟨0, 0, 0, 0, 0⟩
    let v := fun n => running ⟨n, 0, 0, 0, 0⟩
    let e := evp SchRegs.reset
    schedCtx base 1 = none ∧ schedCtx e 1 = some (.core 1) ∧ schedCtx s 1 = some (.thread 1023) ∧ (s.thread 1023).wake = 0 ∧
    (s.thread 1023).posts = 0 ∧ ((s.onThread 1023 fun x => { x with wake := 1 }).thread 1023).wake ≠ 0 ∧
    (∀ n ∈ [1024, 64, 63, 8, 7, 0], ((v (BitVec.ofNat 32 n)).thread 1023).regs.arg0.toNat = n ∧ schedCtx (v (BitVec.ofNat 32 n)) 1 = some (.thread 1023)) ∧
    noPost (s.thread 0).status = true ∧ (let d := s.onThread 0 fun x => { x with status := .ready };
      noPost (d.thread 0).status = false ∧ (d.thread 0).waits = .nothing ∧ (d.thread 0).posts ≠ 0xFFFFFFFF ∧
      ((d.thread 0).status ≠ .dormant ∧ (d.thread 0).status ≠ .faulted)) ∧ s.cluster.ready = [] ∧
    (let y := (withPart 0x0B00 0x0B02 0 1022 (fields 32 [(25, 1, 2)]) (v 63)).onCluster fun x => { x with ready := [1022] };
      let ok := setResult (.thread 1023) rcOk y;
      schedCtx y 1 = some (.thread 1023) ∧ 1022 ∈ y.cluster.ready ∧ (ok.thread 1022).priority = (ok.thread 1023).priority ∧
        threadAffinity y.coh.active 1022 1 = true ∧ (y.thread 1023).regs.arg0.toNat = 63 ∧
        firstReady (ok.onThread 1023 fun x => { x with priority := 63 }) (1 : Fin 8) ok.cluster.ready = some 1022) ∧
    firstReady (v 63) 1 (v 63).cluster.ready = none ∧
    (let d := s.onThread 0 fun x => { x with status := .waiting, waits := .wait 5 };
      noPost (d.thread 0).status = false ∧ ((setResult (.thread 1023) rcOk d).thread 0).waits = .wait 5) ∧
    ((s.onThread 0 fun x => { x with status := .dormant }).thread 0).status = .dormant ∧
    ((s.onThread 0 fun x => { x with status := .faulted }).thread 0).status = .faulted := by decide +kernel

theorem witness_FlowsAndEvents :
    let s := running ⟨4095, 9, 1, 0, 0⟩
    let k : Ticket := ⟨4095, 9, .thread 1023, false⟩
    let t := s.onCluster fun x => { x with tickets := [k] }
    let e := evp ⟨63, 0, 0, 0, 0⟩
    let q := e.onCluster fun x => { x with queues := [(63, [5])] }
    schedCtx s 1 = some (.thread 1023) ∧ (unresolved s).length < 65536 ∧ heldTicket s (.thread 1023) (s.thread 1023).regs = none ∧
    heldTicket t (.thread 1023) (t.thread 1023).regs = some k ∧ schedCtx t 1 = some (.thread 1023) ∧ (t.flow 4095).gate ≠ k.ticket ∧
    ((t.onCluster fun x => { x with flows := [(4095, ⟨10, 9⟩)] }).flow 4095).gate = k.ticket ∧ 64 ≤ ((running ⟨64, 0, 0, 0, 0⟩).thread 1023).regs.arg0.toNat ∧
    schedCtx e 1 = some (.core 1) ∧ (ctxRegs e (.core 1)).arg0.toNat < 64 ∧ eventsQueued e < 16384 ∧
    (let h := e.onCore 1 fun x => { x with held := some ⟨63, 5, none, none⟩ }
     schedCtx h 1 = some (.core 1) ∧ (h.core 1).held = some ⟨63, 5, none, none⟩ ∧ (h.core 1).regs.arg0.getLsbD 0 = true) ∧
    (e.core 1).held = none ∧ nextQueue e 1 = none ∧ nextQueue q 1 = some 63 ∧ queueOf q 63 = [5] ∧
    queueDiscipline q.coh.active 63 = 0 ∧ keysRise q.cluster.queues = true := by decide +kernel

/-- A state with `n` unresolved tickets and one with `n` queued events. -/
theorem witness_FlowsAndEvents_many (n : Nat) :
    (unresolved ((evp SchRegs.reset).onCluster fun x => { x with tickets := List.replicate n ⟨0, 0, .core 1, false⟩ })).length = n ∧
    eventsQueued ((evp SchRegs.reset).onCluster fun x => { x with queues := [(63, List.replicate n 5)] }) = n := by
  simp [unresolved, eventsQueued, State.onCluster]

theorem witness_FlowsAndEvents_full :
    65536 ≤ (unresolved ((evp SchRegs.reset).onCluster fun x => { x with tickets := List.replicate 65536 ⟨0, 0, .core 1, false⟩ })).length ∧
    16384 ≤ eventsQueued ((evp SchRegs.reset).onCluster fun x => { x with queues := [(63, List.replicate 16384 5)] }) :=
  ⟨Nat.le_of_eq (witness_FlowsAndEvents_many 65536).1.symm, Nat.le_of_eq (witness_FlowsAndEvents_many 16384).2.symm⟩

theorem witness_ReadsTimeoutsAndExceptions :
    let s := running SchRegs.reset
    let e := evp SchRegs.reset
    schedCtx s 1 = some (.thread 1023) ∧ schedCtx e 1 = some (.core 1) ∧ (base.cluster.banks[(12 : Fin 13)]).user = false ∧
    (let w := (s.onThread 1023 fun x => { x with waits := .wait 1 }).onTime fun t => { t with fabric := 400 }
     (w.thread 1023).waits = .wait 1 ∧ 1 * 400 ≤ (w.time.fabric - (w.thread 1023).since).toNat) ∧
    (let q := (withPart 0x0B00 0x0B01 0 0 (patch schedConfigDefault 8 [100, 0]) s).onCluster fun x => { x with ready := [1022] };
     quantumUs q.coh.active = 100 ∧ 1022 ∈ q.cluster.ready ∧ (q.thread 1022).priority = (q.thread 1023).priority ∧
       (q.core 1).thread = some 1023 ∧ (q.time.fabric - (q.core 1).since).toNat < 100 * 400 ∧
       100 * 400 ≤ ((40000 : BitVec 64) - (q.core 1).since).toNat) ∧
    threadAffinity (withPart 0x0B00 0x0B02 0 1022 (fields 32 [(25, 1, 2)]) s).coh.active 1022 1 = true ∧
    ((s.onThread 1023 fun x => { x with waits := .wait 0 }).thread 1023).waits = .wait 0 ∧ (s.thread 1023).waits = .nothing ∧
    ((e.onCore 1 fun x => { x with waits := .take 1 }).core 1).waits = .take 1 ∧ (base.core 1).thread = none ∧ s.cluster.ready = [] ∧
    (base.time.fabric - (base.core 1).since).toNat < 800 ∧ 800 ≤ ((800 : BitVec 64) - (base.core 1).since).toNat ∧
    quantumUs (withPart 0x0B00 0x0B01 0 0 (patch schedConfigDefault 8 [0, 0]) base).coh.active = 0 ∧ (base.core 1).held = none ∧
    evpMode base.coh.active 1 = false ∧ (s.core 1).thread = some 1023 ∧
    ((e.onCore 1 fun x => { x with held := some ⟨63, 5, none, none⟩ }).core 1).held ≠ none ∧ base.works (coreFn 7) = false ∧
    s.works (coreFn 1) = true ∧ s.asleep = false ∧ threadToHandler s.coh.active 1023 = false ∧
    threadToHandler (withPart 0x0B00 0x0B02 0 1023 (fields 32 [(26, 1, 9)]) s).coh.active 1023 = true := by decide +kernel

/-- A body of SCHED_CONFIG at one end of every range. -/
def schedBody : Bytes := patch schedConfigDefault 1 [1, 7, 7, 7, 100, 90, 2, 0x50, 0xC3]

theorem witness_ClusterCommands :
    let c := (fitted id).onMem fun m => { m with grain := 12 }
    let p := fields 132 [(0, 1, 12), (1, 1, 1)]
    Takes 1 (ask 0x0B01 0x0B00 schedBody) base ∧ schedConfigCheck schedBody = none ∧
    Takes 2 (ask 0x0B02 0x0B00 (fields 40 [(0, 2, 1023), (2, 2, 1), (32, 1, 63), (34, 1, 15)])) base ∧
    Takes 0 (ask 0x0B03 0x0B00 (fields 12 [(1, 1, 7)])) base ∧ Takes 0 (ask 0x0B03 0x0B00 (fields 12 [(0, 1, 1), (1, 1, 63)])) base ∧
    eventsQueued base < 16384 ∧ base.enabled schedFn = true ∧
    (let a := 0x8_0000_0000
     Takes 2 (ask 0x0B04 0x0B00 (leBytes 8 a ++ [1])) c ∧ inCluster c.mem a 1 = true ∧ inCluster c.mem (a - 1) 1 = false ∧
       Takes 2 (ask 0x0B04 0x0B00 (leBytes 8 (a - 1) ++ [1])) c) ∧
    Takes 3 (ask 0x0B05 0x0B00 (fields 4 [(0, 2, 771), (2, 2, 253)])) base ∧
    Takes 3 (ask 0x0B06 0x0B00 (fields 16 [(8, 2, 253)])) base ∧ Takes 1 (ask 0x0B07 0x0B00 p) base ∧
    (∀ e ∈ runEntries 4 16 8 p, pmcCheck 12 e = none) ∧ field p 68 64 = 0 ∧ u8 p 0 = (12 : Fin 13).val ∧
    Takes 3 (ask 0x0B08 0x0B00 [12, 0, 0, 0]) base := by
  unfold Takes Taken; decide +kernel

/-! ### Witnesses: safety -/

/-- A base whose safety state is changed by `g`. -/
def guarded (g : Safety → Safety) : State := base.onSafety g

/-- The reaction of record 1 to source 182 that merges source 168. -/
def aReaction : Reaction := ⟨1, 182, 2, [168], 0, 0, 0xFFFF, 0, false, 0, false⟩

theorem witness_RaisesAreHandledBySeverity :
    let r := guarded fun x => { x with reactions := [aReaction] }
    supervises (inPhase .safeHold) = false ∧ supervises base = true ∧ reservedSource 145 = true ∧ reservedSource 167 = true ∧
    reservedSource 168 = false ∧ reactSeverity base 168 0 < 3 ∧ reservedSource 144 = false ∧ base.asleep = false ∧
    (let e := base.onPower fun p => { p with phase := .entering }
     supervises e = true ∧ reactSeverity e 168 0 < 3 ∧ e.power.phase = .entering) ∧
    (supervises (dozing 0 id) = true ∧ reactSeverity (dozing 0 id) 168 0 < 3 ∧ (dozing 0 id).power.phase = .asleep ∧
      (dozing 0 id).power.state = .doze) ∧
    (let h := dozing 0 fun p => { p with state := .hibernate }
     supervises h = true ∧ reactSeverity h 168 0 < 3 ∧ h.power.phase = .asleep ∧ h.power.state = .hibernate) ∧
    mergeInto r 168 0 (severity r 168) = some aReaction ∧ supervises r = true ∧ r.asleep = false ∧
    mergeInto base 168 0 (severity base 168) = none ∧ severity base 168 ≤ 1 ∧ mget base.safety.reports 168 = none ∧
    mergeInto base 191 0 (severity base 191) = none ∧ severity base 189 = 3 ∧ mergeInto base 189 0 3 = none ∧ reservedSource 189 = false ∧
    base.safety.latch = none := by decide +kernel

theorem witness_SafetyEventsAndCommands :
    let p : Report := ⟨0, 1, 0, false⟩
    let e := { aReaction with ended := true }
    let a := guarded fun x => { x with reactions := [aReaction] }
    let w := (guarded fun x => { x with restartPending := true, reactions := [{ aReaction with severity := 3 }] }).onTime fun t =>
      { t with fabric := 400000 }
    let l := base.onTime fun t => { t with fabric := 800000 }
    mget base.safety.reports 191 = none ∧ mget (guarded fun x => { x with reports := [(191, p)] }).safety.reports 191 = some p ∧
    p.count ≠ 0 ∧ (base.time.fabric - p.since).toNat < 400000000 ∧ 400000000 ≤ ((400000000 : BitVec 64) - p.since).toNat ∧ ({ p with count := 0 } : Report).count = 0 ∧ (guarded fun x => { x with reactions := [e] }).safety.reactions = [e] ∧
    e.ended = true ∧ 20000 ≤ ((20000 : BitVec 64) - e.endedAt).toNat ∧ e.abandoned = false ∧ (∀ r ∈ a.safety.reactions, r.recNo = 1 → r.ended = false) ∧
    base.safety.restartPending = false ∧ w.safety.restartPending = true ∧ restartDue w = true ∧ w.safety.s4Held = false ∧ w.supply.dip = none ∧
    railsRecovered w = true ∧ w.asleep = false ∧ w.boot.phase = .inService ∧
    (base.time.fabric - base.safety.tokenAt).toNat < 800000 ∧ 800000 ≤ (l.time.fabric - l.safety.tokenAt).toNat ∧ l.asleep = false ∧
    l.boot.ready = true ∧ supervises l = true ∧
    (guarded fun x => { x with mismatch := Vector.replicate 8 2 }).safety.mismatch = Vector.replicate 8 2 := by decide +kernel

theorem witness_SafetyEventsAndCommands_requests :
    let a := guarded fun x => { x with reactions := [aReaction] }
    let fault := fields 36 [(0, 2, 191), (2, 2, 1)]
    Takes 1 (ask 0x0F01 0x0F00 fault) base ∧ faultEntryCheck 191 (slice fault 8 28) = none ∧ Takes 3 (ask 0x0F02 0x0F00 []) base ∧
    ResponseFits (ask 0x0F02 0x0F00 []) [] (zeros (64 + 8 + 1024 + 1536)) ∧ reactionActive a = true ∧ Takes 3 (ask 0x0F03 0x0F00 []) a ∧
    reactionActive base = false ∧ base.safety.s4Held = false ∧ Takes 3 (ask 0x0F03 0x0F00 []) base ∧
    Takes 3 (ask 0x0F04 0x0F00 (fields 12 [(0, 2, 191)])) base ∧ Takes 3 (ask 0x0F04 0x0F00 (fields 12 [(0, 2, 144)])) base ∧
    Takes 0 (ask 0x0F05 0x0F00 (fields 12 [(0, 1, 15)])) base ∧ base.safety.safeState = false := by
  unfold Takes Taken ResponseFits; decide +kernel

/-! ### Witnesses: temperatures, telemetry and stress -/

theorem witness_ThermalTelemetryAndStress :
    let h := dozing 0 fun p => { p with state := .hibernate }
    let w := base.onThermal fun t => { t with bandMs := Vector.replicate 8 18934560000 }
    h.power.state = .hibernate ∧ base.power.state ≠ .hibernate ∧ base.power.state ≠ .off ∧ base.thermal.step = 0 ∧
    base.thermal.invalid = 0 ∧ (800 : Int) < 801 ∧ (839 : Int) < 840 ∧ h.asleep = true ∧ base.asleep = false ∧ base.time.spring.toNat % 32768 = 0 ∧
    (base.onTime fun t => { t with spring := 1 }).time.spring.toNat % 32768 ≠ 0 ∧
    (∀ e ∈ base.thermal.ring, e.1 < base.thermal.seq) ∧ lifeDue base = false ∧ lifeDue w = true ∧
    Takes 3 (ask 0x1007 0x1000 (fields 16 [(8, 2, 63)])) base ∧
    ResponseFits (ask 0x1007 0x1000 (fields 16 [(8, 2, 63)])) (zeros 16) (zeros 4032) ∧ Takes 3 (ask 0x1008 0x1000 []) base ∧
    ResponseFits (ask 0x1008 0x1000 []) [] (zeros 80) := by
  unfold Takes Taken ResponseFits; decide +kernel

/-! ### Ill-formed commands, one for each check -/

theorem test_illFormed : [Instr.ringHostIdxWrite 0 0 [List.replicate 16385 0], .spiTransaction [], .registerWrite .host 2 0,
    .registerWrite .host 0x800000 0, .registerWrite (.core 0) (2 ^ 40) 0, .configWriteDenied 0 65536, .memAccess .host (2 ^ 40 - 1) none 1,
    .memAccess .host 0 none 0, .memAccess .host 0 (some []) 0, .memAccess .host (2 ^ 40 - 1) (some [0]) 0, .functionResetComplete 65536,
    .ctxSave .host 0 false (2 ^ 40), .ctxRestore .host 0 false (2 ^ 40), .pageAccess .host 0 2 none, .pageAccess .host 0 4096 none,
    .ethFrameReceived 0 (zeros 13) true, .sourceLost 5, .dipRecovery [] (List.replicate 10 0), .dipRecovery (List.replicate 10 0) [],
    .startTimeout 11, .dramScrubRow [⟨0x7FFFFFFFF, false, 0⟩], .faultSourceRaise 0 65536 0, .thermalSample [0] 0].all
    (fun i => !i.wellFormed) = true := by decide +kernel

theorem test_illFormedSlot : (Instr.slotBoundary []).wellFormed = false := by decide

theorem test_illFormedBuffer (l : Bytes) (h : 0x100000 < l.length) : (Instr.deviceInfo l).wellFormed = false := by
  simp [Instr.wellFormed, bufOk]; omega

theorem test_wellFormed : [Instr.registerWrite .host 0x7FFFFC 0, .sourceLost 4, .startTimeout 10, .ethFrameReceived 0 (zeros 14) true].all
    Instr.wellFormed = true := by decide

/-! ### Values that the spec or a standard writes out -/

/-- R86's example: NET_ID 0x0012, channels 66 to 69, ASN 173,801,472,000. -/
theorem test_hopExample :
    [0, 1, 3].map (fun c => hopChannel 0x0012 173801472000 c [66, 67, 68, 69]) = [some 68, some 66, some 67] := by decide +kernel

/-- R480's example: 0x8_1234_5678 with a grain of 4 KB and two 16 Gb ranks without a spare. -/
theorem test_dramExample :
    dramDecode { Memory.reset with grain := 12, density := 16, ranks := 2 } 0x8_1234_5678 = ⟨1, 0, 4, 10652, 828, 996⟩ := by
  decide +kernel

/-- FIPS 197, appendix C.1. -/
theorem test_aesVector :
    aesEnc (beBytes 16 0x000102030405060708090A0B0C0D0E0F) (beBytes 16 0x00112233445566778899AABBCCDDEEFF) =
      beBytes 16 0x69C4E0D86A7B0430D8CDB78070B4C55A := by decide +kernel

/-- FIPS 180-4: the digest of "abc". -/
theorem test_shaVector :
    sha256 [0x61, 0x62, 0x63] = beBytes 32 0xBA7816BF8F01CFEA414140DE5DAE2223B00361A396177A9CB410FF61F20015AD := by decide +kernel

/-- R389's example: counting up at 700 in up/down mode, an immediate period of 500 turns the unit, one of 800 does not. -/
theorem test_foldExample :
    let s := unit0 (patch timerConfigDefault 3 [1]) fun u => { u with run := true, period := 1000, count := 700 }
    let n := fun p => ((after (.timerTick 0) (after (.tmrPeriodImmediate .host 0 p) s)).timers[(0 : Fin 16)]).count
    n 500 = 699 ∧ n 800 = 701 := by decide +kernel

/-- R52: a doorbell hands over a request, and R57: an ECHO request puts its body back into the response ring. -/
theorem test_echoAnswers :
    let s := after (.echo []) (asked 3 (ask 0x0004 0 [1, 2, 3, 4]) base)
    (s.kci.mbx[(3 : Fin 4)]).rspTail = 1 ∧ (s.kci.mbx[(3 : Fin 4)]).waiting = [] := by decide +kernel

/-- R435: a rail at its warning level starts no dip, and one below it does. -/
theorem test_warningLevel :
    (after (.railWarningCrossing 0 698) base).supply.dip = none ∧
    (after (.railWarningCrossing 0 697) base).supply.dip.isSome = true := by decide +kernel

/-- A step takes the front command and leaves the rest. -/
theorem test_stepTakesTheFront :
    (match step { base with pending := [.watchdogService, .ppsOutFall] } with
      | .next t => t.pending == [.ppsOutFall]
      | _ => false) = true := by decide +kernel

/-- The worked air times of chapter 05: O6 with 100 and 19 bytes, O1 with 24 and 19, SUN-100 with 60 octets. -/
theorem test_airTimes :
    [(6, 100), (6, 19), (1, 24), (1, 19)].map (fun e => (oxMode e.1).map fun o => oxAirUs o e.2 false) =
      [some 8320, some 4480, some 817778, some 817778] ∧
    sunAirUs 100000 60 8 false = 5760 ∧ sunAirUs 100000 60 8 true = 11040 := by decide +kernel

/-! ### Witnesses: rules of the whole block -/

theorem witness_OneCycleUnitsStopAtZero :
    let s := unit0 (patch timerConfigDefault 3 [2]) fun u => { u with run := true, period := 2, count := 2 }
    let h := s.onTimer 0 fun u => { u with run := false, count := 0 }
    s.works (timerFn 0) = true ∧ timersRun s = true ∧ timerSource (timerPart s.coh.active 0) ≠ 3 ∧ freezeAsked s 0 = false ∧
    (s.timers[(0 : Fin 16)]).status.getLsbD 12 = false ∧ (timerCfg (timerPart s.coh.active 0)).oneCycle = true ∧
    (s.timers[(0 : Fin 16)]).run = true ∧ ((after (.timerTick 0) s).timers[(0 : Fin 16)]).count = 0 ∧
    ((after (.timerTick 0) (s.onTimer 0 fun u => { u with count := 1 })).timers[(0 : Fin 16)]).count ≠ 0 ∧
    h.works (timerFn 0) = true ∧ timersRun h = true ∧ freezeAsked h 0 = false ∧ (h.timers[(0 : Fin 16)]).status.getLsbD 12 = false ∧
    (h.timers[(0 : Fin 16)]).run = false ∧ (h.timers[(0 : Fin 16)]).count = 0 ∧ (h.timers[(0 : Fin 16)]).down = false ∧
    1 < (h.timers[(0 : Fin 16)]).period ∧ coreOff h .host = false ∧ timerOwner h .host 0 = true := by decide +kernel

theorem witness_CoresOnlyReadSampleMemory :
    inSample 0x105FFFFF 1 = true ∧ poisoned base.mem 0x105FFFFF 1 = false ∧ inSample 0x105FFFFF 2 = false ∧
    inBackwater 0x10600000 1 = true ∧ inBackwater 0x106FFFFF 1 = true ∧ ([1] : Bytes) ≠ [] ∧
    base.asleep = false := by decide +kernel

theorem witness_FullEventRingCountsAndReports :
    let s := base.onKci fun k => { k with evtTail := 1024, droppedSince := 1 }
    let h := hostAccess s
    eventAllowed s 4 0 = true ∧ recordless 4 = false ∧ 1024 ≤ evtUsed s.kci ∧ blockOff s = false ∧ s.asleep = false ∧ Memory.wf h.kci.bar0 = true ∧
    h.boot.ready = true ∧ h.kci.droppedSince ≠ 0 ∧
    ((1 : BitVec 32).setWidth 11 - h.kci.evtHead).toNat ≤ (h.kci.evtTail - h.kci.evtHead).toNat ∧
    (h.kci.evtTail - (1 : BitVec 32).setWidth 11).toNat < 1024 := by decide +kernel

theorem witness_MemoriesStayCanonical :
    Memory.wf State.reset.kci.bar0 = true ∧ Memory.wf State.reset.kci.bar2 = true ∧ Memory.wf State.reset.kci.hostMem = true ∧
    Memory.wf State.reset.mem.phys = true ∧ Memory.wf State.reset.boot.slot0.content = true ∧
    Memory.wf State.reset.boot.slot1.content = true ∧ State.reset.memoryCanonical ∧ ∃ t, step State.reset = .next t := by
  refine ⟨by decide, by decide, by decide, by decide, by decide, by decide,
    ⟨by decide, by decide, by decide, by decide, by decide, by decide, by decide, by simp [State.reset, Power.reset]⟩, ?_⟩
  exact ⟨_, rfl⟩

end Sys2Proof.Tests
end

/-! ## Raising a fault leaves physical memory

The detecting blocks raise fault sources through `raiseFault`, whose reactions cut launches, drop receptions and abandon
commits.  Each operation they are made of leaves the memory block; a reset of a DRAM channel alone changes it, and only its
migration. -/

namespace Sys2Proof.Machine

/-- What every step of a fold keeps, the fold keeps. -/
theorem foldl_keeps {α β : Type} (g : State → β) (f : State → α → State) (h : ∀ s a, g (f s a) = g s) (l : List α) :
    ∀ s, g (l.foldl f s) = g s := by
  induction l with
  | nil => exact fun _ => rfl
  | cons a l ih => exact fun s => (ih (f s a)).trans (h s a)

section
variable (s : State)

/-! ### Responses and frame rings -/

@[simp] theorem longDone_mem (id rc : Nat) : (longDone id rc s).mem = s.mem := by
  unfold longDone
  split
  · rfl
  · dsimp only; split <;> simp

@[simp] theorem finishExecuting_mem (op rc detail : Nat) (body : Bytes) :
    (finishExecuting op rc detail body s).mem = s.mem := by
  unfold finishExecuting
  split
  · rfl
  · split <;> simp

@[simp] theorem abandonCommit_mem (fn : Nat) : (abandonCommit fn s).mem = s.mem := by
  unfold abandonCommit
  split <;> simp

@[simp] theorem bufWrite_mem (a : Nat) (data : Bytes) : (bufWrite s a data).mem = s.mem := by
  unfold bufWrite
  dsimp only; split <;> rfl

@[simp] theorem returnDesc_mem (r : Fin 16) (len : Option Nat) (flags reason : Nat) (gen : BitVec 32) (queue : Nat) :
    (returnDesc r len flags reason gen queue s).mem = s.mem := rfl

@[simp] theorem fillDescs_mem (r : Fin 16) (it : RingItem) (fuel : Nat) :
    ∀ (first : Bool) (data : Bytes) (s : State), (fillDescs r it fuel first data s).mem = s.mem := by
  induction fuel with
  | zero => exact fun _ _ _ => rfl
  | succ fuel ih =>
    intro first data s
    simp only [fillDescs]
    split <;> split <;> simp [ih]

@[simp] theorem pumpRing_mem (r : Fin 16) (fuel : Nat) : ∀ s : State, (pumpRing r fuel s).mem = s.mem := by
  induction fuel with
  | zero => exact fun _ => rfl
  | succ fuel ih =>
    intro s
    simp only [pumpRing]
    split
    · rfl
    · split
      · simp [ih]
      · split <;> simp

@[simp] theorem dropAtQueue_mem (e : Fin 6) (q : Nat) : (dropAtQueue e q s).mem = s.mem := by
  unfold dropAtQueue
  dsimp only; split <;> simp

@[simp] theorem toRing_mem (r kind reason : Nat) (gen : BitVec 32) (data : Bytes) :
    (toRing r kind reason gen data s).mem = s.mem := by
  unfold toRing
  dsimp only; split <;> simp

/-! ### Launches and downlink frames -/

@[simp] theorem nearCheck_mem (i : Fin 16) : (nearCheck i s).mem = s.mem := by
  unfold nearCheck
  dsimp only
  split
  · simp
  · split <;> simp

@[simp] theorem chargeBands_mem (c : Nat) (l : List (Fin 16)) : ∀ s : State, (chargeBands c l s).mem = s.mem := by
  induction l with
  | nil => exact fun _ => rfl
  | cons i is ih => intro s; simp [chargeBands, ih]

@[simp] theorem refundBands_mem (c : Nat) (l : List (Fin 16)) : (refundBands c l s).mem = s.mem :=
  foldl_keeps State.mem _ (fun _ _ => by simp) l s

@[simp] theorem dropLaunch_mem (l : Nat) : (dropLaunch l s).mem = s.mem := rfl

@[simp] theorem refundLaunch_mem (x : Launch) : (refundLaunch x s).mem = s.mem := by
  unfold refundLaunch
  split <;> simp

@[simp] theorem refundCommitted_mem (x : Launch) (c : Nat) : (refundCommitted x c s).mem = s.mem :=
  foldl_keeps State.mem _ (fun _ _ => by simp) x.committed s

@[simp] theorem addSecond_mem (r : Fin 3) (c : Nat) : (addSecond r c s).mem = s.mem := rfl

@[simp] theorem giveBackSecond_mem (r : Fin 3) (c ns : Nat) : (giveBackSecond r c ns s).mem = s.mem := by
  unfold giveBackSecond
  dsimp only; split <;> rfl

@[simp] theorem countRefusal_mem (r : Fin 3) (reason : Nat) : (countRefusal r reason s).mem = s.mem := by
  simp only [countRefusal, apply_ite State.mem, State.count_mem, ite_self]

@[simp] theorem writeLaunchRecord_mem (x : Launch) (reason : Nat) (truncated : Bool) (charged : Nat) :
    (writeLaunchRecord x reason truncated charged s).mem = s.mem := by
  simp only [writeLaunchRecord, apply_ite State.mem, toRing_mem, ite_self]

@[simp] theorem refusalRecord_mem (x : Launch) (f : DlFrame) (reason : Nat) : (refusalRecord x f reason s).mem = s.mem := by
  simp [refusalRecord]

@[simp] theorem queuedRecord_mem (f : DlFrame) (reason : Nat) (truncated pending : Bool) :
    (queuedRecord f reason truncated pending s).mem = s.mem := by
  simp [queuedRecord]

@[simp] theorem ackOffset_mem (f : Nat) (n : Option Nat) (sent : Bool) : (ackOffset f n sent s).mem = s.mem := by
  unfold ackOffset
  split
  · rfl
  · split <;> simp

@[simp] theorem unsendAck_mem (x : Launch) : (unsendAck x s).mem = s.mem := by
  unfold unsendAck
  split <;> simp

@[simp] theorem emptyRadioQueue_mem (q : Nat) : (emptyRadioQueue q s).mem = s.mem :=
  foldl_keeps State.mem _ (fun _ _ => by simp) _ s

@[simp] theorem removeFrame_mem (f : DlFrame) (reason : Nat) (truncated pending : Bool) :
    (removeFrame f reason truncated pending s).mem = s.mem := by
  simp only [removeFrame, queuedRecord_mem, emptyRadioQueue_mem, apply_ite State.mem, State.onSluice_mem, State.count_mem,
    ite_self]

@[simp] theorem dropExpired_mem (f : Nat) : (dropExpired f s).mem = s.mem := by
  unfold dropExpired
  split <;> simp [expireFrame]

@[simp] theorem endLaunch_mem (x : Launch) (reason : Nat) (remove : Bool) : (endLaunch x reason remove s).mem = s.mem := by
  unfold endLaunch
  dsimp only
  split
  · simp only [apply_ite State.mem, longDone_mem, writeLaunchRecord_mem, State.count_mem, unsendAck_mem, countRefusal_mem,
      dropLaunch_mem, refundLaunch_mem, ite_self]
  · split
    · simp
    · simp only [apply_ite State.mem, removeFrame_mem, dropExpired_mem, refusalRecord_mem, State.onFrame_mem,
        countRefusal_mem, dropLaunch_mem, refundLaunch_mem, ite_self]

@[simp] theorem cutLaunch_mem (x : Launch) (reason : Nat) (fate : CutFate) : (cutLaunch x reason fate s).mem = s.mem := by
  have charged (c : Nat) (bands : List (Fin 16)) (ns : Nat) :
      (if x.reserved then addSecond x.radio c (chargeBands c bands (refundLaunch x s))
        else refundCommitted x (x.charge - c) (giveBackSecond x.radio (x.charge - c) ns s)).mem = s.mem := by
    split <;> simp
  unfold cutLaunch
  dsimp only
  split
  · simp [charged]
  · split
    · simp [charged]
    · split
      · rw [dropExpired_mem, State.count_mem, State.onFrame_mem]
        split <;> simp [charged]
      · simp [charged]

@[simp] theorem restBalls_mem (r : Fin 3) : (restBalls r s).mem = s.mem := rfl

@[simp] theorem cutRadio_mem (r : Fin 3) (reason : Nat) (fate : CutFate) : (cutRadio r reason fate s).mem = s.mem := by
  unfold cutRadio
  dsimp only
  rw [foldl_keeps State.mem _ (fun _ _ => by simp), foldl_keeps State.mem _ (fun _ _ => by split <;> simp), restBalls_mem]

@[simp] theorem releaseBookings_mem (reason : Nat) : (releaseBookings reason s).mem = s.mem :=
  foldl_keeps State.mem _ (fun _ _ => by simp) _ s

/-! ### Frames in reception -/

@[simp] theorem pmuEventIf_mem (pass : Pmc → Bool) (b : Fin 13) (code cls n : Nat) :
    (pmuEventIf pass b code cls n s).mem = s.mem := rfl

@[simp] theorem startJob_mem (e : Fin 48) (j : Nat × Nat) (stolen : Bool) : (startJob e j stolen s).mem = s.mem := by
  unfold startJob
  split
  · rfl
  · dsimp only; split <;> simp [pmuEvent]

@[simp] theorem feedLocal_mem (e : Fin 48) : (feedLocal s e).mem = s.mem := by
  unfold feedLocal
  dsimp only
  split
  · rfl
  · split <;> simp

@[simp] theorem feedSteal_mem (e : Fin 48) : (feedSteal s e).mem = s.mem := by
  unfold feedSteal
  dsimp only
  split
  · rfl
  · split
    · rfl
    · split
      · rfl
      · split <;> simp

@[simp] theorem feedEngines_mem : (feedEngines s).mem = s.mem := by
  unfold feedEngines
  split
  · rw [foldl_keeps State.mem _ feedSteal_mem, foldl_keeps State.mem _ feedLocal_mem]
  · rfl

@[simp] theorem enqueueJobs_mem (x : RxFrame) (js : List Nat) (head : Bool) : (enqueueJobs x js head s).mem = s.mem := rfl

@[simp] theorem dropRx_mem (f : Nat) : (dropRx f s).mem = s.mem := rfl

@[simp] theorem startCombined_mem (f : Nat) : (startCombined f s).mem = s.mem := by
  unfold startCombined
  split <;> simp

@[simp] theorem joinLlrs_mem (x : RxFrame) : (joinLlrs x s).mem = s.mem := by
  unfold joinLlrs
  split
  · rfl
  · simp only [apply_ite State.mem, startCombined_mem, State.onRxFrame_mem, dropRx_mem, ite_self]

@[simp] theorem unpark_mem (y : RxFrame) : (unpark y s).mem = s.mem := by
  simp only [unpark, apply_ite State.mem, joinLlrs_mem, dropRx_mem, State.onRxFrame_mem, enqueueJobs_mem, ite_self]

@[simp] theorem setCapture_mem (l : Fin 64) (c : Option Capture) : (setCapture l c s).mem = s.mem := rfl

@[simp] theorem freeLane_mem (x : RxFrame) : (freeLane x s).mem = s.mem := by
  unfold freeLane
  split
  · rfl
  · dsimp only
    split
    · split <;> simp
    · rfl

@[simp] theorem releaseBooked_mem (l : Option Nat) : (releaseBooked l s).mem = s.mem := by
  unfold releaseBooked
  split
  · rfl
  · split <;> simp

@[simp] theorem releaseAck_mem (x : RxFrame) : (releaseAck x s).mem = s.mem := by
  unfold releaseAck
  dsimp only; split <;> simp

@[simp] theorem discardEarly_mem (x : RxFrame) : (discardEarly x s).mem = s.mem := by
  unfold discardEarly
  dsimp only; split <;> simp

@[simp] theorem dropReception_mem (r : Fin 3) : (dropReception r s).mem = s.mem :=
  foldl_keeps State.mem _ (fun _ _ => by simp) _ s

/-! ### Waking on a fault -/

@[simp] theorem writePmic_mem (r reg : Nat) (d : PmicData) : (writePmic r reg d s).mem = s.mem := by
  simp only [writePmic, apply_ite State.mem, State.onSupply_mem, ite_self]

@[simp] theorem writeVsel_mem (r mv : Nat) : (writeVsel r mv s).mem = s.mem := by
  simp only [writeVsel, apply_ite State.mem, writePmic_mem, ite_self]

@[simp] theorem switchRail_mem (on : Bool) (r : Nat) : (switchRail on s r).mem = s.mem := by
  simp only [switchRail, apply_ite State.mem, State.onSupply_mem, writePmic_mem, ite_self]

@[simp] theorem setTarget_mem (r : Fin 10) (mv : Nat) : (setTarget r mv s).mem = s.mem := by
  simp only [setTarget, apply_ite State.mem, writeVsel_mem, State.onRail_mem, State.onSupply_mem, ite_self]

@[simp] theorem restoreRails_mem : (restoreRails s).mem = s.mem := by
  simp only [restoreRails, apply_ite State.mem, setTarget_mem, foldl_keeps State.mem _ (switchRail_mem · true), ite_self]

@[simp] theorem wakeOnFault_mem : (wakeOnFault s).mem = s.mem := by
  unfold wakeOnFault
  split
  · rfl
  · simp only [beginWake, apply_ite State.mem, State.onBoot_mem, restoreRails_mem, State.onPower_mem, ite_self]
  · rfl

/-! ### Reactions -/

@[simp] theorem logRecord_mem (r : FaultRec) : (logRecord r s).mem = s.mem := rfl

@[simp] theorem mergeRaise_mem (r : Reaction) (n : Nat) : (mergeRaise r n s).mem = s.mem := rfl

@[simp] theorem reportNote_mem (n sev count : Nat) (detail : BitVec 64) (injected : Bool) :
    (reportNote n sev count detail injected s).mem = s.mem := by
  simp [reportNote]

@[simp] theorem noteRaise_mem (n sev : Nat) (detail : BitVec 64) (injected : Bool) :
    (noteRaise n sev detail injected s).mem = s.mem := by
  unfold noteRaise
  split
  · simp
  · split <;> simp

@[simp] theorem endReaction_mem (recNo : Nat) : (endReaction recNo s).mem = s.mem := by
  unfold endReaction
  split <;> rfl

@[simp] theorem abandonResets_mem : (abandonResets s).mem = s.mem := by
  have cleared : (s.coh.resets.foldl (fun s j =>
      (resetScope j.fn).foldl (fun s f => s.onFn f fun x => { x with inReset := false }) s) s).mem = s.mem :=
    foldl_keeps State.mem _ (fun s j => foldl_keeps State.mem _ (fun _ _ => by simp) _ s) _ s
  unfold abandonResets
  dsimp only
  split
  · split <;> simp [cleared]
  · simp [cleared]

@[simp] theorem enterSafeState_mem (n : Nat) (s4 hold : Bool) : (enterSafeState n s4 hold s).mem = s.mem := by
  have cut : (([0, 1, 2] : List (Fin 3)).foldl (fun s r => cutRadio r rcSafeState .requeue s) s).mem = s.mem :=
    foldl_keeps State.mem _ (fun _ _ => by simp) _ s
  unfold enterSafeState
  rw [raiseEvent_mem, abandonCommit_mem]
  split <;> simp only [State.count_mem, State.onSafety_mem, releaseBookings_mem, cut]

@[simp] theorem idleTimer_mem (t : Fin 16) : (idleTimer t s).mem = s.mem := rfl

/-- A paused migration is a change of the channels' state, not of what memory holds. -/
@[simp] theorem pauseMigration_phys (c : Fin 2) : (pauseMigration c s).mem.phys = s.mem.phys := rfl

@[simp] theorem clampOutputs_phys (fn : Nat) : (clampOutputs fn s).mem.phys = s.mem.phys := by
  unfold clampOutputs
  split
  · rw [idleTimer_mem]
  · split
    · simp
    · split
      · exact foldl_keeps (·.mem.phys) _ (fun _ _ => by simp) _ s
      · split
        · simp
        · split <;> simp

@[simp] theorem startReset_phys (fn : Nat) (source : Option Nat) : (startReset fn source s).mem.phys = s.mem.phys := by
  have clamped : ((resetScope fn).foldl (fun s f =>
      (if s.enabled f then clampOutputs f s else s).onFn f fun x => { x with inReset := true }) s).mem.phys = s.mem.phys :=
    foldl_keeps (·.mem.phys) _ (fun s f => by rw [State.onFn_mem]; split <;> simp) _ s
  unfold startReset
  dsimp only
  split
  · split <;> simp [clamped]
  · simp [clamped]

@[simp] theorem react_phys (recNo n sev target : Nat) : (react recNo n sev target s).mem.phys = s.mem.phys := by
  unfold react
  split
  · split
    · simp
    · split <;> simp
  · split
    · simp
    · have held (u : State) : (s4Holds.foldl (fun s f => s.onFn f fun x => { x with held := true }) u).mem = u.mem :=
        foldl_keeps State.mem _ (fun _ _ => by simp) _ u
      simp [held]

@[simp] theorem reactRaise_phys (n sev target named : Nat) (detail : BitVec 64) (injected : Bool) :
    (reactRaise n sev target named detail injected s).mem.phys = s.mem.phys := by
  unfold reactRaise
  dsimp only
  rw [react_phys, State.onSafety_mem, raiseEvent_mem]
  split <;> rfl

@[simp] theorem handleRaise_phys (n named : Nat) (detail : BitVec 64) (injected : Bool) :
    (handleRaise n named detail injected s).mem.phys = s.mem.phys := by
  unfold handleRaise
  dsimp only
  split
  · simp
  · split <;> simp

/-- Raising a fault source changes no byte of physical memory, whatever its reaction and whether the device is awake. -/
@[simp] theorem raiseFault_phys (n named : Nat) (detail : BitVec 64) (injected : Bool) :
    (raiseFault n named detail injected s).mem.phys = s.mem.phys := by
  unfold raiseFault
  split
  · rfl
  · split
    · dsimp only; split <;> simp
    · dsimp only
      rw [handleRaise_phys]
      split <;> split <;> simp

@[simp] theorem raiseSource_phys (n fn detail : Nat) : (raiseSource n fn detail s).mem.phys = s.mem.phys :=
  raiseFault_phys ..

end

/-! ## Accesses of a master outside the register windows (R24, R479) -/

/-- Below the register windows an address is in none of them, and in no page. -/
theorem no_window_below (by_ : BusMaster) (addr : Nat) (s : State) (h : addr < 0x12000000) :
    inWindow addr = false ∧ foreignPage by_ addr s = false := by
  simp only [inWindow, foreignPage, Bool.or_eq_false_iff, Bool.and_eq_false_iff, decide_eq_false_iff_not]
  omega

section
variable {s : State} {by_ : BusMaster} {addr : Nat} (hon : coreOff s by_ = false) (hwin : inWindow addr = false)
  (hpage : foreignPage by_ addr s = false)
include hon hwin hpage

/-- A denied write is discarded, counted and reported. -/
theorem memAccess_write_denied (d : Bytes) (len : Nat) (h : accessAllowed s.mem by_ true addr d.length = false) :
    exec (.memAccess by_ addr (some d) len) s = .next (raiseSource 73 dramFn addr (s.count dramFn 3)) := by
  change execMemAccess by_ addr (some d) len s = _
  simp [execMemAccess, hon, hwin, hpage, h]

/-- A denied read returns zero, and is counted and reported. -/
theorem memAccess_read_denied (len : Nat) (h : accessAllowed s.mem by_ false addr len = false) :
    exec (.memAccess by_ addr none len) s =
      .next ((raiseSource 73 dramFn addr (s.count dramFn 3)).onKci fun k => { k with readOut := 0 }) := by
  change execMemAccess by_ addr none len s = _
  simp [execMemAccess, hon, hwin, hpage, h]

/-- An allowed read of words that are not poisoned counts the access and returns the bytes. -/
theorem memAccess_read_allowed (len : Nat) (h : accessAllowed s.mem by_ false addr len = true)
    (hp : poisonsIn (countDram by_ addr len false s).mem addr len = []) :
    exec (.memAccess by_ addr none len) s = .next ((countDram by_ addr len false s).onKci fun k =>
      { k with readOut := leNat ((countDram by_ addr len false s).load addr len) }) := by
  change execMemAccess by_ addr none len s = _
  simp [execMemAccess, hon, hwin, hpage, h, hp]

end

/-- An access below DRAM is no DRAM access. -/
theorem countDram_sram (by_ : BusMaster) (pa n : Nat) (write : Bool) (s : State) (h : pa < dramBase) :
    countDram by_ pa n write s = s := if_pos h

theorem inSample_iff (a n : Nat) : inSample a n = true ↔ 0x10000000 ≤ a ∧ a + n ≤ 0x10600000 := by simp [inSample]

theorem inBackwater_iff (a n : Nat) : inBackwater a n = true ↔ 0x10600000 ≤ a ∧ a + n ≤ 0x10700000 := by simp [inBackwater]

/-- What the map lets a core do: anything in general SRAM and the cluster region, and reads of sample memory (R24, R479). -/
theorem core_accessAllowed_iff (m : Memory) (c : Fin 8) (write : Bool) (a n : Nat) :
    accessAllowed m (.core c) write a n = true ↔
      (0x10700000 ≤ a ∧ a + n ≤ 0x11000000) ∨ (dramBase ≤ a ∧ a + n ≤ clusterEnd m) ∨ (write = false ∧ inSample a n = true) := by
  simp [accessAllowed, inGeneral, inCluster, or_assoc]

/-- A core may not write a byte or more of sample memory or Backwater. -/
theorem core_write_denied (m : Memory) (c : Fin 8) (a n : Nat) (hn : 0 < n)
    (h : inSample a n = true ∨ inBackwater a n = true) : accessAllowed m (.core c) true a n = false := by
  rw [Bool.eq_false_iff, Ne, core_accessAllowed_iff, dramBase]
  rw [inSample_iff, inBackwater_iff] at h
  simp only [Bool.true_eq_false, false_and, or_false]
  omega

/-- A core may not read a byte or more of Backwater. -/
theorem core_backwater_read_denied (m : Memory) (c : Fin 8) (a n : Nat) (hn : 0 < n) (h : inBackwater a n = true) :
    accessAllowed m (.core c) false a n = false := by
  rw [Bool.eq_false_iff, Ne, core_accessAllowed_iff, inSample_iff, dramBase]
  rw [inBackwater_iff] at h
  omega

/-- Settles O56: sample memory and Backwater lie below the register windows and below DRAM, so the map alone decides, and the
raise of the fault source leaves every byte. -/
theorem coresOnlyReadSampleMemory : Obligations.CoresOnlyReadSampleMemory := by
  unfold Obligations.CoresOnlyReadSampleMemory
  intro s c addr len d hawake hlen hd
  have hon : coreOff s (.core c) = false := hawake
  refine ⟨fun hin hpoison => ?_, fun hin => ?_, fun hin => ?_⟩
  · obtain ⟨-, hend⟩ := (inSample_iff addr len).mp hin
    obtain ⟨hwin, hpage⟩ := no_window_below (.core c) addr s (by omega)
    have hcount := countDram_sram (.core c) addr len false s (by rw [dramBase]; omega)
    have hread := memAccess_read_allowed hon hwin hpage len
      ((core_accessAllowed_iff ..).mpr (.inr (.inr ⟨rfl, hin⟩))) (by simpa [hcount, poisoned] using hpoison)
    rw [hcount] at hread
    exact ⟨_, hread, rfl, rfl⟩
  · have hpos : 0 < d.length := List.length_pos_iff.mpr hd
    have hlow : addr < 0x12000000 := by rw [inSample_iff, inBackwater_iff] at hin; omega
    obtain ⟨hwin, hpage⟩ := no_window_below (.core c) addr s hlow
    exact ⟨_, memAccess_write_denied hon hwin hpage d len (core_write_denied _ c addr _ hpos hin), by simp, rfl⟩
  · have hlow : addr < 0x12000000 := by rw [inBackwater_iff] at hin; omega
    obtain ⟨hwin, hpage⟩ := no_window_below (.core c) addr s hlow
    exact ⟨_, memAccess_read_denied hon hwin hpage len (core_backwater_read_denied _ c addr len hlen hin), rfl, by simp, rfl⟩

end Sys2Proof.Machine

/-! ## A full event ring (R74) -/

namespace Sys2Proof.Machine

/-- Setting a pending bit of the 256 sources sets it. -/
theorem setPendingBit_getLsbD (k : Kci) (n : Nat) (h : n < 256) : (setPendingBit k n).intPending.getLsbD n = true := by
  rw [setPendingBit_frame, BitVec.getLsbD_or, BitVec.getLsbD_ofNat, Nat.testBit_two_pow_self]
  simp [h]

/-- Every number from 239 on is reserved (R614), so an event that may be raised has a pending bit. -/
theorem lt_of_eventAllowed {s : State} {num fn : Nat} (h : eventAllowed s num fn = true) : num < 239 := by
  simp only [eventAllowed, reservedEvent, Bool.and_eq_true, Bool.not_eq_true', Bool.or_eq_false_iff,
    decide_eq_false_iff_not, Nat.not_le] at h
  obtain ⟨⟨-, hlt⟩, -⟩ := h
  exact hlt

/-- A raised event that has a record puts the record and sets the pending bit. -/
theorem raiseEvent_kci_of_record {s : State} {num fn : Nat} (payload : Nat) (h : eventAllowed s num fn = true)
    (hr : recordless num = false) :
    (raiseEvent num fn payload s).kci =
      setPendingBit (putEvent s.kci (eventBytes num fn s.coh.generation s.time.fabric s.asn64 payload)) num := by
  simp [raiseEvent, raiseEventAt, h, hr]

/-- With the ring full the record is counted in both drop counters; besides them only the interrupts change. -/
theorem raiseEvent_kci_full {s : State} {num fn : Nat} (payload : Nat) (h : eventAllowed s num fn = true)
    (hr : recordless num = false) (hfull : 1024 ≤ evtUsed s.kci) :
    (raiseEvent num fn payload s).kci = { s.kci with
      dropped := s.kci.dropped + 1, droppedSince := s.kci.droppedSince + 1
      intPending := (raiseEvent num fn payload s).kci.intPending, vecs := (raiseEvent num fn payload s).kci.vecs } := by
  rw [raiseEvent_kci_of_record payload h hr, putEvent_full _ _ hfull, setPendingBit_frame]

/-- With space in the ring the record takes the place at the tail; besides the ring only the interrupts change. -/
theorem raiseEvent_kci_space {s : State} {num fn : Nat} (payload : Nat) (h : eventAllowed s num fn = true)
    (hr : recordless num = false) (hspace : evtUsed s.kci < 1024) :
    (raiseEvent num fn payload s).kci = { s.kci with
      bar0 := memWrites s.kci.bar0 (evtAddr s.kci.evtTail)
        (eventBytes num fn s.coh.generation s.time.fabric s.asn64 payload)
      evtTail := s.kci.evtTail + 1
      intPending := (raiseEvent num fn payload s).kci.intPending, vecs := (raiseEvent num fn payload s).kci.vecs } := by
  rw [raiseEvent_kci_of_record payload h hr, putEvent_space _ _ hspace, setPendingBit_frame]

/-- The pending bit of a raised event that has a record is set, whether the ring has space or not. -/
theorem raiseEvent_pendingBit {s : State} {num fn : Nat} (payload : Nat) (h : eventAllowed s num fn = true)
    (hr : recordless num = false) : (raiseEvent num fn payload s).kci.intPending.getLsbD num = true := by
  rw [raiseEvent_kci_of_record payload h hr]
  exact setPendingBit_getLsbD _ num (Nat.lt_trans (lt_of_eventAllowed h) (by decide))

/-- With READY set the overflow event may be raised. -/
theorem eventAllowed_overflow {s : State} (h : s.boot.ready = true) : eventAllowed s 5 0 = true := h

/-- A write of EVT_HEAD within the records written that makes space, after drops, raises the overflow event with the number
dropped. -/
theorem advanceEvt_after_drops {v : BitVec 11} {s : State} (hready : s.boot.ready = true) (hdrop : s.kci.droppedSince ≠ 0)
    (hle : (v - s.kci.evtHead).toNat ≤ evtUsed s.kci) (hspace : (s.kci.evtTail - v).toNat < 1024) :
    advanceEvt v s =
      raiseEvent 5 0 s.kci.droppedSince (s.onKci fun k => { k with evtHead := v, droppedSince := 0 }) := by
  have hused : evtUsed { s.kci with evtHead := v } < 1024 := hspace
  simp only [advanceEvt, Nat.not_lt.mpr hle, if_false, State.onKci_kci, State.onKci_boot, hused, hready]
  simp [hdrop, State.onKci]

/-- A write of EVT_HEAD while the device is awake acts at once. -/
theorem exec_evtHeadWrite_awake {s : State} (value : BitVec 32) (hon : blockOff s = false) (hawake : s.asleep = false) :
    exec (.evtHeadWrite value) s = .next (advanceEvt (value.setWidth 11) (hostAccess s)) := by
  change execEvtHeadWrite value s = _
  simp [execEvtHeadWrite, onHost, hon, hawake, HostAccess.run]

/-- Settles O57: a full ring makes the record a drop, and the write of EVT_HEAD that makes space raises the overflow event,
whose record then has its place in the ring. -/
theorem fullEventRingCountsAndReports : Obligations.FullEventRingCountsAndReports := by
  unfold Obligations.FullEventRingCountsAndReports
  refine ⟨fun s num fn payload hallowed hrec hfull => ?_, fun s value hon hawake hwf hready hdrop hle hspace => ?_⟩
  · dsimp only
    refine ⟨?_, ?_, ?_, ?_, ?_, raiseEvent_pendingBit payload hallowed hrec, raiseEvent_frame ..⟩ <;>
      rw [raiseEvent_kci_full payload hallowed hrec hfull]
  · refine ⟨_, exec_evtHeadWrite_awake value hon hawake, ?_⟩
    rw [advanceEvt_after_drops hready hdrop hle hspace, raiseEvent_kci_space]
    · exact ⟨rfl, rfl, rfl, rfl, memReads_memWrites _ _ _ hwf⟩
    · exact eventAllowed_overflow hready
    · rfl
    · exact hspace

end Sys2Proof.Machine

/-! ## Timer units: a tick and the owner's start (R383, R385, R388)

A change of a unit may raise `EV_TIMER` or the scheduler's source.  Neither touches a unit, so what a unit becomes is what the
change makes of it. -/

namespace Sys2Proof.Machine

/-! ### The scheduler leaves the timer units -/

section
variable (s : State)

@[simp] theorem trace_timers (kind core thread prio cause arg : Nat) :
    (trace kind core thread prio cause arg s).timers = s.timers := by
  unfold trace
  split
  · rfl
  · simp only [apply_ite State.timers, raiseEvent_timers, State.onCluster_timers, State.count_timers, ite_self]

@[simp] theorem traceThread_timers (kind c t cause arg : Nat) : (traceThread kind c t cause arg s).timers = s.timers :=
  trace_timers ..

@[simp] theorem pmuThread_timers (c : Fin 8) (t code cls : Nat) : (pmuThread c t code cls s).timers = s.timers := rfl

@[simp] theorem dispatch_timers (t : Nat) (c : Fin 8) (old cause : Nat) : (dispatch t c old cause s).timers = s.timers := by
  simp [dispatch]

@[simp] theorem preempt_timers (u : Nat) (c : Fin 8) (by_ : Nat) : (preempt u c by_ s).timers = s.timers := by
  simp [preempt]

@[simp] theorem place_timers (t cause : Nat) : (place t cause s).timers = s.timers := by
  unfold place
  split
  · exact dispatch_timers ..
  · split
    · rw [dispatch_timers, preempt_timers]
    · rfl

@[simp] theorem wakeThread_timers (t cause rc : Nat) : (wakeThread t cause rc s).timers = s.timers := by
  simp [wakeThread]

@[simp] theorem raiseSched_timers (n : Nat) : (raiseSched n s).timers = s.timers := by
  unfold raiseSched
  dsimp only
  split
  · rfl
  · split
    · rfl
    · split
      · rfl
      · split <;> simp

end

/-! ### Changing a unit -/

/-- A changed unit `v` that was `u`: where the change starts it, its prescaler starts at this instant. -/
def stampStart (s : State) (u v : Timer) : Timer := if v.run && !u.run then stampPhase s v else v

section
variable (s : State) (u v : Timer)

/-- A unit that runs already keeps its prescaler's instant. -/
theorem stampStart_of_run (h : u.run = true) : stampStart s u v = v := by simp [stampStart, h]

@[simp] theorem stampStart_status : (stampStart s u v).status = v.status := by unfold stampStart; split <;> rfl
@[simp] theorem stampStart_run : (stampStart s u v).run = v.run := by unfold stampStart; split <;> rfl
@[simp] theorem stampStart_down : (stampStart s u v).down = v.down := by unfold stampStart; split <;> rfl
@[simp] theorem stampStart_count : (stampStart s u v).count = v.count := by unfold stampStart; split <;> rfl
@[simp] theorem stampStart_period : (stampStart s u v).period = v.period := by unfold stampStart; split <;> rfl
@[simp] theorem stampStart_ticks : (stampStart s u v).ticks = v.ticks := by unfold stampStart; split <;> rfl

end

section
variable (s : State) (t : Fin 16) (f : Timer → Timer)

/-- The unit just changed is what the change made of it. -/
theorem onTimer_unit : (s.onTimer t f).timers[t] = f s.timers[t] := Vector.getElem_set_self ..

/-- A change makes of the unit what `f` does, besides the prescaler's instant, and leaves the other units. -/
theorem changeTimer_timers :
    (changeTimer t f s).timers = (s.onTimer t fun u => stampStart s u (f u)).timers := by
  unfold changeTimer
  dsimp only
  rw [← stampStart]
  split
  · split
    · rw [raiseEvent_timers]; rfl
    · rw [raiseSched_timers]; rfl
  · rfl

/-- The unit changed is what `f` makes of it, besides the prescaler's instant. -/
theorem changeTimer_unit : (changeTimer t f s).timers[t] = stampStart s s.timers[t] (f s.timers[t]) := by
  simp only [changeTimer_timers, onTimer_unit]

/-- A change that sets no status bit raises nothing. -/
theorem changeTimer_of_status (h : (f s.timers[t]).status = s.timers[t].status) :
    changeTimer t f s = s.onTimer t fun u => stampStart s u (f u) := by
  have hrose : ((stampStart s s.timers[t] (f s.timers[t])).status &&& ~~~s.timers[t].status).toNat = 0 := by
    rw [stampStart_status, h, BitVec.and_not_self]; rfl
  unfold changeTimer
  dsimp only
  rw [← stampStart, hrose, if_neg (by simp)]
  rfl

end

/-! ### Counting (R384, R385) -/

section
variable (cfg : TimerCfg) (u : Timer)

/-- A tick is a zero turning point when it leaves COUNT at 0. -/
theorem nextCount_zero : (nextCount cfg u).2.2.zero = decide ((nextCount cfg u).1 = 0) := by
  unfold nextCount
  split
  · split
    · rfl
    · split <;> simp
  · split <;> simp

/-- From a zero turning point a unit counts up. -/
theorem nextCount_down (h : (nextCount cfg u).1 = 0) : (nextCount cfg u).2.1 = false := by
  revert h
  unfold nextCount
  split
  · split
    · simp
    · split <;> simp
  · split <;> simp

/-- Below PERIOD a unit that counts up moves up by one; it turns down where it reaches PERIOD. -/
theorem nextCount_up (hup : u.down = false) (h : u.count < u.period) :
    (nextCount cfg u).1 = u.count + 1 ∧ (nextCount cfg u).2.1 = (cfg.updown && decide (u.count + 1 = u.period)) := by
  unfold nextCount
  cases cfg.updown <;> simp [hup, Nat.not_le.mpr h]

@[simp] theorem tickCount_count : (tickCount cfg u).count = (nextCount cfg u).1 := by
  simp only [tickCount, apply_ite Timer.count, setStatus, applyShadows, ite_self]

@[simp] theorem tickCount_down : (tickCount cfg u).down = (nextCount cfg u).2.1 := by
  simp only [tickCount, apply_ite Timer.down, setStatus, applyShadows, ite_self]

@[simp] theorem tickCount_ticks : (tickCount cfg u).ticks = u.ticks + 1 := by
  simp only [tickCount, apply_ite Timer.ticks, setStatus, applyShadows, ite_self]

/-- A tick clears RUN at the zero turning point of ONE_CYCLE alone. -/
theorem tickCount_run :
    (tickCount cfg u).run = if (nextCount cfg u).1 = 0 ∧ cfg.oneCycle = true then false else u.run := by
  simp only [tickCount, apply_ite Timer.run, setStatus, applyShadows, nextCount_zero, ite_self, Bool.and_eq_true,
    decide_eq_true_eq]

/-- The tick that ends a cycle sets ONE_CYCLE_DONE. -/
theorem tickCount_done (hone : cfg.oneCycle = true) (h : (nextCount cfg u).1 = 0) :
    (tickCount cfg u).status.getLsbD 10 = true := by
  simp only [tickCount, nextCount_zero, h, hone, setStatus]
  simp

end

/-! ### Comparators leave the counter (R386) -/

section
variable (miss : Bool) (u : Timer)

/-- Evaluating a comparator changes comparators and status alone. -/
theorem evalCmp_frame (n : Fin 4) : evalCmp n miss u = { u with
    status := (evalCmp n miss u).status, armed := (evalCmp n miss u).armed
    cmp := (evalCmp n miss u).cmp, missed := (evalCmp n miss u).missed } := by
  unfold evalCmp fireCmp
  dsimp only
  split
  · split <;> rfl
  · rfl

/-- A status bit that is set stays set when a comparator is evaluated. -/
theorem evalCmp_status (n : Fin 4) (i : Nat) (h : u.status.getLsbD i = true) :
    (evalCmp n miss u).status.getLsbD i = true := by
  unfold evalCmp fireCmp
  split
  · dsimp only
    split <;> simp [setStatus, h]
  · exact h

end

/-- Evaluating the comparators keeps a part of the unit that each one keeps. -/
theorem evalCmps_keeps {α : Type} (g : Timer → α) (miss : Bool) (u : Timer)
    (h : ∀ (u : Timer) (n : Fin 4), g (evalCmp n miss u) = g u) : g (evalCmps miss u) = g u := by
  unfold evalCmps
  induction List.finRange 4 generalizing u with
  | nil => rfl
  | cons n ns ih => rw [List.foldl_cons, ih, h]

section
variable (miss : Bool) (u : Timer)

@[simp] theorem evalCmps_run : (evalCmps miss u).run = u.run := evalCmps_keeps _ miss u fun u n => by rw [evalCmp_frame]
@[simp] theorem evalCmps_down : (evalCmps miss u).down = u.down := evalCmps_keeps _ miss u fun u n => by rw [evalCmp_frame]
@[simp] theorem evalCmps_count : (evalCmps miss u).count = u.count := evalCmps_keeps _ miss u fun u n => by rw [evalCmp_frame]
@[simp] theorem evalCmps_ticks : (evalCmps miss u).ticks = u.ticks := evalCmps_keeps _ miss u fun u n => by rw [evalCmp_frame]

/-- A status bit that is set stays set when the comparators are evaluated. -/
theorem evalCmps_status (i : Nat) (h : u.status.getLsbD i = true) : (evalCmps miss u).status.getLsbD i = true := by
  unfold evalCmps
  induction List.finRange 4 generalizing u with
  | nil => exact h
  | cons n ns ih => exact ih _ (evalCmp_status miss u n i h)

end

/-! ### A tick of a unit -/

/-- What a tick makes of a running unit: it counts, and its comparators are evaluated. -/
def tickedUnit (s : State) (t : Fin 16) (u : Timer) : Timer :=
  evalCmps true (tickCount (timerCfg (timerPart s.coh.active t)) (stampPhase s { u with phase := 0 }))

section
variable (s : State) (t : Fin 16) (u : Timer)

/-- The count does not depend on the prescaler. -/
theorem nextCount_stampPhase (cfg : TimerCfg) : nextCount cfg (stampPhase s { u with phase := 0 }) = nextCount cfg u := rfl

@[simp] theorem tickedUnit_count :
    (tickedUnit s t u).count = (nextCount (timerCfg (timerPart s.coh.active t)) u).1 := by
  rw [tickedUnit, evalCmps_count, tickCount_count, nextCount_stampPhase]

@[simp] theorem tickedUnit_down :
    (tickedUnit s t u).down = (nextCount (timerCfg (timerPart s.coh.active t)) u).2.1 := by
  rw [tickedUnit, evalCmps_down, tickCount_down, nextCount_stampPhase]

@[simp] theorem tickedUnit_ticks : (tickedUnit s t u).ticks = u.ticks + 1 := by
  rw [tickedUnit, evalCmps_ticks, tickCount_ticks]; rfl

/-- A tick that leaves COUNT at 0 clears RUN with ONE_CYCLE set; any other tick keeps RUN. -/
theorem tickedUnit_run : (tickedUnit s t u).run =
    if (tickedUnit s t u).count = 0 ∧ (timerCfg (timerPart s.coh.active t)).oneCycle = true then false else u.run := by
  rw [tickedUnit_count, tickedUnit, evalCmps_run, tickCount_run, nextCount_stampPhase]; rfl

/-- The tick that leaves COUNT at 0 with ONE_CYCLE set sets ONE_CYCLE_DONE. -/
theorem tickedUnit_done (hone : (timerCfg (timerPart s.coh.active t)).oneCycle = true)
    (h : (tickedUnit s t u).count = 0) : (tickedUnit s t u).status.getLsbD 10 = true := by
  rw [tickedUnit_count] at h
  exact evalCmps_status _ _ _ (tickCount_done _ _ hone h)

end

/-! ### The commands -/

/-- A tick counts where the unit works and may count, and is neither frozen nor to freeze (R383, R390). -/
structure MayCount (s : State) (t : Fin 16) : Prop where
  works : s.works (timerFn t) = true
  awake : timersRun s = true
  source : timerSource (timerPart s.coh.active t) ≠ 3 ∨ s.time.asn.isSome = true
  unhalted : freezeAsked s t = false
  unfrozen : s.timers[t].status.getLsbD 12 = false

/-- A unit on which RUN was written: a stopped one starts with its outputs at IDLE_LEVELS (R388). -/
def setRun (cfg : TimerCfg) (u : Timer) : Timer := { u with run := true, out := if u.run then u.out else cfg.idle }

/-- The state after the owner's write of RUN. -/
def startTimer (t : Fin 16) (s : State) : State :=
  s.onTimer t fun u => stampStart s u (setRun (timerCfg (timerPart s.coh.active t)) u)

section
variable {s : State} {t : Fin 16}

/-- A tick leaves a stopped unit, and with it the state. -/
theorem exec_timerTick_stopped (hrun : s.timers[t].run = false) : exec (.timerTick t) s = .next s := by
  change execTimerTick t s = _
  simp only [execTimerTick, hrun, Bool.and_false, Bool.false_and, Bool.false_eq_true, if_false]

/-- A tick makes of a running unit that may count the ticked unit. -/
theorem exec_timerTick_unit (h : MayCount s t) (hrun : s.timers[t].run = true) :
    ∃ s', exec (.timerTick t) s = .next s' ∧ s'.timers[t] = tickedUnit s t s.timers[t] := by
  obtain ⟨hworks, hawake, hsource, hhalt, hfrozen⟩ := h
  have hcounts : (timerSource (timerPart s.coh.active t) != 3 || s.time.asn.isSome) = true := by simpa using hsource
  refine ⟨changeTimer t (tickedUnit s t) s, ?_, by rw [changeTimer_unit, stampStart_of_run s _ _ hrun]⟩
  change execTimerTick t s = _
  simp only [execTimerTick, hworks, hrun, hawake, hcounts, hhalt, hfrozen, Bool.and_self, Bool.false_eq_true, if_true, if_false]
  rfl

/-- Below PERIOD a tick moves a running unit that counts up by one and leaves RUN; it turns where it reaches PERIOD. -/
theorem exec_timerTick_up (h : MayCount s t) (hrun : s.timers[t].run = true) (hup : s.timers[t].down = false)
    (hlt : s.timers[t].count < s.timers[t].period) :
    ∃ s', exec (.timerTick t) s = .next s' ∧ s'.timers[t].count = s.timers[t].count + 1 ∧
      s'.timers[t].down =
        ((timerCfg (timerPart s.coh.active t)).updown && decide (s.timers[t].count + 1 = s.timers[t].period)) ∧
      s'.timers[t].run = true ∧ s'.timers[t].ticks = s.timers[t].ticks + 1 := by
  obtain ⟨s', hexec, hunit⟩ := exec_timerTick_unit h hrun
  obtain ⟨hcount, hdown⟩ := nextCount_up (timerCfg (timerPart s.coh.active t)) s.timers[t] hup hlt
  refine ⟨s', hexec, ?_⟩
  rw [hunit, tickedUnit_run, tickedUnit_count, tickedUnit_down, tickedUnit_ticks, hcount, hdown]
  exact ⟨rfl, rfl, (if_neg fun h => Nat.succ_ne_zero _ h.1).trans hrun, rfl⟩

/-- The owner's write of RUN to a working unit sets RUN and raises nothing. -/
theorem exec_tmrCtrlRun_owner {by_ : BusMaster} (hon : coreOff s by_ = false) (hworks : s.works (timerFn t) = true)
    (howner : timerOwner s by_ t = true) : exec (.tmrCtrlRun by_ t true) s = .next (startTimer t s) := by
  change execTmrCtrlRun by_ t true s = _
  simp only [execTmrCtrlRun, timerWriteBy, hon, hworks, howner, Bool.not_true, Bool.or_self, Bool.false_eq_true, if_true,
    if_false]
  exact congrArg _ (changeTimer_of_status s t (setRun (timerCfg (timerPart s.coh.active t))) rfl)

/-- The unit started runs and keeps its counter, its period and its status. -/
theorem startTimer_unit : (startTimer t s).timers[t].run = true ∧
    (startTimer t s).timers[t].down = s.timers[t].down ∧ (startTimer t s).timers[t].count = s.timers[t].count ∧
    (startTimer t s).timers[t].period = s.timers[t].period ∧ (startTimer t s).timers[t].ticks = s.timers[t].ticks ∧
    (startTimer t s).timers[t].status = s.timers[t].status := by
  simp only [startTimer, onTimer_unit, stampStart_run, stampStart_down, stampStart_count, stampStart_period,
    stampStart_ticks, stampStart_status, setRun, and_self]

/-- A unit that may count may count once it is started. -/
theorem MayCount.startTimer (h : MayCount s t) : MayCount (startTimer t s) t := by
  obtain ⟨-, -, -, -, -, hstatus⟩ := startTimer_unit (s := s) (t := t)
  exact ⟨h.works, h.awake, h.source, h.unhalted, hstatus ▸ h.unfrozen⟩

end

/-- Settles O55: a tick leaves COUNT at 0 just at a zero turning point, which is where ONE_CYCLE clears RUN; every tick leaves a
stopped unit; and a unit that its owner starts from 0 is below its PERIOD, so the next tick counts up. -/
theorem oneCycleUnitsStopAtZero : Obligations.OneCycleUnitsStopAtZero := by
  unfold Obligations.OneCycleUnitsStopAtZero
  intro s t hworks hawake hsource hhalt hfrozen hone
  have hmay : MayCount s t := ⟨hworks, hawake, hsource, hhalt, hfrozen⟩
  refine ⟨fun hrun => ?_, exec_timerTick_stopped, fun by_ hon _ hcount hup hperiod howner => ?_⟩
  · obtain ⟨s', hexec, hunit⟩ := exec_timerTick_unit hmay hrun
    refine ⟨s', hexec, ?_⟩
    rw [hunit, tickedUnit_run]
    refine ⟨fun hzero => ⟨if_pos ⟨hzero, hone⟩, ?_, tickedUnit_done s t _ hone hzero⟩, fun hne => ?_⟩
    · exact (tickedUnit_down ..).trans (nextCount_down _ _ ((tickedUnit_count ..).symm.trans hzero))
    · exact (if_neg fun h => hne h.1).trans hrun
  · obtain ⟨hrun', hdown', hcount', hperiod', hticks', -⟩ := startTimer_unit (s := s) (t := t)
    obtain ⟨s'', hexec, hcount'', hdown'', hrun'', hticks''⟩ :=
      exec_timerTick_up hmay.startTimer hrun' (hdown'.trans hup) (by omega)
    rw [hcount', hcount] at hcount'' hdown''
    rw [hperiod', decide_eq_false (by omega), Bool.and_false] at hdown''
    exact ⟨startTimer t s, s'', exec_tmrCtrlRun_owner hon hworks howner, hrun', hcount'.trans hcount, hticks', hexec, hcount'',
      hdown'', hrun'', hticks''.trans (congrArg (· + 1) hticks')⟩

end Sys2Proof.Machine

/-! ## What every operation keeps: the queue, and the canonical form of memory

`Keeps a t` relates a state `a` to one reached from it.  Each operation of the model carries it along, so the two statements
about every step (O59, O60) are proved together: one lemma per operation, in the order of the model's definitions. -/

namespace Sys2Proof.Machine

set_option Elab.async false

/-- The memories of the host control block are in canonical form. -/
def Kci.canonical (k : Kci) : Prop :=
  Memory.wf k.bar0 = true ∧ Memory.wf k.bar2 = true ∧ Memory.wf k.hostMem = true ∧ Memory.wf k.config = true

/-- Both firmware slots are in canonical form. -/
def Boot.canonical (b : Boot) : Prop := Memory.wf b.slot0.content = true ∧ Memory.wf b.slot1.content = true

/-- The copy of configuration space in Backwater, where there is one, is in canonical form. -/
def Power.canonical (p : Power) : Prop := ∀ c, p.savedConfig = some c → Memory.wf c = true

/-- The memories of the block are those of the host control block, of physical memory, of the start and of the power manager. -/
theorem State.memoryCanonical_iff (s : State) : s.memoryCanonical ↔
    s.kci.canonical ∧ Memory.wf s.mem.phys = true ∧ s.boot.canonical ∧ s.power.canonical := by
  unfold State.memoryCanonical Kci.canonical Boot.canonical Power.canonical
  constructor
  · rintro ⟨h0, h2, hh, hp, hs0, hs1, hc, hsaved⟩
    exact ⟨⟨h0, h2, hh, hc⟩, hp, ⟨hs0, hs1⟩, hsaved⟩
  · rintro ⟨⟨h0, h2, hh, hc⟩, hp, ⟨hs0, hs1⟩, hsaved⟩
    exact ⟨h0, h2, hh, hp, hs0, hs1, hc, hsaved⟩

/-- `t` has the queue of `a`, and memory in canonical form where `a` has. -/
structure Keeps (a t : State) : Prop where
  pending : t.pending = a.pending
  memory : a.memoryCanonical → t.memoryCanonical

/-- An outcome is a next state that keeps. -/
inductive NextKeeps (a : State) : Out → Prop
  | next {t : State} (h : Keeps a t) : NextKeeps a (.next t)

/-- The state that a command's own meaning answers keeps. -/
inductive ReplyKeeps (a : State) : Reply → Prop
  | refuse {rc d : Nat} {b : Bytes} : ReplyKeeps a (.refuse rc d b)
  | done {t : State} {rc d : Nat} {f v : Bytes} (h : Keeps a t) : ReplyKeeps a (.done t rc d f v)
  | defer {t : State} (h : Keeps a t) : ReplyKeeps a (.defer t)

/-- The state beside the answer of a counter's taking keeps. -/
inductive CounterKeeps (a : State) : CounterResult → Prop
  | taken {c : BitVec 32} {t : State} (h : Keeps a t) : CounterKeeps a (.taken c t)
  | waits {t : State} (h : Keeps a t) : CounterKeeps a (.waits t)
  | refused {rc : Nat} {t : State} (h : Keeps a t) : CounterKeeps a (.refused rc t)

/-- The state of an admission keeps. -/
inductive AdmissionKeeps (a : State) : Admission → Prop
  | admitted {t : State} (h : Keeps a t) : AdmissionKeeps a (.admitted t)
  | refused {rc : Nat} : AdmissionKeeps a (.refused rc)

section
variable {a s t : State}

theorem Keeps.refl : Keeps a a := ⟨rfl, id⟩

theorem Keeps.trans (h : Keeps a s) (k : Keeps s t) : Keeps a t := ⟨k.pending.trans h.pending, k.memory ∘ h.memory⟩

/-- Either branch keeps. -/
theorem Keeps.ite {c : Prop} [Decidable c] (h : Keeps a s) (k : Keeps a t) : Keeps a (if c then s else t) := by
  split
  · exact h
  · exact k

theorem NextKeeps.ite {c : Prop} [Decidable c] {x y : Out} (h : NextKeeps a x) (k : NextKeeps a y) :
    NextKeeps a (if c then x else y) := by
  split
  · exact h
  · exact k

theorem ReplyKeeps.ite {c : Prop} [Decidable c] {x y : Reply} (h : ReplyKeeps a x) (k : ReplyKeeps a y) :
    ReplyKeeps a (if c then x else y) := by
  split
  · exact h
  · exact k

/-- A refusal changes nothing. -/
theorem ReplyKeeps.no {rc : Nat} : ReplyKeeps a (no rc) := .refuse

/-- What each step of a fold keeps, the fold keeps. -/
theorem Keeps.foldl {α : Type} {f : State → α → State} {l : List α} (hf : ∀ s x, Keeps a s → Keeps a (f s x))
    (h : Keeps a s) : Keeps a (l.foldl f s) := by
  induction l generalizing s with
  | nil => exact h
  | cons x l ih => exact ih (hf s x h)

/-- The state beside an answer, once the pair is named. -/
theorem Keeps.of_pair {α : Type} {p : α × State} {x : α} (h : Keeps a p.2) (e : p = (x, t)) : Keeps a t := by
  rw [e] at h
  exact h

theorem Keeps.snd {α : Type} {x : α} (h : Keeps a t) : Keeps a (x, t).2 := h

/-- A change that touches neither queue nor memory. -/
theorem Keeps.of_eq (h : Keeps a s) (hp : t.pending = s.pending := by rfl) (hk : t.kci = s.kci := by rfl)
    (hm : t.mem = s.mem := by rfl) (hb : t.boot = s.boot := by rfl) (hw : t.power = s.power := by rfl) : Keeps a t := by
  refine ⟨hp.trans h.pending, fun ha => ?_⟩
  have hs := h.memory ha
  rw [State.memoryCanonical_iff] at hs ⊢
  rw [hk, hm, hb, hw]
  exact hs

/-- A change of the host control block that leaves its memories in canonical form. -/
theorem State.onKci_keeps {f : Kci → Kci} (h : Keeps a s) (hf : s.kci.canonical → (f s.kci).canonical := 
      by intro hk; exact hk) :
    Keeps a (s.onKci f) := by
  refine ⟨h.pending, fun ha => ?_⟩
  obtain ⟨hk, hm, hb, hw⟩ := (State.memoryCanonical_iff s).mp (h.memory ha)
  exact (State.memoryCanonical_iff _).mpr ⟨hf hk, hm, hb, hw⟩

/-- A change of the memory block that leaves physical memory in canonical form. -/
theorem State.onMem_keeps {f : Memory → Memory} (h : Keeps a s)
    (hf : Memory.wf s.mem.phys = true → Memory.wf (f s.mem).phys = true := by intro hk; exact hk) : Keeps a (s.onMem f) := by
  refine ⟨h.pending, fun ha => ?_⟩
  obtain ⟨hk, hm, hb, hw⟩ := (State.memoryCanonical_iff s).mp (h.memory ha)
  exact (State.memoryCanonical_iff _).mpr ⟨hk, hf hm, hb, hw⟩

/-- A change of the start that leaves the firmware slots in canonical form. -/
theorem State.onBoot_keeps {f : Boot → Boot} (h : Keeps a s) (hf : s.boot.canonical → (f s.boot).canonical := 
      by intro hk; exact hk) :
    Keeps a (s.onBoot f) := by
  refine ⟨h.pending, fun ha => ?_⟩
  obtain ⟨hk, hm, hb, hw⟩ := (State.memoryCanonical_iff s).mp (h.memory ha)
  exact (State.memoryCanonical_iff _).mpr ⟨hk, hm, hf hb, hw⟩

/-- A change of the power manager that leaves the saved copy of configuration space in canonical form. -/
theorem State.onPower_keeps {f : Power → Power} (h : Keeps a s)
    (hf : s.power.canonical → (f s.power).canonical := by intro hk; exact hk) : Keeps a (s.onPower f) := by
  refine ⟨h.pending, fun ha => ?_⟩
  obtain ⟨hk, hm, hb, hw⟩ := (State.memoryCanonical_iff s).mp (h.memory ha)
  exact (State.memoryCanonical_iff _).mpr ⟨hk, hm, hb, hf hw⟩

theorem CounterKeeps.ite {c : Prop} [Decidable c] {x y : CounterResult} (h : CounterKeeps a x) (k : CounterKeeps a y) :
    CounterKeeps a (if c then x else y) := by
  split
  · exact h
  · exact k

theorem AdmissionKeeps.ite {c : Prop} [Decidable c] {x y : Admission} (h : AdmissionKeeps a x) (k : AdmissionKeeps a y) :
    AdmissionKeeps a (if c then x else y) := by
  split
  · exact h
  · exact k

/-! ### Machine/Ops -/

theorem State.onCoh_keeps {s : State} {f : Coherence → Coherence} (h : Keeps a s) : Keeps a (State.onCoh s f) := .of_eq h

theorem State.onSafety_keeps {s : State} {f : Safety → Safety} (h : Keeps a s) : Keeps a (State.onSafety s f) := .of_eq h

theorem State.onTime_keeps {s : State} {f : Time → Time} (h : Keeps a s) : Keeps a (State.onTime s f) := .of_eq h

theorem State.onSupply_keeps {s : State} {f : Supply → Supply} (h : Keeps a s) : Keeps a (State.onSupply s f) := .of_eq h

theorem State.onRadios_keeps {s : State} {f : Radios → Radios} (h : Keeps a s) : Keeps a (State.onRadios s f) := .of_eq h

theorem State.onSluice_keeps {s : State} {f : Sluice → Sluice} (h : Keeps a s) : Keeps a (State.onSluice s f) := .of_eq h

theorem State.onCipher_keeps {s : State} {f : Cipher → Cipher} (h : Keeps a s) : Keeps a (State.onCipher s f) := .of_eq h

theorem State.onLink_keeps {s : State} {f : Link → Link} (h : Keeps a s) : Keeps a (State.onLink s f) := .of_eq h

theorem State.onRx_keeps {s : State} {f : Rx → Rx} (h : Keeps a s) : Keeps a (State.onRx s f) := .of_eq h

theorem State.onRouter_keeps {s : State} {f : Router → Router} (h : Keeps a s) : Keeps a (State.onRouter s f) := .of_eq h

theorem State.onThermal_keeps {s : State} {f : Thermal → Thermal} (h : Keeps a s) : Keeps a (State.onThermal s f) :=
  .of_eq h

theorem State.onCluster_keeps {s : State} {f : Cluster → Cluster} (h : Keeps a s) : Keeps a (State.onCluster s f) :=
  .of_eq h

theorem State.onTimer_keeps {s : State} {t : Fin 16} {f : Timer → Timer} (h : Keeps a s) : Keeps a (State.onTimer s t f) :=
  .of_eq h

theorem State.onRadio_keeps {s : State} {r : Fin 3} {f : Radio → Radio} (h : Keeps a s) : Keeps a (State.onRadio s r f) :=
  State.onRadios_keeps h

theorem State.onNb_keeps {s : State} {i : Nat} {f : NbState → NbState} (h : Keeps a s) : Keeps a (State.onNb s i f) :=
  State.onLink_keeps h

theorem State.onRxFrame_keeps {s : State} {f : Nat} {g : RxFrame → RxFrame} (h : Keeps a s) :
    Keeps a (State.onRxFrame s f g) := State.onRx_keeps h

theorem State.onFn_keeps {s : State} {fn : Nat} {f : FnState → FnState} (h : Keeps a s) : Keeps a (State.onFn s fn f) :=
  State.onCoh_keeps h

theorem addWrites_keeps {op n : Nat} {s : State} (h : Keeps a s) : Keeps a (addWrites op n s) := State.onCoh_keeps h

theorem State.stage_keeps {s : State} {fn op sel idx : Nat} {b : Bytes} (h : Keeps a s) :
    Keeps a (State.stage s fn op sel idx b) := State.onCoh_keeps h

theorem State.countN_keeps {s : State} {fn i n : Nat} (h : Keeps a s) : Keeps a (State.countN s fn i n) := .of_eq h

theorem State.count_keeps {s : State} {fn i : Nat} (h : Keeps a s) : Keeps a (State.count s fn i) := State.countN_keeps h

theorem pmuEventIf_keeps {pass : Pmc → Bool} {b : Fin 13} {code cls n : Nat} {s : State} (h : Keeps a s) :
    Keeps a (pmuEventIf pass b code cls n s) := by
  unfold pmuEventIf
  dsimp only
  exact State.onCluster_keeps h

theorem pmuEvent_keeps {b : Fin 13} {code cls n : Nat} {s : State} (h : Keeps a s) : Keeps a (pmuEvent b code cls n s) :=
  pmuEventIf_keeps h

theorem State.free_keeps {s : State} (h : Keeps a s) : Keeps a (State.free s).2 := .snd (.of_eq h)

theorem putEvent_canonical {k : Kci} {rec : Bytes} (h : k.canonical) : (putEvent k rec).canonical := by
  obtain ⟨h0, h2, hh, hc⟩ := h
  rw [putEvent_frame]
  exact ⟨putEvent_wf k rec h0, h2, hh, hc⟩

theorem setPendingBit_canonical {k : Kci} {n : Nat} (h : k.canonical) : (setPendingBit k n).canonical := by
  rw [setPendingBit_frame]
  exact h

theorem raiseEventAt_keeps {num fn : Nat} {gen : BitVec 32} {asn : BitVec 64} {payload : Nat} {s : State} (h : Keeps a s) :
    Keeps a (raiseEventAt num fn gen asn payload s) := by
  refine .ite (State.onKci_keeps h fun hk => setPendingBit_canonical ?_) h
  split
  · exact hk
  · exact putEvent_canonical hk

theorem raiseEvent_keeps {num fn payload : Nat} {s : State} (h : Keeps a s) : Keeps a (raiseEvent num fn payload s) :=
  raiseEventAt_keeps h

/-! ### Machine/Rails -/

theorem State.onRail_keeps {s : State} {r : Fin 10} {f : Rail → Rail} (h : Keeps a s) : Keeps a (State.onRail s r f) :=
  State.onSupply_keeps h

theorem writePmic_keeps {r reg : Nat} {d : PmicData} {s : State} (h : Keeps a s) : Keeps a (writePmic r reg d s) :=
  .ite h (State.onSupply_keeps h)

theorem writeVsel_keeps {r mv : Nat} {s : State} (h : Keeps a s) : Keeps a (writeVsel r mv s) := .ite h (writePmic_keeps h)

theorem switchRail_keeps {on : Bool} {s : State} {r : Nat} (h : Keeps a s) : Keeps a (switchRail on s r) :=
  .ite h (State.onSupply_keeps (writePmic_keeps h))

theorem setTarget_keeps {r : Fin 10} {mv : Nat} {s : State} (h : Keeps a s) : Keeps a (setTarget r mv s) :=
  .ite h (writeVsel_keeps (State.onRail_keeps (State.onSupply_keeps h)))

theorem lowerRails_keeps {s : State} (h : Keeps a s) : Keeps a (lowerRails s) :=
  .ite (setTarget_keeps (switchRail_keeps h)) h

theorem dropRails_keeps {s : State} (h : Keeps a s) : Keeps a (dropRails s) :=
  Keeps.foldl (fun _ _ h1 => switchRail_keeps h1) h

theorem restoreRails_keeps {s : State} (h : Keeps a s) : Keeps a (restoreRails s) :=
  .ite (setTarget_keeps (Keeps.foldl (fun _ _ h1 => switchRail_keeps h1) h)) (Keeps.foldl (fun _ _ h1 => switchRail_keeps
      h1) h)

/-! ### Machine/Kci -/

theorem State.onMbx_keeps {s : State} {m : Fin 4} {f : Mbx → Mbx} (h : Keeps a s) : Keeps a (State.onMbx s m f) :=
  State.onKci_keeps h

theorem ringError_keeps {m : Fin 4} {v : BitVec 9} {reg : Nat} {s : State} (h : Keeps a s) :
    Keeps a (ringError m v reg s) := raiseEvent_keeps (State.onMbx_keeps h)

theorem putRsp_keeps {m : Fin 4} {bytes : Bytes} {s : State} (h : Keeps a s) : Keeps a (putRsp m bytes s) :=
  raiseEvent_keeps (State.onMbx_keeps (State.onKci_keeps h
    fun ⟨h0, h2, hh, hc⟩ => ⟨ringWrite_wf bytes _ _ _ _ h0, h2, hh, hc⟩))

theorem flushRsp_keeps {m : Fin 4} {bs : List Bytes} {s : State} (h : Keeps a s) : Keeps a (flushRsp m bs s) := by
  induction bs generalizing s with
  | nil => exact h
  | cons b bs ih => exact .ite (ih (putRsp_keeps (State.onMbx_keeps h))) h

theorem respond_keeps {m : Fin 4} {req : Req} {rc detail : Nat} {body : Bytes} {s : State} (h : Keeps a s) :
    Keeps a (respond m req rc detail body s) :=
  .ite (putRsp_keeps (State.onKci_keeps h)) (State.onMbx_keeps (State.onKci_keeps h))

theorem takeReq_keeps {m : Fin 4} {req : Req} {s : State} (h : Keeps a s) : Keeps a (takeReq m req s) :=
  .ite (State.onMbx_keeps h) (State.onKci_keeps (State.onMbx_keeps h))

theorem deliver_keeps {m : Fin 4} {req : Req} {r : Reply} {s : State} (h : Keeps a s) (hr : ReplyKeeps a r) :
    Keeps a (deliver s m req r) := by
  cases hr with
  | refuse => exact respond_keeps h
  | defer ht => exact State.onKci_keeps (f := fun k => { k with executing := some ⟨m, req⟩ }) ht
  | done ht =>
    have written {c : Bool} {var : Bytes} {t : State} (ht : Keeps a t) : Keeps a (if c then t
        else t.onKci fun k => { k with hostMem := memWrites k.hostMem req.bufAddr var }) :=
      .ite ht (State.onKci_keeps ht fun ⟨h0, h2, hh, hc⟩ => ⟨h0, h2, memWrites_wf var _ _ hh, hc⟩)
    exact .ite (.ite (respond_keeps h) (respond_keeps (written ht))) (.ite (respond_keeps h) (respond_keeps ht))

theorem execute_keeps {s0 : State} {m : Fin 4} {req : Req} {buf : Bytes} {f : Meaning} (h : Keeps a s0)
    (hf : ReplyKeeps a (f s0 m req (fullBody req buf))) : Keeps a (execute s0 m req buf f) := by
  unfold execute
  split
  · exact respond_keeps h
  · exact deliver_keeps h hf

theorem runKci_keeps {op : Nat} {buf : Bytes} {f : Meaning} {s : State}
    (hf : ∀ {s m req body}, Keeps a s → ReplyKeeps a (f s m req body)) (h : Keeps a s) : Keeps a (runKci op buf f s) := by
  unfold runKci
  split
  · exact h
  · exact .ite (execute_keeps (takeReq_keeps h) (hf (takeReq_keeps h))) h

theorem acceptLong_keeps {s : State} {m : Fin 4} {req : Req} {body : Bytes} (h : Keeps a s) :
    ReplyKeeps a (acceptLong s m req body) := .done (State.onKci_keeps h)

theorem longDone_keeps {id' rc : Nat} {s : State} (h : Keeps a s) : Keeps a (longDone id' rc s) := by
  unfold longDone
  dsimp only
  split
  · exact h
  · exact .ite (State.onKci_keeps h) (raiseEvent_keeps (State.onKci_keeps h))

theorem finishExecuting_keeps {op rc detail : Nat} {body : Bytes} {s : State} (h : Keeps a s) :
    Keeps a (finishExecuting op rc detail body s) := by
  unfold finishExecuting
  split
  · exact h
  · exact .ite (respond_keeps (State.onKci_keeps h)) h

theorem stageOne_keeps {op sel idx : Nat} {fs : List FieldSpec} {s : State} {x : Fin 4} {req : Req} {body : Bytes}
    (h : Keeps a s) :
    ReplyKeeps a (stageOne op sel idx fs s x req body) := by
  unfold stageOne
  split
  · exact .refuse
  · exact .done (State.stage_keeps h)

theorem stageRun_keeps {fn op sel idx : Nat} {es : List Bytes} {s : State} (h : Keeps a s) :
    Keeps a (stageRun fn op sel idx es s) := by
  induction es generalizing idx s with
  | nil => exact h
  | cons e es ih => exact ih (State.stage_keeps h)

/-! ### Machine/Weir -/

theorem State.onEgress_keeps {s : State} {e : Fin 6} {f : Egress → Egress} (h : Keeps a s) :
    Keeps a (State.onEgress s e f) := State.onRouter_keeps h

theorem settleEgress_keeps {m : NMap Bytes} {l : List (Fin 6)} {s : State} (h : Keeps a s) : Keeps a (settleEgress m l s) :=
  Keeps.foldl (fun _ _ h1 => State.onEgress_keeps h1) h

theorem emptyRadioQueue_keeps {q : Nat} {s : State} (h : Keeps a s) : Keeps a (emptyRadioQueue q s) :=
  Keeps.foldl (fun _ _ h1 => State.onEgress_keeps h1) h

/-! ### Machine/Rings -/

theorem bufWrite_keeps {s : State} {a' : Nat} {data : Bytes} (h : Keeps a s) : Keeps a (bufWrite s a' data) :=
  .ite (State.onKci_keeps h fun ⟨h0, h2, hh, hc⟩ => ⟨h0, memWrites_wf data _ _ h2, hh, hc⟩)
    (State.onKci_keeps h fun ⟨h0, h2, hh, hc⟩ => ⟨h0, h2, memWrites_wf data _ _ hh, hc⟩)

theorem returnDesc_keeps {r : Fin 16} {len : Option Nat} {flags reason : Nat} {gen : BitVec 32} {queue : Nat} {s : State}
    (h : Keeps a s) : Keeps a (returnDesc r len flags reason gen queue s) := by
  unfold returnDesc
  refine State.onKci_keeps h fun ⟨h0, h2, hh, hc⟩ => ⟨h0, memWrites_wf _ _ _ (memWrites_wf _ _ _ ?_), hh, hc⟩
  cases len with
  | none => exact h2
  | some l => exact memWrites_wf _ _ _ h2

theorem fillDescs_keeps {r : Fin 16} {it : RingItem} {fuel : Nat} {first : Bool} {data : Bytes} {s : State}
    (h : Keeps a s) : Keeps a (fillDescs r it fuel first data s) := by
  induction fuel generalizing first data s with
  | zero => exact h
  | succ fuel ih =>
    have returned {len flags : Nat} : Keeps a (returnDesc r (some len) flags it.reason it.generation 0
        (bufWrite s (descAddr s.coh.active r.val (ringPos (ringSize s.coh.active r.val) s.kci.ringDev[r]))
          (data.take (descCap s (descAddr s.coh.active r.val (ringPos (ringSize s.coh.active r.val) s.kci.ringDev[r])))))) :=
      returnDesc_keeps (bufWrite_keeps h)
    exact .ite (.ite (raiseEvent_keeps returned) returned) (ih (.ite (raiseEvent_keeps returned) returned))

theorem pumpRing_keeps {r : Fin 16} {fuel : Nat} {s : State} (h : Keeps a s) : Keeps a (pumpRing r fuel s) := by
  induction fuel generalizing s with
  | zero => exact h
  | succ fuel ih =>
    simp only [pumpRing]
    split
    · exact h
    · exact .ite (ih (fillDescs_keeps (State.onKci_keeps h))) (.ite (raiseEvent_keeps (State.onKci_keeps h)) h)

theorem dropAtQueue_keeps {e : Fin 6} {q : Nat} {s : State} (h : Keeps a s) : Keeps a (dropAtQueue e q s) :=
  .ite (State.count_keeps (State.count_keeps (State.onRouter_keeps h))) (State.count_keeps (State.onRouter_keeps h))

theorem toRing_keeps {r kind reason : Nat} {gen : BitVec 32} {data : Bytes} {s : State} (h : Keeps a s) :
    Keeps a (toRing r kind reason gen data s) :=
  .ite (dropAtQueue_keeps (State.onKci_keeps (pumpRing_keeps (State.onKci_keeps h)))) (pumpRing_keeps (State.onKci_keeps h))

/-! ### Machine/Duty -/

theorem State.onAccount_keeps {s : State} {i : Fin 16} {f : Account → Account} (h : Keeps a s) :
    Keeps a (State.onAccount s i f) := State.onSluice_keeps h

theorem nearCheck_keeps {i : Fin 16} {s : State} (h : Keeps a s) : Keeps a (nearCheck i s) :=
  .ite (raiseEvent_keeps (State.onAccount_keeps h)) (.ite (State.onAccount_keeps h) h)

theorem chargeBands_keeps {c : Nat} {is : List (Fin 16)} {s : State} (h : Keeps a s) : Keeps a (chargeBands c is s) := by
  induction is generalizing s with
  | nil => exact h
  | cons i is ih => exact ih (nearCheck_keeps (State.onAccount_keeps h))

theorem reserveBands_keeps {c : Nat} {l : List (Fin 16)} {s : State} (h : Keeps a s) : Keeps a (reserveBands c l s) :=
  Keeps.foldl (fun _ _ h1 => State.onAccount_keeps h1) h

theorem refundBands_keeps {c : Nat} {l : List (Fin 16)} {s : State} (h : Keeps a s) : Keeps a (refundBands c l s) :=
  Keeps.foldl (fun _ _ h1 => State.onAccount_keeps h1) h

theorem State.onLaunch_keeps {s : State} {l : Nat} {f : Launch → Launch} (h : Keeps a s) : Keeps a (State.onLaunch s l f) :=
  State.onSluice_keeps h

theorem dropLaunch_keeps {l : Nat} {s : State} (h : Keeps a s) : Keeps a (dropLaunch l s) := State.onSluice_keeps h

theorem refundLaunch_keeps {x : Launch} {s : State} (h : Keeps a s) : Keeps a (refundLaunch x s) :=
  .ite (State.onLaunch_keeps (refundBands_keeps h)) h

theorem refundCommitted_keeps {x : Launch} {c : Nat} {s : State} (h : Keeps a s) : Keeps a (refundCommitted x c s) :=
  Keeps.foldl (fun _ _ h1 => nearCheck_keeps (State.onAccount_keeps h1)) h

theorem writeLaunchRecord_keeps {x : Launch} {reason : Nat} {truncated : Bool} {charged : Nat} {s : State} (h : Keeps a s) :
    Keeps a (writeLaunchRecord x reason truncated charged s) := .ite (toRing_keeps h) h

theorem countRefusal_keeps {r : Fin 3} {reason : Nat} {s : State} (h : Keeps a s) : Keeps a (countRefusal r reason s) :=
  .ite (State.count_keeps h) (.ite (State.count_keeps h) (.ite (State.count_keeps h) (.ite (State.count_keeps h) h)))

theorem refusalRecord_keeps {x : Launch} {f : DlFrame} {reason : Nat} {s : State} (h : Keeps a s) :
    Keeps a (refusalRecord x f reason s) := toRing_keeps h

theorem ackOffset_keeps {f : Nat} {n : Option Nat} {sent : Bool} {s : State} (h : Keeps a s) :
    Keeps a (ackOffset f n sent s) := by
  unfold ackOffset
  split
  · exact h
  · exact .ite (State.onNb_keeps h) h

theorem unsendAck_keeps {x : Launch} {s : State} (h : Keeps a s) : Keeps a (unsendAck x s) := by
  unfold unsendAck
  split
  · exact ackOffset_keeps (State.onRxFrame_keeps h)
  · exact h

theorem queuedRecord_keeps {f : DlFrame} {reason : Nat} {truncated pending : Bool} {s : State} (h : Keeps a s) :
    Keeps a (queuedRecord f reason truncated pending s) := toRing_keeps h

theorem removeFrame_keeps {f : DlFrame} {reason : Nat} {truncated pending : Bool} {s : State} (h : Keeps a s) :
    Keeps a (removeFrame f reason truncated pending s) :=
  queuedRecord_keeps (.ite (State.onSluice_keeps (.ite (State.count_keeps h) h)) (emptyRadioQueue_keeps
      (State.onSluice_keeps (.ite (State.count_keeps h) h))))

theorem expireFrame_keeps {f : DlFrame} {s : State} (h : Keeps a s) : Keeps a (expireFrame f s) :=
  removeFrame_keeps (State.count_keeps h)

theorem dropExpired_keeps {f : Nat} {s : State} (h : Keeps a s) : Keeps a (dropExpired f s) := by
  unfold dropExpired
  split
  · exact expireFrame_keeps h
  · exact h

theorem State.onFrame_keeps {s : State} {f : Nat} {g : DlFrame → DlFrame} (h : Keeps a s) : Keeps a (State.onFrame s f g) :=
  State.onSluice_keeps h

theorem endLaunch_keeps {x : Launch} {reason : Nat} {remove : Bool} {s : State} (h : Keeps a s) :
    Keeps a (endLaunch x reason remove s) := by
  unfold endLaunch
  dsimp only
  split
  · exact .ite (longDone_keeps (.ite (State.count_keeps (unsendAck_keeps (countRefusal_keeps (dropLaunch_keeps
      (refundLaunch_keeps h))))) (unsendAck_keeps (countRefusal_keeps (dropLaunch_keeps (refundLaunch_keeps h))))))
          (writeLaunchRecord_keeps (.ite (State.count_keeps (unsendAck_keeps (countRefusal_keeps (dropLaunch_keeps
              (refundLaunch_keeps h))))) (unsendAck_keeps (countRefusal_keeps (dropLaunch_keeps (refundLaunch_keeps h))))))
  · split
    · exact countRefusal_keeps (dropLaunch_keeps (refundLaunch_keeps h))
    · exact .ite (removeFrame_keeps (State.onFrame_keeps (countRefusal_keeps (dropLaunch_keeps (refundLaunch_keeps h)))))
        (dropExpired_keeps (.ite (refusalRecord_keeps (State.onFrame_keeps (countRefusal_keeps (dropLaunch_keeps
            (refundLaunch_keeps h))))) (State.onFrame_keeps (countRefusal_keeps (dropLaunch_keeps (refundLaunch_keeps h))))))

theorem addSecond_keeps {r : Fin 3} {c : Nat} {s : State} (h : Keeps a s) : Keeps a (addSecond r c s) := by
  unfold addSecond
  dsimp only
  exact State.onSluice_keeps h

theorem giveBackSecond_keeps {r : Fin 3} {c ns : Nat} {s : State} (h : Keeps a s) : Keeps a (giveBackSecond r c ns s) :=
  .ite (State.onSluice_keeps h) h

theorem cutLaunch_keeps {x : Launch} {reason : Nat} {fate : CutFate} {s : State} (h : Keeps a s) :
    Keeps a (cutLaunch x reason fate s) := by
  unfold cutLaunch
  dsimp only
  split
  · exact writeLaunchRecord_keeps (State.onThermal_keeps (State.countN_keeps (dropLaunch_keeps (.ite (addSecond_keeps
      (chargeBands_keeps (refundLaunch_keeps h))) (refundCommitted_keeps (giveBackSecond_keeps h))))))
  · split
    · exact State.onThermal_keeps (State.countN_keeps (dropLaunch_keeps (.ite (addSecond_keeps (chargeBands_keeps
        (refundLaunch_keeps h))) (refundCommitted_keeps (giveBackSecond_keeps h)))))
    · exact .ite (dropExpired_keeps (State.count_keeps (State.onFrame_keeps (.ite (queuedRecord_keeps (State.onFrame_keeps
        (State.onThermal_keeps (State.countN_keeps (dropLaunch_keeps (.ite (addSecond_keeps (chargeBands_keeps
            (refundLaunch_keeps h))) (refundCommitted_keeps (giveBackSecond_keeps h)))))))) (State.onFrame_keeps
                (State.onThermal_keeps (State.countN_keeps (dropLaunch_keeps (.ite (addSecond_keeps (chargeBands_keeps
                    (refundLaunch_keeps h))) (refundCommitted_keeps (giveBackSecond_keeps h))))))))))) (removeFrame_keeps
                        (State.onFrame_keeps (State.onThermal_keeps (State.countN_keeps (dropLaunch_keeps (.ite
                            (addSecond_keeps (chargeBands_keeps (refundLaunch_keeps h))) (refundCommitted_keeps
                                (giveBackSecond_keeps h))))))))

theorem restBalls_keeps {r : Fin 3} {s : State} (h : Keeps a s) : Keeps a (restBalls r s) := State.onRadio_keeps h

theorem cutRadio_keeps {r : Fin 3} {reason : Nat} {fate : CutFate} {s : State} (h : Keeps a s) :
    Keeps a (cutRadio r reason fate s) :=
  Keeps.foldl (fun _ _ h1 => endLaunch_keeps h1) (Keeps.foldl (fun _ _ h1 => .ite (longDone_keeps (cutLaunch_keeps h1))
      (cutLaunch_keeps h1)) (restBalls_keeps h))

/-! ### Machine/RxBase -/

theorem State.onChan_keeps {s : State} {ch : Nat} {f : Chan → Chan} (h : Keeps a s) : Keeps a (State.onChan s ch f) :=
  State.onRx_keeps h

theorem countGroup_keeps {ch i : Nat} {s : State} (h : Keeps a s) : Keeps a (countGroup ch i s) := by
  unfold countGroup
  dsimp only
  split
  · exact pmuEvent_keeps (State.count_keeps h)
  · exact pmuEvent_keeps (State.count_keeps h)
  · exact pmuEvent_keeps (State.count_keeps h)
  · exact State.count_keeps h

theorem emitRecord_keeps {x : RxFrame} {reason : Nat} {payload : Bytes} {s : State} (h : Keeps a s) :
    Keeps a (emitRecord x reason payload s) := toRing_keeps h

theorem countFailed_keeps {s : State} (h : Keeps a s) : Keeps a (countFailed s) := State.onThermal_keeps h

theorem State.onQueue_keeps {s : State} {c : Fin 4} {f : JobQueue → JobQueue} (h : Keeps a s) :
    Keeps a (State.onQueue s c f) := State.onRx_keeps h

theorem State.onEngine_keeps {s : State} {e : Fin 48} {f : Engine → Engine} (h : Keeps a s) :
    Keeps a (State.onEngine s e f) := State.onRx_keeps h

theorem enqueueJobs_keeps {x : RxFrame} {js : List Nat} {head : Bool} {s : State} (h : Keeps a s) :
    Keeps a (enqueueJobs x js head s) := by
  unfold enqueueJobs
  dsimp only
  exact State.onQueue_keeps (State.onRxFrame_keeps h)

theorem startJob_keeps {e : Fin 48} {j : Nat × Nat} {stolen : Bool} {s : State} (h : Keeps a s) :
    Keeps a (startJob e j stolen s) := by
  unfold startJob
  dsimp only
  split
  · exact h
  · exact State.count_keeps (.ite (pmuEvent_keeps (State.count_keeps (State.onRxFrame_keeps (State.onEngine_keeps h))))
      (State.onRxFrame_keeps (State.onEngine_keeps h)))

theorem feedLocal_keeps {s : State} {e : Fin 48} (h : Keeps a s) : Keeps a (feedLocal s e) := by
  unfold feedLocal
  dsimp only
  split
  · exact h
  · split
    · exact startJob_keeps (State.onQueue_keeps h)
    · exact startJob_keeps (State.onQueue_keeps h)
    · exact h

theorem feedSteal_keeps {s : State} {e : Fin 48} (h : Keeps a s) : Keeps a (feedSteal s e) := by
  unfold feedSteal
  dsimp only
  split
  · exact h
  · split
    · exact h
    · split
      · exact h
      · split
        · exact startJob_keeps (State.onQueue_keeps h)
        · exact startJob_keeps (State.onQueue_keeps h)
        · exact h

theorem feedEngines_keeps {s : State} (h : Keeps a s) : Keeps a (feedEngines s) :=
  .ite (Keeps.foldl (fun _ _ h1 => feedSteal_keeps h1) (Keeps.foldl (fun _ _ h1 => feedLocal_keeps h1) h)) h

theorem purgeJobs_keeps {f : Nat} {s : State} (h : Keeps a s) : Keeps a (purgeJobs f s) := by
  unfold purgeJobs
  dsimp only
  exact State.onRx_keeps h

theorem setCapture_keeps {l : Fin 64} {c : Option Capture} {s : State} (h : Keeps a s) : Keeps a (setCapture l c s) :=
  State.onRx_keeps h

theorem dropRx_keeps {f : Nat} {s : State} (h : Keeps a s) : Keeps a (dropRx f s) := State.onRx_keeps h

theorem startCombined_keeps {f : Nat} {s : State} (h : Keeps a s) : Keeps a (startCombined f s) := by
  unfold startCombined
  dsimp only
  split
  · exact h
  · exact feedEngines_keeps (enqueueJobs_keeps (State.onRxFrame_keeps h))

theorem joinLlrs_keeps {x : RxFrame} {s : State} (h : Keeps a s) : Keeps a (joinLlrs x s) := by
  unfold joinLlrs
  dsimp only
  split
  · exact h
  · exact .ite (.ite (startCombined_keeps (State.onRxFrame_keeps h)) (State.onRxFrame_keeps h)) (.ite (dropRx_keeps h)
      (State.onRxFrame_keeps h))

theorem unpark_keeps {y : RxFrame} {s : State} (h : Keeps a s) : Keeps a (unpark y s) :=
  .ite (joinLlrs_keeps (dropRx_keeps (State.onRxFrame_keeps h))) (.ite (State.onRxFrame_keeps h) (enqueueJobs_keeps
      (State.onRxFrame_keeps h)))

theorem unparkChain_keeps {fuel f : Nat} {s : State} (h : Keeps a s) : Keeps a (unparkChain fuel f s) := by
  induction fuel generalizing f s with
  | zero => exact h
  | succ fuel ih =>
    simp only [unparkChain]
    split
    · exact h
    · exact ih (unpark_keeps h)

theorem freeLane_keeps {x : RxFrame} {s : State} (h : Keeps a s) : Keeps a (freeLane x s) := by
  unfold freeLane
  dsimp only
  split
  · exact h
  · split
    · exact .ite (setCapture_keeps h) h
    · exact h

theorem resolveDecoded_keeps {x : RxFrame} {s : State} (h : Keeps a s) : Keeps a (resolveDecoded x s) := by
  unfold resolveDecoded
  dsimp only
  split
  · exact .ite (setCapture_keeps h) (unpark_keeps (freeLane_keeps h))
  · exact unparkChain_keeps (freeLane_keeps h)

theorem releaseBooked_keeps {l : Option Nat} {s : State} (h : Keeps a s) : Keeps a (releaseBooked l s) := by
  unfold releaseBooked
  split
  · exact h
  · exact .ite (dropLaunch_keeps (refundLaunch_keeps h)) h

theorem releaseAck_keeps {x : RxFrame} {s : State} (h : Keeps a s) : Keeps a (releaseAck x s) := by
  unfold releaseAck
  dsimp only
  split
  · exact releaseBooked_keeps h
  · exact State.onRxFrame_keeps (releaseBooked_keeps (releaseBooked_keeps h))

theorem discardEarly_keeps {x : RxFrame} {s : State} (h : Keeps a s) : Keeps a (discardEarly x s) := by
  unfold discardEarly
  dsimp only
  refine feedEngines_keeps ?_
  refine dropRx_keeps ?_
  split
  · exact unpark_keeps (releaseAck_keeps (freeLane_keeps h))
  · exact releaseAck_keeps (freeLane_keeps h)

theorem discardWith_keeps {x : RxFrame} {reason : Nat} {s : State} (h : Keeps a s) : Keeps a (discardWith x reason s) :=
  emitRecord_keeps (countFailed_keeps (discardEarly_keeps h))

theorem failFrame_keeps {f reason : Nat} {s : State} (h : Keeps a s) : Keeps a (failFrame f reason s) := by
  unfold failFrame
  dsimp only
  split
  · exact h
  · exact feedEngines_keeps (countFailed_keeps (State.onRxFrame_keeps (unparkChain_keeps (releaseAck_keeps (purgeJobs_keeps
      (freeLane_keeps h))))))

theorem dropReception_keeps {r : Fin 3} {s : State} (h : Keeps a s) : Keeps a (dropReception r s) :=
  Keeps.foldl (fun _ _ h1 => State.count_keeps (discardEarly_keeps h1)) h

/-! ### Machine/Faults -/

theorem logRecord_keeps {r : FaultRec} {s : State} (h : Keeps a s) : Keeps a (logRecord r s) := State.onSafety_keeps h

theorem State.onRecord_keeps {s : State} {no : Nat} {f : FaultRec → FaultRec} (h : Keeps a s) :
    Keeps a (State.onRecord s no f) := State.onSafety_keeps h

theorem reportNote_keeps {n sev count : Nat} {detail : BitVec 64} {injected : Bool} {s : State} (h : Keeps a s) :
    Keeps a (reportNote n sev count detail injected s) := raiseEvent_keeps (State.onSafety_keeps (logRecord_keeps h))

theorem noteRaise_keeps {n sev : Nat} {detail : BitVec 64} {injected : Bool} {s : State} (h : Keeps a s) :
    Keeps a (noteRaise n sev detail injected s) := by
  unfold noteRaise
  dsimp only
  split
  · exact reportNote_keeps h
  · exact .ite (reportNote_keeps h) (State.onSafety_keeps h)

theorem mergeRaise_keeps {r : Reaction} {n : Nat} {s : State} (h : Keeps a s) : Keeps a (mergeRaise r n s) :=
  State.count_keeps (State.onRecord_keeps (State.onSafety_keeps h))

theorem abandonCommit_keeps {fn : Nat} {s : State} (h : Keeps a s) : Keeps a (abandonCommit fn s) := by
  unfold abandonCommit
  dsimp only
  split
  · exact h
  · exact finishExecuting_keeps (raiseEvent_keeps (State.onCoh_keeps h))

theorem idleTimer_keeps {t : Fin 16} {s : State} (h : Keeps a s) : Keeps a (idleTimer t s) := State.onTimer_keeps h

theorem pauseMigration_keeps {c : Fin 2} {s : State} (h : Keeps a s) : Keeps a (pauseMigration c s) := State.onMem_keeps h

theorem clampOutputs_keeps {fn : Nat} {s : State} (h : Keeps a s) : Keeps a (clampOutputs fn s) := by
  unfold clampOutputs
  dsimp only
  split
  · exact idleTimer_keeps h
  · split
    · exact State.onRadio_keeps (dropReception_keeps (cutRadio_keeps h))
    · exact .ite (Keeps.foldl (fun _ _ h1 => cutRadio_keeps h1) h) (.ite (pauseMigration_keeps h) (.ite
        (pauseMigration_keeps h) h))

theorem startReset_keeps {fn : Nat} {source : Option Nat} {s : State} (h : Keeps a s) : Keeps a (startReset fn source s)
    := by
  unfold startReset
  dsimp only
  split
  · exact .ite (abandonCommit_keeps (State.onCoh_keeps (Keeps.foldl (fun _ _ h1 => State.onFn_keeps (.ite
      (clampOutputs_keeps h1) h1)) h))) (State.onCoh_keeps (Keeps.foldl (fun _ _ h1 => State.onFn_keeps (.ite
          (clampOutputs_keeps h1) h1)) h))
  · exact State.onCoh_keeps (Keeps.foldl (fun _ _ h1 => State.onFn_keeps (.ite (clampOutputs_keeps h1) h1)) h)

theorem endReaction_keeps {recNo : Nat} {s : State} (h : Keeps a s) : Keeps a (endReaction recNo s) := by
  unfold endReaction
  dsimp only
  split
  · exact h
  · exact State.onRecord_keeps (State.onSafety_keeps h)

theorem abandonResets_keeps {s : State} (h : Keeps a s) : Keeps a (abandonResets s) := by
  unfold abandonResets
  dsimp only
  split
  · exact .ite (State.onKci_keeps (State.onCoh_keeps (State.onSafety_keeps (Keeps.foldl (fun _ _ h1 => Keeps.foldl (fun _ _
      h2 => State.onFn_keeps h2) h1) h)))) (State.onCoh_keeps (State.onSafety_keeps (Keeps.foldl (fun _ _ h1 => Keeps.foldl
          (fun _ _ h2 => State.onFn_keeps h2) h1) h)))
  · exact State.onCoh_keeps (State.onSafety_keeps (Keeps.foldl (fun _ _ h1 => Keeps.foldl (fun _ _ h2 => State.onFn_keeps
      h2) h1) h))

theorem releaseBookings_keeps {reason : Nat} {s : State} (h : Keeps a s) : Keeps a (releaseBookings reason s) :=
  Keeps.foldl (fun _ _ h1 => endLaunch_keeps h1) h

theorem enterSafeState_keeps {n : Nat} {s4 hold : Bool} {s : State} (h : Keeps a s) :
    Keeps a (enterSafeState n s4 hold s) :=
  raiseEvent_keeps (abandonCommit_keeps (.ite (State.onSafety_keeps (releaseBookings_keeps (Keeps.foldl (fun _ _ h1 =>
      cutRadio_keeps h1) h))) (State.count_keeps (State.onSafety_keeps (releaseBookings_keeps (Keeps.foldl (fun _ _ h1 =>
          cutRadio_keeps h1) h))))))

theorem react_keeps {recNo n sev target : Nat} {s : State} (h : Keeps a s) : Keeps a (react recNo n sev target s) :=
  .ite (.ite (endReaction_keeps h) (.ite h (startReset_keeps h))) (.ite (State.onSafety_keeps (enterSafeState_keeps
      (abandonResets_keeps h))) (endReaction_keeps (Keeps.foldl (fun _ _ h1 => State.onFn_keeps h1) (State.onSafety_keeps
          (enterSafeState_keeps (abandonResets_keeps h))))))

theorem reactRaise_keeps {n sev target named : Nat} {detail : BitVec 64} {injected : Bool} {s : State} (h : Keeps a s) :
    Keeps a (reactRaise n sev target named detail injected s) :=
  react_keeps (State.onSafety_keeps (raiseEvent_keeps (.ite (State.onSafety_keeps (logRecord_keeps h)) (State.count_keeps
      (State.onSafety_keeps (logRecord_keeps h))))))

theorem handleRaise_keeps {n named : Nat} {detail : BitVec 64} {injected : Bool} {s : State} (h : Keeps a s) :
    Keeps a (handleRaise n named detail injected s) := by
  unfold handleRaise
  dsimp only
  split
  · exact mergeRaise_keeps h
  · exact .ite (noteRaise_keeps h) (reactRaise_keeps h)

theorem beginWake_keeps {n : Nat} {s : State} (h : Keeps a s) : Keeps a (beginWake n s) :=
  .ite (State.onBoot_keeps (restoreRails_keeps (State.onPower_keeps h))) (State.onPower_keeps h)

theorem wakeOnFault_keeps {s : State} (h : Keeps a s) : Keeps a (wakeOnFault s) := by
  unfold wakeOnFault
  split
  · exact State.onPower_keeps h
  · exact beginWake_keeps h
  · exact h

theorem raiseFault_keeps {n named : Nat} {detail : BitVec 64} {injected : Bool} {s : State} (h : Keeps a s) :
    Keeps a (raiseFault n named detail injected s) :=
  .ite h (.ite (.ite (State.onSafety_keeps (wakeOnFault_keeps (State.onPower_keeps h))) (wakeOnFault_keeps
      (State.onPower_keeps h))) (handleRaise_keeps (.ite (State.count_keeps (.ite (State.count_keeps (State.onThermal_keeps
          (State.count_keeps (.of_eq h)))) (State.onThermal_keeps (State.count_keeps (.of_eq h))))) (.ite
              (State.count_keeps (State.onThermal_keeps (State.count_keeps (.of_eq h)))) (State.onThermal_keeps
                  (State.count_keeps (.of_eq h)))))))

theorem raiseSource_keeps {n fn detail : Nat} {s : State} (h : Keeps a s) : Keeps a (raiseSource n fn detail s) :=
  raiseFault_keeps h

/-! ### Machine/Phys -/

theorem State.storeTable_keeps {s : State} {a' : Nat} {b : Byte} (h : Keeps a s) : Keeps a (s.storeTable a' b) := by
  unfold State.storeTable
  split
  · dsimp only
    split
    · exact State.onRadios_keeps h
    · exact State.onMem_keeps (State.onRadios_keeps h) (memWrites_wf _ _ _)
  · exact h

theorem State.storeEach_keeps {s : State} {n : Nat} {bs : Bytes} (h : Keeps a s) : Keeps a (s.storeEach n bs) := by
  induction bs generalizing s n with
  | nil => exact h
  | cons b bs ih => exact ih (.ite (State.onMem_keeps h (memWrite_wf _ _ _)) (State.storeTable_keeps h))

theorem State.store_keeps {s : State} {a' : Nat} {bs : Bytes} (h : Keeps a s) : Keeps a (s.store a' bs) :=
  State.onMem_keeps (.ite (State.onMem_keeps h (memWrites_wf bs _ _)) (State.storeEach_keeps h))

/-! ### Machine/Sched -/

theorem State.onThread_keeps {s : State} {t : Nat} {f : Thread → Thread} (h : Keeps a s) : Keeps a (State.onThread s t f) :=
  State.onCluster_keeps h

theorem State.onCore_keeps {s : State} {c : Fin 8} {f : Core → Core} (h : Keeps a s) : Keeps a (State.onCore s c f) :=
  State.onCluster_keeps h

theorem trace_keeps {kind core thread prio cause arg : Nat} {s : State} (h : Keeps a s) :
    Keeps a (trace kind core thread prio cause arg s) :=
  .ite h (.ite (raiseEvent_keeps (State.onCluster_keeps (State.count_keeps (State.onCluster_keeps h)))) (State.count_keeps
      (State.onCluster_keeps h)))

theorem traceThread_keeps {kind c t cause arg : Nat} {s : State} (h : Keeps a s) :
    Keeps a (traceThread kind c t cause arg s) := trace_keeps h

theorem pmuThread_keeps {c : Fin 8} {t code cls : Nat} {s : State} (h : Keeps a s) : Keeps a (pmuThread c t code cls s) :=
  pmuEventIf_keeps h

theorem dispatch_keeps {t : Nat} {c : Fin 8} {old cause : Nat} {s : State} (h : Keeps a s) :
    Keeps a (dispatch t c old cause s) :=
  traceThread_keeps (pmuThread_keeps (State.count_keeps (State.onCluster_keeps (State.onCore_keeps (State.onThread_keeps
      h)))))

theorem preempt_keeps {u : Nat} {c : Fin 8} {by_ : Nat} {s : State} (h : Keeps a s) : Keeps a (preempt u c by_ s) :=
  traceThread_keeps (pmuThread_keeps (State.count_keeps (State.onCluster_keeps (State.onCore_keeps (State.onThread_keeps
      h)))))

theorem place_keeps {t cause : Nat} {s : State} (h : Keeps a s) : Keeps a (place t cause s) := by
  unfold place
  split
  · exact dispatch_keeps h
  · split
    · exact dispatch_keeps (preempt_keeps h)
    · exact State.onCluster_keeps (State.onThread_keeps h)

theorem refill_keeps {c : Fin 8} {s : State} (h : Keeps a s) : Keeps a (refill c s) := by
  unfold refill
  split
  · split
    · exact dispatch_keeps h
    · exact h
  · exact h

theorem freeCore_keeps {c : Fin 8} {s : State} (h : Keeps a s) : Keeps a (freeCore c s) :=
  refill_keeps (State.onCore_keeps h)

theorem placeAll_keeps {s : State} (h : Keeps a s) : Keeps a (placeAll s) :=
  Keeps.foldl (fun _ _ h1 => .ite (place_keeps h1) h1) (Keeps.foldl (fun _ _ h1 => refill_keeps h1) h)

theorem wakeThread_keeps {t cause rc : Nat} {s : State} (h : Keeps a s) : Keeps a (wakeThread t cause rc s) :=
  place_keeps (traceThread_keeps (State.count_keeps (State.onThread_keeps h)))

theorem raiseSched_keeps {n : Nat} {s : State} (h : Keeps a s) : Keeps a (raiseSched n s) := by
  unfold raiseSched
  dsimp only
  split
  · exact h
  · split
    · exact State.count_keeps h
    · split
      · exact State.count_keeps h
      · split
        · exact wakeThread_keeps (State.onThread_keeps h)
        · exact State.onThread_keeps h

theorem resolve_keeps {f : Nat} {t : BitVec 32} {s : State} (h : Keeps a s) : Keeps a (resolve f t s) :=
  State.onCluster_keeps h

theorem dropHeld_keeps {c : Fin 8} {s : State} (h : Keeps a s) : Keeps a (dropHeld c s) := State.onCore_keeps h

theorem traceHolder_keeps {kind : Nat} {h' : Holder} {core arg : Nat} {s : State} (h : Keeps a s) :
    Keeps a (traceHolder kind h' core arg s) := by
  unfold traceHolder
  split
  · exact traceThread_keeps h
  · exact trace_keeps h

theorem passTicket_keeps {k : Ticket} {s : State} (h : Keeps a s) : Keeps a (passTicket k s) :=
  resolve_keeps (State.count_keeps (traceHolder_keeps h))

theorem resumeHolder_keeps {h' : Holder} {s : State} (h : Keeps a s) : Keeps a (resumeHolder h' s) := by
  unfold resumeHolder
  dsimp only
  split
  · exact wakeThread_keeps h
  · exact dropHeld_keeps (State.onCore_keeps h)

theorem advanceGate_keeps {f fuel : Nat} {s : State} (h : Keeps a s) : Keeps a (advanceGate f fuel s) := by
  induction fuel generalizing s with
  | zero => exact h
  | succ fuel ih =>
    simp only [advanceGate]
    split
    · exact h
    · exact .ite (ih (State.onCluster_keeps h))
        (.ite (ih (State.onCluster_keeps (resumeHolder_keeps (passTicket_keeps h)))) h)

theorem advance_keeps {f : Nat} {s : State} (h : Keeps a s) : Keeps a (advance f s) := advanceGate_keeps h

theorem discardTickets_keeps {h' : Holder} {core : Nat} {s : State} (h : Keeps a s) : Keeps a (discardTickets h' core s) :=
  Keeps.foldl (fun _ _ h1 => .ite (advance_keeps (resolve_keeps (State.count_keeps (traceHolder_keeps h1)))) h1) h

theorem issueTicket_keeps {f : Nat} {x : Holder} {k : BitVec 32} {s t : State} (h : Keeps a s)
    (e : issueTicket f x s = some (k, t)) : Keeps a t := by
  unfold issueTicket at e
  split at e
  · cases e
  · cases e
    exact State.count_keeps (State.onCluster_keeps h)

theorem takeEvent_keeps {c : Fin 8} {s t : State} (h : Keeps a s) (e : takeEvent c s = some t) : Keeps a t := by
  unfold takeEvent at e
  split at e
  · cases e
  · dsimp only at e
    split at e
    · cases e
    · cases e
      refine trace_keeps (State.count_keeps (State.onCore_keeps ?_))
      split
      · split
        · exact issueTicket_keeps (State.onCluster_keeps h) (by assumption)
        · exact .snd (State.onCluster_keeps h)
      · exact .snd (State.onCluster_keeps h)

theorem feedEvp_keeps {s : State} (h : Keeps a s) : Keeps a (feedEvp s) := by
  refine Keeps.foldl (fun s c h => .ite ?_ h) h
  cases e : takeEvent c s with
  | none => exact h
  | some t => exact takeEvent_keeps h e

theorem putEvent2_keeps {q : Nat} {v : BitVec 64} {s t : State} (h : Keeps a s) (e : putEvent2 q v s = some t) :
    Keeps a t := by
  unfold putEvent2 at e
  split at e
  · cases e
  · rw [← Option.some.inj e]
    exact feedEvp_keeps (State.onCluster_keeps h)

theorem endDiscard_keeps {c : Fin 8} {s : State} (h : Keeps a s) : Keeps a (endDiscard c s) := by
  unfold endDiscard
  dsimp only
  split
  · exact h
  · refine feedEvp_keeps ?_
    split
    · exact advance_keeps (resolve_keeps (dropHeld_keeps (State.onCore_keeps h)))
    · exact dropHeld_keeps (State.onCore_keeps h)

theorem startThread_keeps {t : Nat} {s : State} (h : Keeps a s) : Keeps a (startThread t s) :=
  place_keeps (State.onThread_keeps h)

theorem stopThread_keeps {t : Nat} {st : ThreadStatus} {s : State} (h : Keeps a s) : Keeps a (stopThread t st s) := by
  unfold stopThread
  dsimp only
  split
  · refine refill_keeps ?_
    refine feedEvp_keeps ?_
    refine discardTickets_keeps ?_
    split
    · exact State.onCore_keeps (State.onCluster_keeps (State.onThread_keeps h))
    · exact State.onCluster_keeps (State.onThread_keeps h)
  · refine feedEvp_keeps ?_
    refine discardTickets_keeps ?_
    split
    · exact State.onCore_keeps (State.onCluster_keeps (State.onThread_keeps h))
    · exact State.onCluster_keeps (State.onThread_keeps h)

theorem faultThread_keeps {t : Nat} {c : Fin 8} {cause : Nat} {pc : BitVec 64} {s : State} (h : Keeps a s) :
    Keeps a (faultThread t c cause pc s) :=
  stopThread_keeps (raiseEvent_keeps (traceThread_keeps (State.count_keeps (State.onThread_keeps h))))

theorem faultEvp_keeps {c : Fin 8} {cause : Nat} {s : State} (h : Keeps a s) : Keeps a (faultEvp c cause s) :=
  feedEvp_keeps (State.onCore_keeps (dropHeld_keeps (discardTickets_keeps (State.onCore_keeps (raiseEvent_keeps
      (trace_keeps h))))))

theorem syncException_keeps {c : Fin 8} {bus : Bool} {pc : BitVec 64} {s : State} (h : Keeps a s) :
    Keeps a (syncException c bus pc s) := by
  unfold syncException
  dsimp only
  split
  · exact .ite (.ite (pmuEventIf_keeps (State.count_keeps (State.count_keeps h))) (State.count_keeps h)) (faultThread_keeps
      (.ite (pmuEventIf_keeps (State.count_keeps (State.count_keeps h))) (State.count_keeps h)))
  · exact .ite (faultEvp_keeps (.ite (pmuEventIf_keeps (State.count_keeps (State.count_keeps h))) (State.count_keeps h)))
      (.ite (pmuEventIf_keeps (State.count_keeps (State.count_keeps h))) (State.count_keeps h))

theorem resetCore_keeps {c : Fin 8} {s : State} (h : Keeps a s) : Keeps a (resetCore c s) := by
  unfold resetCore
  dsimp only
  refine feedEvp_keeps ?_
  refine State.onCore_keeps ?_
  refine dropHeld_keeps ?_
  refine discardTickets_keeps ?_
  refine State.onCore_keeps ?_
  split
  · exact faultThread_keeps h
  · exact h

theorem resetSched_keeps {s : State} (h : Keeps a s) : Keeps a (resetSched s) :=
  Keeps.foldl (fun _ _ h1 => .ite (startThread_keeps h1) h1) (State.onCluster_keeps (Keeps.foldl (fun _ _ h1 =>
      State.count_keeps (traceHolder_keeps h1)) (State.countN_keeps h)))

theorem applyThread_keeps {old : NMap Bytes} {t : Nat} {s : State} (h : Keeps a s) : Keeps a (applyThread old t s) := by
  unfold applyThread
  dsimp only
  split
  · exact .ite (startThread_keeps (State.onThread_keeps h)) (State.onThread_keeps h)
  · split
    · exact State.onThread_keeps (stopThread_keeps h)
    · split
      · split
        · exact .ite (.ite (State.onCluster_keeps (State.onThread_keeps h)) h) (preempt_keeps (.ite (State.onCluster_keeps
            (State.onThread_keeps h)) h))
        · exact .ite (State.onCluster_keeps (State.onThread_keeps h)) h
      · exact h

theorem applySched_keeps {old : NMap Bytes} {s : State} (h : Keeps a s) : Keeps a (applySched old s) := by
  unfold applySched
  dsimp only
  refine feedEvp_keeps ?_
  refine placeAll_keeps ?_
  split
  · refine State.onCluster_keeps ?_
    refine Keeps.foldl (fun _ _ h1 => applyThread_keeps h1) ?_
    refine Keeps.foldl (fun _ _ h1 => ?_) h
    split
    · refine discardTickets_keeps ?_
      refine endDiscard_keeps ?_
      refine State.onCore_keeps ?_
      split
      · exact preempt_keeps h1
      · exact h1
    · exact h1
  · split
    · refine State.onCluster_keeps ?_
      refine Keeps.foldl (fun _ _ h1 => applyThread_keeps h1) ?_
      refine Keeps.foldl (fun _ _ h1 => ?_) h
      split
      · refine discardTickets_keeps ?_
        refine endDiscard_keeps ?_
        refine State.onCore_keeps ?_
        split
        · exact preempt_keeps h1
        · exact h1
      · exact h1
    · refine Keeps.foldl (fun _ _ h1 => applyThread_keeps h1) ?_
      refine Keeps.foldl (fun _ _ h1 => ?_) h
      split
      · refine discardTickets_keeps ?_
        refine endDiscard_keeps ?_
        refine State.onCore_keeps ?_
        split
        · exact preempt_keeps h1
        · exact h1
      · exact h1

/-! ### Machine/Cluster -/

theorem setRegs_keeps {h' : Holder} {f : SchRegs → SchRegs} {s : State} (h : Keeps a s) : Keeps a (setRegs h' f s) := by
  unfold setRegs
  split
  · exact State.onThread_keeps h
  · exact State.onCore_keeps h

theorem setResult_keeps {h' : Holder} {rc : Nat} {s : State} (h : Keeps a s) : Keeps a (setResult h' rc s) :=
  setRegs_keeps h

theorem schedBoth_keeps {c : Fin 8} {s : State} {f : Holder → SchRegs → State → State} (h : Keeps a s)
    (hf : ∀ {x r s}, Keeps a s → Keeps a (f x r s)) : Keeps a (schedBoth c s f) := by
  unfold schedBoth
  split
  · exact h
  · exact hf h

theorem schedThread_keeps {c : Fin 8} {s : State} {f : Nat → SchRegs → State → State} (h : Keeps a s)
    (hf : ∀ {t r s}, Keeps a s → Keeps a (f t r s)) : Keeps a (schedThread c s f) := by
  refine schedBoth_keeps h fun h => ?_
  split
  · exact hf h
  · exact setResult_keeps h

theorem schedEvp_keeps {c : Fin 8} {s : State} {f : SchRegs → State → State} (h : Keeps a s)
    (hf : ∀ {r s}, Keeps a s → Keeps a (f r s)) : Keeps a (schedEvp c s f) := by
  refine schedBoth_keeps h fun h => ?_
  split
  · exact setResult_keeps h
  · exact hf h

theorem privileged_keeps {c : Fin 8} {userPc : Option (BitVec 64)} {s : State} {f : State → State} (h : Keeps a s)
    (hf : ∀ {s}, Keeps a s → Keeps a (f s)) : Keeps a (privileged c userPc s f) := by
  unfold privileged
  split
  · exact hf h
  · exact .ite (syncException_keeps h) h

theorem execSchNop_keeps {c : Fin 8} {s : State} (h : Keeps a s) : NextKeeps a (execSchNop c s) :=
  .next (schedBoth_keeps h (fun h1 => setResult_keeps h1))

theorem execWait_keeps {c : Fin 8} {s : State} (h : Keeps a s) : NextKeeps a (execWait c s) :=
  .next (schedThread_keeps h (fun h1 => .ite (setResult_keeps h1) (freeCore_keeps (State.onThread_keeps (traceThread_keeps
      h1)))))

theorem execPost_keeps {c : Fin 8} {s : State} (h : Keeps a s) : NextKeeps a (execPost c s) := by
  unfold execPost
  dsimp only
  refine .next ?_
  refine schedBoth_keeps h ?_
  refine fun h1 => ?_
  split
  · exact setResult_keeps h1
  · split
    · exact wakeThread_keeps (State.onThread_keeps (setResult_keeps h1))
    · exact State.onThread_keeps (setResult_keeps h1)

theorem sliceOut_keeps {c : Fin 8} {t cause : Nat} {s : State} (h : Keeps a s) : Keeps a (sliceOut c t cause s) :=
  .ite (freeCore_keeps (State.onCluster_keeps (State.onThread_keeps (traceThread_keeps (.ite (State.count_keeps h) h))))) h

theorem execYield_keeps {c : Fin 8} {s : State} (h : Keeps a s) : NextKeeps a (execYield c s) :=
  .next (schedThread_keeps h (fun h1 => sliceOut_keeps (setResult_keeps h1)))

theorem execExit_keeps {c : Fin 8} {s : State} (h : Keeps a s) : NextKeeps a (execExit c s) :=
  .next (schedThread_keeps h (fun h1 => stopThread_keeps (traceThread_keeps (setResult_keeps h1))))

theorem execStart_keeps {c : Fin 8} {userPc : Option (BitVec 64)} {s : State} (h : Keeps a s) :
    NextKeeps a (execStart c userPc s) :=
  .next (privileged_keeps h (fun h1 => schedBoth_keeps h1 (fun h2 => .ite (startThread_keeps (setResult_keeps h2))
      (setResult_keeps h2))))

theorem execRaise_keeps {c : Fin 8} {s : State} (h : Keeps a s) : NextKeeps a (execRaise c s) :=
  .next (schedBoth_keeps h (fun h1 => .ite (raiseSched_keeps (setResult_keeps h1)) (setResult_keeps h1)))

theorem execFlowEnter_keeps {c : Fin 8} {s : State} (h : Keeps a s) : NextKeeps a (execFlowEnter c s) := by
  refine .next (schedBoth_keeps h fun h => ?_)
  split
  · exact setResult_keeps h
  · exact setRegs_keeps (setResult_keeps (issueTicket_keeps h (by assumption)))

theorem execFlowRelease_keeps {c : Fin 8} {s : State} (h : Keeps a s) : NextKeeps a (execFlowRelease c s) := by
  unfold execFlowRelease
  dsimp only
  refine .next ?_
  refine schedThread_keeps h ?_
  refine fun h1 => ?_
  split
  · exact setResult_keeps h1
  · exact .ite (feedEvp_keeps (advance_keeps (passTicket_keeps (setResult_keeps h1)))) (freeCore_keeps
      (State.onThread_keeps (traceThread_keeps (setResult_keeps h1))))

theorem execFlowDrop_keeps {c : Fin 8} {s : State} (h : Keeps a s) : NextKeeps a (execFlowDrop c s) := by
  unfold execFlowDrop
  refine .next ?_
  refine schedBoth_keeps h ?_
  refine fun h1 => ?_
  split
  · exact setResult_keeps h1
  · exact feedEvp_keeps (advance_keeps (resolve_keeps (setResult_keeps h1)))

theorem execTakeEvent_keeps {c : Fin 8} {s : State} (h : Keeps a s) : NextKeeps a (execTakeEvent c s) := by
  refine .next (schedEvp_keeps h fun h => .ite (setResult_keeps h) ?_)
  split
  · exact takeEvent_keeps h (by assumption)
  · exact State.onCore_keeps h

theorem execPutEvent_keeps {c : Fin 8} {s : State} (h : Keeps a s) : NextKeeps a (execPutEvent c s) := by
  refine .next (schedBoth_keeps h fun h => .ite (setResult_keeps h) ?_)
  split
  · exact putEvent2_keeps (setResult_keeps h) (by assumption)
  · exact setResult_keeps h

theorem execSetPriority_keeps {c : Fin 8} {userPc : Option (BitVec 64)} {s : State} (h : Keeps a s) :
    NextKeeps a (execSetPriority c userPc s) := by
  unfold execSetPriority
  dsimp only
  refine .next ?_
  refine privileged_keeps h ?_
  refine fun h1 => ?_
  refine schedThread_keeps h1 ?_
  refine fun h2 => ?_
  split
  · exact setResult_keeps h2
  · split
    · exact .ite (place_keeps (dispatch_keeps (preempt_keeps (State.onThread_keeps (setResult_keeps h2)))))
        (State.onThread_keeps (setResult_keeps h2))
    · exact State.onThread_keeps (setResult_keeps h2)

theorem execNotify_keeps {c : Fin 8} {s : State} (h : Keeps a s) : NextKeeps a (execNotify c s) :=
  .next (schedBoth_keeps h (fun h1 => raiseEvent_keeps (setResult_keeps h1)))

theorem execEndEvent_keeps {c : Fin 8} {s : State} (h : Keeps a s) : NextKeeps a (execEndEvent c s) := by
  unfold execEndEvent
  dsimp only
  refine .next ?_
  refine schedEvp_keeps h ?_
  refine fun h1 => ?_
  split
  · exact setResult_keeps h1
  · split
    · exact endDiscard_keeps (setResult_keeps h1)
    · split
      · exact endDiscard_keeps (setResult_keeps h1)
      · exact .ite (endDiscard_keeps (setResult_keeps h1)) (.ite (feedEvp_keeps (advance_keeps (dropHeld_keeps
          (passTicket_keeps (setResult_keeps h1))))) (State.onCore_keeps (trace_keeps (setResult_keeps h1))))

theorem execSchWakeRead_keeps {c : Fin 8} {high : Bool} {s : State} (h : Keeps a s) :
    NextKeeps a (execSchWakeRead c high s) := by
  unfold execSchWakeRead
  dsimp only
  refine .next ?_
  split
  · exact State.onThread_keeps (State.onKci_keeps h)
  · exact State.onKci_keeps h

theorem execSchPostsRead_keeps {c : Fin 8} {s : State} (h : Keeps a s) : NextKeeps a (execSchPostsRead c s) := by
  unfold execSchPostsRead
  refine .next ?_
  split
  · exact State.onThread_keeps (State.onKci_keeps h)
  · exact State.onKci_keeps h

theorem pmuLatch_keeps {bank : Fin 13} {n : Fin 9} {s : State} (h : Keeps a s) : Keeps a (pmuLatch bank n s) := by
  unfold pmuLatch
  dsimp only
  exact State.onCluster_keeps h

theorem execSchRead_keeps {c : Fin 8} {off : Nat} {s : State} (h : Keeps a s) : NextKeeps a (execSchRead c off s) :=
  .ite (execSchWakeRead_keeps h) (.ite (execSchWakeRead_keeps h) (.ite (execSchPostsRead_keeps h) (.next (State.onKci_keeps
      h))))

theorem execSchOp_keeps {c : Fin 8} {op : Nat} {s : State} (h : Keeps a s) : NextKeeps a (execSchOp c op s) := by
  unfold execSchOp
  split
  · exact execSchNop_keeps h
  · exact execWait_keeps h
  · exact execPost_keeps h
  · exact execYield_keeps h
  · exact execExit_keeps h
  · exact execStart_keeps h
  · exact execRaise_keeps h
  · exact execFlowEnter_keeps h
  · exact execFlowRelease_keeps h
  · exact execFlowDrop_keeps h
  · exact execTakeEvent_keeps h
  · exact execPutEvent_keeps h
  · exact execSetPriority_keeps h
  · exact execNotify_keeps h
  · exact execEndEvent_keeps h
  · exact .next (schedBoth_keeps h (fun h1 => setResult_keeps h1))

theorem execPmuLowWordRead_keeps {c : Fin 8} {userPc : Option (BitVec 64)} {bank : Fin 13} {n : Fin 9} {s : State}
    (h : Keeps a s) :
    NextKeeps a (execPmuLowWordRead c userPc bank n s) := by
  unfold execPmuLowWordRead
  split
  · exact .next h
  · exact .next (syncException_keeps h)
  · exact .next (State.onKci_keeps (pmuLatch_keeps h))

theorem execWaitTimeout_keeps {who : Waiter} {s : State} (h : Keeps a s) : NextKeeps a (execWaitTimeout who s) := by
  unfold execWaitTimeout
  refine .next ?_
  split
  · split
    · exact .ite (wakeThread_keeps h) h
    · exact h
  · split
    · exact .ite (setResult_keeps (State.onCore_keeps h)) h
    · exact h

theorem execQuantumExpiry_keeps {c : Fin 8} {s : State} (h : Keeps a s) : NextKeeps a (execQuantumExpiry c s) := by
  unfold execQuantumExpiry
  dsimp only
  refine .next ?_
  split
  · exact .ite (sliceOut_keeps h) h
  · exact h

theorem execCoreClockGate_keeps {c : Fin 8} {s : State} (h : Keeps a s) : NextKeeps a (execCoreClockGate c s) :=
  .ite (.next (State.onCore_keeps h)) (.next h)

theorem execSyncException_keeps {c : Fin 8} {bus : Bool} {pc : BitVec 64} {s : State} (h : Keeps a s) :
    NextKeeps a (execSyncException c bus pc s) := .ite (.next (syncException_keeps h)) (.next h)

theorem execCoreHang_keeps {c : Fin 8} {s : State} (h : Keeps a s) : NextKeeps a (execCoreHang c s) :=
  .ite (.next (raiseSource_keeps h)) (.next h)

theorem execSchedConfig_keeps {buf : Bytes} {s : State} (h : Keeps a s) : NextKeeps a (execSchedConfig buf s) := by
  unfold execSchedConfig
  refine .next ?_
  refine runKci_keeps ?_ h
  refine fun h1 => ?_
  split
  · exact .refuse
  · exact stageOne_keeps h1

theorem execThreadTableLoad_keeps {buf : Bytes} {s : State} (h : Keeps a s) : NextKeeps a (execThreadTableLoad buf s) := by
  unfold execThreadTableLoad
  dsimp only
  refine .next ?_
  refine runKci_keeps ?_ h
  refine fun h1 => ?_
  split
  · exact .refuse
  · split
    · exact .refuse
    · split
      · exact .refuse
      · exact .done (stageRun_keeps h1)

theorem execClusterPost_keeps {buf : Bytes} {s : State} (h : Keeps a s) : NextKeeps a (execClusterPost buf s) := by
  refine .next (runKci_keeps (fun h => .ite .refuse (.ite .refuse (.ite (.ite .refuse (.done (raiseSched_keeps h)))
    (.ite (.ite .refuse ?_) .refuse)))) h)
  split
  · exact .done (putEvent2_keeps h (by assumption))
  · exact .refuse

theorem execClusterMemWrite_keeps {buf : Bytes} {s : State} (h : Keeps a s) : NextKeeps a (execClusterMemWrite buf s) :=
  .next (runKci_keeps (fun h1 => .ite (.done (State.store_keeps h1)) .refuse) h)

theorem execThreadRead_keeps {buf : Bytes} {s : State} (h : Keeps a s) : NextKeeps a (execThreadRead buf s) :=
  .next (runKci_keeps (fun h1 => .ite .refuse (.done h1)) h)

theorem execTraceRead_keeps {buf : Bytes} {s : State} (h : Keeps a s) : NextKeeps a (execTraceRead buf s) :=
  .next (runKci_keeps (fun h1 => .ite .refuse (.ite .refuse (.done h1))) h)

theorem execPmuConfig_keeps {buf : Bytes} {s : State} (h : Keeps a s) : NextKeeps a (execPmuConfig buf s) := by
  unfold execPmuConfig
  dsimp only
  refine .next ?_
  refine runKci_keeps ?_ h
  refine fun h1 => ?_
  split
  · split
    · exact .refuse
    · split
      · exact .refuse
      · exact .ite .refuse (.done (State.onCluster_keeps h1))
  · exact .refuse

theorem execPmuRead_keeps {buf : Bytes} {s : State} (h : Keeps a s) : NextKeeps a (execPmuRead buf s) := by
  unfold execPmuRead
  dsimp only
  refine .next ?_
  refine runKci_keeps ?_ h
  refine fun h1 => ?_
  split
  · exact .ite .refuse (.done h1)
  · exact .refuse

/-! ### Machine/Keys -/

theorem State.onJournal_keeps {s : State} {f : Journal → Journal} (h : Keeps a s) : Keeps a (State.onJournal s f) :=
  State.onCipher_keeps h

theorem appendRecord_keeps {r : JRecord} {s : State} (h : Keeps a s) : Keeps a (appendRecord r s) :=
  .ite h (State.onJournal_keeps h)

theorem stepJournal_keeps {f : Journal → Journal} {s : State} (h : Keeps a s) : Keeps a (stepJournal f s) :=
  .ite (State.onJournal_keeps h) (Keeps.foldl (fun _ _ h1 => raiseEvent_keeps h1) (State.onJournal_keeps h))

theorem setSlot_keeps {k : Nat} {x : TxSlot} {s : State} (h : Keeps a s) : Keeps a (setSlot k x s) := State.onCipher_keeps h

theorem reserveCeiling_keeps {k ceiling : Nat} {s : State} (h : Keeps a s) : Keeps a (reserveCeiling k ceiling s) :=
  .ite h (appendRecord_keeps h)

theorem reserveAhead_keeps {k : Nat} {x : TxSlot} {s : State} (h : Keeps a s) : Keeps a (reserveAhead k x s) :=
  .ite (reserveCeiling_keeps h) h

theorem takeCounter_keeps {k g : Nat} {s : State} (h : Keeps a s) : CounterKeeps a (takeCounter k g s) := by
  unfold takeCounter
  split
  · exact .refused h
  · dsimp only
    split
    · exact .refused h
    · split
      · exact .refused h
      · split
        · split
          · exact .refused (State.count_keeps h)
          · exact .refused (raiseEvent_keeps (State.onCipher_keeps (State.count_keeps h)))
        · split
          · split
            · exact .refused h
            · exact .waits (reserveCeiling_keeps (State.count_keeps h))
          · exact .taken (reserveAhead_keeps (setSlot_keeps (.ite (raiseEvent_keeps h) h)))

theorem retireKey_keeps {k : Nat} {s : State} (h : Keeps a s) : Keeps a (retireKey k s) :=
  .ite h (State.onCipher_keeps (appendRecord_keeps h))

theorem openSlot_keeps {k : Nat} {s : State} (h : Keeps a s) : Keeps a (openSlot k s) :=
  .ite h (reserveCeiling_keeps (setSlot_keeps h))

theorem applyKeys_keeps {old : NMap Bytes} {s : State} (h : Keeps a s) : Keeps a (applyKeys old s) := by
  unfold applyKeys
  dsimp only
  exact State.onCoh_keeps (State.onCipher_keeps (Keeps.foldl (fun _ _ h1 => openSlot_keeps h1) (Keeps.foldl (fun _ _ h1 =>
      retireKey_keeps h1) h)))

theorem recordDurable_keeps {r : JRecord} {s : State} (h : Keeps a s) : Keeps a (recordDurable r s) := by
  unfold recordDurable
  dsimp only
  split
  · exact State.count_keeps (stepJournal_keeps h)
  · exact .ite (reserveCeiling_keeps (State.count_keeps (stepJournal_keeps h))) (.ite (setSlot_keeps (State.count_keeps
      (stepJournal_keeps h))) (State.count_keeps (stepJournal_keeps h)))

theorem recordFailed_keeps {s : State} (h : Keeps a s) : Keeps a (recordFailed s) :=
  .ite (raiseSource_keeps (raiseEvent_keeps (State.onJournal_keeps (stepJournal_keeps (State.free_keeps h)))))
      (stepJournal_keeps (State.free_keeps h))

theorem execJournalRetry_keeps {s : State} (h : Keeps a s) : NextKeeps a (execJournalRetry s) :=
  .ite (.next (State.onJournal_keeps h)) (.next h)

theorem execSectorEraseDone_keeps {ok : Bool} {s : State} (h : Keeps a s) : NextKeeps a (execSectorEraseDone ok s) := by
  unfold execSectorEraseDone
  dsimp only
  split
  · exact .next h
  · exact .ite (.next h) (.ite (.next (State.count_keeps (stepJournal_keeps h))) (.next (raiseEvent_keeps h)))

/-! ### Machine/Cipher -/

theorem State.onPage_keeps {s : State} {p : Fin 32} {f : Page → Page} (h : Keeps a s) : Keeps a (State.onPage s p f) :=
  State.onCipher_keeps h

theorem denyPage_keeps {p : Fin 32} {s : State} (h : Keeps a s) : Keeps a (denyPage p s) :=
  raiseSource_keeps (State.count_keeps h)

theorem useKey_keeps {k n blocks : Nat} {s : State} (h : Keeps a s) : Keeps a (useKey k n blocks s) :=
  State.countN_keeps (State.countN_keeps (State.onCipher_keeps (.ite h (State.count_keeps h))))

theorem loadKey_keeps {p : Fin 32} {i : Nat} {s : State} (h : Keeps a s) : Keeps a (loadKey p i s).2 := by
  unfold loadKey
  dsimp only
  split
  · exact h
  · split
    · exact h
    · split
      · exact .snd (.ite (raiseSource_keeps (State.count_keeps (State.count_keeps h))) (State.count_keeps h))
      · exact .snd (useKey_keeps (State.onPage_keeps h))

theorem withKey_keeps {p : Fin 32} {s : State} {f : Bytes → Page → Page} (h : Keeps a s) : Keeps a (withKey p s f).2 := by
  unfold withKey
  split
  · exact h
  · exact .snd (State.count_keeps (State.onPage_keeps h))

theorem runPageOp_keeps {p : Fin 32} {o : PageOp} {s : State} (h : Keeps a s) : Keeps a (runPageOp p o s).2 := by
  unfold runPageOp
  split
  · exact h
  · split
    · exact h
    · exact loadKey_keeps h
    · exact withKey_keeps h
    · exact withKey_keeps h
    · exact withKey_keeps h
    · split
      · exact h
      · exact .snd (State.onPage_keeps h)
    · exact .snd (State.onPage_keeps h)
    · exact withKey_keeps h
    · exact withKey_keeps h
    · exact .snd (State.onPage_keeps h)
    · exact h

theorem grantCore_keeps {s : State} {c : Fin 4} (h : Keeps a s) : Keeps a (grantCore s c) := by
  unfold grantCore
  dsimp only
  split
  · exact h
  · split
    · exact .ite (State.onCipher_keeps h) (State.onCipher_keeps h)
    · exact State.onCipher_keeps h
    · exact State.onCipher_keeps h
    · exact h

theorem grantCores_keeps {s : State} (h : Keeps a s) : Keeps a (grantCores s) :=
  Keeps.foldl (fun _ _ h1 => grantCore_keeps h1) h

theorem leaveCore_keeps {p : Fin 32} {s : State} (h : Keeps a s) : Keeps a (leaveCore p s) := State.onCipher_keeps h

theorem beginJob_keeps {p : Fin 32} {op rc : Nat} {good : Bool} {s : State} (h : Keeps a s) :
    Keeps a (beginJob p op rc good s) := grantCores_keeps (State.onPage_keeps h)

theorem issueOp_keeps {by_ : BusMaster} {p : Fin 32} {op : Nat} {s : State} {f : State → Nat × State} (h : Keeps a s)
    (hf : ∀ {s}, Keeps a s → Keeps a (f s).2) : Keeps a (issueOp by_ p op s f) :=
  .ite h (.ite (denyPage_keeps h) (.ite h (.ite (State.count_keeps h) (beginJob_keeps (hf h)))))

theorem issuePlain_keeps {by_ : BusMaster} {p : Fin 32} {op block len : Nat} {s : State} (h : Keeps a s) :
    Keeps a (issuePlain by_ p op block len s) := issueOp_keeps h (fun h1 => runPageOp_keeps h1)

theorem execKeyLoad_keeps {by_ : BusMaster} {p : Fin 32} {s : State} (h : Keeps a s) : NextKeeps a (execKeyLoad by_ p s) :=
  .next (issuePlain_keeps h)

theorem execPageNop_keeps {by_ : BusMaster} {p : Fin 32} {s : State} (h : Keeps a s) : NextKeeps a (execPageNop by_ p s) :=
  .next (issuePlain_keeps h)

theorem execEnc_keeps {by_ : BusMaster} {p : Fin 32} {s : State} (h : Keeps a s) : NextKeeps a (execEnc by_ p s) :=
  .next (issuePlain_keeps h)

theorem execDec_keeps {by_ : BusMaster} {p : Fin 32} {s : State} (h : Keeps a s) : NextKeeps a (execDec by_ p s) :=
  .next (issuePlain_keeps h)

theorem execMacIn_keeps {by_ : BusMaster} {p : Fin 32} {s : State} (h : Keeps a s) : NextKeeps a (execMacIn by_ p s) :=
  .next (issuePlain_keeps h)

theorem execMacRead_keeps {by_ : BusMaster} {p : Fin 32} {s : State} (h : Keeps a s) : NextKeeps a (execMacRead by_ p s) :=
  .next (issuePlain_keeps h)

theorem execLoadQ_keeps {by_ : BusMaster} {p : Fin 32} {block : Fin 128} {len : Fin 16} {s : State} (h : Keeps a s) :
    NextKeeps a (execLoadQ by_ p block len s) := .next (issuePlain_keeps h)

theorem execCtrQ_keeps {by_ : BusMaster} {p : Fin 32} {block : Fin 128} {len : Fin 16} {s : State} (h : Keeps a s) :
    NextKeeps a (execCtrQ by_ p block len s) := .next (issuePlain_keeps h)

theorem execMacQ_keeps {by_ : BusMaster} {p : Fin 32} {block : Fin 128} {len : Fin 16} {s : State} (h : Keeps a s) :
    NextKeeps a (execMacQ by_ p block len s) := .next (issuePlain_keeps h)

theorem execClear_keeps {by_ : BusMaster} {p : Fin 32} {s : State} (h : Keeps a s) : NextKeeps a (execClear by_ p s) :=
  .next (issuePlain_keeps h)

theorem issueVerify_keeps {by_ : BusMaster} {p : Fin 32} {block len : Nat} {s : State} (h : Keeps a s) :
    Keeps a (issueVerify by_ p block len s) := by
  unfold issueVerify
  dsimp only
  split
  · exact h
  · split
    · exact denyPage_keeps h
    · split
      · exact h
      · split
        · exact State.count_keeps h
        · split
          · exact beginJob_keeps (.ite (State.onPage_keeps h) h)
          · exact .ite (beginJob_keeps (State.onPage_keeps h)) (beginJob_keeps (State.count_keeps h))

theorem execTagVerify_keeps {by_ : BusMaster} {p : Fin 32} {s : State} (h : Keeps a s) :
    NextKeeps a (execTagVerify by_ p s) := .next (issueVerify_keeps h)

theorem pageVerdict_keeps {p : Fin 32} {j : PageJob} {s : State} (h : Keeps a s) : Keeps a (pageVerdict p j s) :=
  State.count_keeps (State.onPage_keeps (.ite (State.store_keeps h) h))

theorem pageDone_keeps {p : Fin 32} {s : State} (h : Keeps a s) : Keeps a (pageDone p s) := .ite (raiseSched_keeps h) h

theorem coreFails_keeps {c : Fin 4} {s : State} (h : Keeps a s) : Keeps a (coreFails c s) :=
  raiseSource_keeps (grantCores_keeps (State.onCipher_keeps h))

theorem execPageOperationDone_keeps {p : Fin 32} {disagree : Option (Fin 4)} {s : State} (h : Keeps a s) :
    NextKeeps a (execPageOperationDone p disagree s) := by
  unfold execPageOperationDone
  split
  · exact .next (coreFails_keeps (leaveCore_keeps h))
  · exact .next h
  · exact .ite (.next h) (.next (pageDone_keeps (grantCores_keeps (leaveCore_keeps (State.onPage_keeps h)))))

theorem freeBytes_keeps {n : Nat} {s : State} (h : Keeps a s) : Keeps a (freeBytes n s).2 := by
  rw [freeBytes_frame]
  exact .of_eq h

theorem saveCtx_keeps {p : Fin 32} {wrapped : Bool} {addr : Nat} {s : State} (h : Keeps a s) :
    Keeps a (saveCtx p wrapped addr s).2 := by
  unfold saveCtx
  dsimp only
  split
  · exact h
  · split
    · exact h
    · split
      · exact h
      · exact .snd (State.count_keeps (State.onCipher_keeps (State.store_keeps (freeBytes_keeps h))))

theorem restoreCtx_keeps {p : Fin 32} {wrapped : Bool} {addr : Nat} {s : State} (h : Keeps a s) :
    Keeps a (restoreCtx p wrapped addr s).2 := by
  unfold restoreCtx
  dsimp only
  split
  · exact h
  · split
    · exact h
    · split
      · exact .snd (State.count_keeps (State.onPage_keeps h))
      · split
        · exact .snd (State.count_keeps h)
        · exact .snd (State.count_keeps (State.onPage_keeps (State.free_keeps (State.free_keeps (freeBytes_keeps
            (freeBytes_keeps (State.free_keeps (freeBytes_keeps h))))))))

theorem ctxCommand_keeps {p : Fin 32} {op : Nat} {s : State} (h : Keeps a s) : Keeps a (ctxCommand p op s).2 := by
  unfold ctxCommand
  dsimp only
  split
  · exact saveCtx_keeps h
  · exact restoreCtx_keeps h

theorem execCtxSave_keeps {by_ : BusMaster} {p : Fin 32} {wrapped : Bool} {addr : Nat} {s : State} (h : Keeps a s) :
    NextKeeps a (execCtxSave by_ p wrapped addr s) := .next (issueOp_keeps h (fun h1 => saveCtx_keeps h1))

theorem execCtxRestore_keeps {by_ : BusMaster} {p : Fin 32} {wrapped : Bool} {addr : Nat} {s : State} (h : Keeps a s) :
    NextKeeps a (execCtxRestore by_ p wrapped addr s) := .next (issueOp_keeps h (fun h1 => restoreCtx_keeps h1))

theorem writePgCmd_keeps {by_ : BusMaster} {p : Fin 32} {v : Nat} {s : State} (h : Keeps a s) :
    Keeps a (writePgCmd by_ p v s) :=
  .ite (issueVerify_keeps h) (.ite (issueOp_keeps h (fun h1 => ctxCommand_keeps h1)) (issuePlain_keeps h))

theorem execPageAccess_keeps {by_ : BusMaster} {p : Fin 32} {offset : Nat} {value : Option (BitVec 32)} {s : State}
    (h : Keeps a s) :
    NextKeeps a (execPageAccess by_ p offset value s) := by
  unfold execPageAccess
  dsimp only
  split
  · exact .next h
  · split
    · exact .next (.ite (denyPage_keeps h) (State.onKci_keeps (denyPage_keeps h)))
    · split
      · exact .next (.ite (writePgCmd_keeps h) (State.onPage_keeps h))
      · exact .next (State.onKci_keeps h)

theorem execCipherPageConfig_keeps {buf : Bytes} {s : State} (h : Keeps a s) : NextKeeps a (execCipherPageConfig buf s) :=
  .next (runKci_keeps (fun h1 => .ite .refuse (stageOne_keeps h1)) h)

theorem importAll_keeps {form : Nat} {kek : Bytes} {n : Nat} {es : List Bytes} {s : State} (h : Keeps a s) :
    Keeps a (importAll form kek n es s).2 := by
  induction es generalizing n s with
  | nil => exact h
  | cons e es ih =>
    simp only [importAll]
    split
    · exact ih (State.stage_keeps h)
    · exact h

theorem execKeyImport_keeps {buf : Bytes} {s : State} (h : Keeps a s) : NextKeeps a (execKeyImport buf s) := by
  refine .next (runKci_keeps (fun h => .ite .refuse (.ite .refuse (.ite .refuse (.ite .refuse (.ite .refuse ?_))))) h)
  split
  · exact .refuse
  · split
    · exact .done (.ite (State.count_keeps h) h)
    · exact .ite .refuse (.done (addWrites_keeps (.of_pair (importAll_keeps h) (by assumption))))

theorem stageDelete_keeps {s : State} {i : Nat} (h : Keeps a s) : Keeps a (stageDelete s i) :=
  State.stage_keeps (State.stage_keeps h)

theorem execKeyDelete_keeps {buf : Bytes} {s : State} (h : Keeps a s) : NextKeeps a (execKeyDelete buf s) :=
  .next (runKci_keeps (fun h1 => .ite .refuse (.ite .refuse (.ite .refuse (.done (Keeps.foldl (fun _ _ h2 =>
      stageDelete_keeps h2) (addWrites_keeps h1)))))) h)

theorem execKeyStoreRead_keeps {buf : Bytes} {s : State} (h : Keeps a s) : NextKeeps a (execKeyStoreRead buf s) :=
  .next (runKci_keeps (fun h1 => .ite .refuse (.done h1)) h)

theorem hostOp_keeps {p : Fin 32} {o : PageOp} {s : State} (h : Keeps a s) : Keeps a (hostOp p o s).2.2 := by
  have counted {n m : Nat} : Keeps a (((s.onPage p wipePage).count cipherFn n).count cipherFn m) :=
    State.count_keeps (State.count_keeps (State.onPage_keeps h))
  unfold hostOp
  split
  · split
    · exact .ite (State.onPage_keeps h) h
    · dsimp only
      split
      · exact counted
      · exact counted
  · split
    · exact h
    · exact runPageOp_keeps h

theorem hostRun_keeps {p : Fin 32} {os : List PageOp} {n : Nat} {outs rel : Bytes} {s : State} (h : Keeps a s) :
    Keeps a (hostRun p os n outs rel s).2.2.2.2 := by
  induction os generalizing n outs rel s with
  | nil => exact h
  | cons o os ih =>
    simp only [hostRun]
    split
    · exact ih (hostOp_keeps h)
    · exact hostOp_keeps h

theorem execPageRun_keeps {buf : Bytes} {s : State} (h : Keeps a s) : NextKeeps a (execPageRun buf s) :=
  .next (runKci_keeps (fun h => .ite .refuse (.ite .refuse (.ite .refuse (.ite .refuse (.ite .refuse
    (.done (State.onPage_keeps (hostRun_keeps h)))))))) h)

theorem execKeyCounterRead_keeps {buf : Bytes} {s : State} (h : Keeps a s) : NextKeeps a (execKeyCounterRead buf s) := by
  unfold execKeyCounterRead
  dsimp only
  refine .next ?_
  refine runKci_keeps ?_ h
  refine fun h1 => ?_
  split
  · exact .refuse
  · split
    · exact .done h1
    · exact .done h1

theorem resetPage_keeps {p : Fin 32} {s : State} (h : Keeps a s) : Keeps a (resetPage p s) :=
  grantCores_keeps (leaveCore_keeps (State.onPage_keeps h))

theorem resetCipher_keeps {s : State} (h : Keeps a s) : Keeps a (resetCipher s) := State.onCipher_keeps h

theorem applyPage_keeps {old : NMap Bytes} {p : Fin 32} {s : State} (h : Keeps a s) : Keeps a (applyPage old p s) :=
  .ite (resetPage_keeps h) h

/-! ### Machine/Memory -/

theorem State.onChannel_keeps {s : State} {c : Fin 2} {f : Channel → Channel} (h : Keeps a s) :
    Keeps a (State.onChannel s c f) := State.onMem_keeps h

theorem State.onRecorder_keeps {s : State} {r : Fin 3} {f : Recorder → Recorder} (h : Keeps a s) :
    Keeps a (State.onRecorder s r f) := State.onMem_keeps h

theorem logError_keeps {type pa fn : Nat} {syndrome : BitVec 8} {s : State} (h : Keeps a s) :
    Keeps a (logError type pa fn syndrome s) := State.onMem_keeps h

theorem startMigration_keeps {c : Fin 2} {cause : Nat} {tag : Option Nat} {s : State} (h : Keeps a s) :
    Keeps a (startMigration c cause tag s) := raiseEvent_keeps (State.onChannel_keeps h)

theorem triggerMigration_keeps {c : Fin 2} {cause : Nat} {s : State} (h : Keeps a s) :
    Keeps a (triggerMigration c cause s) := .ite (startMigration_keeps h) h

theorem dramCe_keeps {pa fn : Nat} {syndrome : BitVec 8} {s : State} (h : Keeps a s) : Keeps a (dramCe pa fn syndrome s) :=
  .ite (triggerMigration_keeps (State.onChannel_keeps (raiseSource_keeps (State.count_keeps (logError_keeps h)))))
      (State.onChannel_keeps (raiseSource_keeps (State.count_keeps (logError_keeps h))))

theorem dramUe_keeps {pa fn : Nat} {syndrome : BitVec 8} {s : State} (h : Keeps a s) : Keeps a (dramUe pa fn syndrome s) :=
  triggerMigration_keeps (raiseSource_keeps (raiseEvent_keeps (State.onMem_keeps (State.count_keeps (logError_keeps h)))))

theorem sramCe_keeps {pa fn : Nat} {syndrome : BitVec 8} {s : State} (h : Keeps a s) : Keeps a (sramCe pa fn syndrome s) :=
  raiseSource_keeps (State.count_keeps (logError_keeps h))

theorem sramUe_keeps {pa fn : Nat} {syndrome : BitVec 8} {s : State} (h : Keeps a s) : Keeps a (sramUe pa fn syndrome s) :=
  raiseSource_keeps (State.onMem_keeps (State.count_keeps (logError_keeps h)))

theorem wordError_keeps {pa fn : Nat} {ue : Bool} {syndrome : BitVec 8} {s : State} (h : Keeps a s) :
    Keeps a (wordError pa fn ue syndrome s) :=
  .ite (.ite (sramUe_keeps h) (sramCe_keeps h)) (.ite (dramUe_keeps h) (dramCe_keeps h))

theorem meetPoison_keeps {lo hi : Nat} {s : State} (h : Keeps a s) : Keeps a (meetPoison lo hi s).2 := by
  unfold meetPoison
  dsimp only
  split
  · exact h
  · exact .snd (State.free_keeps h)

theorem rowAccess_keeps {by_ : BusMaster} {pa : Nat} {s : State} (h : Keeps a s) : Keeps a (rowAccess by_ pa s) := by
  unfold rowAccess
  dsimp only
  exact State.onMem_keeps (.ite (State.count_keeps h) (pmuEventIf_keeps (State.count_keeps h)))

theorem countDram_keeps {by_ : BusMaster} {pa n : Nat} {write : Bool} {s : State} (h : Keeps a s) :
    Keeps a (countDram by_ pa n write s) :=
  .ite h (.ite (.ite (State.count_keeps (State.countN_keeps (State.count_keeps (pmuEventIf_keeps (rowAccess_keeps h)))))
      (State.countN_keeps (State.count_keeps (pmuEventIf_keeps (rowAccess_keeps h))))) (State.countN_keeps
          (State.count_keeps (pmuEventIf_keeps (rowAccess_keeps h)))))

theorem execConfigWriteDenied_keeps {_c : Fin 8} {fn : Nat} {s : State} (h : Keeps a s) :
    NextKeeps a (execConfigWriteDenied _c fn s) := .next (raiseSource_keeps h)

theorem execSramScrubStep_keeps {bad : Fin 3} {syndrome : BitVec 8} {s : State} (h : Keeps a s) :
    NextKeeps a (execSramScrubStep bad syndrome s) :=
  .ite (.next h) (.ite (.next (State.onMem_keeps (.ite (sramUe_keeps h) (.ite (sramCe_keeps h) h)))) (.next
      (State.count_keeps (State.onMem_keeps (.ite (sramUe_keeps h) (.ite (sramCe_keeps h) h))))))

theorem execSramScrubLate_keeps {s : State} (h : Keeps a s) : NextKeeps a (execSramScrubLate s) :=
  .ite (.next (raiseSource_keeps h)) (.next h)

theorem execDramScrubRow_keeps {bad : List BadWord} {s : State} (h : Keeps a s) : NextKeeps a (execDramScrubRow bad s) :=
  .ite (.next h) (.ite (.next (State.onMem_keeps (Keeps.foldl (fun _ _ h1 => wordError_keeps h1) h))) (.next (.ite
      (raiseSource_keeps (State.count_keeps (State.count_keeps (State.onMem_keeps (Keeps.foldl (fun _ _ h1 =>
          wordError_keeps h1) h))))) (State.count_keeps (State.onMem_keeps (Keeps.foldl (fun _ _ h1 => wordError_keeps h1)
              h))))))

theorem postponeRefresh_keeps {ch rank : Fin 2} {s : State} (h : Keeps a s) : Keeps a (postponeRefresh ch rank s) :=
  .ite (State.onChannel_keeps h) (.ite (State.onChannel_keeps (State.count_keeps h)) (State.count_keeps
      (State.onChannel_keeps (State.count_keeps h))))

theorem execRefreshDue_keeps {ch rank : Fin 2} {s : State} (h : Keeps a s) : NextKeeps a (execRefreshDue ch rank s) :=
  .ite (.next (postponeRefresh_keeps h)) (.next h)

theorem execRefreshDebtPayoff_keeps {s : State} (h : Keeps a s) : NextKeeps a (execRefreshDebtPayoff s) :=
  .ite (.next h) (.next (State.onMem_keeps h))

theorem execMr4Poll_keeps {ch : Fin 2} {factor : Fin 3} {s : State} (h : Keeps a s) :
    NextKeeps a (execMr4Poll ch factor s) := .next (.ite h (State.onChannel_keeps h))

theorem execDqsOscRead_keeps {ch : Fin 2} {drift : Nat} {s : State} (h : Keeps a s) :
    NextKeeps a (execDqsOscRead ch drift s) := .ite (.next (State.onChannel_keeps h)) (.next h)

theorem execDramRetrain_keeps {ch : Fin 2} {converges : Bool} {s : State} (h : Keeps a s) :
    NextKeeps a (execDramRetrain ch converges s) :=
  .ite (.next h) (.next (Keeps.foldl (fun _ _ h1 => longDone_keeps h1) (.ite (State.count_keeps (State.onChannel_keeps h))
      (raiseSource_keeps (State.count_keeps (State.onChannel_keeps h))))))

theorem resumeMigration_keeps {c : Fin 2} {s : State} (h : Keeps a s) : Keeps a (resumeMigration c s) :=
  State.onChannel_keeps h

theorem rebaseMigration_keeps {old : NMap Bytes} {c : Fin 2} {s : State} (h : Keeps a s) :
    Keeps a (rebaseMigration old c s) := State.onChannel_keeps h

theorem execMigrationComplete_keeps {ch : Fin 2} {s : State} (h : Keeps a s) : NextKeeps a (execMigrationComplete ch s) := by
  unfold execMigrationComplete
  dsimp only
  split
  · exact .next h
  · split
    · exact .next h
    · refine .next ?_
      split
      · exact longDone_keeps (raiseEvent_keeps (State.count_keeps (State.onMem_keeps (State.onChannel_keeps h))))
      · exact raiseEvent_keeps (State.count_keeps (State.onMem_keeps (State.onChannel_keeps h)))

theorem execParamRecordDurable_keeps {s : State} (h : Keeps a s) : NextKeeps a (execParamRecordDurable s) := by
  unfold execParamRecordDurable
  split
  · exact .next h
  · exact .next (State.onFn_keeps (State.onMem_keeps h))

theorem execRecorderBlockWritten_keeps {r : Fin 3} {samples : Bytes} {start asn : BitVec 64} {gen : BitVec 32}
    {left : Nat} {s : State} (h : Keeps a s) :
    NextKeeps a (execRecorderBlockWritten r samples start asn gen left s) :=
  .ite (.next h) (.ite (.next (raiseEvent_keeps (State.onRecorder_keeps (State.onRecorder_keeps (State.countN_keeps
      (State.count_keeps (State.store_keeps h))))))) (.next (State.onRecorder_keeps (State.countN_keeps (State.count_keeps
          (State.store_keeps h))))))

theorem execRecorderFifoFull_keeps {r : Fin 3} {dropped : Nat} {s : State} (h : Keeps a s) :
    NextKeeps a (execRecorderFifoFull r dropped s) :=
  .ite (.next h) (.next (.ite (State.onRecorder_keeps h) (raiseSource_keeps (raiseEvent_keeps (State.onRecorder_keeps h)))))

theorem execDramConfig_keeps {buf : Bytes} {s : State} (h : Keeps a s) : NextKeeps a (execDramConfig buf s) :=
  .next (runKci_keeps (fun h1 => stageOne_keeps h1) h)

theorem execDramTrain_keeps {buf : Bytes} {s : State} (h : Keeps a s) : NextKeeps a (execDramTrain buf s) :=
  .next (runKci_keeps (fun h1 => acceptLong_keeps (State.onChannel_keeps h1)) h)

theorem execDramSpareMigrate_keeps {buf : Bytes} {s : State} (h : Keeps a s) : NextKeeps a (execDramSpareMigrate buf s) :=
  .next (runKci_keeps (fun h1 => .ite (acceptLong_keeps (startMigration_keeps h1)) .refuse) h)

theorem execRecorderConfig_keeps {buf : Bytes} {s : State} (h : Keeps a s) : NextKeeps a (execRecorderConfig buf s) :=
  .next (runKci_keeps (fun h1 => .ite .refuse (stageOne_keeps h1)) h)

theorem execRecorderRead_keeps {buf : Bytes} {s : State} (h : Keeps a s) : NextKeeps a (execRecorderRead buf s) :=
  .next (runKci_keeps (fun h1 => .ite .refuse (.ite .refuse (.done h1))) h)

theorem execMemErrorLogRead_keeps {buf : Bytes} {s : State} (h : Keeps a s) : NextKeeps a (execMemErrorLogRead buf s) :=
  .next (runKci_keeps (fun h1 => .done h1) h)

theorem applyMemory_keeps {old : NMap Bytes} {s : State} (h : Keeps a s) : Keeps a (applyMemory old s) :=
  .ite (Keeps.foldl (fun _ _ h1 => .ite h1 (.ite (State.onRecorder_keeps h1) (State.onRecorder_keeps h1))) (.ite h
      (rebaseMigration_keeps (rebaseMigration_keeps h)))) (State.onFn_keeps (State.onMem_keeps (Keeps.foldl (fun _ _ h1 =>
          .ite h1 (.ite (State.onRecorder_keeps h1) (State.onRecorder_keeps h1))) (.ite h (rebaseMigration_keeps
              (rebaseMigration_keeps h))))))

/-! ### Machine/NetTime -/

theorem freezeBound_keeps {st : TimeState} {s : State} (h : Keeps a s) : Keeps a (freezeBound st s) := by
  unfold freezeBound
  dsimp only
  exact State.onTime_keeps h

theorem leaveHoldoverOf_keeps {lost : Nat} {s : State} (h : Keeps a s) : Keeps a (leaveHoldoverOf lost s) :=
  .ite (raiseEvent_keeps h) h

theorem leaveHoldover_keeps {s : State} (h : Keeps a s) : Keeps a (leaveHoldover s) := leaveHoldoverOf_keeps h

theorem enterHoldover_keeps {s : State} (h : Keeps a s) : Keeps a (enterHoldover s) :=
  .ite h (raiseEvent_keeps (State.count_keeps (State.onTime_keeps (freezeBound_keeps h))))

theorem switchSource_keeps {k cause : Nat} {s : State} (h : Keeps a s) : Keeps a (switchSource k cause s) :=
  .ite h (raiseEvent_keeps (State.count_keeps (State.onTime_keeps h)))

theorem moveTime_keeps {d : Int} {s : State} (h : Keeps a s) : Keeps a (moveTime d s) := by
  unfold moveTime
  dsimp only
  exact State.onTime_keeps h

theorem stepTime_keeps {d : Int} {s : State} (h : Keeps a s) : Keeps a (stepTime d s) :=
  .ite h (State.count_keeps (State.onTime_keeps (moveTime_keeps (State.onTime_keeps (State.onSluice_keeps (Keeps.foldl (fun
      _ _ h1 => State.count_keeps (endLaunch_keeps h1)) h))))))

theorem stepEvent_keeps {d : Int} {source : Nat} {forced : Bool} {s : State} (h : Keeps a s) :
    Keeps a (stepEvent d source forced s) := raiseEvent_keeps h

theorem servo_keeps {off : Int} {s : State} (h : Keeps a s) : Keeps a (servo off s) := by
  unfold servo
  dsimp only
  exact State.onTime_keeps (State.free_keeps h)

theorem applySample_keeps {lost : Nat} {off : Int} {s : State} (h : Keeps a s) : Keeps a (applySample lost off s) :=
  .ite (raiseEvent_keeps (servo_keeps (State.onTime_keeps (moveTime_keeps (State.onTime_keeps h))))) (.ite (servo_keeps
      (State.onTime_keeps (leaveHoldoverOf_keeps (State.onTime_keeps h)))) (.ite (stepEvent_keeps (State.onTime_keeps
          (stepTime_keeps (leaveHoldoverOf_keeps (State.onTime_keeps h))))) (.ite (raiseEvent_keeps (State.count_keeps
              (State.onTime_keeps (.ite (leaveHoldoverOf_keeps (State.onTime_keeps h)) (freezeBound_keeps
                  (leaveHoldoverOf_keeps (State.onTime_keeps h))))))) (State.count_keeps (State.onTime_keeps (.ite
                      (leaveHoldoverOf_keeps (State.onTime_keeps h)) (freezeBound_keeps (leaveHoldoverOf_keeps
                          (State.onTime_keeps h)))))))))

theorem sampleFrom_keeps {k : Nat} {off : Int} {s : State} (h : Keeps a s) : Keeps a (sampleFrom k off s) :=
  .ite (applySample_keeps h) (.ite (applySample_keeps (switchSource_keeps h)) (.ite (State.onTime_keeps h) (.ite
      (State.onTime_keeps h) h)))

theorem loseSource_keeps {k : Nat} {s : State} (h : Keeps a s) : Keeps a (loseSource k s) :=
  .ite (State.onTime_keeps h) (.ite (switchSource_keeps (State.onTime_keeps h)) (enterHoldover_keeps (State.onTime_keeps h)))

theorem execSourceLost_keeps {k : Nat} {s : State} (h : Keeps a s) : NextKeeps a (execSourceLost k s) :=
  .ite (.next (loseSource_keeps h)) (.next h)

theorem execSourceRevert_keeps {s : State} (h : Keeps a s) : NextKeeps a (execSourceRevert s) :=
  .ite (.next (switchSource_keeps h)) (.next h)

theorem execHoldoverExpiry_keeps {s : State} (h : Keeps a s) : NextKeeps a (execHoldoverExpiry s) :=
  .ite (.next (raiseEvent_keeps (State.onTime_keeps h))) (.next h)

theorem execPtpAnnounceRx_keeps {clock : PtpSender} {domain : BitVec 8} {ptpTimescale : Bool} {s : State} (h : Keeps a s) :
    NextKeeps a (execPtpAnnounceRx clock domain ptpTimescale s) :=
  .ite (.ite (.next (State.onTime_keeps (State.count_keeps h))) (.next (State.count_keeps h))) (.next h)

theorem execPtpSyncRx_keeps {clock : PtpSender} {seqId : BitVec 16} {twoStep : Bool} {t1 correction stamp : Int}
    {s : State} (h : Keeps a s) :
    NextKeeps a (execPtpSyncRx clock seqId twoStep t1 correction stamp s) :=
  .ite (.ite (.next (State.onTime_keeps (State.count_keeps h))) (.next (State.count_keeps h))) (.next h)

theorem execPtpFollowUpRx_keeps {clock : PtpSender} {seqId : BitVec 16} {t1 correction : Int} {s : State} (h : Keeps a s) :
    NextKeeps a (execPtpFollowUpRx clock seqId t1 correction s) := by
  unfold execPtpFollowUpRx
  dsimp only
  split
  · split
    · exact .ite (.next (State.onTime_keeps (State.count_keeps h))) (.next (State.count_keeps h))
    · exact .next (State.count_keeps h)
  · exact .next h

theorem execDelayReqTx_keeps {seqId : BitVec 16} {stamp : Int} {s : State} (h : Keeps a s) :
    NextKeeps a (execDelayReqTx seqId stamp s) := by
  unfold execDelayReqTx
  split
  · exact .next h
  · exact .ite (.next (State.onTime_keeps (State.count_keeps h))) (.next h)

theorem ptpSample_keeps {t1 t2 t3 t4 c1 c2 : Int} {s : State} (h : Keeps a s) : Keeps a (ptpSample t1 t2 t3 t4 c1 c2 s) :=
  .ite (State.count_keeps (State.onTime_keeps h)) (sampleFrom_keeps (.ite (moveTime_keeps (State.count_keeps
      (State.onTime_keeps h))) (State.count_keeps (State.onTime_keeps h))))

theorem execPtpDelayRespRx_keeps {clock : PtpSender} {seqId : BitVec 16} {t4 correction : Int} {s : State} (h : Keeps a s) :
    NextKeeps a (execPtpDelayRespRx clock seqId t4 correction s) := by
  unfold execPtpDelayRespRx
  dsimp only
  split
  · split
    · split
      · exact .ite (.next (ptpSample_keeps (State.onTime_keeps (State.count_keeps h)))) (.next (State.count_keeps h))
      · exact .next (State.count_keeps h)
    · exact .next (State.count_keeps h)
  · exact .next h

theorem plausFail_keeps {check source cycles : Nat} {ppb : Int} {s : State} (h : Keeps a s) :
    Keeps a (plausFail check source cycles ppb s) := raiseSource_keeps (raiseEvent_keeps (State.count_keeps h))

theorem setTime_keeps {d : Int} {force : Bool} {s : State} (h : Keeps a s) : Keeps a (setTime d force s) :=
  .ite (.ite (State.onTime_keeps (.ite (.ite (State.count_keeps (stepTime_keeps h)) (stepTime_keeps h)) (stepEvent_keeps
      (.ite (State.count_keeps (stepTime_keeps h)) (stepTime_keeps h))))) (.ite (State.onTime_keeps (.ite (.ite
          (State.count_keeps (stepTime_keeps h)) (stepTime_keeps h)) (stepEvent_keeps (.ite (State.count_keeps
              (stepTime_keeps h)) (stepTime_keeps h))))) (.ite (.ite (State.count_keeps (stepTime_keeps h)) (stepTime_keeps
                  h)) (stepEvent_keeps (.ite (State.count_keeps (stepTime_keeps h)) (stepTime_keeps h)))))) (.ite
                      (raiseEvent_keeps (State.onTime_keeps (moveTime_keeps h))) (moveTime_keeps h))

theorem edgeSample_keeps {capture : Nat} {s : State} {k : Nat} (h : Keeps a s) : Keeps a (edgeSample capture s k) := by
  unfold edgeSample
  split
  · exact sampleFrom_keeps h
  · exact h

theorem edgeSet_keeps {capture sec : Nat} {s : State} (h : Keeps a s) : Keeps a (edgeSet capture sec s) :=
  .ite (sampleFrom_keeps (State.onTime_keeps h)) (.ite (sampleFrom_keeps (State.onTime_keeps h)) (sampleFrom_keeps
      (setTime_keeps (State.onTime_keeps h))))

theorem countEdge_keeps {s : State} (h : Keeps a s) : Keeps a (countEdge s) := State.onTime_keeps h

theorem execPpsInEdge_keeps {cycles : Nat} {s : State} (h : Keeps a s) : NextKeeps a (execPpsInEdge cycles s) := by
  refine .ite ?_ (.next h)
  extract_lets now ok bad s1 armed s2 s3
  have h2 : Keeps a s2 := countEdge_keeps (State.count_keeps (State.onTime_keeps h))
  have h3 : Keeps a s3 := .ite (plausFail_keeps h2) h2
  clear_value ok s3 armed
  refine .ite (.next (State.count_keeps h)) (.next ?_)
  cases armed with
  | some v => exact edgeSet_keeps h3
  | none => exact .ite h3 (Keeps.foldl (fun _ _ h => edgeSample_keeps h) h3)

theorem execPpsSetLapse_keeps {s : State} (h : Keeps a s) : NextKeeps a (execPpsSetLapse s) :=
  .ite (.next (State.count_keeps (State.onTime_keeps h))) (.next h)

theorem execPpsOutRise_keeps {s : State} (h : Keeps a s) : NextKeeps a (execPpsOutRise s) :=
  .ite (.next (State.onTime_keeps h)) (.next h)

theorem execPpsOutFall_keeps {s : State} (h : Keeps a s) : NextKeeps a (execPpsOutFall s) :=
  .ite (.next (State.onTime_keeps h)) (.next h)

theorem execSpringMeasurement_keeps {cycles : Nat} {s : State} (h : Keeps a s) :
    NextKeeps a (execSpringMeasurement cycles s) :=
  .ite (.next (State.onTime_keeps (.ite (plausFail_keeps (.ite (State.count_keeps h) h)) (.ite (State.count_keeps h) h))))
      (.next h)

theorem execTimeConfig_keeps {buf : Bytes} {s : State} (h : Keeps a s) : NextKeeps a (execTimeConfig buf s) :=
  .next (runKci_keeps (fun h1 => stageOne_keeps h1) h)

theorem execTimeSet_keeps {buf : Bytes} {s : State} (h : Keeps a s) : NextKeeps a (execTimeSet buf s) := by
  unfold execTimeSet
  dsimp only
  refine .next ?_
  refine runKci_keeps ?_ h
  refine fun h1 => ?_
  split
  · exact .refuse
  · exact .ite .refuse (.ite .refuse (.ite (.done (State.onTime_keeps h1)) (.ite .refuse (.ite .refuse (.done
      (setTime_keeps h1))))))

theorem execTimeRead_keeps {buf : Bytes} {s : State} (h : Keeps a s) : NextKeeps a (execTimeRead buf s) :=
  .next (runKci_keeps (fun h1 => .done h1) h)

theorem applyTime_keeps {old : NMap Bytes} {s : State} (h : Keeps a s) : Keeps a (applyTime old s) :=
  .ite (.ite (switchSource_keeps (State.onTime_keeps h)) (.ite (freezeBound_keeps (leaveHoldoverOf_keeps
      (switchSource_keeps (State.onTime_keeps h)))) (.ite (enterHoldover_keeps (switchSource_keeps (State.onTime_keeps h)))
          (switchSource_keeps (State.onTime_keeps h))))) (State.onTime_keeps h)

theorem resetTime_keeps {s : State} (h : Keeps a s) : Keeps a (resetTime s) :=
  .ite (State.onTime_keeps (enterHoldover_keeps (State.onTime_keeps h))) (State.onTime_keeps h)

/-! ### Machine/Link -/

theorem markLost_keeps {n : Nat} {s : State} (h : Keeps a s) : Keeps a (markLost n s) :=
  .ite h (State.onLink_keeps (State.count_keeps (State.onNb_keeps h)))

theorem openCellOf_keeps {g : BitVec 32} {sf idx : Nat} {c : Bytes} {ch n : Nat} {s : State} (h : Keeps a s) :
    Keeps a (openCellOf g sf idx c ch n s).2 := by
  unfold openCellOf
  dsimp only
  split
  · exact .ite (markLost_keeps h) h
  · exact h

theorem startListening_keeps {ch : Nat} {s : State} (h : Keeps a s) : Keeps a (startListening ch s) := State.onChan_keeps h

theorem stopListening_keeps {ch : Nat} {s : State} (h : Keeps a s) : Keeps a (stopListening ch s) :=
  .ite (.ite (.ite (State.countN_keeps (State.onChan_keeps h)) (State.onRx_keeps (State.countN_keeps (State.onChan_keeps
      h)))) (State.onRadio_keeps (.ite (State.countN_keeps (State.onChan_keeps h)) (State.onRx_keeps (State.countN_keeps
          (State.onChan_keeps h)))))) h

theorem enterScan_keeps {s : State} (h : Keeps a s) : Keeps a (enterScan s) :=
  raiseEvent_keeps (Keeps.foldl (fun _ _ h1 => startListening_keeps h1) (State.onLink_keeps h))

theorem execBeaconMissed_keeps {s : State} (h : Keeps a s) : NextKeeps a (execBeaconMissed s) := by
  unfold execBeaconMissed
  dsimp only
  split
  · split
    · exact .next (loseSource_keeps (raiseEvent_keeps (State.count_keeps (State.onLink_keeps (State.count_keeps h)))))
    · exact .next (.ite (enterScan_keeps (State.onLink_keeps (State.count_keeps h))) (State.onLink_keeps (State.count_keeps
        h)))
    · exact .next (State.count_keeps h)
  · exact .next h

theorem execNeighbourLostSyncReport_keeps {s : State} (h : Keeps a s) : NextKeeps a (execNeighbourLostSyncReport s) :=
  .ite (.next h) (.next (raiseEvent_keeps (State.onLink_keeps h)))

theorem takeBeacon_keeps {a' depth ch : Nat} {off : Int} {s : State} (h : Keeps a s) :
    Keeps a (takeBeacon a' depth ch off s) :=
  .ite (raiseEvent_keeps (Keeps.foldl (fun _ _ h1 => stopListening_keeps h1) (State.onLink_keeps (State.count_keeps h))))
      (State.onLink_keeps (State.count_keeps h))

theorem execLinkConfig_keeps {buf : Bytes} {s : State} (h : Keeps a s) : NextKeeps a (execLinkConfig buf s) :=
  .next (runKci_keeps (fun h1 => stageOne_keeps h1) h)

theorem execHopsetLoad_keeps {buf : Bytes} {s : State} (h : Keeps a s) : NextKeeps a (execHopsetLoad buf s) := by
  unfold execHopsetLoad
  dsimp only
  refine .next ?_
  refine runKci_keeps ?_ h
  refine fun h1 => ?_
  split
  · exact .refuse
  · exact .ite .refuse (.done (State.stage_keeps h1))

theorem execSlotframeLoad_keeps {buf : Bytes} {s : State} (h : Keeps a s) : NextKeeps a (execSlotframeLoad buf s) := by
  unfold execSlotframeLoad
  dsimp only
  refine .next ?_
  refine runKci_keeps ?_ h
  refine fun h1 => ?_
  split
  · exact .refuse
  · split
    · exact .refuse
    · split
      · exact .refuse
      · exact .done (State.onCoh_keeps (State.stage_keeps (stageRun_keeps h1)))

theorem execNeighbourWrite_keeps {buf : Bytes} {s : State} (h : Keeps a s) : NextKeeps a (execNeighbourWrite buf s) := by
  refine .next (runKci_keeps (fun h => .ite .no (.ite .no ?_)) h)
  split
  · exact .no
  · exact .ite .no (.done (stageRun_keeps (addWrites_keeps h)))

theorem execNeighbourRead_keeps {buf : Bytes} {s : State} (h : Keeps a s) : NextKeeps a (execNeighbourRead buf s) :=
  .next (runKci_keeps (fun h1 => .ite .refuse (.ite .refuse (.done h1))) h)

theorem execLinkResync_keeps {buf : Bytes} {s : State} (h : Keeps a s) : NextKeeps a (execLinkResync buf s) :=
  .next (runKci_keeps (fun h1 => .ite .refuse (.ite .refuse (.done (.ite (.ite (loseSource_keeps (State.count_keeps h1))
      h1) (enterScan_keeps (.ite (loseSource_keeps (State.count_keeps h1)) h1)))))) h)

theorem applyLink_keeps {old : NMap Bytes} {s : State} (h : Keeps a s) : Keeps a (applyLink old s) :=
  .ite (.ite (State.onLink_keeps (Keeps.foldl (fun _ _ h1 => State.onNb_keeps h1) h)) (Keeps.foldl (fun _ _ h1 =>
      State.onNb_keeps h1) h)) (State.onLink_keeps (.ite (State.onLink_keeps (Keeps.foldl (fun _ _ h1 => State.onNb_keeps
          h1) h)) (Keeps.foldl (fun _ _ h1 => State.onNb_keeps h1) h)))

theorem resetLink_keeps {s : State} (h : Keeps a s) : Keeps a (resetLink s) := State.onLink_keeps h

/-! ### Machine/RxCore -/

theorem handOff_keeps {f : Nat} {llr : List Int} {s : State} (h : Keeps a s) : Keeps a (handOff f llr s) := by
  unfold handOff
  dsimp only
  split
  · exact h
  · exact .ite (State.onRxFrame_keeps h) (feedEngines_keeps (enqueueJobs_keeps (State.onRxFrame_keeps h)))

theorem resolveFrame_keeps {f : Nat} {s : State} (h : Keeps a s) : Keeps a (resolveFrame f s) := by
  unfold resolveFrame
  dsimp only
  split
  · exact h
  · exact .ite (.ite (resolveDecoded_keeps (State.onRxFrame_keeps (.ite (State.count_keeps (State.count_keeps
      (State.onRxFrame_keeps h))) (.ite (State.count_keeps (State.count_keeps (State.onRxFrame_keeps h)))
          (State.count_keeps (State.onRxFrame_keeps h)))))) (failFrame_keeps (State.count_keeps (State.onRxFrame_keeps
              h)))) (.ite (.ite (startCombined_keeps (State.count_keeps h)) (.ite (failFrame_keeps (State.count_keeps
                  (State.count_keeps h))) (State.onRxFrame_keeps (State.count_keeps h)))) (failFrame_keeps
                      (State.count_keeps h)))

theorem checkerDisagrees_keeps {e : Fin 48} {x : RxFrame} {i : Nat} {again : Bool} {s : State} (h : Keeps a s) :
    Keeps a (checkerDisagrees e x i again s) :=
  .ite (failFrame_keeps (State.count_keeps (raiseSource_keeps (State.count_keeps (State.onEngine_keeps h)))))
      (feedEngines_keeps (enqueueJobs_keeps (State.onRxFrame_keeps (raiseSource_keeps (State.count_keeps
          (State.onEngine_keeps h))))))

theorem completeJob_keeps {e : Fin 48} {agrees : Bool} {s : State} (h : Keeps a s) : Keeps a (completeJob e agrees s) := by
  unfold completeJob
  dsimp only
  split
  · exact h
  · split
    · exact feedEngines_keeps (State.onEngine_keeps h)
    · exact .ite (.ite h (State.count_keeps (State.onEngine_keeps h))) (.ite (checkerDisagrees_keeps (State.onThermal_keeps
        (pmuEvent_keeps (pmuEvent_keeps (State.countN_keeps h))))) (feedEngines_keeps (.ite (resolveFrame_keeps
            (State.onRxFrame_keeps (State.onEngine_keeps (.ite (State.count_keeps (State.onThermal_keeps (pmuEvent_keeps
                (pmuEvent_keeps (State.countN_keeps h))))) (.ite (State.count_keeps (State.count_keeps
                    (State.onThermal_keeps (pmuEvent_keeps (pmuEvent_keeps (State.countN_keeps h)))))) (.ite
                        (State.count_keeps (State.count_keeps (State.onThermal_keeps (pmuEvent_keeps (pmuEvent_keeps
                            (State.countN_keeps h)))))) (State.count_keeps (State.onThermal_keeps (pmuEvent_keeps
                                (pmuEvent_keeps (State.countN_keeps h))))))))))) (State.onRxFrame_keeps
                                    (State.onEngine_keeps (.ite (State.count_keeps (State.onThermal_keeps (pmuEvent_keeps
                                        (pmuEvent_keeps (State.countN_keeps h))))) (.ite (State.count_keeps
                                            (State.count_keeps (State.onThermal_keeps (pmuEvent_keeps (pmuEvent_keeps
                                                (State.countN_keeps h)))))) (.ite (State.count_keeps (State.count_keeps
                                                    (State.onThermal_keeps (pmuEvent_keeps (pmuEvent_keeps
                                                        (State.countN_keeps h)))))) (State.count_keeps
                                                            (State.onThermal_keeps (pmuEvent_keeps (pmuEvent_keeps
                                                                (State.countN_keeps h)))))))))))))

theorem resetGroup_keeps {g : Nat} {s : State} (h : Keeps a s) : Keeps a (resetGroup g s) := by
  unfold resetGroup
  dsimp only
  exact State.onRx_keeps (Keeps.foldl (fun _ _ h1 => .ite (discardEarly_keeps h1) (discardWith_keeps h1)) h)

theorem resetRiffle_keeps {s : State} (h : Keeps a s) : Keeps a (resetRiffle s) := by
  unfold resetRiffle
  dsimp only
  exact State.onRx_keeps (Keeps.foldl (fun _ _ h1 => failFrame_keeps h1) h)

theorem resumeStalled_keeps {s : State} (h : Keeps a s) : Keeps a (resumeStalled s) :=
  Keeps.foldl (fun _ _ h1 => .ite (completeJob_keeps h1) h1) h

theorem resetEddy_keeps {s : State} (h : Keeps a s) : Keeps a (resetEddy s) :=
  feedEngines_keeps (Keeps.foldl (fun _ _ h1 => unpark_keeps h1) (State.onRx_keeps (Keeps.foldl (fun _ _ h1 => .ite
      (discardWith_keeps h1) (discardEarly_keeps h1)) h)))

/-! ### Machine/Radio -/

theorem countRadio_keeps {r : Fin 3} {i : Nat} {s : State} (h : Keeps a s) : Keeps a (countRadio r i s) :=
  State.count_keeps h

theorem raiseRadio_keeps {r : Fin 3} {i detail : Nat} {s : State} (h : Keeps a s) : Keeps a (raiseRadio r i detail s) :=
  raiseSource_keeps h

theorem State.onWindow_keeps {s : State} {r : Fin 3} {w : Fin 2} {f : Window → Window} (h : Keeps a s) :
    Keeps a (State.onWindow s r w f) := State.onRadio_keeps h

theorem writeVariant_keeps {r : Fin 3} {c : CalResult} {s : State} (h : Keeps a s) : Keeps a (writeVariant r c s) := by
  unfold writeVariant
  dsimp only
  split
  · exact State.onRadios_keeps h
  · split
    · split
      · exact State.onRadios_keeps h
      · exact h
    · split
      · exact h
      · exact .ite (countRadio_keeps (State.onRadios_keeps h)) (State.onRadios_keeps h)

theorem takeResults_keeps {r : Fin 3} {cs : List CalResult} {s : State} (h : Keeps a s) : Keeps a (takeResults r cs s) := by
  induction cs generalizing s with
  | nil => exact h
  | cons c cs ih => exact ih (.ite (writeVariant_keeps h) (raiseRadio_keeps h))

theorem queueCal_keeps {r : Fin 3} {it : CalItem} {s : State} (h : Keeps a s) : Keeps a (queueCal r it s) :=
  State.onRadio_keeps h

theorem queueFull_keeps {r : Fin 3} {lo : Nat} {s : State} (h : Keeps a s) : Keeps a (queueFull r lo s) :=
  Keeps.foldl (fun _ _ h1 => queueCal_keeps h1) (queueCal_keeps h)

theorem claimObs_keeps {s : State} (h : Keeps a s) : Keeps a (claimObs s) := .ite h (State.onRadios_keeps h)

theorem freeObs_keeps {r : Fin 3} {s : State} (h : Keeps a s) : Keeps a (freeObs r s) :=
  .ite (claimObs_keeps (State.onRadios_keeps h)) h

theorem requeueCal_keeps {r : Fin 3} {s : State} (h : Keeps a s) : Keeps a (requeueCal r s) := by
  unfold requeueCal
  dsimp only
  split
  · exact h
  · exact State.onRadio_keeps (freeObs_keeps h)

theorem preemptCal_keeps {r : Fin 3} {s : State} (h : Keeps a s) : Keeps a (preemptCal r s) :=
  .ite h (countRadio_keeps (requeueCal_keeps h))

theorem forceCal_keeps {r : Fin 3} {lo : Nat} {s : State} (h : Keeps a s) : Keeps a (forceCal r lo s) :=
  queueFull_keeps (raiseEvent_keeps (countRadio_keeps (State.onRadio_keeps h)))

theorem retuneAs_keeps {r : Fin 3} {lo : Nat} {c : CalClass} {s : State} (h : Keeps a s) : Keeps a (retuneAs r lo c s) := by
  unfold retuneAs
  dsimp only
  split
  · exact h
  · split
    · exact forceCal_keeps (countRadio_keeps (State.onRadio_keeps (preemptCal_keeps h)))
    · exact queueFull_keeps (countRadio_keeps (countRadio_keeps (State.onRadio_keeps (preemptCal_keeps h))))
    · exact countRadio_keeps (countRadio_keeps (State.onRadio_keeps (preemptCal_keeps h)))

theorem startRetune_keeps {r : Fin 3} {lo : Nat} {s : State} (h : Keeps a s) : Keeps a (startRetune r lo s) :=
  retuneAs_keeps (.ite (countRadio_keeps h) h)

theorem lookupChan_keeps {m : NMap Bytes} {r : Fin 3} {ch : Nat} {s : State} (h : Keeps a s) :
    Keeps a (lookupChan m r ch s) := by
  unfold lookupChan
  dsimp only
  split
  · exact h
  · exact queueCal_keeps h
  · exact queueFull_keeps h

theorem completeChange_keeps {r : Fin 3} {s : State} (h : Keeps a s) : Keeps a (completeChange r s) :=
  raiseEvent_keeps (State.onFn_keeps (State.onRadio_keeps h))

theorem settleRadio_keeps {r : Fin 3} {s : State} (h : Keeps a s) : Keeps a (settleRadio r s) :=
  .ite (completeChange_keeps h) h

theorem startBackground_keeps {r : Fin 3} {s : State} (h : Keeps a s) : Keeps a (startBackground r s) := by
  unfold startBackground
  dsimp only
  split
  · exact h
  · exact .ite h (.ite (State.onRadios_keeps (State.onRadio_keeps h)) (State.onRadio_keeps h))

theorem runOwed_keeps {r : Fin 3} {s : State} (h : Keeps a s) : Keeps a (runOwed r s) := by
  unfold runOwed
  split
  · exact .ite (startBackground_keeps h) h
  · exact h

theorem returnLo_keeps {r : Fin 3} {s : State} (h : Keeps a s) : Keeps a (returnLo r s) := by
  unfold returnLo
  split
  · exact .ite (startRetune_keeps h) h
  · exact h

theorem resumeRadio_keeps {r : Fin 3} {s : State} (h : Keeps a s) : Keeps a (resumeRadio r s) :=
  settleRadio_keeps (returnLo_keeps (Keeps.foldl (fun _ _ h1 => runOwed_keeps h1) h))

theorem closeRx_keeps {r : Fin 3} {s : State} (h : Keeps a s) : Keeps a (closeRx r s) := .ite h (State.onRadio_keeps h)

theorem execAgcClipStep_keeps {r : Fin 3} {w : Fin 2} {s : State} (h : Keeps a s) : NextKeeps a (execAgcClipStep r w s) :=
  .ite (.next (countRadio_keeps (State.onWindow_keeps h))) (.next h)

theorem execAgcPinned_keeps {r : Fin 3} {w : Fin 2} {dead : Bool} {s : State} (h : Keeps a s) :
    NextKeeps a (execAgcPinned r w dead s) := .ite (.next (raiseRadio_keeps (raiseEvent_keeps h))) (.next h)

theorem execTestToneInject_keeps {r : Fin 3} {w : Fin 2} {level calibrated : Int} {s : State} (h : Keeps a s) :
    NextKeeps a (execTestToneInject r w level calibrated s) :=
  .ite (.ite (.next (countRadio_keeps (State.onWindow_keeps h))) (.next (raiseRadio_keeps (raiseEvent_keeps
      (countRadio_keeps (countRadio_keeps (State.onWindow_keeps h))))))) (.next h)

theorem execLatentTestLate_keeps {r : Fin 3} {w : Fin 2} {s : State} (h : Keeps a s) :
    NextKeeps a (execLatentTestLate r w s) := .ite (.next (raiseSource_keeps h)) (.next h)

theorem execRadioConfig_keeps {buf : Bytes} {s : State} (h : Keeps a s) : NextKeeps a (execRadioConfig buf s) :=
  .next (runKci_keeps (fun h1 => stageOne_keeps h1) h)

theorem execRadioFePins_keeps {buf : Bytes} {s : State} (h : Keeps a s) : NextKeeps a (execRadioFePins buf s) := by
  unfold execRadioFePins
  refine .next ?_
  refine runKci_keeps ?_ h
  refine fun h1 => ?_
  split
  · exact .refuse
  · exact stageOne_keeps h1

theorem execRadioCalibrate_keeps {buf : Bytes} {s : State} (h : Keeps a s) : NextKeeps a (execRadioCalibrate buf s) := by
  unfold execRadioCalibrate
  dsimp only
  refine .next ?_
  refine runKci_keeps ?_ h
  refine fun h1 => ?_
  split
  · exact .refuse
  · split
    · exact .refuse
    · split
      · exact .refuse
      · exact .ite .refuse (.ite .refuse (acceptLong_keeps (countRadio_keeps (closeRx_keeps (claimObs_keeps
          (State.onRadio_keeps (dropReception_keeps (preemptCal_keeps h1))))))))

theorem execRadioCalibrateDone_keeps {r : Fin 3} {results : List CalResult} {s : State} (h : Keeps a s) :
    NextKeeps a (execRadioCalibrateDone r results s) := by
  unfold execRadioCalibrateDone
  dsimp only
  split
  · exact .next h
  · exact .ite (.next h) (.next (longDone_keeps (resumeRadio_keeps (freeObs_keeps (State.onRadio_keeps (takeResults_keeps
      h))))))

theorem execRadioPinDrive_keeps {buf : Bytes} {s : State} (h : Keeps a s) : NextKeeps a (execRadioPinDrive buf s) := by
  unfold execRadioPinDrive
  refine .next ?_
  refine runKci_keeps ?_ h
  refine fun h1 => ?_
  split
  · exact .refuse
  · exact .refuse
  · exact .done (State.onRadio_keeps h1)

theorem execCalStoreRead_keeps {buf : Bytes} {s : State} (h : Keeps a s) : NextKeeps a (execCalStoreRead buf s) :=
  .next (runKci_keeps (fun h1 => .ite .refuse (.done h1)) h)

theorem execSynthLock_keeps {r : Fin 3} {result : CalResult} {s : State} (h : Keeps a s) :
    NextKeeps a (execSynthLock r result s) :=
  .ite (.next (resumeRadio_keeps (State.onRadio_keeps (.ite (takeResults_keeps h) h)))) (.next h)

theorem loseLock_keeps {r : Fin 3} {tx : Bool} {s : State} (h : Keeps a s) : Keeps a (loseLock r tx s) :=
  raiseRadio_keeps (raiseEvent_keeps (countRadio_keeps (closeRx_keeps (State.onRadio_keeps (.ite (cutRadio_keeps
      (dropReception_keeps (requeueCal_keeps h))) (dropReception_keeps (requeueCal_keeps h)))))))

theorem execSynthUnlock_keeps {r : Fin 3} {s : State} (h : Keeps a s) : NextKeeps a (execSynthUnlock r s) :=
  .next (.ite (loseLock_keeps h) h)

theorem execSynthRelockTimeout_keeps {r : Fin 3} {s : State} (h : Keeps a s) : NextKeeps a (execSynthRelockTimeout r s) :=
  .ite (.next (forceCal_keeps h)) (.next h)

theorem execObsSynthUnlock_keeps {s : State} (h : Keeps a s) : NextKeeps a (execObsSynthUnlock s) := by
  unfold execObsSynthUnlock
  dsimp only
  refine .next ?_
  refine raiseSource_keeps ?_
  refine claimObs_keeps ?_
  refine State.onRadios_keeps ?_
  split
  · exact h
  · exact requeueCal_keeps h

theorem execBackgroundCalDone_keeps {r : Fin 3} {result : CalResult} {s : State} (h : Keeps a s) :
    NextKeeps a (execBackgroundCalDone r result s) := by
  unfold execBackgroundCalDone
  dsimp only
  split
  · exact .next h
  · exact .next (resumeRadio_keeps (.ite (countRadio_keeps (State.onRadio_keeps (freeObs_keeps (takeResults_keeps h))))
      (State.onRadio_keeps (freeObs_keeps (takeResults_keeps h)))))

theorem execBlankingEnd_keeps {r : Fin 3} {s : State} (h : Keeps a s) : NextKeeps a (execBlankingEnd r s) :=
  .ite (.next h) (.next (.ite (State.onRadio_keeps (State.onRadio_keeps h)) (State.onRadio_keeps h)))

theorem leaveIdle_keeps {s : State} (h : Keeps a s) : Keeps a (leaveIdle s) :=
  .ite (State.onPower_keeps (State.countN_keeps h)) h

theorem enterIdle_keeps {s : State} (h : Keeps a s) : Keeps a (enterIdle s) := .ite (State.onPower_keeps h) h

theorem powerRadio_keeps {r : Fin 3} {s : State} (h : Keeps a s) : Keeps a (powerRadio r s) :=
  .ite h (leaveIdle_keeps (State.onRadio_keeps h))

theorem unpowerRadio_keeps {r : Fin 3} {s : State} (h : Keeps a s) : Keeps a (unpowerRadio r s) :=
  .ite (enterIdle_keeps (State.onRadio_keeps (State.countN_keeps h))) h

theorem execRadioPowerUp_keeps {r : Fin 3} {s : State} (h : Keeps a s) : NextKeeps a (execRadioPowerUp r s) :=
  .ite (.next (powerRadio_keeps h)) (.next h)

theorem retunePowered_keeps {r : Fin 3} {s : State} (h : Keeps a s) : Keeps a (retunePowered r s) :=
  .ite (resumeRadio_keeps h) h

theorem execRxActiveAssert_keeps {r : Fin 3} {s : State} (h : Keeps a s) : NextKeeps a (execRxActiveAssert r s) :=
  .ite (.next (State.onRadio_keeps h)) (.next h)

/-! ### Machine/Launch -/

theorem countTx_keeps {i : Nat} {s : State} (h : Keeps a s) : Keeps a (countTx i s) := State.count_keeps h

theorem addLaunch_keeps {x : Launch} {s : State} (h : Keeps a s) : Keeps a (addLaunch x s) := State.onSluice_keeps h

theorem grantLaunch_keeps {x : Launch} {s : State} (h : Keeps a s) : Keeps a (grantLaunch x s) :=
  reserveBands_keeps (addLaunch_keeps h)

theorem refuseLaunch_keeps {x : Launch} {reason : Nat} {s : State} (h : Keeps a s) : Keeps a (refuseLaunch x reason s) :=
  writeLaunchRecord_keeps (countRefusal_keeps h)

theorem badKey_keeps {k rc : Nat} {s : State} (h : Keeps a s) : Keeps a (badKey k rc s) :=
  .ite (raiseSource_keeps (State.count_keeps h)) h

theorem sealFrame_keeps {f : DlFrame} {s : State} (h : Keeps a s) : Keeps a (sealFrame f s) := by
  unfold sealFrame
  dsimp only
  split
  · exact removeFrame_keeps (badKey_keeps h)
  · exact .ite (State.onFrame_keeps (.ite h (useKey_keeps h))) (raiseSource_keeps (removeFrame_keeps (.ite h (useKey_keeps
      h))))

theorem takeFor_keeps {f : DlFrame} {s : State} (h : Keeps a s) : Keeps a (takeFor f s) := by
  refine .ite h ?_
  have taken := takeCounter_keeps (k := f.key) (g := f.generation.toNat) h
  generalize takeCounter f.key f.generation.toNat s = r at taken
  cases taken with
  | taken k => exact sealFrame_keeps k
  | waits k => exact State.onFrame_keeps k
  | refused k => exact removeFrame_keeps k

theorem takeAll_keeps {fs : List DlFrame} {s : State} (h : Keeps a s) : Keeps a (takeAll fs s) :=
  Keeps.foldl (fun _ _ h1 => takeFor_keeps h1) h

theorem retryWaiting_keeps {s : State} (h : Keeps a s) : Keeps a (retryWaiting s) := by
  unfold retryWaiting
  refine Keeps.foldl (fun _ _ h1 => ?_) h
  split
  · exact .ite h1 (takeFor_keeps h1)
  · exact takeFor_keeps h1

theorem unsealFrame_keeps {f : DlFrame} {s : State} (h : Keeps a s) : Keeps a (unsealFrame f s) :=
  State.count_keeps (State.onFrame_keeps h)

theorem execJournalProgramDone_keeps {ok : Bool} {s : State} (h : Keeps a s) : NextKeeps a (execJournalProgramDone ok s)
    := by
  unfold execJournalProgramDone
  dsimp only
  split
  · exact .next h
  · exact .ite (.next h) (.next (retryWaiting_keeps (.ite (recordDurable_keeps h) (recordFailed_keeps h))))

theorem admitFrame_keeps {n q : Nat} {cookie : BitVec 64} {payload : Bytes} {s : State} (h : Keeps a s) :
    AdmissionKeeps a (admitFrame n q cookie payload s) := by
  unfold admitFrame
  extract_lets m key f total put
  have admitted (b : Bool) : AdmissionKeeps a (.admitted (takeFor f (put b))) :=
    .admitted (takeFor_keeps (pmuEvent_keeps (countTx_keeps (State.onSluice_keeps h))))
  exact .ite (.ite .refused (admitted true)) (.ite .refused (.ite .refused (.ite .refused (admitted false))))

theorem withPsdu_keeps {m : NMap Bytes} {ch : Nat} {pending : Bool} {f : DlFrame} {s : State} (h : Keeps a s) :
    Keeps a (withPsdu m ch pending f s).2 := by
  unfold withPsdu
  dsimp only
  split
  · exact h
  · exact .snd (.ite h (State.count_keeps (State.countN_keeps h)))

theorem selectDownlink_keeps {kind : LaunchKind} {n : Nat} {c : Bytes} {ch t0 asn : Nat} {s : State} (h : Keeps a s) :
    Keeps a (selectDownlink kind n c ch t0 asn s) := by
  unfold selectDownlink
  dsimp only
  split
  · exact h
  · split
    · exact takeAll_keeps h
    · split
      · exact takeAll_keeps h
      · split
        · exact .ite (refusalRecord_keeps (countRefusal_keeps (takeAll_keeps h))) (countRefusal_keeps (takeAll_keeps h))
        · exact .ite (unsealFrame_keeps (takeAll_keeps h)) (State.onEgress_keeps (pmuEvent_keeps (grantLaunch_keeps
            (State.onFrame_keeps (withPsdu_keeps (takeAll_keeps h))))))

theorem selectControl_keeps {kind : LaunchKind} {ftype key : Nat} {body : Bytes} {ch t0 asn : Nat} {done : State → State}
    {s : State} (hd : ∀ {s}, Keeps a s → Keeps a (done s)) (h : Keeps a s) :
    Keeps a (selectControl kind ftype key body ch t0 asn done s) := by
  unfold selectControl
  extract_lets m r air x
  split
  · exact refuseLaunch_keeps h
  · refine .ite (refuseLaunch_keeps h) ?_
    have taken := takeCounter_keeps (k := key) (g := (s.slotGen asn).toNat) h
    generalize takeCounter key (s.slotGen asn).toNat s = c at taken
    cases taken with
    | waits k => exact refuseLaunch_keeps k
    | refused k => exact refuseLaunch_keeps k
    | taken k =>
      dsimp only
      split
      · exact refuseLaunch_keeps (badKey_keeps (State.count_keeps k))
      · exact hd (grantLaunch_keeps (State.count_keeps (useKey_keeps k)))

theorem selectCell_keeps {sf idx a' : Nat} {s : State} (h : Keeps a s) : Keeps a (selectCell sf idx a' s) := by
  unfold selectCell
  extract_lets m c
  split
  · exact h
  · refine .ite h ?_
    split
    · exact selectDownlink_keeps h
    · exact .ite (selectDownlink_keeps h) h
    · exact .ite h (selectControl_keeps id h)
    · exact .ite h (selectControl_keeps (fun h => State.onLink_keeps h) h)
    · exact h

theorem selectGate_keeps {r : Fin 3} {idx a' : Nat} {s : State} (h : Keeps a s) : Keeps a (selectGate r idx a' s) := by
  unfold selectGate
  extract_lets m
  split
  · exact h
  · split
    · exact h
    · extract_lets q ch late t0 s1
      have h1 : Keeps a s1 := takeAll_keeps h
      refine .ite h ?_
      split
      · exact countTx_keeps h1
      · refine .ite (countTx_keeps h1) (.ite (countTx_keeps (unsealFrame_keeps h1)) ?_)
        extract_lets air x
        refine .ite (countTx_keeps h1) ?_
        split
        · exact refusalRecord_keeps (countRefusal_keeps h1)
        · split
          · exact countTx_keeps (refusalRecord_keeps (countRefusal_keeps h1))
          · exact grantLaunch_keeps (State.onFrame_keeps (withPsdu_keeps (preemptCal_keeps h1)))

theorem bookAck_keeps {f : Nat} {c : SlotCell} {te : Nat} {s : State} (h : Keeps a s) : Keeps a (bookAck f c te s) :=
  .ite (State.onRxFrame_keeps (addLaunch_keeps h)) (refuseLaunch_keeps (countTx_keeps h))

theorem dropAck_keeps {x : Launch} {s : State} (h : Keeps a s) : Keeps a (dropAck x s) :=
  unsendAck_keeps (dropLaunch_keeps (refundLaunch_keeps h))

theorem ackDeadline_keeps {x : Launch} {s : State} (h : Keeps a s) : Keeps a (ackDeadline x s) := by
  unfold ackDeadline
  dsimp only
  split
  · exact State.count_keeps (dropAck_keeps h)
  · split
    · exact refuseLaunch_keeps (dropAck_keeps h)
    · exact reserveBands_keeps (State.onLaunch_keeps h)

/-! ### Machine/Router -/

theorem countRouter_keeps {i : Nat} {s : State} (h : Keeps a s) : Keeps a (countRouter i s) := State.count_keeps h

theorem countPort_keeps {p : Fin 2} {i : Nat} {s : State} (h : Keeps a s) : Keeps a (countPort p i s) := State.count_keeps h

theorem enqueue_keeps {e : Fin 6} {q : Nat} {c : Colour} {x : Packet} {s : State} (h : Keeps a s) :
    Keeps a (enqueue e q c x s).2 := by
  unfold enqueue
  extract_lets m held limit
  split
  · exact .snd (pmuEvent_keeps (countRouter_keeps h))
  · split
    · exact .snd (pmuEvent_keeps (dropAtQueue_keeps h))
    · exact .snd (pmuEvent_keeps (State.onEgress_keeps h))

theorem toHostQueue_keeps {q : Nat} {c : Colour} {reason : Nat} {gen : BitVec 32} {data : Bytes} {s : State}
    (h : Keeps a s) :
    Keeps a (toHostQueue q c reason gen data s).2 := enqueue_keeps h

theorem exceptionPath_keeps {m : NMap Bytes} {reason : Nat} {gen : BitVec 32} {packet : Bytes} {s : State} (h : Keeps a s) :
    Keeps a (exceptionPath m reason gen packet s) :=
  .ite (toHostQueue_keeps (pmuEvent_keeps (countRouter_keeps h))) (pmuEvent_keeps (countRouter_keeps h))

theorem endException_keeps {m : NMap Bytes} {reason : Nat} {gen : BitVec 32} {packet : Bytes} {s : State} (h : Keeps a s) :
    Keeps a (endException m reason gen packet s).2 :=
  .snd (exceptionPath_keeps (.ite (countRouter_keeps h) (.ite (countRouter_keeps h) (.ite (countRouter_keeps h) (.ite
      (countRouter_keeps h) h)))))

theorem sendOnPort_keeps {m : NMap Bytes} {p : Fin 2} {q : Nat} {c : Colour} {dst : Bytes} {etherType : Nat}
    {gen : BitVec 32} {packet original : Bytes} {s : State} (h : Keeps a s) :
    Keeps a (sendOnPort m p q c dst etherType gen packet original s).2 := by
  unfold sendOnPort
  split
  · exact endException_keeps h
  · exact enqueue_keeps h

theorem police_keeps {m : NMap Bytes} {i n dscp : Nat} {s : State} (h : Keeps a s) : Keeps a (police m i n dscp s).2 := by
  unfold police
  dsimp only
  split
  · exact h
  · refine .snd ?_
    split
    · exact State.onRouter_keeps h
    · exact countRouter_keeps (State.onRouter_keeps h)
    · exact countRouter_keeps (State.onRouter_keeps h)

theorem admitPayload_keeps {n q : Nat} {cookie : BitVec 64} {payload : Bytes} {s : State} (h : Keeps a s) :
    Keeps a (admitPayload n q cookie payload s).2 := by
  unfold admitPayload
  have admission := admitFrame_keeps (n := n) (q := q) (cookie := cookie) (payload := payload) h
  generalize admitFrame n q cookie payload s = r at admission
  cases admission with
  | admitted k => exact .snd k
  | refused => exact .snd (countTx_keeps h)

theorem admitPacket_keeps {m : NMap Bytes} {inlineDst : Bool} {n q : Nat} {gen : BitVec 32} {packet original : Bytes}
    {s : State} (h : Keeps a s) : Keeps a (admitPacket m inlineDst n q gen packet original s).2 := by
  have admitted : Keeps a (admitPayload n q 0 (compress m inlineDst packet) (countRouter 3 s)).2 :=
    admitPayload_keeps (countRouter_keeps h)
  unfold admitPacket
  generalize admitPayload n q 0 (compress m inlineDst packet) (countRouter 3 s) = r at admitted
  obtain ⟨rc, t⟩ := r
  dsimp only
  split
  · exact endException_keeps admitted
  · exact admitted

theorem toRelay_keeps {n q : Nat} {c : Colour} {gen : BitVec 32} {packet : Bytes} {s : State} (h : Keeps a s) :
    Keeps a (toRelay n q c gen packet s).2 := by
  unfold toRelay
  split
  · exact .snd (countRouter_keeps h)
  · exact .snd (State.onRouter_keeps h)

theorem applyRoute_keeps {m : NMap Bytes} {gen : BitVec 32} {e : Bytes} {c : Colour} {p : Bytes} {s : State}
    (h : Keeps a s) :
    Keeps a (applyRoute m gen e c p s).2 := by
  unfold applyRoute
  dsimp only
  split
  · exact sendOnPort_keeps h
  · split
    · exact endException_keeps h
    · split
      · exact .snd (countRouter_keeps h)
      · exact admitPacket_keeps h
  · exact toHostQueue_keeps h
  · exact toRelay_keeps h

theorem forwardPacket_keeps {m : NMap Bytes} {gen : BitVec 32} {p : Bytes} {s : State} (h : Keeps a s) :
    Keeps a (forwardPacket m gen p s).2 := by
  unfold forwardPacket
  dsimp only
  split
  · exact endException_keeps (pmuEvent_keeps h)
  · split
    · exact .snd (countRouter_keeps (pmuEvent_keeps h))
    · split
      · exact endException_keeps (pmuEvent_keeps h)
      · split
        · exact .snd (police_keeps (pmuEvent_keeps h))
        · exact .snd (.ite (countRouter_keeps (applyRoute_keeps (police_keeps (pmuEvent_keeps h)))) (applyRoute_keeps
            (police_keeps (pmuEvent_keeps h))))

theorem deliverLocal_keeps {m : NMap Bytes} {gen : BitVec 32} {p : Bytes} {s : State} (h : Keeps a s) :
    Keeps a (deliverLocal m gen p s).2 := toHostQueue_keeps (countRouter_keeps h)

theorem routePacket_keeps {m : NMap Bytes} {gen : BitVec 32} {p : Bytes} {s : State} (h : Keeps a s) :
    Keeps a (routePacket m gen p s).2 := by
  unfold routePacket
  dsimp only
  split
  · exact .snd (.ite (countRouter_keeps h) (State.count_keeps (countRouter_keeps h)))
  · split
    · split
      · exact deliverLocal_keeps (countRouter_keeps h)
      · exact .snd (countRouter_keeps (countRouter_keeps h))
    · split
      · exact deliverLocal_keeps (countRouter_keeps h)
      · split
        · exact .snd (countRouter_keeps (countRouter_keeps h))
        · exact forwardPacket_keeps (countRouter_keeps h)

theorem routeUplink_keeps {m : NMap Bytes} {gen : BitVec 32} {src : Addr} {payload : Bytes} {s : State} (h : Keeps a s) :
    Keeps a (routeUplink m gen src payload s) := by
  unfold routeUplink
  split
  · exact h
  · split
    · exact endException_keeps h
    · exact routePacket_keeps (countRouter_keeps h)

theorem hostPacket_keeps {ring queue : Nat} {cookie : BitVec 64} {data : Bytes} {s : State} (h : Keeps a s) :
    Keeps a (hostPacket ring queue cookie data s).2 := by
  unfold hostPacket
  dsimp only
  split
  · exact h
  · split
    · exact h
    · split
      · exact sendOnPort_keeps (countRouter_keeps h)
      · split
        · exact deliverLocal_keeps (countRouter_keeps h)
        · exact forwardPacket_keeps (countRouter_keeps h)

theorem serveRelay_keeps {s : State} (h : Keeps a s) : Keeps a (serveRelay s) := by
  unfold serveRelay
  dsimp only
  split
  · exact h
  · exact .ite h (.ite (countRouter_keeps (countRouter_keeps (State.onRouter_keeps h))) (admitPacket_keeps
      (countRouter_keeps (State.onRouter_keeps h))))

theorem settlePause_keeps {p : Fin 2} {cut : Bool} {s : State} (h : Keeps a s) : Keeps a (settlePause p cut s) := by
  unfold settlePause
  dsimp only
  split
  · exact h
  · exact .ite h (State.countN_keeps (State.onRouter_keeps h))

theorem takePause_keeps {p : Fin 2} {quanta : Nat} {s : State} (h : Keeps a s) : Keeps a (takePause p quanta s) :=
  .ite (settlePause_keeps (countPort_keeps h)) (State.onRouter_keeps (settlePause_keeps (countPort_keeps h)))

theorem takeArp_keeps {p : Fin 2} {a' : Bytes} {s : State} (h : Keeps a s) : Keeps a (takeArp p a' s) := by
  unfold takeArp
  dsimp only
  split
  · exact .ite (countRouter_keeps (enqueue_keeps h)) (enqueue_keeps h)
  · exact h

theorem execEthFrameReceived_keeps {p : Fin 2} {frame : Bytes} {fcsOk : Bool} {s : State} (h : Keeps a s) :
    NextKeeps a (execEthFrameReceived p frame fcsOk s) := by
  unfold execEthFrameReceived
  extract_lets m s1 tagged o ty data
  have h1 : Keeps a s1 := State.countN_keeps (countPort_keeps h)
  have counted (n : Nat) : NextKeeps a (.next (countPort p n s1)) := .next (countPort_keeps h1)
  refine .ite (.next h) (.ite (counted 3) (.ite (counted 4) (.ite (counted 5) (.ite (.next (takePause_keeps h1))
    (.ite (counted 6) (.ite (.next (.ite (takeArp_keeps h1) h1)) (.ite ?_ (counted 6))))))))
  split
  · exact .ite (.next (.ite (routePacket_keeps h1) h1)) (counted 6)
  · exact counted 6

theorem setLink_keeps {p : Fin 2} {speed : Nat} {s : State} (h : Keeps a s) : Keeps a (setLink p speed s) :=
  .ite h (raiseEvent_keeps (countPort_keeps (State.onRouter_keeps h)))

theorem execPortLinkChange_keeps {p : Fin 2} {up : Bool} {speed : Fin 5} {s : State} (h : Keeps a s) :
    NextKeeps a (execPortLinkChange p up speed s) := .next (setLink_keeps h)

theorem starveRing_keeps {q : Nat} {s : State} (h : Keeps a s) : Keeps a (starveRing q s) :=
  .ite (raiseEvent_keeps (State.onKci_keeps h)) h

theorem sendPacket_keeps {e : Fin 6} {q : Nat} {x : Packet} {s : State} (h : Keeps a s) : Keeps a (sendPacket e q x s) :=
  .ite (toRing_keeps h) (State.countN_keeps (countPort_keeps (State.onRouter_keeps h)))

theorem decideEgress_keeps {e : Fin 6} {s : State} (h : Keeps a s) : Keeps a (decideEgress e s) := by
  unfold decideEgress
  extract_lets m g l s1
  have h1 : Keeps a s1 := .ite (Keeps.foldl (fun _ _ h => starveRing_keeps h) h) h
  refine .ite h1 ?_
  split
  · exact h1
  · split
    · exact h1
    · exact sendPacket_keeps (pmuEvent_keeps (State.onEgress_keeps h1))

theorem execEgressDecision_keeps {port : Option (Fin 2)} {s : State} (h : Keeps a s) :
    NextKeeps a (execEgressDecision port s) := by
  unfold execEgressDecision
  split
  · exact .next h
  · split
    · exact .next (decideEgress_keeps h)
    · exact .next (.ite (decideEgress_keeps h) h)

theorem execQueueDropsReport_keeps {s : State} (h : Keeps a s) : NextKeeps a (execQueueDropsReport s) :=
  .ite (.next h) (.next (raiseEvent_keeps (State.onRouter_keeps h)))

theorem execRouterConfig_keeps {buf : Bytes} {s : State} (h : Keeps a s) : NextKeeps a (execRouterConfig buf s) :=
  .next (runKci_keeps (fun h1 => stageOne_keeps h1) h)

theorem execRouteLoad_keeps {buf : Bytes} {s : State} (h : Keeps a s) : NextKeeps a (execRouteLoad buf s) := by
  refine .next (runKci_keeps (fun h => .ite .no (.ite .no ?_)) h)
  split
  · exact .no
  · exact .ite .no (.done (stageRun_keeps (addWrites_keeps h)))

theorem execWeirEgressLoad_keeps {buf : Bytes} {s : State} (h : Keeps a s) : NextKeeps a (execWeirEgressLoad buf s) :=
  .next (runKci_keeps (fun h1 => .ite .refuse (.ite .refuse (stageOne_keeps h1))) h)

theorem execPolicerLoad_keeps {buf : Bytes} {s : State} (h : Keeps a s) : NextKeeps a (execPolicerLoad buf s) := by
  refine .next (runKci_keeps (fun h => .ite .no (.ite .no ?_)) h)
  split
  · exact .no
  · exact .done (stageRun_keeps h)

theorem execPolicerRead_keeps {buf : Bytes} {s : State} (h : Keeps a s) : NextKeeps a (execPolicerRead buf s) :=
  .next (runKci_keeps (fun h1 => .ite .refuse (.ite .refuse (.done h1))) h)

theorem execPortConfig_keeps {buf : Bytes} {s : State} (h : Keeps a s) : NextKeeps a (execPortConfig buf s) :=
  .next (runKci_keeps (fun h1 => .ite .refuse (stageOne_keeps h1)) h)

theorem refillPolicers_keeps {which : Nat → Bool} {s : State} (h : Keeps a s) : Keeps a (refillPolicers which s) :=
  Keeps.foldl (fun _ _ h1 => State.onRouter_keeps h1) h

theorem applyRouter_keeps {old : NMap Bytes} {s : State} (h : Keeps a s) : Keeps a (applyRouter old s) :=
  refillPolicers_keeps (settleEgress_keeps h)

theorem retrainPort_keeps {p : Fin 2} {s : State} (h : Keeps a s) : Keeps a (retrainPort p s) :=
  setLink_keeps (settlePause_keeps h)

theorem applyPort_keeps {p : Fin 2} {s : State} (h : Keeps a s) : Keeps a (applyPort p s) := .ite (retrainPort_keeps h) h

theorem resetRouter_keeps {s : State} (h : Keeps a s) : Keeps a (resetRouter s) :=
  retrainPort_keeps (retrainPort_keeps (refillPolicers_keeps (State.onRouter_keeps h)))

/-! ### Machine/Sluice -/

theorem execLaunchSelection_keeps {what : LaunchWhat} {asn : Nat} {s : State} (h : Keeps a s) :
    NextKeeps a (execLaunchSelection what asn s) := by
  unfold execLaunchSelection
  split
  · exact .next h
  · split
    · exact .next (.ite (selectCell_keeps h) h)
    · exact .next (.ite (selectGate_keeps h) h)

theorem execLoClassify_keeps {l : Nat} {s : State} (h : Keeps a s) : NextKeeps a (execLoClassify l s) := by
  unfold execLoClassify
  dsimp only
  split
  · exact .next h
  · exact .ite (.next (State.onLaunch_keeps (lookupChan_keeps h))) (.next h)

theorem retuneLaunch_keeps {l : Nat} {s : State} (h : Keeps a s) : Keeps a (retuneLaunch l s) := by
  unfold retuneLaunch
  dsimp only
  split
  · exact h
  · exact .ite (retuneAs_keeps (State.onLaunch_keeps h)) h

theorem execRetuneStart_keeps {l : RetuneFor} {s : State} (h : Keeps a s) : NextKeeps a (execRetuneStart l s) := by
  unfold execRetuneStart
  refine .next ?_
  split
  · exact retuneLaunch_keeps h
  · exact retunePowered_keeps h

theorem execTrSwAssert_keeps {l : Nat} {s : State} (h : Keeps a s) : NextKeeps a (execTrSwAssert l s) := by
  unfold execTrSwAssert
  dsimp only
  split
  · exact .next h
  · split
    · split
      · exact .next (endLaunch_keeps h)
      · exact .next (closeRx_keeps (dropReception_keeps (State.onLaunch_keeps (State.onRadio_keeps h))))
    · exact .next h

theorem execPaEnAssert_keeps {l : Nat} {s : State} (h : Keeps a s) : NextKeeps a (execPaEnAssert l s) := by
  unfold execPaEnAssert
  split
  · exact .next h
  · split
    · split
      · exact .next (endLaunch_keeps h)
      · exact .next (State.onLaunch_keeps (State.onRadio_keeps h))
    · exact .next h

theorem execRampUpStart_keeps {l lateUs : Nat} {s : State} (h : Keeps a s) : NextKeeps a (execRampUpStart l lateUs s) := by
  unfold execRampUpStart
  dsimp only
  split
  · exact .next h
  · split
    · exact .next h
    · split
      · exact .next (.ite (endLaunch_keeps h) (restBalls_keeps (endLaunch_keeps h)))
      · exact .ite (.next (.ite (endLaunch_keeps (countRadio_keeps h)) (restBalls_keeps (endLaunch_keeps (countRadio_keeps
          h))))) (.ite (.next (State.onLaunch_keeps h)) (.next h))

theorem countLaunched_keeps {x : Launch} {s : State} (h : Keeps a s) : Keeps a (countLaunched x s) := by
  unfold countLaunched
  dsimp only
  split
  · exact State.count_keeps (countTx_keeps (.ite (countRadio_keeps (.ite h (countTx_keeps h))) (.ite h (countTx_keeps h))))
  · exact State.count_keeps (countTx_keeps (.ite (countRadio_keeps (.ite h (countTx_keeps h))) (.ite h (countTx_keeps h))))
  · exact State.count_keeps (.ite (countRadio_keeps (.ite h (countTx_keeps h))) (.ite h (countTx_keeps h)))
  · exact countTx_keeps (.ite (countRadio_keeps (.ite h (countTx_keeps h))) (.ite h (countTx_keeps h)))
  · exact .ite (countRadio_keeps (.ite h (countTx_keeps h))) (.ite h (countTx_keeps h))
  · exact .ite (countTx_keeps (countTx_keeps (.ite (countRadio_keeps (.ite h (countTx_keeps h))) (.ite h (countTx_keeps
      h))))) (countTx_keeps (.ite (countRadio_keeps (.ite h (countTx_keeps h))) (.ite h (countTx_keeps h))))

theorem execLaunchStart_keeps {l : Nat} {s : State} (h : Keeps a s) : NextKeeps a (execLaunchStart l s) := by
  unfold execLaunchStart
  dsimp only
  split
  · exact .next h
  · exact .ite (.next (countLaunched_keeps (State.onLaunch_keeps (addSecond_keeps (chargeBands_keeps (refundLaunch_keeps
      h)))))) (.next h)

theorem execRampDownStart_keeps {l : Nat} {s : State} (h : Keeps a s) : NextKeeps a (execRampDownStart l s) := by
  unfold execRampDownStart
  dsimp only
  split
  · exact .next h
  · split
    · split
      · exact .next (State.onLaunch_keeps h)
      · exact .next (State.onFrame_keeps (State.onLaunch_keeps h))
    · exact .next h

theorem execPaEnDeassert_keeps {r : Fin 3} {s : State} (h : Keeps a s) : NextKeeps a (execPaEnDeassert r s) :=
  .next (.ite h (State.onRadio_keeps h))

theorem finishLaunch_keeps {x : Launch} {s : State} (h : Keeps a s) : Keeps a (finishLaunch x s) := by
  unfold finishLaunch
  dsimp only
  split
  · exact writeLaunchRecord_keeps (State.onThermal_keeps (State.countN_keeps (dropLaunch_keeps h)))
  · exact .ite (State.onFrame_keeps (State.onThermal_keeps (State.countN_keeps (dropLaunch_keeps h)))) (removeFrame_keeps
      (State.onFrame_keeps (State.onThermal_keeps (State.countN_keeps (dropLaunch_keeps h)))))

theorem execTrSwDeassert_keeps {r : Fin 3} {s : State} (h : Keeps a s) : NextKeeps a (execTrSwDeassert r s) :=
  .next (.ite (Keeps.foldl (fun _ _ h1 => finishLaunch_keeps h1) h) (State.onRadio_keeps (Keeps.foldl (fun _ _ h1 =>
      finishLaunch_keeps h1) h)))

theorem obsReject_keeps {r : Fin 3} {check ch : Nat} {excess : Int} {s : State} (h : Keeps a s) :
    Keeps a (obsReject r check ch excess s) :=
  .ite (raiseRadio_keeps (raiseRadio_keeps (raiseEvent_keeps (State.onRadio_keeps (cutRadio_keeps (countRadio_keeps
      (State.countN_keeps h))))))) (raiseRadio_keeps (raiseEvent_keeps (State.onRadio_keeps (cutRadio_keeps
          (countRadio_keeps (State.countN_keeps h))))))

theorem execObsPowerVerdict_keeps {r : Fin 3} {measured : Int} {s : State} (h : Keeps a s) :
    NextKeeps a (execObsPowerVerdict r measured s) := by
  unfold execObsPowerVerdict
  dsimp only
  split
  · exact .next h
  · exact .ite (.next (obsReject_keeps (countRadio_keeps h))) (.ite (.next (countRadio_keeps (countRadio_keeps h))) (.next
      (countRadio_keeps h)))

theorem execObsFrequencyVerdict_keeps {r : Fin 3} {errors : List (Nat × Int)} {outside : Int} {s : State} (h : Keeps a s) :
    NextKeeps a (execObsFrequencyVerdict r errors outside s) := by
  unfold execObsFrequencyVerdict
  dsimp only
  split
  · exact .next h
  · split
    · exact .next (obsReject_keeps (countRadio_keeps h))
    · exact .next (.ite (obsReject_keeps (countRadio_keeps h)) (countRadio_keeps h))

theorem execAckStage5Deadline_keeps {l : Nat} {s : State} (h : Keeps a s) : NextKeeps a (execAckStage5Deadline l s) := by
  unfold execAckStage5Deadline
  split
  · exact .next h
  · exact .next (.ite (ackDeadline_keeps h) h)

theorem execDlAckWindowExpiry_keeps {f : Nat} {s : State} (h : Keeps a s) : NextKeeps a (execDlAckWindowExpiry f s) := by
  unfold execDlAckWindowExpiry
  dsimp only
  split
  · exact .next h
  · exact .ite (.next h) (.ite (.next (expireFrame_keeps (State.onFrame_keeps h))) (.ite (.next (removeFrame_keeps
      (countTx_keeps (State.onFrame_keeps h)))) (.next (State.onFrame_keeps h))))

theorem execDlLifetimeExpiry_keeps {f : Nat} {s : State} (h : Keeps a s) : NextKeeps a (execDlLifetimeExpiry f s) := by
  unfold execDlLifetimeExpiry
  split
  · exact .next h
  · exact .ite (.next h) (.ite (.next (State.onFrame_keeps h)) (.next (expireFrame_keeps h)))

theorem takeDlAck_keeps {ch startNs : Nat} {counter echo : BitVec 32} {s : State} (h : Keeps a s) :
    Keeps a (takeDlAck ch startNs counter echo s) := by
  unfold takeDlAck
  dsimp only
  split
  · exact h
  · exact removeFrame_keeps h

theorem execGateEntry_keeps {r : Fin 3} {idx : Nat} {s : State} (h : Keeps a s) : NextKeeps a (execGateEntry r idx s) := by
  unfold execGateEntry
  dsimp only
  split
  · exact .next h
  · split
    · exact .next h
    · split
      · exact .next h
      · split
        · exact .next h
        · exact .ite (.next (State.onSluice_keeps h)) (.next h)

theorem advanceBuckets_keeps {i : Fin 16} {n : Nat} {at_ : BitVec 48} {s : State} (h : Keeps a s) :
    Keeps a (advanceBuckets i n at_ s) := nearCheck_keeps (State.onAccount_keeps h)

theorem execDutyBucketAdvance_keeps {band : Fin 16} {s : State} (h : Keeps a s) :
    NextKeeps a (execDutyBucketAdvance band s) := .next (.ite h (.ite (advanceBuckets_keeps h) h))

theorem execSluiceConfig_keeps {buf : Bytes} {s : State} (h : Keeps a s) : NextKeeps a (execSluiceConfig buf s) :=
  .next (runKci_keeps (fun h1 => stageOne_keeps h1) h)

theorem execGateListLoad_keeps {buf : Bytes} {s : State} (h : Keeps a s) : NextKeeps a (execGateListLoad buf s) := by
  unfold execGateListLoad
  dsimp only
  refine .next ?_
  refine runKci_keeps ?_ h
  refine fun h1 => ?_
  split
  · exact .refuse
  · split
    · exact .refuse
    · exact .done (State.onCoh_keeps (State.stage_keeps (stageRun_keeps h1)))

theorem execDutyBandLoad_keeps {buf : Bytes} {s : State} (h : Keeps a s) : NextKeeps a (execDutyBandLoad buf s) := by
  unfold execDutyBandLoad
  dsimp only
  refine .next ?_
  refine runKci_keeps ?_ h
  refine fun h1 => ?_
  split
  · exact .refuse
  · split
    · exact .refuse
    · exact .done (State.onCoh_keeps (stageRun_keeps h1))

theorem execTxTest_keeps {buf : Bytes} {s : State} (h : Keeps a s) : NextKeeps a (execTxTest buf s) := by
  unfold execTxTest
  dsimp only
  refine .next ?_
  refine runKci_keeps ?_ h
  refine fun h1 => ?_
  split
  · exact .refuse
  · split
    · exact .refuse
    · split
      · exact .refuse
      · split
        · exact .refuse
        · split
          · exact .done (countRefusal_keeps h1)
          · exact acceptLong_keeps (lookupChan_keeps (grantLaunch_keeps h1))

theorem execTxTestEnd_keeps {r : Fin 3} {s : State} (h : Keeps a s) : NextKeeps a (execTxTestEnd r s) := by
  unfold execTxTestEnd
  split
  · exact .next h
  · exact .next (longDone_keeps (State.onLaunch_keeps h))

theorem activateGate_keeps {r : Fin 3} {s : State} (h : Keeps a s) : Keeps a (activateGate r s) :=
  .ite h (raiseEvent_keeps (State.onSluice_keeps h))

theorem applyGate_keeps {old : NMap Bytes} {s : State} {r : Fin 3} (h : Keeps a s) : Keeps a (applyGate old s r) :=
  .ite (State.onSluice_keeps h) (.ite h (activateGate_keeps (State.onSluice_keeps h)))

theorem rebookReserved_keeps {s : State} (h : Keeps a s) : Keeps a (rebookReserved s) :=
  Keeps.foldl (fun _ _ h1 => reserveBands_keeps h1) (State.onSluice_keeps h)

theorem applySluice_keeps {old : NMap Bytes} {s : State} (h : Keeps a s) : Keeps a (applySluice old s) :=
  State.onFn_keeps (Keeps.foldl (fun _ _ h1 => applyGate_keeps h1) (Keeps.foldl (fun _ _ h1 => .ite (nearCheck_keeps h1)
      h1) (rebookReserved_keeps (.ite (settleEgress_keeps h) (State.onSluice_keeps (settleEgress_keeps h))))))

theorem resetSluice_keeps {s : State} (h : Keeps a s) : Keeps a (resetSluice s) :=
  Keeps.foldl (fun _ _ h1 => activateGate_keeps h1) (State.onSluice_keeps (Keeps.foldl (fun _ _ h1 => removeFrame_keeps h1)
      (releaseBookings_keeps h)))

/-! ### Machine/Uplink -/

theorem countLink_keeps {i : Nat} {s : State} (h : Keeps a s) : Keeps a (countLink i s) := State.count_keeps h

theorem noAck_keeps {f : Nat} {s : State} (h : Keeps a s) : Keeps a (noAck f s) := by
  unfold noAck
  split
  · exact h
  · exact State.onRxFrame_keeps (releaseAck_keeps h)

theorem buildAck_keeps {f : Nat} {h' : MacFrame} {ctr echo : BitVec 32} {corr : Int} {flags : BitVec 8} {s : State}
    (h : Keeps a s) :
    Keeps a (buildAck f h' ctr echo corr flags s) := by
  unfold buildAck
  dsimp only
  split
  · exact h
  · split
    · exact .ite (State.onRxFrame_keeps h) h
    · exact .ite h (ackOffset_keeps (State.onRxFrame_keeps (State.onLaunch_keeps h)))

theorem buildStored_keeps {f n : Nat} {h' : MacFrame} {s : State} (h : Keeps a s) : Keeps a (buildStored f n h' s) :=
  buildAck_keeps h

theorem newAck_keeps {f : Nat} {h' : MacFrame} {s : State} (h : Keeps a s) : Keeps a (newAck f h' s) := by
  unfold newAck
  dsimp only
  split
  · exact h
  · split
    · refine buildAck_keeps ?_
      split
      · exact State.onNb_keeps h
      · exact h
    · exact noAck_keeps h

theorem listGroup_keeps {f : Nat} {h' : MacFrame} {s : State} (h : Keeps a s) : Keeps a (listGroup f h' s) := by
  unfold listGroup
  dsimp only
  split
  · exact h
  · split
    · refine State.onRxFrame_keeps ?_
      refine State.onLink_keeps ?_
      split
      · exact State.onNb_keeps h
      · exact h
    · exact h

theorem acceptFrame_keeps {f : Nat} {h' : MacFrame} {s : State} (h : Keeps a s) : Keeps a (acceptFrame f h' s) := by
  unfold acceptFrame
  dsimp only
  split
  · exact h
  · split
    · exact h
    · exact listGroup_keeps (countLink_keeps (State.onNb_keeps (.ite (State.onLink_keeps h) (State.onNb_keeps h))))

theorem toGate_keeps {f : Nat} {c : RxClass} {reason : Nat} {s : State} (h : Keeps a s) : Keeps a (toGate f c reason s) :=
  State.onRxFrame_keeps h

theorem rejectFrame_keeps {f reason : Nat} {s : State} (h : Keeps a s) : Keeps a (rejectFrame f reason s) :=
  toGate_keeps (noAck_keeps (.ite (countLink_keeps h) (.ite (countLink_keeps h) (.ite (countLink_keeps h) (.ite
      (countLink_keeps h) h)))))

theorem takeDuplicate_keeps {f n : Nat} {h' : MacFrame} {accepted : Bool} {s : State} (h : Keeps a s) :
    Keeps a (takeDuplicate f n h' accepted s) := by
  unfold takeDuplicate
  dsimp only
  split
  · exact State.onNb_keeps h
  · exact .ite (toGate_keeps (buildStored_keeps (countLink_keeps (.ite (listGroup_keeps (State.onNb_keeps h))
      (State.onNb_keeps h))))) (toGate_keeps (noAck_keeps (countLink_keeps (.ite (listGroup_keeps (State.onNb_keeps h))
          (State.onNb_keeps h)))))

theorem classify_keeps {f : Nat} {s : State} (h : Keeps a s) : Keeps a (classify f s) := by
  unfold classify
  dsimp only
  split
  · exact h
  · split
    · split
      · exact rejectFrame_keeps h
      · split
        · exact .ite (takeDuplicate_keeps h) (State.onRxFrame_keeps h)
        · split
          · exact takeDuplicate_keeps h
          · exact rejectFrame_keeps h
          · exact toGate_keeps (.ite (acceptFrame_keeps (.ite (noAck_keeps h) (newAck_keeps h))) (.ite (noAck_keeps h)
              (newAck_keeps h)))
    · exact rejectFrame_keeps h

theorem checkSource_keeps {f : Nat} {h' : MacFrame} {s : State} (h : Keeps a s) : Keeps a (checkSource f h' s) := by
  unfold checkSource
  dsimp only
  split
  · exact h
  · split
    · exact .ite (toGate_keeps (newAck_keeps (countLink_keeps (.ite (State.onRxFrame_keeps h) (noAck_keeps
        (State.onRxFrame_keeps h)))))) (rejectFrame_keeps (.ite (State.onRxFrame_keeps h) (noAck_keeps
            (State.onRxFrame_keeps h))))
    · exact .ite (rejectFrame_keeps (.ite (State.onRxFrame_keeps h) (noAck_keeps (State.onRxFrame_keeps h)))) (.ite
        (rejectFrame_keeps (.ite (State.onRxFrame_keeps h) (noAck_keeps (State.onRxFrame_keeps h)))) (.ite
            (rejectFrame_keeps (.ite (State.onRxFrame_keeps h) (noAck_keeps (State.onRxFrame_keeps h)))) (.ite
                (rejectFrame_keeps (.ite (State.onRxFrame_keeps h) (noAck_keeps (State.onRxFrame_keeps h))))
                    (classify_keeps (.ite (State.onRxFrame_keeps h) (noAck_keeps (State.onRxFrame_keeps h)))))))

theorem enterStage5_keeps {f : Nat} {s : State} (h : Keeps a s) : Keeps a (enterStage5 f s) := by
  unfold enterStage5
  split
  · exact h
  · extract_lets m s1 s2 s3 unread
    have h1 : Keeps a s1 := countLink_keeps (State.onThermal_keeps h)
    have h2 : Keeps a s2 := .ite (State.count_keeps h1) h1
    have h3 : Keeps a s3 := .ite (countLink_keeps h2) h2
    have hu : Keeps a unread := State.onRxFrame_keeps h3
    refine .ite (rejectFrame_keeps hu) (.ite (rejectFrame_keeps hu) ?_)
    split
    · exact dropRx_keeps (noAck_keeps h3)
    · have h4 {c : BitVec 32} : Keeps a (s3.onRxFrame f fun y => { y with counter := c }) := State.onRxFrame_keeps h3
      exact .ite (rejectFrame_keeps h4) (.ite (rejectFrame_keeps h4)
        (.ite (takeDlAck_keeps (dropRx_keeps (noAck_keeps h4))) (checkSource_keeps h4)))

theorem runStage5_keeps {s : State} (h : Keeps a s) : Keeps a (runStage5 s) :=
  Keeps.foldl (fun _ _ h1 => enterStage5_keeps h1) h

theorem wakeWaiting_keeps {n : Option Nat} {c : BitVec 32} {s : State} (h : Keeps a s) : Keeps a (wakeWaiting n c s) :=
  Keeps.foldl (fun _ _ h1 => classify_keeps h1) h

theorem retireFrame_keeps {x : RxFrame} {s : State} (h : Keeps a s) : Keeps a (retireFrame x s) :=
  runStage5_keeps (resumeStalled_keeps (.ite (State.onRxFrame_keeps h) (dropRx_keeps h)))

theorem recordFrame_keeps {f reason : Nat} {payload : Bytes} {s : State} (h : Keeps a s) :
    Keeps a (recordFrame f reason payload s) := by
  unfold recordFrame
  split
  · exact h
  · exact retireFrame_keeps (emitRecord_keeps h)

theorem verifiedFrame_keeps {f : Nat} {h' : MacFrame} {plain : Bytes} {s : State} (h : Keeps a s) :
    Keeps a (verifiedFrame f h' plain s) := by
  unfold verifiedFrame
  dsimp only
  split
  · exact h
  · exact .ite (takeBeacon_keeps (recordFrame_keeps h)) (.ite (recordFrame_keeps h) (.ite (routeUplink_keeps
      (recordFrame_keeps h)) (recordFrame_keeps h)))

theorem startVerify_keeps {f : Nat} {p : Fin 32} {x : RxFrame} {h' : MacFrame} {s : State} (h : Keeps a s) :
    Keeps a (startVerify f p x h' s) := by
  unfold startVerify
  dsimp only
  split
  · exact recordFrame_keeps h
  · split
    · exact recordFrame_keeps (badKey_keeps h)
    · exact runStage5_keeps (resumeStalled_keeps (State.onRxFrame_keeps (useKey_keeps (State.onPage_keeps h))))

theorem execReleaseGatePass_keeps {f : Nat} {p : Fin 4} {s : State} (h : Keeps a s) :
    NextKeeps a (execReleaseGatePass f p s) := by
  unfold execReleaseGatePass
  dsimp only
  split
  · exact .next h
  · split
    · exact .next h
    · split
      · exact .ite (.next h) (.next (recordFrame_keeps h))
      · exact .ite (.ite (.next h) (.next (verifiedFrame_keeps h))) (.ite (.next h) (.next (wakeWaiting_keeps
          (startVerify_keeps h))))
      · exact .ite (.ite (.next h) (.next (verifiedFrame_keeps h))) (.ite (.next h) (.next (wakeWaiting_keeps
          (startVerify_keeps h))))
      · exact .ite (.next h) (.next (recordFrame_keeps h))

theorem linkVerdict_keeps {f : Nat} {p : Fin 32} {good : Bool} {s : State} (h : Keeps a s) :
    Keeps a (linkVerdict f p good s) := by
  unfold linkVerdict
  dsimp only
  split
  · exact State.count_keeps (State.onPage_keeps h)
  · split
    · exact State.count_keeps (State.onPage_keeps h)
    · exact wakeWaiting_keeps (.ite (verifiedFrame_keeps (acceptFrame_keeps (State.count_keeps (State.onPage_keeps h))))
        (recordFrame_keeps (countLink_keeps (State.count_keeps (State.onPage_keeps h)))))

theorem execTagVerifyVerdict_keeps {p : Fin 32} {s : State} (h : Keeps a s) : NextKeeps a (execTagVerifyVerdict p s) := by
  unfold execTagVerifyVerdict
  split
  · exact .next h
  · split
    · exact .next h
    · split
      · exact .next (linkVerdict_keeps h)
      · exact .next (pageDone_keeps (pageVerdict_keeps h))

theorem resetPageLink_keeps {p : Fin 32} {s : State} (h : Keeps a s) : Keeps a (resetPageLink p s) := by
  unfold resetPageLink
  dsimp only
  split
  · exact resetPage_keeps h
  · exact wakeWaiting_keeps (recordFrame_keeps (resetPage_keeps h))

theorem resetLinkRx_keeps {s : State} (h : Keeps a s) : Keeps a (resetLinkRx s) :=
  Keeps.foldl (fun _ _ h1 => rejectFrame_keeps h1) (resetLink_keeps h)

/-! ### Machine/Delta -/

theorem execListenIntervalStart_keeps {ch : Fin 256} {s : State} (h : Keeps a s) :
    NextKeeps a (execListenIntervalStart ch s) := .ite (.next (startListening_keeps h)) (.next h)

theorem execListenIntervalEnd_keeps {ch : Fin 256} {s : State} (h : Keeps a s) : NextKeeps a (execListenIntervalEnd ch s) :=
  .next (.ite h (stopListening_keeps h))

theorem addRx_keeps {x : RxFrame} {s : State} (h : Keeps a s) : Keeps a (addRx x s) := State.onRx_keeps h

theorem takeLane_keeps {old new : RxFrame} {s : State} (h : Keeps a s) : Keeps a (takeLane old new s) :=
  addRx_keeps (dropRx_keeps (State.onRx_keeps h))

theorem switchLane_keeps {y x : RxFrame} {s : State} (h : Keeps a s) : Keeps a (switchLane y x s) :=
  .ite (emitRecord_keeps (countFailed_keeps (State.count_keeps (takeLane_keeps (releaseAck_keeps (State.count_keeps h))))))
      (takeLane_keeps (releaseAck_keeps (State.count_keeps h)))

theorem checkpointOf_keeps {y : RxFrame} {ch : Nat} {s : State} (h : Keeps a s) : Keeps a (checkpointOf y ch s).2 :=
  .snd (State.free_keeps (State.free_keeps h))

theorem resolveOffer_keeps {y : RxFrame} {ch : Nat} {power : Int} {s : State} (h : Keeps a s) :
    Keeps a (resolveOffer y ch power s) := by
  unfold resolveOffer
  dsimp only
  split
  · exact discardEarly_keeps (State.count_keeps (countGroup_keeps h))
  · split
    · exact switchLane_keeps (countGroup_keeps h)
    · split
      · exact State.count_keeps (countGroup_keeps h)
      · split
        · exact switchLane_keeps (countGroup_keeps h)
        · exact addRx_keeps (State.onRxFrame_keeps (State.count_keeps (setCapture_keeps (checkpointOf_keeps
            (countGroup_keeps h)))))

theorem execPreambleDetected_keeps {ch : Fin 256} {seen : Detection} {s : State} (h : Keeps a s) :
    NextKeeps a (execPreambleDetected ch seen s) := by
  unfold execPreambleDetected
  dsimp only
  split
  · exact .next h
  · split
    · exact .next (countGroup_keeps (countGroup_keeps h))
    · split
      · exact .ite (.next (addRx_keeps (countGroup_keeps h))) (.next h)
      · exact .ite (.next (resolveOffer_keeps (countGroup_keeps h))) (.next (countGroup_keeps (countGroup_keeps h)))

theorem execSyncSearchTimeout_keeps {f : Nat} {s : State} (h : Keeps a s) : NextKeeps a (execSyncSearchTimeout f s) := by
  unfold execSyncSearchTimeout
  dsimp only
  split
  · exact .next h
  · exact .next (.ite (countGroup_keeps (discardEarly_keeps h)) h)

theorem execSyncWordAccepted_keeps {f syncOffset : Nat} {afc : Int} {word : BitVec 32} {s : State} (h : Keeps a s) :
    NextKeeps a (execSyncWordAccepted f syncOffset afc word s) := by
  unfold execSyncWordAccepted
  dsimp only
  split
  · exact .next h
  · split
    · exact .next h
    · exact .ite (.next (countGroup_keeps (discardEarly_keeps h))) (.ite (.next (countGroup_keeps (discardEarly_keeps h)))
        (.next (State.onRxFrame_keeps h)))

theorem enterPsdu_keeps {x : RxFrame} {s : State} (h : Keeps a s) : Keeps a (enterPsdu x s) :=
  State.onChan_keeps (State.onRxFrame_keeps h)

theorem bookFor_keeps {f : Nat} {x : RxFrame} {c : Option SlotCell} {s : State} (h : Keeps a s) :
    Keeps a (bookFor f x c s) := by
  unfold bookFor
  split
  · exact h
  · exact .ite (bookAck_keeps h) h

theorem takeSecondPart_keeps {x y : RxFrame} {o : OxMode} {s : State} (h : Keeps a s) : Keeps a (takeSecondPart x y o s)
    := by
  unfold takeSecondPart
  dsimp only
  split
  · exact countGroup_keeps (discardEarly_keeps h)
  · split
    · split
      · exact .ite (buildStored_keeps (bookFor_keeps (enterPsdu_keeps h))) (bookFor_keeps (enterPsdu_keeps h))
      · exact bookFor_keeps (enterPsdu_keeps h)
    · exact bookFor_keeps (enterPsdu_keeps h)

theorem takePhr_keeps {x : RxFrame} {o : OxMode} {phr : BitVec 32} {agree : Bool} {s : State} (h : Keeps a s) :
    Keeps a (takePhr x o phr agree s) := by
  unfold takePhr
  dsimp only
  split
  · exact countGroup_keeps (discardEarly_keeps h)
  · split
    · exact countGroup_keeps (discardEarly_keeps h)
    · split
      · exact .ite (discardEarly_keeps h) (discardWith_keeps h)
      · split
        · split
          · exact countGroup_keeps (discardEarly_keeps h)
          · exact takeSecondPart_keeps h
        · exact .ite (discardWith_keeps (countGroup_keeps h)) (.ite (enterPsdu_keeps h) (bookFor_keeps (enterPsdu_keeps h)))

theorem takeSunPhr_keeps {x : RxFrame} {phr : BitVec 32} {s : State} (h : Keeps a s) : Keeps a (takeSunPhr x phr s) :=
  .ite (countGroup_keeps (discardEarly_keeps h)) (.ite (countGroup_keeps (discardEarly_keeps h)) (bookFor_keeps
      (enterPsdu_keeps h)))

theorem execPhrReceived_keeps {f : Nat} {phr : BitVec 32} {agree : Bool} {rssi : Int} {s : State} (h : Keeps a s) :
    NextKeeps a (execPhrReceived f phr agree rssi s) := by
  unfold execPhrReceived
  dsimp only
  split
  · exact .next h
  · split
    · exact .next h
    · split
      · exact .next (takePhr_keeps h)
      · exact .next (takeSunPhr_keeps h)

theorem joinSecond_keeps {x : RxFrame} {llr : List Int} {s : State} (h : Keeps a s) : Keeps a (joinSecond x llr s) := by
  unfold joinSecond
  dsimp only
  split
  · refine State.onRxFrame_keeps ?_
    split
    · refine State.onRxFrame_keeps ?_
      split
      · exact unpark_keeps (freeLane_keeps h)
      · exact freeLane_keeps h
    · split
      · exact unpark_keeps (freeLane_keeps h)
      · exact freeLane_keeps h
  · refine joinLlrs_keeps ?_
    refine dropRx_keeps ?_
    split
    · exact unpark_keeps (freeLane_keeps h)
    · exact freeLane_keeps h

theorem execFrameHandOff_keeps {f : Nat} {llrs : List Int} {snr : Int} {evm : Nat} {s : State} (h : Keeps a s) :
    NextKeeps a (execFrameHandOff f llrs snr evm s) := by
  unfold execFrameHandOff
  dsimp only
  split
  · exact .next h
  · split
    · exact .next h
    · split
      · exact .next (State.onRxFrame_keeps (.ite (countGroup_keeps (State.onChan_keeps (countGroup_keeps
          (State.onRxFrame_keeps h)))) (State.onChan_keeps (countGroup_keeps (State.onRxFrame_keeps h)))))
      · split
        · exact .next (runStage5_keeps (feedEngines_keeps (joinSecond_keeps (State.onChan_keeps (countGroup_keeps
            (State.onRxFrame_keeps h))))))
        · exact .ite (.next (discardWith_keeps (State.onChan_keeps (countGroup_keeps (State.onRxFrame_keeps h))))) (.ite
            (.next (discardWith_keeps (State.onChan_keeps (countGroup_keeps (State.onRxFrame_keeps h))))) (.next
                (handOff_keeps (State.onChan_keeps (countGroup_keeps (State.onRxFrame_keeps h))))))

theorem execTrellisDecodeDone_keeps {f : Nat} {soft : List Int} {s : State} (h : Keeps a s) :
    NextKeeps a (execTrellisDecodeDone f soft s) := by
  unfold execTrellisDecodeDone
  dsimp only
  split
  · exact .next h
  · exact .ite (.next h) (.ite (.next (runStage5_keeps (State.onRxFrame_keeps h))) (.next (recordFrame_keeps
      (countFailed_keeps (countGroup_keeps (noAck_keeps h))))))

theorem endObligation_keeps {lane : Fin 64} {c : Capture} {s : State} (h : Keeps a s) : Keeps a (endObligation lane c s)
    := by
  unfold endObligation
  dsimp only
  split
  · exact feedEngines_keeps (unpark_keeps (setCapture_keeps h))
  · exact setCapture_keeps h

theorem freeScales_keeps {n : Nat} {s : State} (h : Keeps a s) : Keeps a (freeScales n s).2 := by
  induction n generalizing s with
  | zero => exact h
  | succ n ih => exact ih (State.free_keeps (State.free_keeps h))

theorem subtractFrom_keeps {m : NMap Bytes} {ch : Nat} {d : Subtraction} {s : State} (h : Keeps a s) :
    Keeps a (subtractFrom m ch d s) := by
  unfold subtractFrom
  dsimp only
  exact State.onRx_keeps (State.free_keeps (freeScales_keeps h))

theorem eddyMeets_keeps {s : State} (h : Keeps a s) : Keeps a (eddyMeets s).2 := meetPoison_keeps h

theorem loseSamples_keeps {lane : Fin 64} {c : Capture} {pa : Nat} {s : State} (h : Keeps a s) :
    Keeps a (loseSamples lane c pa s) := endObligation_keeps (State.count_keeps (sramUe_keeps h))

theorem execSubtractionDone_keeps {lane : Fin 64} {s : State} (h : Keeps a s) :
    NextKeeps a (execSubtractionDone lane s) := by
  unfold execSubtractionDone
  split
  · exact .next h
  · split
    · split
      · exact .next (loseSamples_keeps (.of_pair (eddyMeets_keeps h) (by assumption)))
      · have met := Keeps.of_pair (eddyMeets_keeps h) (by assumption)
        refine .next (setCapture_keeps (State.count_keeps ?_))
        split
        · exact subtractFrom_keeps met
        · exact met
    · exact .next h

theorem execRedemodStart_keeps {lane : Fin 64} {s : State} (h : Keeps a s) : NextKeeps a (execRedemodStart lane s) := by
  unfold execRedemodStart
  split
  · exact .next h
  · split
    · exact .next h
    · split
      · exact .next (setCapture_keeps h)
      · exact .next (.ite h (setCapture_keeps h))

theorem execRedemodAbandon_keeps {lane : Fin 64} {s : State} (h : Keeps a s) : NextKeeps a (execRedemodAbandon lane s) := by
  unfold execRedemodAbandon
  dsimp only
  split
  · exact .next h
  · split
    · exact .next h
    · split
      · split
        · exact .next h
        · exact .next (feedEngines_keeps (unpark_keeps (setCapture_keeps (State.count_keeps h))))
      · exact .next (endObligation_keeps (State.count_keeps h))

theorem execRedemodDone_keeps {lane : Fin 64} {llrs : List Int} {s : State} (h : Keeps a s) :
    NextKeeps a (execRedemodDone lane llrs s) := by
  unfold execRedemodDone
  split
  · exact .next h
  · split
    · exact .next h
    · split
      · exact .next (setCapture_keeps h)
      · split
        · exact .next (loseSamples_keeps (.of_pair (eddyMeets_keeps h) (by assumption)))
        · exact .next (endObligation_keeps (State.count_keeps (State.onRxFrame_keeps
            (.of_pair (eddyMeets_keeps h) (by assumption)))))

theorem endJob_keeps {e : Fin 48} {agrees : Bool} {s : State} (h : Keeps a s) : Keeps a (endJob e agrees s) := by
  unfold endJob
  split
  · exact h
  · split
    · exact completeJob_keeps h
    · split
      · exact failFrame_keeps (sramUe_keeps (.of_pair (meetPoison_keeps h) (by assumption)))
      · exact completeJob_keeps (.of_pair (meetPoison_keeps h) (by assumption))

theorem execRiffleJobComplete_keeps {e : Fin 48} {agrees : Bool} {s : State} (h : Keeps a s) :
    NextKeeps a (execRiffleJobComplete e agrees s) := .next (.ite (runStage5_keeps (endJob_keeps h)) h)

theorem execEngineClockGate_keeps {e : Fin 48} {s : State} (h : Keeps a s) : NextKeeps a (execEngineClockGate e s) :=
  .next (.ite (State.onEngine_keeps h) h)

theorem execTwinSecondPartTimeout_keeps {f : Nat} {s : State} (h : Keeps a s) :
    NextKeeps a (execTwinSecondPartTimeout f s) := by
  unfold execTwinSecondPartTimeout
  split
  · exact .next h
  · exact .ite (.next h) (.ite (.next (failFrame_keeps (State.count_keeps h))) (.ite (.next (dropRx_keeps (noAck_keeps h)))
      (.next (State.onRxFrame_keeps (noAck_keeps h)))))

theorem execDecodeTimeout_keeps {f : Nat} {s : State} (h : Keeps a s) : NextKeeps a (execDecodeTimeout f s) := by
  unfold execDecodeTimeout
  dsimp only
  split
  · exact .next h
  · exact .ite (.next (failFrame_keeps (State.count_keeps h))) (.next h)

theorem deadCheck_keeps {ch : Nat} {p : Int} {s : State} (h : Keeps a s) : Keeps a (deadCheck ch p s) :=
  .ite (raiseSource_keeps (countGroup_keeps (State.onChan_keeps h))) (State.onChan_keeps h)

theorem execNoiseFloorBlock_keeps {ch : Fin 256} {power : Int} {s : State} (h : Keeps a s) :
    NextKeeps a (execNoiseFloorBlock ch power s) :=
  .ite (.next h) (.ite (.next h) (.next (deadCheck_keeps (.ite (State.countN_keeps (State.onChan_keeps (.ite h
      (State.onChan_keeps h)))) (.ite h (State.onChan_keeps h))))))

theorem execChannelReloadDone_keeps {ch : Fin 256} {s : State} (h : Keeps a s) : NextKeeps a (execChannelReloadDone ch s) :=
  .ite (.next (State.onChan_keeps h)) (.next h)

theorem shedChannel_keeps {ch : Nat} {s : State} (h : Keeps a s) : Keeps a (shedChannel ch s) :=
  State.onChan_keeps (.ite (stopListening_keeps h) h)

theorem applyGroup_keeps {old : NMap Bytes} {g : Nat} {s : State} (h : Keeps a s) : Keeps a (applyGroup old g s) := by
  unfold applyGroup
  dsimp only
  exact State.onRx_keeps (.ite (Keeps.foldl (fun _ _ h1 => shedChannel_keeps h1) (Keeps.foldl (fun _ _ h1 => .ite (.ite
      (.ite (State.onChan_keeps h1) (State.onLink_keeps (State.onChan_keeps h1))) (stopListening_keeps (.ite
          (State.onChan_keeps h1) (State.onLink_keeps (State.onChan_keeps h1))))) h1) h)) (Keeps.foldl (fun _ _ h1 => .ite
              (.ite (.ite (State.onChan_keeps h1) (State.onLink_keeps (State.onChan_keeps h1))) (stopListening_keeps (.ite
                  (State.onChan_keeps h1) (State.onLink_keeps (State.onChan_keeps h1))))) h1) h))

theorem changeRing_keeps {force : Bool} {ch : Nat} {s : State} (h : Keeps a s) : Keeps a (changeRing force ch s) :=
  .ite (State.onRx_keeps h) h

theorem execEddyRingChange_keeps {ch : Fin 256} {s : State} (h : Keeps a s) : NextKeeps a (execEddyRingChange ch s) :=
  .next (changeRing_keeps h)

theorem forceRings_keeps {s : State} (h : Keeps a s) : Keeps a (forceRings s) :=
  Keeps.foldl (fun _ _ h1 => changeRing_keeps h1) h

theorem execGroupPlanLoad_keeps {buf : Bytes} {s : State} (h : Keeps a s) : NextKeeps a (execGroupPlanLoad buf s) := by
  unfold execGroupPlanLoad
  dsimp only
  refine .next ?_
  refine runKci_keeps ?_ h
  refine fun h1 => ?_
  split
  · exact .refuse
  · split
    · exact .refuse
    · exact .done (.ite (State.stage_keeps (State.onCoh_keeps (stageRun_keeps h1))) (State.onCoh_keeps (stageRun_keeps h1)))

theorem execEddyConfig_keeps {buf : Bytes} {s : State} (h : Keeps a s) : NextKeeps a (execEddyConfig buf s) :=
  .next (runKci_keeps (fun h1 => stageOne_keeps h1) h)

theorem execRiffleConfig_keeps {buf : Bytes} {s : State} (h : Keeps a s) : NextKeeps a (execRiffleConfig buf s) :=
  .next (runKci_keeps (fun h1 => stageOne_keeps h1) h)

/-! ### Machine/Slots -/

theorem queueOwed_keeps {r : Fin 3} {s : State} (h : Keeps a s) : Keeps a (queueOwed r s) :=
  Keeps.foldl (fun _ _ h1 => .ite h1 (queueCal_keeps h1)) (Keeps.foldl (fun _ _ h1 => .ite h1 (queueCal_keeps h1)) h)

theorem startChange_keeps {r : Fin 3} {s : State} (h : Keeps a s) : Keeps a (startChange r s) := by
  unfold startChange
  dsimp only
  split
  · exact h
  · exact .ite h (.ite (.ite (settleRadio_keeps (startRetune_keeps (.ite (queueOwed_keeps (State.onRadio_keeps
      (powerRadio_keeps (State.onRadio_keeps h)))) (powerRadio_keeps (State.onRadio_keeps h))))) (runOwed_keeps (.ite
          (queueOwed_keeps (State.onRadio_keeps (powerRadio_keeps (State.onRadio_keeps h)))) (powerRadio_keeps
              (State.onRadio_keeps h))))) (.ite (completeChange_keeps (State.onRadio_keeps h)) (settleRadio_keeps
                  (startRetune_keeps (powerRadio_keeps (State.onRadio_keeps h))))))

theorem execRadioChangeStart_keeps {r : Fin 3} {s : State} (h : Keeps a s) : NextKeeps a (execRadioChangeStart r s) := by
  unfold execRadioChangeStart
  split
  · exact .next h
  · exact .ite (.next h) (.next (startChange_keeps h))

theorem resetGain_keeps {r : Fin 3} {w : Fin 2} {s : State} (h : Keeps a s) : Keeps a (resetGain r w s) :=
  State.onWindow_keeps h

theorem forgetPeaks_keeps {r : Fin 3} {s : State} (h : Keeps a s) : Keeps a (forgetPeaks r s) := State.onRadio_keeps h

theorem disableRadio_keeps {r : Fin 3} {s : State} (h : Keeps a s) : Keeps a (disableRadio r s) :=
  State.onFn_keeps (State.onRadio_keeps (unpowerRadio_keeps (requeueCal_keeps h)))

theorem applyRadio_keeps {old : NMap Bytes} {r : Fin 3} {s : State} (h : Keeps a s) : Keeps a (applyRadio old r s) :=
  .ite (.ite (disableRadio_keeps h) h) (.ite (State.onFn_keeps (State.onRadio_keeps (.ite (resetGain_keeps (resetGain_keeps
      h)) h))) (.ite (resetGain_keeps (resetGain_keeps h)) h))

theorem resetRadio_keeps {r : Fin 3} {s : State} (h : Keeps a s) : Keeps a (resetRadio r s) := by
  unfold resetRadio
  extract_lets s1 s2 s3 w s4 s5
  have h1 : Keeps a s1 := dropReception_keeps h
  have h2 : Keeps a s2 := by
    unfold s2
    split
    · exact longDone_keeps (State.onRadio_keeps h1)
    · exact h1
  have h3 : Keeps a s3 := freeObs_keeps (requeueCal_keeps h2)
  have h4 : Keeps a s4 := State.onRadio_keeps h3
  have h5 : Keeps a s5 := resetGain_keeps (resetGain_keeps h4)
  clear_value s5
  exact .ite (startRetune_keeps (State.onFn_keeps (State.onRadio_keeps h5))) h5

theorem execCalStarvedTimeout_keeps {r : Fin 3} {s : State} (h : Keeps a s) : NextKeeps a (execCalStarvedTimeout r s) := by
  unfold execCalStarvedTimeout
  dsimp only
  split
  · exact .next h
  · exact .ite (.next h) (.next (raiseEvent_keeps (State.count_keeps (State.onRadio_keeps h))))

theorem alignBases_keeps {s : State} (h : Keeps a s) : Keeps a (alignBases s) := State.onTime_keeps h

theorem applyBeacon_keeps {off : Int} {ch : Nat} {s : State} (h : Keeps a s) : Keeps a (applyBeacon off ch s) :=
  .ite (raiseEvent_keeps (servo_keeps (State.onTime_keeps (moveTime_keeps (switchSource_keeps (leaveHoldover_keeps h))))))
      (.ite (raiseEvent_keeps (.ite (servo_keeps (State.onTime_keeps (moveTime_keeps (switchSource_keeps
          (leaveHoldover_keeps h))))) (State.count_keeps (servo_keeps (State.onTime_keeps (moveTime_keeps
              (switchSource_keeps (leaveHoldover_keeps h)))))))) (.ite (servo_keeps (State.onTime_keeps (moveTime_keeps
                  (switchSource_keeps (leaveHoldover_keeps h))))) (State.count_keeps (servo_keeps (State.onTime_keeps
                      (moveTime_keeps (switchSource_keeps (leaveHoldover_keeps h))))))))

theorem beaconRealign_keeps {s : State} (h : Keeps a s) : Keeps a (beaconRealign s) := by
  unfold beaconRealign
  dsimp only
  split
  · exact h
  · exact .ite (applyBeacon_keeps (State.onLink_keeps h)) (State.onLink_keeps h)

theorem beginSlot_keeps {n : Nat} {s : State} (h : Keeps a s) : Keeps a (beginSlot n s) :=
  .ite (Keeps.foldl (fun _ _ h1 => activateGate_keeps h1) (raiseEvent_keeps (State.onCoh_keeps (State.onTime_keeps (.ite
      (alignBases_keeps h) h))))) (State.onCoh_keeps (State.onTime_keeps (.ite (alignBases_keeps h) h)))

theorem runOrIdle_keeps {n : Nat} {s : State} (h : Keeps a s) : Keeps a (runOrIdle n s).2 := by
  unfold runOrIdle
  dsimp only
  split
  · exact .snd (State.onTime_keeps h)
  · exact .snd (.ite (State.count_keeps (State.onTime_keeps h)) (raiseEvent_keeps (State.count_keeps (State.onTime_keeps
      h))))

theorem endInhibit_keeps {s : State} (h : Keeps a s) : Keeps a (endInhibit s) := .ite (State.onSluice_keeps h) h

theorem takeOverGates_keeps {n : Nat} {s : State} (h : Keeps a s) : Keeps a (takeOverGates n s) :=
  State.onFn_keeps (State.onSluice_keeps h)

theorem shedChannels_keeps {s : State} (h : Keeps a s) : Keeps a (shedChannels s) := by
  unfold shedChannels
  dsimp only
  exact State.onRx_keeps (Keeps.foldl (fun _ _ h1 => shedChannel_keeps h1) h)

theorem enterCell_keeps {g : BitVec 32} {sf idx : Nat} {c : Bytes} {ch n : Nat} {s : State} (h : Keeps a s) :
    Keeps a (enterCell g sf idx c ch n s) := by
  unfold enterCell
  dsimp only
  exact State.onLink_keeps (openCellOf_keeps (.ite h (State.onChan_keeps (lookupChan_keeps h))))

theorem enterSecond_keeps {n : Nat} {s : State} {x : RxFrame} (h : Keeps a s) : Keeps a (enterSecond n s x) := by
  unfold enterSecond
  dsimp only
  split
  · exact h
  · exact .ite h (.ite (countGroup_keeps h) (enterCell_keeps h))

theorem openCells_keeps {n : Nat} {s : State} (h : Keeps a s) : Keeps a (openCells n s) := by
  unfold openCells
  dsimp only
  refine Keeps.foldl (fun _ _ h1 => enterSecond_keeps h1) ?_
  refine Keeps.foldl (fun _ _ h1 => ?_) (State.onLink_keeps h)
  split
  · exact h1
  · exact .ite h1 (.ite (countGroup_keeps h1) (enterCell_keeps h1))

theorem takePeaks_keeps {peaks : List Int} {s : State} (h : Keeps a s) : Keeps a (takePeaks peaks s) :=
  Keeps.foldl (fun _ _ h1 => .ite (State.onWindow_keeps h1) h1) h

theorem slotStep_keeps {s : State} {e : Fin 3 × Fin 2} (h : Keeps a s) : Keeps a (slotStep s e) :=
  .ite (.ite (State.onWindow_keeps h) (countRadio_keeps (State.onWindow_keeps (State.onWindow_keeps h)))) h

theorem queueAged_keeps {s : State} (h : Keeps a s) : Keeps a (queueAged s) :=
  Keeps.foldl (fun _ _ h1 => queueCal_keeps h1) h

theorem startCals_keeps {n : Nat} {s : State} (h : Keeps a s) : Keeps a (startCals n s) :=
  Keeps.foldl (fun _ _ h1 => .ite (startBackground_keeps (State.onRadio_keeps h1)) h1) h

theorem dropChanged_keeps {s : State} (h : Keeps a s) : Keeps a (dropChanged s) :=
  Keeps.foldl (fun _ _ h1 => discardEarly_keeps h1) h

theorem endBoundarySlot_keeps {n : Nat} {s : State} (h : Keeps a s) : Keeps a (endBoundarySlot n s) := by
  unfold endBoundarySlot
  split
  · exact h
  · refine Keeps.foldl (fun _ _ h1 => ?_) (forceRings_keeps (dropChanged_keeps h))
    split
    · exact .ite h1 (startChange_keeps h1)
    · exact h1

theorem checkBases_keeps {s : State} (h : Keeps a s) : Keeps a (checkBases s) :=
  .ite h (Keeps.foldl (fun _ _ h1 => .ite h1 (raiseSource_keeps h1)) h)

theorem execSlotBoundary_keeps {peaks : List Int} {s : State} (h : Keeps a s) : NextKeeps a (execSlotBoundary peaks s) :=
  .ite (.next h) (.ite (.next (State.onLink_keeps (checkBases_keeps (takePeaks_keeps (beaconRealign_keeps h))))) (.ite
      (.next h) (.ite (.next (startCals_keeps (Keeps.foldl (fun _ _ h1 => slotStep_keeps h1) (openCells_keeps
          (runOrIdle_keeps (queueAged_keeps (shedChannels_keeps (endBoundarySlot_keeps (takeOverGates_keeps
              (endInhibit_keeps (beginSlot_keeps (checkBases_keeps (takePeaks_keeps (beaconRealign_keeps h))))))))))))))
                  (.next (State.onLink_keeps (runOrIdle_keeps (queueAged_keeps (shedChannels_keeps (endBoundarySlot_keeps
                      (takeOverGates_keeps (endInhibit_keeps (beginSlot_keeps (checkBases_keeps (takePeaks_keeps
                          (beaconRealign_keeps h)))))))))))))))

/-! ### Machine/Thermal -/

theorem governorStep_keeps {x : Int} {s : State} (h : Keeps a s) : Keeps a (governorStep x s) := by
  unfold governorStep
  dsimp only
  split
  · exact State.onThermal_keeps h
  · exact .ite (raiseSource_keeps (raiseEvent_keeps (State.count_keeps (State.onThermal_keeps (State.onThermal_keeps h)))))
      (raiseEvent_keeps (State.count_keeps (State.onThermal_keeps (State.onThermal_keeps h))))

theorem addStress_keeps {x : Int} {ms : Nat} {s : State} (h : Keeps a s) : Keeps a (addStress x ms s) :=
  State.onThermal_keeps h

theorem storeStress_keeps {s : State} (h : Keeps a s) : Keeps a (storeStress s) := State.onThermal_keeps h

theorem execThermalSample_keeps {readings : List Int} {bad : BitVec 8} {s : State} (h : Keeps a s) :
    NextKeeps a (execThermalSample readings bad s) :=
  .ite (.next h) (.next (.ite (raiseSource_keeps (.ite (raiseSource_keeps (.ite (governorStep_keeps (addStress_keeps
      (Keeps.foldl (fun _ _ h1 => raiseSource_keeps (State.count_keeps h1)) (Keeps.foldl (fun _ _ h1 => State.onRadio_keeps
          h1) (State.onThermal_keeps h))))) (State.countN_keeps (governorStep_keeps (addStress_keeps (Keeps.foldl (fun _ _
              h1 => raiseSource_keeps (State.count_keeps h1)) (Keeps.foldl (fun _ _ h1 => State.onRadio_keeps h1)
                  (State.onThermal_keeps h)))))))) (.ite (governorStep_keeps (addStress_keeps (Keeps.foldl (fun _ _ h1 =>
                      raiseSource_keeps (State.count_keeps h1)) (Keeps.foldl (fun _ _ h1 => State.onRadio_keeps h1)
                          (State.onThermal_keeps h))))) (State.countN_keeps (governorStep_keeps (addStress_keeps
                              (Keeps.foldl (fun _ _ h1 => raiseSource_keeps (State.count_keeps h1)) (Keeps.foldl (fun _ _
                                  h1 => State.onRadio_keeps h1) (State.onThermal_keeps h))))))))) (.ite (raiseSource_keeps
                                      (.ite (governorStep_keeps (addStress_keeps (Keeps.foldl (fun _ _ h1 =>
                                          raiseSource_keeps (State.count_keeps h1)) (Keeps.foldl (fun _ _ h1 =>
                                              State.onRadio_keeps h1) (State.onThermal_keeps h))))) (State.countN_keeps
                                                  (governorStep_keeps (addStress_keeps (Keeps.foldl (fun _ _ h1 =>
                                                      raiseSource_keeps (State.count_keeps h1)) (Keeps.foldl (fun _ _ h1 =>
                                                          State.onRadio_keeps h1) (State.onThermal_keeps h)))))))) (.ite
                                                              (governorStep_keeps (addStress_keeps (Keeps.foldl (fun _ _ h1
                                                                  => raiseSource_keeps (State.count_keeps h1)) (Keeps.foldl
                                                                      (fun _ _ h1 => State.onRadio_keeps h1)
                                                                          (State.onThermal_keeps h))))) (State.countN_keeps
                                                                              (governorStep_keeps (addStress_keeps
                                                                                  (Keeps.foldl (fun _ _ h1 =>
                                                                                      raiseSource_keeps (State.count_keeps
                                                                                          h1)) (Keeps.foldl (fun _ _ h1 =>
                                                                                              State.onRadio_keeps h1)
                                                                                                  (State.onThermal_keeps
                                                                                                      h))))))))))

theorem execTelemetryRecord_keeps {s : State} (h : Keeps a s) : NextKeeps a (execTelemetryRecord s) :=
  .ite (.next h) (.next (State.count_keeps (State.onThermal_keeps (State.free_keeps h))))

theorem execStressRecord_keeps {s : State} (h : Keeps a s) : NextKeeps a (execStressRecord s) :=
  .next (.ite h (storeStress_keeps h))

theorem execLifeStress_keeps {s : State} (h : Keeps a s) : NextKeeps a (execLifeStress s) :=
  .ite (.next (raiseSource_keeps (State.onThermal_keeps h))) (.next h)

theorem execTelemetryRead_keeps {buf : Bytes} {s : State} (h : Keeps a s) : NextKeeps a (execTelemetryRead buf s) := by
  unfold execTelemetryRead
  dsimp only
  refine .next ?_
  refine runKci_keeps ?_ h
  refine fun h1 => ?_
  split
  · exact .refuse
  · exact .done h1

theorem execStressRead_keeps {buf : Bytes} {s : State} (h : Keeps a s) : NextKeeps a (execStressRead buf s) :=
  .next (runKci_keeps (fun h1 => .done h1) h)

/-! ### Machine/Timers -/

theorem changeTimer_keeps {t : Fin 16} {f : Timer → Timer} {s : State} (h : Keeps a s) : Keeps a (changeTimer t f s) :=
  .ite (.ite (raiseEvent_keeps (State.onTimer_keeps h)) (raiseSched_keeps (State.onTimer_keeps h))) (State.onTimer_keeps h)

theorem releaseTimer_keeps {s : State} {t : Fin 16} (h : Keeps a s) : Keeps a (releaseTimer s t) :=
  .ite (changeTimer_keeps h) h

theorem execTimerTick_keeps {t : Fin 16} {s : State} (h : Keeps a s) : NextKeeps a (execTimerTick t s) :=
  .ite (.ite (.next (State.onTimer_keeps h)) (.ite (.next h) (.next (changeTimer_keeps h)))) (.next h)

theorem execDebugHaltFreeze_keeps {c : Fin 8} {s : State} (h : Keeps a s) : NextKeeps a (execDebugHaltFreeze c s) :=
  .next (State.onCore_keeps h)

theorem execDebugHaltRelease_keeps {c : Fin 8} {s : State} (h : Keeps a s) : NextKeeps a (execDebugHaltRelease c s) :=
  .next (Keeps.foldl (fun _ _ h1 => releaseTimer_keeps h1) (State.onCore_keeps h))

theorem timerWriteBy_keeps {by_ : BusMaster} {t : Fin 16} {off : Nat} {v : BitVec 32} {s : State} (h : Keeps a s) :
    Keeps a (timerWriteBy by_ t off v s) := .ite h (.ite (changeTimer_keeps h) (raiseSource_keeps h))

theorem timerReadBy_keeps {by_ : BusMaster} {t : Fin 16} {off : Nat} {s : State} (h : Keeps a s) :
    Keeps a (timerReadBy by_ t off s) :=
  .ite h (.ite (State.onKci_keeps h) (.ite (State.onTimer_keeps (State.onKci_keeps h)) (raiseSource_keeps
      (State.onKci_keeps h))))

theorem execTmrCtrlRun_keeps {by_ : BusMaster} {t : Fin 16} {run : Bool} {s : State} (h : Keeps a s) :
    NextKeeps a (execTmrCtrlRun by_ t run s) := .next (timerWriteBy_keeps h)

theorem execTmrCtrlClear_keeps {by_ : BusMaster} {t : Fin 16} {run : Bool} {s : State} (h : Keeps a s) :
    NextKeeps a (execTmrCtrlClear by_ t run s) := .next (timerWriteBy_keeps h)

theorem execTmrPeriodShadow_keeps {by_ : BusMaster} {t : Fin 16} {period : BitVec 31} {s : State} (h : Keeps a s) :
    NextKeeps a (execTmrPeriodShadow by_ t period s) := .next (timerWriteBy_keeps h)

theorem execTmrPeriodImmediate_keeps {by_ : BusMaster} {t : Fin 16} {period : BitVec 31} {s : State} (h : Keeps a s) :
    NextKeeps a (execTmrPeriodImmediate by_ t period s) := .next (timerWriteBy_keeps h)

theorem execTmrCmpWrite_keeps {by_ : BusMaster} {t : Fin 16} {n : Fin 4} {value : BitVec 32} {s : State} (h : Keeps a s) :
    NextKeeps a (execTmrCmpWrite by_ t n value s) := .next (timerWriteBy_keeps h)

theorem execCmpWriteEffect_keeps {t : Fin 16} {n : Fin 4} {s : State} (h : Keeps a s) :
    NextKeeps a (execCmpWriteEffect t n s) := .ite (.next (changeTimer_keeps h)) (.next h)

theorem execTmrCmpEnWrite_keeps {by_ : BusMaster} {t : Fin 16} {value : BitVec 32} {s : State} (h : Keeps a s) :
    NextKeeps a (execTmrCmpEnWrite by_ t value s) := .next (timerWriteBy_keeps h)

theorem execTmrStatusClear_keeps {by_ : BusMaster} {t : Fin 16} {value : BitVec 32} {s : State} (h : Keeps a s) :
    NextKeeps a (execTmrStatusClear by_ t value s) := .next (timerWriteBy_keeps h)

theorem execTmrMissedRead_keeps {by_ : BusMaster} {t : Fin 16} {n : Fin 4} {s : State} (h : Keeps a s) :
    NextKeeps a (execTmrMissedRead by_ t n s) := .next (timerReadBy_keeps h)

theorem execTmrTickLoRead_keeps {by_ : BusMaster} {t : Fin 16} {s : State} (h : Keeps a s) :
    NextKeeps a (execTmrTickLoRead by_ t s) := .next (timerReadBy_keeps h)

theorem execTimerConfig_keeps {buf : Bytes} {s : State} (h : Keeps a s) : NextKeeps a (execTimerConfig buf s) :=
  .next (runKci_keeps (fun h1 => .ite .refuse (stageOne_keeps h1)) h)

theorem execTimerAccess_keeps {buf : Bytes} {s : State} (h : Keeps a s) : NextKeeps a (execTimerAccess buf s) :=
  .next (runKci_keeps (fun h1 => .ite .refuse (.ite .refuse (.ite .refuse (.ite (.done (raiseSource_keeps h1)) (.ite (.done
      (State.onTimer_keeps h1)) (.done (changeTimer_keeps h1))))))) h)

theorem applyTimer_keeps {old : NMap Bytes} {t : Fin 16} {s : State} (h : Keeps a s) : Keeps a (applyTimer old t s) :=
  .ite (State.onTimer_keeps (releaseTimer_keeps h)) (.ite (releaseTimer_keeps h) (State.onTimer_keeps (releaseTimer_keeps
      h)))

theorem resetTimer_keeps {t : Fin 16} {s : State} (h : Keeps a s) : Keeps a (resetTimer t s) := State.onTimer_keeps h

theorem wakeTimer_keeps {t : Fin 16} {p : Snapshot} {ns spring slots : Nat} {s : State} (h : Keeps a s) :
    Keeps a (wakeTimer t p ns spring slots s) := .ite (changeTimer_keeps (State.onTimer_keeps h)) (State.onTimer_keeps h)

/-! ### Machine/Power -/

theorem execRadioPowerDown_keeps {r : Fin 3} {s : State} (h : Keeps a s) : NextKeeps a (execRadioPowerDown r s) :=
  .ite (.next (unpowerRadio_keeps h)) (.next h)

theorem stopCals_keeps {s : State} (h : Keeps a s) : Keeps a (stopCals s) :=
  Keeps.foldl (fun _ _ h1 => preemptCal_keeps h1) h

theorem rollback_keeps {auto : Bool} {c n fn : Nat} {s : State} (h : Keeps a s) : Keeps a (rollback auto c n fn s) :=
  .ite (State.onPower_keeps (State.count_keeps (State.onPower_keeps (Keeps.foldl (fun _ _ h1 => State.count_keeps h1)
      (State.count_keeps (.ite (stopCals_keeps h) h)))))) (State.onPower_keeps (Keeps.foldl (fun _ _ h1 =>
          State.count_keeps h1) (State.count_keeps (.ite (stopCals_keeps h) h))))

theorem passP_keeps {s : State} (h : Keeps a s) : Keeps a (passP s) :=
  lowerRails_keeps (Keeps.foldl (fun _ _ h1 => unpowerRadio_keeps h1) (State.onPower_keeps (Keeps.foldl (fun _ _ h1 => .ite
      (retrainPort_keeps h1) h1) (stopCals_keeps h))))

theorem beginVote_keeps {auto : Bool} {silent : Option (Fin 14)} {s : State} (h : Keeps a s) :
    Keeps a (beginVote auto silent s).2 := by
  unfold beginVote
  dsimp only
  split
  · exact .snd (rollback_keeps h)
  · split
    · exact .snd (State.onPower_keeps h)
    · exact .snd (passP_keeps h)

theorem execAutoDozeEntry_keeps {silent : Option (Fin 14)} {s : State} (h : Keeps a s) :
    NextKeeps a (execAutoDozeEntry silent s) := .ite (.next (beginVote_keeps (State.onPower_keeps h))) (.next h)

theorem refuseEntry_keeps {c fn : Nat} {s : State} (h : Keeps a s) : Keeps a (refuseEntry c fn s) :=
  finishExecuting_keeps (rollback_keeps h)

theorem execVoterAckTimeout_keeps {s : State} (h : Keeps a s) : NextKeeps a (execVoterAckTimeout s) := by
  unfold execVoterAckTimeout
  split
  · exact .next (raiseSource_keeps (refuseEntry_keeps h))
  · exact .next h

theorem resumeEntry_keeps {s : State} (h : Keeps a s) : Keeps a (resumeEntry s) := finishExecuting_keeps (passP_keeps h)

theorem execSleepAbortReport_keeps {s : State} (h : Keeps a s) : NextKeeps a (execSleepAbortReport s) :=
  .ite (.next h) (.next (raiseEvent_keeps (State.onPower_keeps h)))

theorem fireWake_keeps {n : Nat} {s : State} (h : Keeps a s) : Keeps a (fireWake n s) := by
  unfold fireWake
  split
  · exact h
  · split
    · exact refuseEntry_keeps h
    · exact State.onPower_keeps h
    · exact beginWake_keeps h
    · exact h

theorem execWakeSource_keeps {n : Fin 5} {s : State} (h : Keeps a s) : NextKeeps a (execWakeSource n s) :=
  .ite (.next h) (.next (fireWake_keeps h))

theorem execScheduledWake_keeps {s : State} (h : Keeps a s) : NextKeeps a (execScheduledWake s) := by
  unfold execScheduledWake
  split
  · exact .next h
  · exact .ite (.next (beginWake_keeps (State.onPower_keeps h))) (.next h)

/-- From HIBERNATE configuration space stands in its copy in Backwater alone. -/
theorem execSleepSnapshot_keeps {s : State} (h : Keeps a s) : NextKeeps a (execSleepSnapshot s) := by
  unfold execSleepSnapshot
  refine .ite (.next h) ?_
  extract_lets m hib s1 s2 s3 s4 s5 s6 sums s7
  have h2 : Keeps a s2 := State.onTime_keeps (leaveIdle_keeps h)
  have h3 : Keeps a s3 := by
    refine ⟨h2.pending, fun ha => ?_⟩
    obtain ⟨⟨h0, hp, hh, hc⟩, hm, hb, hw⟩ := (State.memoryCanonical_iff s2).mp (h2.memory ha)
    refine (State.memoryCanonical_iff _).mpr ⟨⟨h0, hp, hh, hc⟩, hm, hb, ?_⟩
    change ∀ c, (if hib then some s2.kci.config else s2.power.savedConfig) = some c → Memory.wf c = true
    cases hib with
    | false => exact hw
    | true => exact fun c e => Option.some.inj e ▸ hc
  have h4 : Keeps a s4 := State.count_keeps h3
  have h5 : Keeps a s5 := State.onSafety_keeps (State.onBoot_keeps (storeStress_keeps h4))
  have h6 : Keeps a s6 := State.onKci_keeps h5 fun ⟨h0, hp, hh, _⟩ => ⟨h0, hp, hh, rfl⟩
  have h7 : Keeps a s7 := .ite (dropRails_keeps (State.onPower_keeps h6)) h4
  clear_value s7
  refine .next ?_
  split
  · exact beginWake_keeps h7
  · exact h7

theorem execReferenceQualified_keeps {s : State} (h : Keeps a s) : NextKeeps a (execReferenceQualified s) :=
  .ite (.next (State.onPower_keeps h)) (.next h)

theorem advanceAll_keeps {s : State} (h : Keeps a s) : Keeps a (advanceAll s) :=
  Keeps.foldl (fun _ _ h1 => .ite h1 (advanceBuckets_keeps h1)) h

theorem rebuildBases_keeps {s : State} (h : Keeps a s) : Keeps a (rebuildBases s) := by
  unfold rebuildBases
  dsimp only
  split
  · exact h
  · exact advanceAll_keeps (Keeps.foldl (fun _ _ h1 => wakeTimer_keeps h1) (State.onThermal_keeps (State.onMem_keeps
      (State.count_keeps (State.onTime_keeps h)))))

theorem endDoze_keeps {s : State} (h : Keeps a s) : Keeps a (endDoze s) := by
  unfold endDoze
  dsimp only
  exact State.onPower_keeps (State.onThermal_keeps (State.countN_keeps h))

theorem execWakeRebuild_keeps {s : State} (h : Keeps a s) : NextKeeps a (execWakeRebuild s) :=
  .ite (.next h) (.next (State.onPower_keeps (.ite (restoreRails_keeps (endDoze_keeps (rebuildBases_keeps h))) h)))

theorem resumeSlot_keeps {s : State} (h : Keeps a s) : Keeps a (resumeSlot s) := by
  unfold resumeSlot
  extract_lets s1
  have h1 : Keeps a s1 := Keeps.foldl (fun _ _ h => forgetPeaks_keeps h) h
  clear_value s1
  split
  · exact h1
  · next n _ x hx =>
    have h2 : Keeps a (s1.countN powerFn 7 (missedCells s1 x)) := State.countN_keeps h1
    generalize s1.countN powerFn 7 (missedCells s1 x) = s2 at h2 ⊢
    extract_lets m
    refine .ite (State.onLink_keeps h2) ?_
    have ran : Keeps a (runOrIdle n (m.onTime fun t => { t with asn := some n })).2 := runOrIdle_keeps (State.onTime_keeps h2)
    generalize runOrIdle n (m.onTime fun t => { t with asn := some n }) = r at ran
    obtain ⟨runs, t⟩ := r
    exact .ite (Keeps.foldl (fun _ _ h => slotStep_keeps h) (State.onLink_keeps (openCells_keeps ran)))
      (State.onLink_keeps ran)

theorem handleHeld_keeps {s : State} (h : Keeps a s) : Keeps a (handleHeld s) :=
  Keeps.foldl (fun _ _ h1 => .ite (raiseFault_keeps h1) (State.onRecord_keeps (raiseFault_keeps h1))) (State.onPower_keeps h)

theorem execPowerConfig_keeps {buf : Bytes} {s : State} (h : Keeps a s) : NextKeeps a (execPowerConfig buf s) :=
  .next (runKci_keeps (fun h1 => .ite .refuse (stageOne_keeps h1)) h)

theorem execPowerEnter_keeps {buf : Bytes} {silent : Option (Fin 14)} {s : State} (h : Keeps a s) :
    NextKeeps a (execPowerEnter buf silent s) := by
  refine .next (runKci_keeps (fun h => ?_) h)
  split
  · exact .refuse
  · refine .ite .no ?_
    split
    · exact .refuse
    · extract_lets t
      have ht : Keeps a t := State.onPower_keeps h
      split
      · exact .done (.of_pair (beginVote_keeps ht) (by assumption))
      · have voted := Keeps.of_pair (beginVote_keeps ht) (by assumption)
        exact .ite (.done voted) (.defer voted)

theorem applyPower_keeps {s : State} (h : Keeps a s) : Keeps a (applyPower s) :=
  .ite (leaveIdle_keeps h) (enterIdle_keeps h)

theorem resetPower_keeps {s : State} (h : Keeps a s) : Keeps a (resetPower s) := by
  unfold resetPower
  dsimp only
  refine leaveIdle_keeps ?_
  split
  · exact refuseEntry_keeps h
  · exact h

/-! ### Machine/Supply -/

theorem countSupply_keeps {i : Nat} {s : State} (h : Keeps a s) : Keeps a (countSupply i s) := State.count_keeps h

theorem startDip_keeps {cause : Nat} {s : State} (h : Keeps a s) : Keeps a (startDip cause s) :=
  raiseSource_keeps (raiseEvent_keeps (countSupply_keeps (State.onThermal_keeps (State.onSupply_keeps (State.onSluice_keeps
      (.ite (Keeps.foldl (fun _ _ h1 => cutRadio_keeps h1) h) (raiseEvent_keeps (State.countN_keeps (Keeps.foldl (fun _ _
          h1 => cutRadio_keeps h1) h)))))))))

theorem warnDip_keeps {cause : Nat} {s : State} (h : Keeps a s) : Keeps a (warnDip cause s) := .ite h (startDip_keeps h)

theorem execRailWarningCrossing_keeps {rail : Fin 10} {mv : Nat} {s : State} (h : Keeps a s) :
    NextKeeps a (execRailWarningCrossing rail mv s) := .ite (.next h) (.next (warnDip_keeps (State.onRail_keeps h)))

theorem execSupplyWarnNAssert_keeps {s : State} (h : Keeps a s) : NextKeeps a (execSupplyWarnNAssert s) :=
  .next (warnDip_keeps (State.onSupply_keeps h))

theorem endDip_keeps {d : Dip} {s : State} (h : Keeps a s) : Keeps a (endDip d s) :=
  raiseEvent_keeps (State.countN_keeps (State.onSluice_keeps (State.onThermal_keeps (State.onSupply_keeps h))))

theorem execDipRecovery_keeps {mv minima : List Nat} {s : State} (h : Keeps a s) :
    NextKeeps a (execDipRecovery mv minima s) := by
  unfold execDipRecovery
  dsimp only
  split
  · exact .next h
  · exact .ite (.next (endDip_keeps (State.onSupply_keeps h))) (.next h)

theorem execRailOverCrossing_keeps {rail : Fin 10} {mv : Nat} {s : State} (h : Keeps a s) :
    NextKeeps a (execRailOverCrossing rail mv s) := .ite (.next h) (.next (raiseSource_keeps (State.onRail_keeps h)))

theorem execDomainSpread_keeps {mv : Nat} {s : State} (h : Keeps a s) : NextKeeps a (execDomainSpread mv s) :=
  .next (.ite (raiseSource_keeps h) h)

theorem execAvsMeasurement_keeps {demandMv : Nat} {s : State} (h : Keeps a s) :
    NextKeeps a (execAvsMeasurement demandMv s) := .ite (.next (setTarget_keeps (State.countN_keeps h))) (.next h)

theorem pmicFault_keeps {rail kind : Nat} {s : State} (h : Keeps a s) : Keeps a (pmicFault rail kind s) :=
  raiseSource_keeps (raiseEvent_keeps h)

theorem abandonTarget_keeps {rail : Fin 10} {s : State} (h : Keeps a s) : Keeps a (abandonTarget rail s) := by
  unfold abandonTarget
  dsimp only
  split
  · exact h
  · exact .ite (State.onSupply_keeps (State.onSupply_keeps (State.onRail_keeps h))) (State.onSupply_keeps
      (State.onRail_keeps h))

theorem execPmicWriteRetry_keeps {rail : Fin 10} {acked : Bool} {s : State} (h : Keeps a s) :
    NextKeeps a (execPmicWriteRetry rail acked s) :=
  .ite (.next h) (.ite (.next (.ite (resumeEntry_keeps (State.onSupply_keeps (countSupply_keeps h))) (State.onSupply_keeps
      (countSupply_keeps h)))) (.ite (.next (State.onSupply_keeps (countSupply_keeps h))) (.next (pmicFault_keeps (.ite
          (refuseEntry_keeps (abandonTarget_keeps (State.onSupply_keeps (countSupply_keeps h)))) (abandonTarget_keeps
              (State.onSupply_keeps (countSupply_keeps h))))))))

theorem execTargetSettleTimeout_keeps {rail : Fin 10} {mv : Nat} {s : State} (h : Keeps a s) :
    NextKeeps a (execTargetSettleTimeout rail mv s) := by
  unfold execTargetSettleTimeout
  dsimp only
  split
  · exact .next h
  · exact .ite (.next h) (.next (.ite (State.onSupply_keeps (State.onRail_keeps h)) (pmicFault_keeps (State.onSupply_keeps
      (State.onRail_keeps h)))))

theorem startOpp_keeps {i : Nat} {s : State} (h : Keeps a s) : Keeps a (startOpp i s) := by
  unfold startOpp
  dsimp only
  exact State.onSupply_keeps (.ite (setTarget_keeps h) h)

theorem execOppEvaluation_keeps {s : State} (h : Keeps a s) : NextKeeps a (execOppEvaluation s) :=
  .ite (.next h) (.ite (.next (State.onCluster_keeps h)) (.next (startOpp_keeps (State.onCluster_keeps h))))

theorem execPllRelockDone_keeps {s : State} (h : Keeps a s) : NextKeeps a (execPllRelockDone s) := by
  unfold execPllRelockDone
  dsimp only
  split
  · exact .next h
  · exact .ite (.next h) (.next (feedEvp_keeps (placeAll_keeps (trace_keeps (setTarget_keeps (countSupply_keeps
      (State.onSupply_keeps h)))))))

theorem loseReference_keeps {s : State} {fault : State → State} (h : Keeps a s)
    (hf : ∀ {s}, Keeps a s → Keeps a (fault s)) : Keeps a (loseReference s fault) :=
  Keeps.foldl (fun _ _ h => .ite (loseLock_keeps h) h) (hf (Keeps.foldl (fun _ _ h => cutRadio_keeps h) h))

theorem execClockMonitorFault_keeps {clock : Nat} {frequency : Bool} {s : State} (h : Keeps a s) :
    NextKeeps a (execClockMonitorFault clock frequency s) :=
  .ite (.next h) (.ite (.next (loseReference_keeps (State.onSupply_keeps h) (fun h1 => raiseSource_keeps (raiseEvent_keeps
      (countSupply_keeps h1))))) (.ite (.ite (.next h) (.next (raiseSource_keeps (raiseEvent_keeps (countSupply_keeps
          (State.onSupply_keeps h)))))) (.ite (.ite (.next h) (.next (raiseSource_keeps (raiseEvent_keeps
              (countSupply_keeps (State.onSupply_keeps h)))))) (.ite (.next (raiseSource_keeps (raiseEvent_keeps
                  (countSupply_keeps (State.onSupply_keeps h))))) (.next h)))))

theorem execWatchdogService_keeps {s : State} (h : Keeps a s) : NextKeeps a (execWatchdogService s) :=
  .next (State.onSupply_keeps h)

theorem execSupplyConfig_keeps {buf : Bytes} {s : State} (h : Keeps a s) : NextKeeps a (execSupplyConfig buf s) :=
  .next (runKci_keeps (fun h1 => stageOne_keeps h1) h)

theorem applySupply_keeps {s : State} (h : Keeps a s) : Keeps a (applySupply s) :=
  .ite (setTarget_keeps (State.onSupply_keeps (setTarget_keeps (State.onSupply_keeps h)))) (.ite (setTarget_keeps
      (State.onSupply_keeps h)) (startOpp_keeps (setTarget_keeps (State.onSupply_keeps h))))

theorem resetSupply_keeps {s : State} (h : Keeps a s) : Keeps a (resetSupply s) :=
  State.onThermal_keeps (State.onSupply_keeps h)

/-! ### Machine/Resets -/

theorem bootEvent_keeps {s : State} (h : Keeps a s) : Keeps a (bootEvent s) := raiseEvent_keeps h

theorem endDeviceReactions_keeps {s : State} (h : Keeps a s) : Keeps a (endDeviceReactions s) :=
  Keeps.foldl (fun _ _ h1 => endReaction_keeps h1) h

theorem keptMemory_wf {warm hib : Bool} {m : Memory} (h : Memory.wf m.phys = true) :
    Memory.wf (keptMemory warm hib m).phys = true := by
  unfold keptMemory
  dsimp only
  split
  · rfl
  · exact Memory.wf_filter _ _ h

/-- A reset keeps the buffers in host memory, the firmware slots and the copy of configuration space. -/
theorem resetDevice_keeps {k : StartKind} {hib : Bool} {s0 : State} (h : Keeps a s0) : Keeps a (resetDevice k hib s0) := by
  unfold resetDevice
  extract_lets warm s kept
  have hs : Keeps a s := restoreRails_keeps (.ite (endDeviceReactions_keeps h) h)
  clear_value s
  refine ⟨hs.pending, fun ha => ?_⟩
  obtain ⟨⟨h0, h2, hh, hc⟩, hm, hb, hw⟩ := (State.memoryCanonical_iff s).mp (hs.memory ha)
  refine (State.memoryCanonical_iff _).mpr ⟨⟨rfl, rfl, hh, ?_⟩, keptMemory_wf hm, hb, hw⟩
  dsimp only
  split
  · cases e : s.power.savedConfig with
    | none => rfl
    | some c => exact hw c e
  · rfl

theorem porReset_keeps {springExt : Bool} {s : State} (h : Keeps a s) : Keeps a (porReset springExt s) := by
  refine ⟨h.pending, fun ha => ?_⟩
  obtain ⟨⟨h0, h2, hh, hc⟩, hm, hb, hw⟩ := (State.memoryCanonical_iff s).mp (h.memory ha)
  exact (State.memoryCanonical_iff _).mpr ⟨⟨rfl, rfl, hh, rfl⟩, keptMemory_wf hm, hb, nofun⟩

theorem enterSafeHold_keeps {s : State} (h : Keeps a s) : Keeps a (enterSafeHold s) :=
  bootEvent_keeps (enterSafeState_keeps (State.onBoot_keeps (State.free_keeps h)))

theorem Boot.setSlot_canonical {b : Boot} {one : Bool} {x : ImageSlot} (h : b.canonical)
    (hx : Memory.wf x.content = true) : (b.setSlot one x).canonical := by
  unfold Boot.setSlot
  split
  · exact ⟨h.1, hx⟩
  · exact ⟨hx, h.2⟩

theorem Boot.slot_wf {b : Boot} {one : Bool} (h : b.canonical) : Memory.wf (b.slot one).content = true := by
  unfold Boot.slot
  split
  · exact h.2
  · exact h.1

theorem ImageSlot.program_wf {x : ImageSlot} {n : Nat} {bs : Bytes} (h : Memory.wf x.content = true) :
    Memory.wf (x.program n bs).content = true := memWrites_wf _ _ _ h

/-- A start that fails in a state whose start bookkeeping has become `b`. -/
theorem failStart_keeps {k : StartKind} {step reason : Nat} {cold : Bool} {s : State} (h : Keeps a s) :
    Keeps a (failStart k step reason cold s) := by
  unfold failStart
  extract_lets b0 b1 b2
  have hb : s.boot.canonical → b2.canonical := by
    intro hb
    change b1.canonical
    unfold b1
    split
    · exact Boot.setSlot_canonical hb (ImageSlot.program_wf (Boot.slot_wf hb))
    · exact hb
  clear_value b2
  cases k with
  | warm => exact resetDevice_keeps (State.onBoot_keeps (f := fun _ => _) h hb)
  | cold =>
    have failed := resetDevice_keeps (k := .cold) (hib := false) (State.onBoot_keeps (f := fun _ => { b2 with
      coldFails := if b2.coldFails.toNat < 3 then b2.coldFails + 1 else b2.coldFails }) h hb)
    exact .ite (enterSafeHold_keeps failed) failed

theorem execPor_keeps {falling springExt : Bool} {s : State} (h : Keeps a s) : NextKeeps a (execPor falling springExt s) :=
  .next (porReset_keeps h)

theorem execExternalReset_keeps {s : State} (h : Keeps a s) : NextKeeps a (execExternalReset s) :=
  .next (State.onBoot_keeps (State.count_keeps (resetDevice_keeps h)))

theorem execPciePerstNAssert_keeps {s : State} (h : Keeps a s) : NextKeeps a (execPciePerstNAssert s) :=
  .ite (.next h) (.next (.ite (fireWake_keeps (State.onPower_keeps (State.onKci_keeps (State.count_keeps
      (State.onBoot_keeps h))))) (State.onKci_keeps (State.count_keeps (State.onBoot_keeps h)))))

theorem execPciePerstNRelease_keeps {s : State} (h : Keeps a s) : NextKeeps a (execPciePerstNRelease s) := by
  unfold execPciePerstNRelease
  refine .ite (.next h) ?_
  extract_lets s1 k0 s2
  have h2 : Keeps a s2 := State.onKci_keeps (State.onBoot_keeps h) fun ⟨h0, h2, hh, _⟩ => ⟨h0, h2, hh, rfl⟩
  exact .next (.ite (fireWake_keeps h2) h2)

theorem restartRaise_keeps {n detail : Nat} {s : State} (h : Keeps a s) : Keeps a (restartRaise n detail s) := by
  unfold restartRaise
  split
  · exact failStart_keeps (State.free_keeps (State.free_keeps h))
  · exact h
  · exact raiseSource_keeps h

theorem execRailResetCrossing_keeps {rail : Fin 10} {mv : Nat} {s : State} (h : Keeps a s) :
    NextKeeps a (execRailResetCrossing rail mv s) :=
  .ite (.next h) (.ite (.next (porReset_keeps h)) (.next (restartRaise_keeps (State.onRail_keeps h))))

theorem execCpWatchdog_keeps {s : State} (h : Keeps a s) : NextKeeps a (execCpWatchdog s) :=
  .ite (.next h) (.next (restartRaise_keeps (countSupply_keeps (State.onSupply_keeps h))))

theorem execDeviceRestart_keeps {buf : Bytes} {s : State} (h : Keeps a s) : NextKeeps a (execDeviceRestart buf s) := by
  unfold execDeviceRestart
  refine .next ?_
  refine runKci_keeps ?_ h
  refine fun h1 => ?_
  split
  · exact .refuse
  · exact .ite .refuse (.done (State.onBoot_keeps h1))

theorem execS3WarmRestart_keeps {s : State} (h : Keeps a s) : NextKeeps a (execS3WarmRestart s) := by
  unfold execS3WarmRestart
  split
  · split
    · exact .next (failStart_keeps (State.free_keeps h))
    · exact .next h
    · exact .next (resetDevice_keeps h)
  · exact .next h

theorem execStartTimeout_keeps {step : Nat} {s : State} (h : Keeps a s) : NextKeeps a (execStartTimeout step s) := by
  unfold execStartTimeout
  split
  · exact .next (failStart_keeps h)
  · exact .next h

theorem execStartSuccess_keeps {s : State} (h : Keeps a s) : NextKeeps a (execStartSuccess s) := by
  unfold execStartSuccess
  split
  · exact .ite (.next (State.onBoot_keeps h)) (.next h)
  · exact .next h

/-! ### Machine/Start -/

theorem loadFuses_keeps {f : StartFacts} {s : State} (h : Keeps a s) : Keeps a (loadFuses f s) := by
  unfold loadFuses
  refine State.onBoot_keeps (State.onSupply_keeps (State.onSafety_keeps h)) fun hb => ?_
  extract_lets b1 b2
  have h1 : b1.canonical := by
    unfold b1
    split
    · exact hb
    · exact hb
  change b2.canonical
  unfold b2
  split
  · exact ⟨ImageSlot.program_wf rfl, ImageSlot.program_wf rfl⟩
  · exact h1

theorem runSteps_keeps {cold : Bool} {f : StartFacts} {s : State} (h : Keeps a s) : Keeps a (runSteps cold f s).2 := by
  unfold runSteps
  extract_lets ended
  split
  · exact h
  · split
    · exact .snd (raiseSource_keeps h)
    · split
      · exact h
      · split
        · exact h
        · next i hi =>
          have selected : Keeps a (s.onBoot fun b => { b with imageSlot := i, fallback := b.fellBack i, step := 4 }) :=
            State.onBoot_keeps h
          generalize (s.onBoot fun b => { b with imageSlot := i, fallback := b.fellBack i, step := 4 }) = t at selected
          dsimp only
          split
          · exact selected
          · split
            · exact State.free_keeps selected
            · exact selected

theorem testReactions_keeps {f : StartFacts} {s : State} (h : Keeps a s) : Keeps a (testReactions f s) :=
  .ite h (raiseSource_keeps h)

theorem setReady_keeps {k : StartKind} {s : State} (h : Keeps a s) : Keeps a (setReady k s) :=
  bootEvent_keeps (State.onSupply_keeps (State.onPower_keeps (State.onMem_keeps (State.onSafety_keeps (State.onBoot_keeps
      h)))))

theorem takeObs_keeps {k : StartKind} {rs : List CalResult} {s : State} (h : Keeps a s) : Keeps a (takeObs k rs s) :=
  takeResults_keeps h

theorem initCold_keeps {f : StartFacts} {s : State} (h : Keeps a s) : Keeps a (initCold f s) :=
  .ite (raiseSource_keeps (State.onThermal_keeps (State.onRail_keeps (Keeps.foldl (fun _ _ h1 => raiseEvent_keeps h1)
      (State.onCipher_keeps (takeObs_keeps (State.onCoh_keeps (State.onMem_keeps h)))))))) (State.onThermal_keeps
          (State.onRail_keeps (Keeps.foldl (fun _ _ h1 => raiseEvent_keeps h1) (State.onCipher_keeps (takeObs_keeps
              (State.onCoh_keeps (State.onMem_keeps h)))))))

theorem initWarm_keeps {hib : Bool} {f : StartFacts} {s : State} (h : Keeps a s) : Keeps a (initWarm hib f s) :=
  enterIdle_keeps (Keeps.foldl (fun _ _ h1 => releaseTimer_keeps h1) (rebuildBases_keeps (State.onTime_keeps (.ite
      (freezeBound_keeps (.ite (addStress_keeps (Keeps.foldl (fun _ _ h1 => reserveAhead_keeps h1) (takeObs_keeps
          (State.onCoh_keeps h)))) (Keeps.foldl (fun _ _ h1 => reserveAhead_keeps h1) (takeObs_keeps (State.onCoh_keeps
              h))))) (State.onTime_keeps (.ite (addStress_keeps (Keeps.foldl (fun _ _ h1 => reserveAhead_keeps h1)
                  (takeObs_keeps (State.onCoh_keeps h)))) (Keeps.foldl (fun _ _ h1 => reserveAhead_keeps h1) (takeObs_keeps
                      (State.onCoh_keeps h)))))))))

theorem execColdStart_keeps {f : StartFacts} {s : State} (h : Keeps a s) : NextKeeps a (execColdStart f s) := by
  have fused := loadFuses_keeps (f := f) (State.onBoot_keeps (f := fun b =>
    { b with hostSel := f.hostSel, refSel := f.refSel, testMode := f.testMode }) (resetDevice_keeps (k := .cold) (hib := false) h))
  refine .ite (.next h) (.ite (.next (State.onBoot_keeps (State.onBoot_keeps (resetDevice_keeps h)))) (.ite
    (.next (enterSafeHold_keeps (State.onBoot_keeps fused))) ?_))
  split
  · exact .next (failStart_keeps (.of_pair (runSteps_keeps fused) (by assumption)))
  · exact .next (setReady_keeps (testReactions_keeps (initCold_keeps (.of_pair (runSteps_keeps fused) (by assumption)))))

theorem execWarmStart_keeps {f : StartFacts} {s : State} (h : Keeps a s) : NextKeeps a (execWarmStart f s) := by
  have fused := loadFuses_keeps (f := { f with flash := none }) (resetDevice_keeps (k := .warm) (hib := fromHibernate s) h)
  refine .ite (.next h) ?_
  dsimp only
  split
  · exact .next (failStart_keeps (.of_pair (runSteps_keeps fused) (by assumption)))
  · have ran := Keeps.of_pair (runSteps_keeps fused) (by assumption)
    exact .ite (.next (failStart_keeps (raiseSource_keeps ran)))
      (.next (handleHeld_keeps (setReady_keeps (testReactions_keeps (initWarm_keeps ran)))))

theorem execPadHoldRelease_keeps {buf : Bytes} {s : State} (h : Keeps a s) : NextKeeps a (execPadHoldRelease buf s) :=
  .next (runKci_keeps (fun h1 => .ite (.done (bootEvent_keeps (State.onBoot_keeps h1))) (.done h1)) h)

theorem execImageWrite_keeps {buf : Bytes} {s : State} (h : Keeps a s) : NextKeeps a (execImageWrite buf s) := by
  unfold execImageWrite
  refine .next ?_
  refine runKci_keeps ?_ h
  refine fun h1 => ?_
  split
  · exact .refuse
  · exact .ite .refuse (.ite .refuse (acceptLong_keeps h1))

theorem writeImage_keeps {body : Bytes} {s : State} (h : Keeps a s) : Keeps a (writeImage body s).2 := by
  unfold writeImage
  extract_lets i x0 x
  have hx (hb : s.boot.canonical) : Memory.wf x.content = true := by
    refine ImageSlot.program_wf ?_
    unfold x0
    split
    · rfl
    · exact Boot.slot_wf hb
  have written : Keeps a (s.onBoot (Boot.setSlot i x)) :=
    State.onBoot_keeps h fun hb => Boot.setSlot_canonical hb (hx hb)
  split
  · split
    · exact State.onBoot_keeps h fun hb => Boot.setSlot_canonical hb (ImageSlot.program_wf (hx hb))
    · exact written
  · exact written

theorem execImageWriteDone_keeps {s : State} (h : Keeps a s) : NextKeeps a (execImageWriteDone s) := by
  unfold execImageWriteDone
  split
  · exact .next h
  · exact .next (longDone_keeps (writeImage_keeps h))

theorem execImageConfirm_keeps {buf : Bytes} {s : State} (h : Keeps a s) : NextKeeps a (execImageConfirm buf s) :=
  .next (runKci_keeps (fun h => .ite (.done (State.onBoot_keeps h fun hb =>
    Boot.setSlot_canonical (b := _) hb (ImageSlot.program_wf (Boot.slot_wf hb)))) (.done h)) h)

theorem execImageStatus_keeps {buf : Bytes} {s : State} (h : Keeps a s) : NextKeeps a (execImageStatus buf s) :=
  .next (runKci_keeps (fun h1 => .done h1) h)

/-! ### Machine/Confluence -/

theorem countDetected_keeps {n : Nat} {detail : BitVec 64} {s : State} (h : Keeps a s) :
    Keeps a (countDetected n detail s) := .ite (State.count_keeps h) (.ite (raiseEvent_keeps (State.count_keeps h)) h)

theorem execFaultSourceRaise_keeps {n : Fin 192} {named : Nat} {detail : BitVec 64} {s : State} (h : Keeps a s) :
    NextKeeps a (execFaultSourceRaise n named detail s) := .next (.ite (raiseFault_keeps (countDetected_keeps h)) h)

theorem execFaultReportInterval_keeps {n : Fin 192} {s : State} (h : Keeps a s) :
    NextKeeps a (execFaultReportInterval n s) := by
  unfold execFaultReportInterval
  split
  · exact .next h
  · exact .ite (.next h) (.ite (.next (State.onSafety_keeps h)) (.next (reportNote_keeps h)))

theorem execShadowWindowClose_keeps {recNo : Nat} {s : State} (h : Keeps a s) :
    NextKeeps a (execShadowWindowClose recNo s) := by
  unfold execShadowWindowClose
  dsimp only
  split
  · exact .next h
  · exact .next (.ite (State.onSafety_keeps h) (raiseEvent_keeps (State.onSafety_keeps h)))

theorem execSafetyLoopToken_keeps {token : BitVec 32} {confirmed : Nat} {s : State} (h : Keeps a s) :
    NextKeeps a (execSafetyLoopToken token confirmed s) := .next (State.onSafety_keeps h)

theorem execSafetyLoopLate_keeps {s : State} (h : Keeps a s) : NextKeeps a (execSafetyLoopLate s) :=
  .ite (.next h) (.next (raiseSource_keeps (State.onSafety_keeps h)))

theorem execSafeOutputReadback_keeps {differ : BitVec 8} {hotRadios : BitVec 3} {s : State} (h : Keeps a s) :
    NextKeeps a (execSafeOutputReadback differ hotRadios s) :=
  .ite (.next h) (.next (Keeps.foldl (fun _ _ h1 => raiseSource_keeps h1) (Keeps.foldl (fun _ _ h1 => raiseSource_keeps h1)
      (State.onSafety_keeps h))))

theorem execFwIntegrity_keeps {same : Bool} {s : State} (h : Keeps a s) : NextKeeps a (execFwIntegrity same s) :=
  .next (.ite h (raiseSource_keeps h))

theorem execFaultTableLoad_keeps {buf : Bytes} {s : State} (h : Keeps a s) : NextKeeps a (execFaultTableLoad buf s) := by
  unfold execFaultTableLoad
  dsimp only
  refine .next ?_
  refine runKci_keeps ?_ h
  refine fun h1 => ?_
  split
  · exact .refuse
  · split
    · exact .refuse
    · split
      · exact .refuse
      · exact .done (stageRun_keeps h1)

theorem execFaultLogRead_keeps {buf : Bytes} {s : State} (h : Keeps a s) : NextKeeps a (execFaultLogRead buf s) :=
  .next (runKci_keeps (fun h1 => .done h1) h)

theorem execFaultClear_keeps {buf : Bytes} {s : State} (h : Keeps a s) : NextKeeps a (execFaultClear buf s) :=
  .next (runKci_keeps (fun h1 => .ite .refuse (.ite .refuse (.done (State.onSafety_keeps h1)))) h)

theorem execFaultInject_keeps {buf : Bytes} {s : State} (h : Keeps a s) : NextKeeps a (execFaultInject buf s) := by
  unfold execFaultInject
  dsimp only
  refine .next ?_
  refine runKci_keeps ?_ h
  refine fun h1 => ?_
  split
  · exact .refuse
  · split
    · exact .refuse
    · split
      · exact .refuse
      · exact .done (raiseFault_keeps h1)

theorem execFaultRaise_keeps {buf : Bytes} {s : State} (h : Keeps a s) : NextKeeps a (execFaultRaise buf s) := by
  unfold execFaultRaise
  refine .next ?_
  refine runKci_keeps ?_ h
  refine fun h1 => ?_
  split
  · exact .refuse
  · split
    · exact .refuse
    · exact .done (raiseFault_keeps (State.count_keeps h1))

/-! ### Machine/Commit -/

theorem commitChecked_keeps {s : State} {fns : List Nat} {kind asn : Nat} (h : Keeps a s) :
    ReplyKeeps a (commitChecked s fns kind asn) := by
  unfold commitChecked
  dsimp only
  split
  · exact .done (State.free_keeps (State.free_keeps h))
  · split
    · exact .refuse
    · split
      · exact .defer (State.onCoh_keeps h)
      · exact .done (State.onCoh_keeps h)

theorem execConfigCommit_keeps {buf : Bytes} {s : State} (h : Keeps a s) : NextKeeps a (execConfigCommit buf s) := by
  unfold execConfigCommit
  dsimp only
  refine .next ?_
  refine runKci_keeps ?_ h
  refine fun h1 => ?_
  split
  · exact .refuse
  · split
    · exact .refuse
    · split
      · exact .refuse
      · split
        · exact .refuse
        · split
          · exact .refuse
          · exact .ite (.done (State.free_keeps (State.free_keeps h1))) (commitChecked_keeps h1)

theorem execConfigCancel_keeps {buf : Bytes} {s : State} (h : Keeps a s) : NextKeeps a (execConfigCancel buf s) :=
  .next (runKci_keeps (fun h1 => .done (State.onCoh_keeps h1)) h)

theorem applyFn_keeps {old : NMap Bytes} {s : State} {fn : Nat} (h : Keeps a s) : Keeps a (applyFn old s fn) :=
  .ite (applyRadio_keeps h) (.ite (applyRadio_keeps h) (.ite (applyRadio_keeps h) (.ite (applyGroup_keeps h) (.ite
      (applySluice_keeps h) (.ite (applyLink_keeps h) (.ite (applyKeys_keeps h) (.ite (applyPage_keeps h) (.ite
          (applyRouter_keeps h) (.ite (applyPort_keeps h) (.ite (applyPort_keeps h) (.ite (applyMemory_keeps h) (.ite
              (applySched_keeps h) (.ite (applyTimer_keeps h) (.ite (applyTime_keeps h) (.ite (applyPower_keeps h) (.ite
                  (applySupply_keeps h) h))))))))))))))))

theorem switchSets_keeps {c : Commit} {s : State} (h : Keeps a s) : Keeps a (switchSets c s) :=
  Keeps.foldl (fun _ _ h1 => applyFn_keeps h1) (Keeps.foldl (fun _ _ h1 => forgetPeaks_keeps h1) (State.onCoh_keeps
      (State.onCoh_keeps h)))

theorem applyCommit_keeps {c : Commit} {s : State} (h : Keeps a s) : Keeps a (applyCommit c s) := by
  unfold applyCommit
  dsimp only
  split
  · exact finishExecuting_keeps (raiseEventAt_keeps (State.onCoh_keeps (switchSets_keeps h)))
  · exact raiseEventAt_keeps (State.onCoh_keeps (switchSets_keeps h))

theorem execCommitApply_keeps {s : State} (h : Keeps a s) : NextKeeps a (execCommitApply s) := by
  unfold execCommitApply
  dsimp only
  split
  · exact .next h
  · exact .next (.ite (applyCommit_keeps h) h)

theorem execFunctionReset_keeps {buf : Bytes} {s : State} (h : Keeps a s) : NextKeeps a (execFunctionReset buf s) := by
  unfold execFunctionReset
  dsimp only
  refine .next ?_
  refine runKci_keeps ?_ h
  refine fun h1 => ?_
  split
  · exact .refuse
  · split
    · exact .refuse
    · split
      · exact .refuse
      · split
        · exact .refuse
        · exact .defer (startReset_keeps h1)

theorem resetFn_keeps {s : State} {fn : Nat} (h : Keeps a s) : Keeps a (resetFn s fn) :=
  .ite (resetRadio_keeps h) (.ite (resetRadio_keeps h) (.ite (resetRadio_keeps h) (.ite (resetGroup_keeps h) (.ite
      (resetEddy_keeps h) (.ite (resetRiffle_keeps h) (.ite (resetSluice_keeps h) (.ite (resetLinkRx_keeps h) (.ite
          (resetCipher_keeps h) (.ite (resetPageLink_keeps h) (.ite (resetRouter_keeps h) (.ite (retrainPort_keeps h) (.ite
              (retrainPort_keeps h) (.ite (resumeMigration_keeps h) (.ite (resumeMigration_keeps h) (.ite (resetCore_keeps
                  h) (.ite (resetSched_keeps h) (.ite (resetTimer_keeps h) (.ite (resetTime_keeps h) (.ite
                      (resetPower_keeps h) (.ite (resetSupply_keeps h) h))))))))))))))))))))

theorem releaseFn_keeps {s : State} {fn : Nat} (h : Keeps a s) : Keeps a (releaseFn s fn) :=
  raiseEvent_keeps (State.onFn_keeps h)

theorem endResetReactions_keeps {scope : List Nat} {s : State} (h : Keeps a s) : Keeps a (endResetReactions scope s) :=
  Keeps.foldl (fun _ _ h1 => endReaction_keeps h1) h

theorem answerReset_keeps {fn : Nat} {s : State} (h : Keeps a s) : Keeps a (answerReset fn s) := by
  unfold answerReset
  split
  · exact h
  · exact .ite (finishExecuting_keeps h) h

theorem completeReset_keeps {j : ResetJob} {s : State} (h : Keeps a s) : Keeps a (completeReset j s) := by
  unfold completeReset
  dsimp only
  split
  · exact answerReset_keeps (.ite (placeAll_keeps (endResetReactions_keeps (Keeps.foldl (fun _ _ h1 => releaseFn_keeps h1)
      (Keeps.foldl (fun _ _ h1 => .ite (resetFn_keeps h1) h1) (State.onCoh_keeps h))))) (endResetReactions_keeps
          (Keeps.foldl (fun _ _ h1 => releaseFn_keeps h1) (Keeps.foldl (fun _ _ h1 => .ite (resetFn_keeps h1) h1)
              (State.onCoh_keeps h)))))
  · exact .ite (placeAll_keeps (endResetReactions_keeps (Keeps.foldl (fun _ _ h1 => releaseFn_keeps h1) (Keeps.foldl (fun _
      _ h1 => .ite (resetFn_keeps h1) h1) (State.onCoh_keeps h))))) (endResetReactions_keeps (Keeps.foldl (fun _ _ h1 =>
          releaseFn_keeps h1) (Keeps.foldl (fun _ _ h1 => .ite (resetFn_keeps h1) h1) (State.onCoh_keeps h))))

theorem execFunctionResetComplete_keeps {fn : Nat} {s : State} (h : Keeps a s) :
    NextKeeps a (execFunctionResetComplete fn s) := by
  unfold execFunctionResetComplete
  split
  · exact .next h
  · exact .next (completeReset_keeps h)

/-! ### Machine/Commands -/

theorem execDeviceInfo_keeps {buf : Bytes} {s : State} (h : Keeps a s) : NextKeeps a (execDeviceInfo buf s) :=
  .next (runKci_keeps (fun h1 => .done h1) h)

theorem execEcho_keeps {buf : Bytes} {s : State} (h : Keeps a s) : NextKeeps a (execEcho buf s) :=
  .next (runKci_keeps (fun h1 => .done h1) h)

theorem snapshot_keeps {f : State → Nat → Bytes} {s : State} {x : Fin 4} {x3 : Req} {body : Bytes} (h : Keeps a s) :
    ReplyKeeps a (snapshot f s x x3 body) := by
  unfold snapshot
  dsimp only
  split
  · exact .refuse
  · split
    · exact .refuse
    · exact .ite .refuse (.done h)

theorem execStatusRead_keeps {buf : Bytes} {s : State} (h : Keeps a s) : NextKeeps a (execStatusRead buf s) :=
  .next (runKci_keeps (fun h1 => snapshot_keeps h1) h)

theorem execCounterRead_keeps {buf : Bytes} {s : State} (h : Keeps a s) : NextKeeps a (execCounterRead buf s) :=
  .next (runKci_keeps (fun h1 => snapshot_keeps h1) h)

theorem execFunctionEnable_keeps {buf : Bytes} {s : State} (h : Keeps a s) : NextKeeps a (execFunctionEnable buf s) :=
  .next (runKci_keeps (fun h1 => stageOne_keeps h1) h)

theorem execStageDiscard_keeps {buf : Bytes} {s : State} (h : Keeps a s) : NextKeeps a (execStageDiscard buf s) :=
  .next (runKci_keeps (fun h1 => .done (State.onCoh_keeps h1)) h)

theorem execFrameRingConfig_keeps {buf : Bytes} {s : State} (h : Keeps a s) : NextKeeps a (execFrameRingConfig buf s) :=
  .next (runKci_keeps (fun h1 => stageOne_keeps h1) h)

theorem execPadConfig_keeps {buf : Bytes} {s : State} (h : Keeps a s) : NextKeeps a (execPadConfig buf s) := by
  unfold execPadConfig
  refine .next ?_
  refine runKci_keeps ?_ h
  refine fun h1 => ?_
  split
  · exact .refuse
  · exact .done (State.stage_keeps h1)

theorem execBadOpcodeRequest_keeps {s : State} (h : Keeps a s) : NextKeeps a (execBadOpcodeRequest s) := by
  refine .next ?_
  split
  · exact h
  · exact .ite (execute_keeps (takeReq_keeps h) .no) h

theorem execConfigRead_keeps {buf : Bytes} {s : State} (h : Keeps a s) : NextKeeps a (execConfigRead buf s) := by
  unfold execConfigRead
  dsimp only
  refine .next ?_
  refine runKci_keeps ?_ h
  refine fun h1 => ?_
  split
  · exact .refuse
  · split
    · exact .refuse
    · split
      · exact .refuse
      · exact .done h1

theorem execDebugWindowOpen_keeps {buf : Bytes} {s : State} (h : Keeps a s) : NextKeeps a (execDebugWindowOpen buf s) := by
  unfold execDebugWindowOpen
  dsimp only
  refine .next ?_
  refine runKci_keeps ?_ h
  refine fun h1 => ?_
  split
  · exact .refuse
  · exact .ite (.done h1) (.done (State.onKci_keeps h1))

/-! ### Machine/HostBlock -/

theorem hostAccess_keeps {s : State} (h : Keeps a s) : Keeps a (hostAccess s) := fireWake_keeps h

theorem ringDoorbell_keeps {m : Fin 4} {v : BitVec 9} {s : State} (h : Keeps a s) : Keeps a (ringDoorbell m v s) := by
  unfold ringDoorbell
  dsimp only
  split
  · exact h
  · split
    · exact ringError_keeps h
    · split
      · exact ringError_keeps h
      · exact State.onMbx_keeps h

theorem advanceRsp_keeps {m : Fin 4} {v : BitVec 9} {s : State} (h : Keeps a s) : Keeps a (advanceRsp m v s) := by
  unfold advanceRsp
  dsimp only
  split
  · exact ringError_keeps h
  · split
    · exact ringError_keeps h
    · exact flushRsp_keeps (State.onMbx_keeps h)

theorem resetMbx_keeps {m : Fin 4} {s : State} (h : Keeps a s) : Keeps a (resetMbx m s) := State.onKci_keeps h

theorem mbxControl_keeps {m : Fin 4} {v : BitVec 32} {s : State} (h : Keeps a s) : Keeps a (mbxControl m v s) :=
  .ite (resetMbx_keeps h) h

theorem advanceEvt_keeps {v : BitVec 11} {s : State} (h : Keeps a s) : Keeps a (advanceEvt v s) :=
  .ite h (.ite (raiseEvent_keeps (State.onKci_keeps (State.onKci_keeps h))) (State.onKci_keeps h))

theorem latchDropped_keeps {s : State} (h : Keeps a s) : Keeps a (latchDropped s) := State.onKci_keeps h

theorem sendMsix_canonical {k : Kci} (h : k.canonical) : (sendMsix k).canonical := by
  rw [sendMsix_frame]
  exact h

theorem clearPending_keeps {k : Nat} {v : BitVec 32} {s : State} (h : Keeps a s) : Keeps a (clearPending k v s) :=
  State.onKci_keeps h fun hk => sendMsix_canonical hk

theorem rearm_keeps {v : BitVec 32} {s : State} (h : Keeps a s) : Keeps a (rearm v s) :=
  State.onKci_keeps h fun hk => sendMsix_canonical hk

theorem execMsixHoldoffExpiry_keeps {v : Fin 32} {s : State} (h : Keeps a s) :
    NextKeeps a (execMsixHoldoffExpiry v s) := .next (State.onKci_keeps h fun hk => sendMsix_canonical hk)

theorem Kci.canonical_ite {c : Prop} [Decidable c] {k l : Kci} (hk : k.canonical) (hl : l.canonical) :
    (if c then k else l).canonical := by
  split
  · exact hk
  · exact hl

theorem writeDbg_keeps {high : Bool} {v : BitVec 32} {s : State} (h : Keeps a s) : Keeps a (writeDbg high v s) := by
  unfold writeDbg
  refine State.onKci_keeps h fun hk => ?_
  obtain ⟨h0, h2, hh, hc⟩ := hk
  have stored : (if high then { s.kci with dbgHi := v &&& 0xFF } else { s.kci with dbgLo := v &&& 0xFFFFF000 }).canonical :=
    Kci.canonical_ite ⟨h0, h2, hh, hc⟩ ⟨h0, h2, hh, hc⟩
  dsimp only
  generalize (if high then { s.kci with dbgHi := v &&& 0xFF } else { s.kci with dbgLo := v &&& 0xFFFFF000 }) = k at stored ⊢
  obtain ⟨h0, h2, hh, hc⟩ := stored
  exact Kci.canonical_ite ⟨h0, h2, hh, hc⟩ ⟨h0, h2, hh, hc⟩

theorem writePlainReg_keeps {o : Nat} {v : BitVec 32} {s : State} (h : Keeps a s) : Keeps a (writePlainReg o v s) := by
  refine State.onKci_keeps h fun hk => ?_
  dsimp only
  split
  · exact sendMsix_canonical hk
  · split
    · exact sendMsix_canonical hk
    · split
      · exact sendMsix_canonical hk
      · split
        · exact hk
        · split
          · exact sendMsix_canonical hk
          · exact hk

theorem writeHostReg_keeps {o : Nat} {v : BitVec 32} {s : State} (h : Keeps a s) : Keeps a (writeHostReg o v s) := by
  unfold writeHostReg
  dsimp only
  split
  · exact writeDbg_keeps h
  · split
    · exact writeDbg_keeps h
    · split
      · split
        · exact ringDoorbell_keeps h
        · exact advanceRsp_keeps h
        · exact mbxControl_keeps h
        · exact h
      · exact .ite (advanceEvt_keeps h) (.ite (clearPending_keeps h) (.ite (rearm_keeps h) (writePlainReg_keeps h)))

theorem returnHost_keeps {r : Fin 16} {reason n : Nat} {s : State} (h : Keeps a s) : Keeps a (returnHost r reason n s) := by
  induction n generalizing s with
  | zero => exact h
  | succ n ih => exact ih (.ite (raiseEvent_keeps (returnDesc_keeps h)) (returnDesc_keeps h))

theorem takeHostFrame_keeps {r : Fin 16} {a' : Nat} {data : Bytes} {s : State} (h : Keeps a s) :
    Keeps a (takeHostFrame r a' data s).2 := by
  unfold takeHostFrame
  dsimp only
  split
  · exact hostPacket_keeps h
  · split
    · exact h
    · exact admitPayload_keeps h

theorem takeFrames_keeps {r : Fin 16} {fuel : Nat} {bufs : List Bytes} {s : State} (h : Keeps a s) :
    Keeps a (takeFrames r fuel bufs s) := by
  induction fuel generalizing bufs s with
  | zero => exact h
  | succ fuel ih =>
    refine .ite h (.ite (ih (returnHost_keeps h)) ?_)
    split
    · exact h
    · dsimp only
      split
      · exact ih (returnHost_keeps (takeHostFrame_keeps h))
      · exact ih (returnHost_keeps h)

theorem advanceRing_keeps {r : Fin 16} {v : BitVec 13} {bufs : List Bytes} {s : State} (h : Keeps a s) :
    Keeps a (advanceRing r v bufs s) :=
  .ite (State.onKci_keeps h) (.ite h (.ite (State.onKci_keeps h) (.ite (pumpRing_keeps (State.onKci_keeps h))
      (takeFrames_keeps (State.onKci_keeps h)))))

theorem writeMapByte_keeps {a' : Nat} {b : Byte} {s : State} (h : Keeps a s) : Keeps a (writeMapByte a' b s) :=
  .ite (.ite (State.onKci_keeps h fun ⟨h0, h2, hh, hc⟩ => ⟨memWrite_wf _ _ _ h0, h2, hh, hc⟩) h)
    (.ite (State.onKci_keeps h fun ⟨h0, h2, hh, hc⟩ => ⟨h0, memWrite_wf _ _ _ h2, hh, hc⟩) h)

theorem writeMapReg_keeps {a' : Nat} {v : BitVec 32} {s : State} (h : Keeps a s) : Keeps a (writeMapReg a' v s) :=
  .ite (writeHostReg_keeps h) (.ite (advanceRing_keeps h) h)

theorem spiWrite_keeps {bs : Bytes} {n word : Nat} {s : State} (h : Keeps a s) : Keeps a (spiWrite bs n word s) := by
  induction bs generalizing n word s with
  | nil => exact h
  | cons b bs ih => exact .ite (ih (writeMapByte_keeps h)) (.ite (ih (writeMapReg_keeps h)) (ih h))

theorem debugRead_keeps {a' : Nat} {s : State} (h : Keeps a s) : Keeps a (debugRead a' s) :=
  .ite (.ite (raiseSource_keeps h) h) (.ite (pmuLatch_keeps h) h)

theorem mapReadEffect_keeps {a' : Nat} {s : State} (h : Keeps a s) : Keeps a (mapReadEffect a' s) :=
  .ite (latchDropped_keeps h) (.ite (debugRead_keeps h) h)

theorem spiReadFrom_keeps {n addr : Nat} {s : State} (h : Keeps a s) : Keeps a (spiReadFrom n addr s).2 := by
  induction n generalizing addr s with
  | zero => exact h
  | succ n ih => exact ih (.ite (mapReadEffect_keeps h) h)

theorem spiRead_keeps {n a' : Nat} {s : State} (h : Keeps a s) : Keeps a (spiRead n a' s).2 :=
  spiReadFrom_keeps (.ite h (mapReadEffect_keeps h))

theorem spiRun_keeps {mosi : Bytes} {s : State} (h : Keeps a s) : Keeps a (spiRun mosi s) :=
  .ite h (.ite (spiWrite_keeps (.ite (State.free_keeps h) h)) (.ite (State.onKci_keeps (spiRead_keeps h)) h))

theorem execSpiTransaction_keeps {mosi : List Byte} {s : State} (h : Keeps a s) : NextKeeps a (execSpiTransaction mosi s) :=
  .next (.ite h (.ite (State.onKci_keeps (hostAccess_keeps h)) (spiRun_keeps (hostAccess_keeps h))))

theorem writePlainMap_keeps {a' : Nat} {v : BitVec 32} {s : State} (h : Keeps a s) : Keeps a (writePlainMap a' v s) :=
  .ite (.ite (writePlainReg_keeps h) h) (Keeps.foldl (fun _ _ h1 => writeMapByte_keeps h1) h)

theorem writePhysReg_keeps {by_ : BusMaster} {a' : Nat} {v : BitVec 32} {s : State} (h : Keeps a s) :
    Keeps a (writePhysReg by_ a' v s) := by
  unfold writePhysReg
  dsimp only
  split
  · exact .ite (State.onPage_keeps h) (denyPage_keeps h)
  · split
    · exact .ite (timerWriteBy_keeps h) h
    · split
      · split
        · exact h
        · exact setRegs_keeps h
      · exact h

theorem readPmu_keeps {b : Fin 13} {off : Nat} {s : State} (h : Keeps a s) : Keeps a (readPmu b off s) :=
  .ite (State.onKci_keeps h) (State.onKci_keeps (.ite (pmuLatch_keeps h) h))

theorem windowAccess_keeps {by_ : BusMaster} {a' : Nat} {v : Option (BitVec 32)} {s : State} (h : Keeps a s) :
    NextKeeps a (windowAccess by_ a' v s) := by
  unfold windowAccess
  dsimp only
  split
  · exact execPageAccess_keeps h
  · split
    · refine .next ?_
      split
      · exact timerWriteBy_keeps h
      · exact timerReadBy_keeps h
    · split
      · exact .next (.ite h (readPmu_keeps h))
      · split
        · exact execSchRead_keeps h
        · exact .ite (execSchOp_keeps h) (.next (writePhysReg_keeps h))
        · exact .next h
        · exact .next (State.onKci_keeps h)

theorem execMemAccess_keeps {by_ : BusMaster} {addr : Nat} {data : Option Bytes} {len : Nat} {s : State}
    (h : Keeps a s) : NextKeeps a (execMemAccess by_ addr data len s) := by
  unfold execMemAccess
  extract_lets n s1 s2
  have h1 : Keeps a s1 := raiseSource_keeps (State.count_keeps h)
  have h2 : Keeps a s2 := countDram_keeps h
  refine .ite (.next h) (.ite (windowAccess_keeps h) (.ite (.next (.ite h1 (State.onKci_keeps h1))) ?_))
  clear_value s2
  cases data with
  | some d => exact .next (State.store_keeps h2)
  | none => exact .next (State.onKci_keeps (Keeps.foldl (fun _ _ h => wordError_keeps h) h2))

theorem HostAccess.run_keeps {a' : HostAccess} {s : State} (h : Keeps a s) : Keeps a (HostAccess.run a' s) := by
  unfold HostAccess.run
  split
  · exact ringDoorbell_keeps h
  · exact advanceRsp_keeps h
  · exact mbxControl_keeps h
  · exact advanceEvt_keeps h
  · exact State.onKci_keeps (latchDropped_keeps h)
  · exact clearPending_keeps h
  · exact rearm_keeps h
  · exact writeDbg_keeps h
  · exact advanceRing_keeps h
  · exact writePlainMap_keeps h

theorem onHost_keeps {s : State} {a' : HostAccess} (h : Keeps a s) : Keeps a (onHost s a') :=
  .ite h (.ite (State.onPower_keeps (hostAccess_keeps h)) (HostAccess.run_keeps (hostAccess_keeps h)))

theorem execMbxReqTailWrite_keeps {m : Fin 4} {value : BitVec 32} {s : State} (h : Keeps a s) :
    NextKeeps a (execMbxReqTailWrite m value s) := .next (onHost_keeps h)

theorem execMbxRspHeadWrite_keeps {m : Fin 4} {value : BitVec 32} {s : State} (h : Keeps a s) :
    NextKeeps a (execMbxRspHeadWrite m value s) := .next (onHost_keeps h)

theorem execMbxControlReset_keeps {m : Fin 4} {value : BitVec 32} {s : State} (h : Keeps a s) :
    NextKeeps a (execMbxControlReset m value s) := .next (onHost_keeps h)

theorem execEvtHeadWrite_keeps {value : BitVec 32} {s : State} (h : Keeps a s) : NextKeeps a (execEvtHeadWrite value s) :=
  .next (onHost_keeps h)

theorem execEvtDroppedLoRead_keeps {s : State} (h : Keeps a s) : NextKeeps a (execEvtDroppedLoRead s) :=
  .next (onHost_keeps h)

theorem execIntPendingClear_keeps {k : Fin 8} {value : BitVec 32} {s : State} (h : Keeps a s) :
    NextKeeps a (execIntPendingClear k value s) := .next (onHost_keeps h)

theorem execIntVecEoi_keeps {value : BitVec 32} {s : State} (h : Keeps a s) : NextKeeps a (execIntVecEoi value s) :=
  .next (onHost_keeps h)

theorem execDbgBaseWrite_keeps {high : Bool} {value : BitVec 32} {s : State} (h : Keeps a s) :
    NextKeeps a (execDbgBaseWrite high value s) := .next (onHost_keeps h)

theorem execRingHostIdxWrite_keeps {r : Fin 16} {value : BitVec 32} {bufs : List Bytes} {s : State} (h : Keeps a s) :
    NextKeeps a (execRingHostIdxWrite r value bufs s) := .next (onHost_keeps h)

theorem execRegisterWrite_keeps {by_ : BusMaster} {addr : Nat} {value : BitVec 32} {s : State} (h : Keeps a s) :
    NextKeeps a (execRegisterWrite by_ addr value s) := by
  unfold execRegisterWrite
  refine .next ?_
  split
  · exact onHost_keeps h
  · exact .ite h (writePhysReg_keeps h)

/-! ### Machine/Wake -/

theorem runHeldAccesses_keeps {s : State} (h : Keeps a s) : Keeps a (runHeldAccesses s) :=
  Keeps.foldl (fun _ _ h1 => HostAccess.run_keeps h1) (State.onPower_keeps h)

theorem execWakeComplete_keeps {s : State} (h : Keeps a s) : NextKeeps a (execWakeComplete s) := by
  unfold execWakeComplete
  dsimp only
  split
  · exact .next h
  · refine .next ?_
    refine runHeldAccesses_keeps ?_
    refine handleHeld_keeps ?_
    split
    · exact .ite (raiseSource_keeps (raiseEvent_keeps (State.count_keeps (.ite (feedEvp_keeps (placeAll_keeps
        (State.onSafety_keeps (resumeSlot_keeps (State.onPower_keeps h))))) (raiseEvent_keeps (feedEvp_keeps
            (placeAll_keeps (State.onSafety_keeps (resumeSlot_keeps (State.onPower_keeps h)))))))))) (.ite (feedEvp_keeps
                (placeAll_keeps (State.onSafety_keeps (resumeSlot_keeps (State.onPower_keeps h))))) (raiseEvent_keeps
                    (feedEvp_keeps (placeAll_keeps (State.onSafety_keeps (resumeSlot_keeps (State.onPower_keeps h)))))))
    · exact .ite (feedEvp_keeps (placeAll_keeps (State.onSafety_keeps (resumeSlot_keeps (State.onPower_keeps h)))))
        (raiseEvent_keeps (feedEvp_keeps (placeAll_keeps (State.onSafety_keeps (resumeSlot_keeps (State.onPower_keeps h))))))

/-! ### Machine/Dispatch -/

theorem exec_keeps {i : Instr} {s : State} (h : Keeps a s) : NextKeeps a (exec i s) := by
  unfold exec
  split
  · exact execMbxReqTailWrite_keeps h
  · exact execMbxRspHeadWrite_keeps h
  · exact execMbxControlReset_keeps h
  · exact execEvtHeadWrite_keeps h
  · exact execEvtDroppedLoRead_keeps h
  · exact execIntPendingClear_keeps h
  · exact execIntVecEoi_keeps h
  · exact execMsixHoldoffExpiry_keeps h
  · exact execDbgBaseWrite_keeps h
  · exact execRingHostIdxWrite_keeps h
  · exact execSpiTransaction_keeps h
  · exact execRegisterWrite_keeps h
  · exact execConfigWriteDenied_keeps h
  · exact execMemAccess_keeps h
  · exact execDeviceInfo_keeps h
  · exact execStatusRead_keeps h
  · exact execCounterRead_keeps h
  · exact execEcho_keeps h
  · exact execDebugWindowOpen_keeps h
  · exact execFunctionEnable_keeps h
  · exact execStageDiscard_keeps h
  · exact execConfigCommit_keeps h
  · exact execConfigCancel_keeps h
  · exact execConfigRead_keeps h
  · exact execFunctionReset_keeps h
  · exact execFunctionResetComplete_keeps h
  · exact execFrameRingConfig_keeps h
  · exact execCommitApply_keeps h
  · exact execLinkConfig_keeps h
  · exact execHopsetLoad_keeps h
  · exact execSlotframeLoad_keeps h
  · exact execNeighbourWrite_keeps h
  · exact execNeighbourRead_keeps h
  · exact execLinkResync_keeps h
  · exact execSlotBoundary_keeps h
  · exact execBeaconMissed_keeps h
  · exact execNeighbourLostSyncReport_keeps h
  · exact execListenIntervalStart_keeps h
  · exact execListenIntervalEnd_keeps h
  · exact execPreambleDetected_keeps h
  · exact execSyncSearchTimeout_keeps h
  · exact execSyncWordAccepted_keeps h
  · exact execPhrReceived_keeps h
  · exact execFrameHandOff_keeps h
  · exact execTrellisDecodeDone_keeps h
  · exact execSubtractionDone_keeps h
  · exact execRedemodStart_keeps h
  · exact execRedemodAbandon_keeps h
  · exact execRedemodDone_keeps h
  · exact execRiffleJobComplete_keeps h
  · exact execEngineClockGate_keeps h
  · exact execTwinSecondPartTimeout_keeps h
  · exact execDecodeTimeout_keeps h
  · exact execReleaseGatePass_keeps h
  · exact execTagVerifyVerdict_keeps h
  · exact execAgcClipStep_keeps h
  · exact execAgcPinned_keeps h
  · exact execNoiseFloorBlock_keeps h
  · exact execTestToneInject_keeps h
  · exact execLatentTestLate_keeps h
  · exact execRadioConfig_keeps h
  · exact execRadioFePins_keeps h
  · exact execRadioCalibrate_keeps h
  · exact execRadioCalibrateDone_keeps h
  · exact execRadioPinDrive_keeps h
  · exact execCalStoreRead_keeps h
  · exact execRadioChangeStart_keeps h
  · exact execSynthLock_keeps h
  · exact execSynthUnlock_keeps h
  · exact execSynthRelockTimeout_keeps h
  · exact execObsSynthUnlock_keeps h
  · exact execBackgroundCalDone_keeps h
  · exact execCalStarvedTimeout_keeps h
  · exact execGroupPlanLoad_keeps h
  · exact execChannelReloadDone_keeps h
  · exact execEddyConfig_keeps h
  · exact execEddyRingChange_keeps h
  · exact execRiffleConfig_keeps h
  · exact execLaunchSelection_keeps h
  · exact execLoClassify_keeps h
  · exact execRetuneStart_keeps h
  · exact execTrSwAssert_keeps h
  · exact execPaEnAssert_keeps h
  · exact execRampUpStart_keeps h
  · exact execLaunchStart_keeps h
  · exact execObsPowerVerdict_keeps h
  · exact execObsFrequencyVerdict_keeps h
  · exact execRampDownStart_keeps h
  · exact execPaEnDeassert_keeps h
  · exact execTrSwDeassert_keeps h
  · exact execBlankingEnd_keeps h
  · exact execAckStage5Deadline_keeps h
  · exact execDlAckWindowExpiry_keeps h
  · exact execDlLifetimeExpiry_keeps h
  · exact execGateEntry_keeps h
  · exact execDutyBucketAdvance_keeps h
  · exact execSluiceConfig_keeps h
  · exact execGateListLoad_keeps h
  · exact execDutyBandLoad_keeps h
  · exact execTxTest_keeps h
  · exact execTxTestEnd_keeps h
  · exact execKeyLoad_keeps h
  · exact execPageNop_keeps h
  · exact execEnc_keeps h
  · exact execDec_keeps h
  · exact execMacIn_keeps h
  · exact execMacRead_keeps h
  · exact execLoadQ_keeps h
  · exact execCtrQ_keeps h
  · exact execMacQ_keeps h
  · exact execTagVerify_keeps h
  · exact execClear_keeps h
  · exact execCtxSave_keeps h
  · exact execCtxRestore_keeps h
  · exact execPageAccess_keeps h
  · exact execCipherPageConfig_keeps h
  · exact execKeyImport_keeps h
  · exact execKeyDelete_keeps h
  · exact execKeyStoreRead_keeps h
  · exact execPageRun_keeps h
  · exact execKeyCounterRead_keeps h
  · exact execJournalProgramDone_keeps h
  · exact execJournalRetry_keeps h
  · exact execSectorEraseDone_keeps h
  · exact execEthFrameReceived_keeps h
  · exact execPortLinkChange_keeps h
  · exact execEgressDecision_keeps h
  · exact execQueueDropsReport_keeps h
  · exact execRouterConfig_keeps h
  · exact execRouteLoad_keeps h
  · exact execWeirEgressLoad_keeps h
  · exact execPolicerLoad_keeps h
  · exact execPolicerRead_keeps h
  · exact execPortConfig_keeps h
  · exact execPtpAnnounceRx_keeps h
  · exact execPtpSyncRx_keeps h
  · exact execPtpFollowUpRx_keeps h
  · exact execPtpDelayRespRx_keeps h
  · exact execDelayReqTx_keeps h
  · exact execSourceLost_keeps h
  · exact execSourceRevert_keeps h
  · exact execHoldoverExpiry_keeps h
  · exact execPpsInEdge_keeps h
  · exact execPpsSetLapse_keeps h
  · exact execPpsOutRise_keeps h
  · exact execPpsOutFall_keeps h
  · exact execSpringMeasurement_keeps h
  · exact execTimeConfig_keeps h
  · exact execTimeSet_keeps h
  · exact execTimeRead_keeps h
  · exact execTimerTick_keeps h
  · exact execTmrCtrlRun_keeps h
  · exact execTmrCtrlClear_keeps h
  · exact execTmrPeriodShadow_keeps h
  · exact execTmrPeriodImmediate_keeps h
  · exact execTmrCmpWrite_keeps h
  · exact execCmpWriteEffect_keeps h
  · exact execTmrCmpEnWrite_keeps h
  · exact execTmrStatusClear_keeps h
  · exact execTmrMissedRead_keeps h
  · exact execTmrTickLoRead_keeps h
  · exact execDebugHaltFreeze_keeps h
  · exact execDebugHaltRelease_keeps h
  · exact execTimerConfig_keeps h
  · exact execTimerAccess_keeps h
  · exact execAutoDozeEntry_keeps h
  · exact execVoterAckTimeout_keeps h
  · exact execSleepAbortReport_keeps h
  · exact execSleepSnapshot_keeps h
  · exact execScheduledWake_keeps h
  · exact execWakeSource_keeps h
  · exact execReferenceQualified_keeps h
  · exact execWakeRebuild_keeps h
  · exact execWakeComplete_keeps h
  · exact execRadioPowerUp_keeps h
  · exact execRxActiveAssert_keeps h
  · exact execRadioPowerDown_keeps h
  · exact execPowerConfig_keeps h
  · exact execPowerEnter_keeps h
  · exact execRailWarningCrossing_keeps h
  · exact execSupplyWarnNAssert_keeps h
  · exact execDipRecovery_keeps h
  · exact execRailResetCrossing_keeps h
  · exact execRailOverCrossing_keeps h
  · exact execDomainSpread_keeps h
  · exact execPor_keeps h
  · exact execExternalReset_keeps h
  · exact execPciePerstNAssert_keeps h
  · exact execPciePerstNRelease_keeps h
  · exact execAvsMeasurement_keeps h
  · exact execPmicWriteRetry_keeps h
  · exact execTargetSettleTimeout_keeps h
  · exact execOppEvaluation_keeps h
  · exact execPllRelockDone_keeps h
  · exact execClockMonitorFault_keeps h
  · exact execCpWatchdog_keeps h
  · exact execDeviceRestart_keeps h
  · exact execSupplyConfig_keeps h
  · exact execColdStart_keeps h
  · exact execWarmStart_keeps h
  · exact execStartTimeout_keeps h
  · exact execStartSuccess_keeps h
  · exact execPadHoldRelease_keeps h
  · exact execImageWrite_keeps h
  · exact execImageWriteDone_keeps h
  · exact execImageConfirm_keeps h
  · exact execImageStatus_keeps h
  · exact execSramScrubStep_keeps h
  · exact execSramScrubLate_keeps h
  · exact execDramScrubRow_keeps h
  · exact execRefreshDue_keeps h
  · exact execRefreshDebtPayoff_keeps h
  · exact execMr4Poll_keeps h
  · exact execDqsOscRead_keeps h
  · exact execDramRetrain_keeps h
  · exact execMigrationComplete_keeps h
  · exact execParamRecordDurable_keeps h
  · exact execRecorderBlockWritten_keeps h
  · exact execRecorderFifoFull_keeps h
  · exact execDramConfig_keeps h
  · exact execDramTrain_keeps h
  · exact execDramSpareMigrate_keeps h
  · exact execRecorderConfig_keeps h
  · exact execRecorderRead_keeps h
  · exact execMemErrorLogRead_keeps h
  · exact execSchNop_keeps h
  · exact execWait_keeps h
  · exact execPost_keeps h
  · exact execYield_keeps h
  · exact execExit_keeps h
  · exact execStart_keeps h
  · exact execRaise_keeps h
  · exact execFlowEnter_keeps h
  · exact execFlowRelease_keeps h
  · exact execFlowDrop_keeps h
  · exact execTakeEvent_keeps h
  · exact execPutEvent_keeps h
  · exact execSetPriority_keeps h
  · exact execNotify_keeps h
  · exact execEndEvent_keeps h
  · exact execSchWakeRead_keeps h
  · exact execSchPostsRead_keeps h
  · exact execWaitTimeout_keeps h
  · exact execQuantumExpiry_keeps h
  · exact execCoreClockGate_keeps h
  · exact execSyncException_keeps h
  · exact execCoreHang_keeps h
  · exact execPmuLowWordRead_keeps h
  · exact execSchedConfig_keeps h
  · exact execThreadTableLoad_keeps h
  · exact execClusterPost_keeps h
  · exact execClusterMemWrite_keeps h
  · exact execThreadRead_keeps h
  · exact execTraceRead_keeps h
  · exact execPmuConfig_keeps h
  · exact execPmuRead_keeps h
  · exact execFaultSourceRaise_keeps h
  · exact execFaultReportInterval_keeps h
  · exact execShadowWindowClose_keeps h
  · exact execS3WarmRestart_keeps h
  · exact execSafetyLoopToken_keeps h
  · exact execSafetyLoopLate_keeps h
  · exact execSafeOutputReadback_keeps h
  · exact execFwIntegrity_keeps h
  · exact execFaultTableLoad_keeps h
  · exact execFaultLogRead_keeps h
  · exact execFaultClear_keeps h
  · exact execFaultInject_keeps h
  · exact execFaultRaise_keeps h
  · exact execThermalSample_keeps h
  · exact execTelemetryRecord_keeps h
  · exact execStressRecord_keeps h
  · exact execLifeStress_keeps h
  · exact execTelemetryRead_keeps h
  · exact execStressRead_keeps h
  · exact execPadConfig_keeps h
  · exact execBadOpcodeRequest_keeps h
  · exact execWatchdogService_keeps h
  · exact execPageOperationDone_keeps h

/-! ### Machine/Tick -/

theorem springTick_keeps {s : State} (h : Keeps a s) : Keeps a (springTick s) := .ite (State.onTime_keeps h) h

theorem refCycle_keeps {s : State} (h : Keeps a s) : Keeps a (refCycle s) := by
  unfold refCycle
  dsimp only
  exact State.onTime_keeps h

theorem clockPhases_keeps {s : State} (h : Keeps a s) : Keeps a (clockPhases s) :=
  .ite (springTick_keeps (.ite (refCycle_keeps (State.onTime_keeps h)) (State.onTime_keeps h))) (.ite (refCycle_keeps
      (State.onTime_keeps h)) (State.onTime_keeps h))

theorem coreCycle_keeps {mhz : Nat} {s : State} {c : Fin 8} (h : Keeps a s) : Keeps a (coreCycle mhz s c) :=
  .ite (.ite (State.countN_keeps (State.onCluster_keeps (State.onCore_keeps (.ite h (State.onCore_keeps h)))))
      (State.onCluster_keeps (State.onCore_keeps (.ite h (State.onCore_keeps h))))) (.ite h (State.onCore_keeps h))

theorem clusterCycle_keeps {s : State} (h : Keeps a s) : Keeps a (clusterCycle s) :=
  .ite h (Keeps.foldl (fun _ _ h1 => coreCycle_keeps h1) (State.onCluster_keeps h))

theorem fabricCycle_keeps {s : State} (h : Keeps a s) : Keeps a (fabricCycle s) :=
  settlePause_keeps (settlePause_keeps (serveRelay_keeps (State.onSupply_keeps (clusterCycle_keeps (clockPhases_keeps
      (State.onTime_keeps h))))))

theorem tick_keeps {s : State} (h : Keeps a s) : Keeps a (tick s) := .ite (fabricCycle_keeps h) (springTick_keeps h)

end

end Sys2Proof.Machine

/-! ### What a step answers -/

namespace Sys2Proof.Machine

theorem step_cons {c : Instr} {cs : List Instr} {s : State} (h : s.pending = c :: cs) :
    step s = exec c { s with pending := cs } := by
  unfold step
  rw [h]

theorem step_nil {s : State} (h : s.pending = []) : step s = .next (tick s) := by
  unfold step
  rw [h]

/-- A step answers a next state that keeps what the state without its first command holds. -/
theorem step_keeps (s : State) : NextKeeps { s with pending := s.pending.tail } (step s) := by
  cases e : s.pending with
  | nil =>
    rw [step_nil e]
    exact .next (tick_keeps (.of_eq .refl e))
  | cons c cs =>
    rw [step_cons e]
    exact exec_keeps .refl

theorem run_succ {s t : State} {k : Nat} (h : step s = .next t) :
    Host.Core.run core (k + 1) s = Host.Core.run core k t := by
  simp only [Host.Core.run, show core.step s = .next t from h]

/-- Settles O1. -/
theorem stepRunsFrontCommand : Obligations.StepRunsFrontCommand := fun _ _ _ h => step_cons h

/-- Settles O2. -/
theorem emptyQueueTicksTheClocks : Obligations.EmptyQueueTicksTheClocks := by
  intro s h
  rw [step_nil h]
  refine ⟨fun hf hs => ?_, fun hf hs => ?_, fun hf => ?_⟩
  · simp [tick, springTick, hf, hs, State.onTime]
  · simp [tick, springTick, hf, hs]
  · simp [tick, hf]

/-- Settles O59: every operation keeps the canonical form of memory. -/
theorem memoriesStayCanonical : Obligations.MemoriesStayCanonical := by
  intro s t hs e
  have kept := step_keeps s
  rw [e] at kept
  cases kept with
  | next k => exact k.memory hs

/-- Settles O60, by induction on the number of steps. -/
theorem runsGoOnAndTakeTheQueueInOrder : Obligations.RunsGoOnAndTakeTheQueueInOrder := by
  intro s k
  induction k generalizing s with
  | zero => exact ⟨s, rfl, rfl⟩
  | succ k ih =>
    have kept := step_keeps s
    generalize e : step s = o at kept
    cases kept with
    | @next t kt =>
      obtain ⟨u, hu, hp⟩ := ih t
      refine ⟨u, ?_, ?_⟩
      · rw [run_succ e, hu]
      · rw [hp, kt.pending, List.drop_tail]

/-- Settles O58. -/
theorem resetIsCanonicalAndAwaitsAStart : Obligations.ResetIsCanonicalAndAwaitsAStart := by
  refine ⟨⟨rfl, rfl, rfl, rfl, rfl, rfl, rfl, nofun⟩, rfl, rfl, rfl, rfl, rfl, rfl, rfl, ?_, ?_, rfl, rfl, rfl, rfl, rfl, ?_, ?_,
    rfl, rfl, rfl, rfl, rfl⟩
  · decide
  · decide
  · decide
  · decide

end Sys2Proof.Machine

/-! ## Requests (O6, O7) -/

namespace Sys2Proof.Machine

/-- A command that comes as a request runs its meaning on the next request, where that has its opcode. -/
theorem exec_request {c : Instr} {op : Nat} {buf : Bytes} (s : State) (h : c.request = some (op, buf)) :
    ∃ f : Meaning, exec c s = .next (runKci op buf f s) := by
  unfold Instr.request at h
  split at h
  all_goals cases h
  all_goals exact ⟨_, rfl⟩

/-- A taken request that a common check refuses is answered with that reason. -/
theorem runKci_refused {s : State} {op rc d : Nat} {m : Fin 4} {req : Req} (buf : Bytes) (f : Meaning)
    (hn : nextReq s = some (m, req)) (ho : req.opcode = op) (hc : commonCheck (takeReq m req s) m req = some (rc, d)) :
    runKci op buf f s = respond m req rc d [] (takeReq m req s) := by
  simp [runKci, hn, ho, execute, hc]

/-- Settles O6: a request runs through `runKci`, whose checks come first. -/
theorem requestsAreTakenOrTurnedAway : Obligations.RequestsAreTakenOrTurnedAway := by
  intro c op buf s h
  obtain ⟨f, hf⟩ := exec_request s h
  rw [hf]
  refine ⟨fun hn => ?_, fun m req hn ho => ?_, fun m req rc d hn ho hc => ?_⟩
  · rw [runKci_idle (by simp [hn])]
  · rw [runKci_idle fun m' req' h' => ?_]
    obtain ⟨rfl, rfl⟩ := Prod.mk.inj (Option.some.inj (hn.symm.trans h'))
    exact ho
  · rw [runKci_refused buf f hn ho hc]

/-! ### A response in its ring -/

@[simp] theorem leBytes_length (n v : Nat) : (leBytes n v).length = n := by
  induction n generalizing v with
  | zero => rfl
  | succ n ih => simp [leBytes, ih]

theorem rspBytes_length (req : Req) (rc d : Nat) (g : BitVec 32) (q : BitVec 64) (body : Bytes) :
    (rspBytes req rc d g q body).length = body.length + 32 := by
  simp [rspBytes, zeros]
  omega

/-- Two places of a ring within 65,536 bytes of each other differ. -/
theorem ringByte_ne {base idx i j : Nat} (hij : i < j) (hj : j < i + 65536) : ringByte base idx i ≠ ringByte base idx j := by
  unfold ringByte
  omega

/-- What is written from byte `k` of a ring on leaves the bytes before it. -/
theorem memRead_ringWrite_before {base idx i : Nat} (bs : Bytes) {m : Mem} {k : Nat} (h : Memory.wf m = true) (hi : i < k)
    (hk : k + bs.length ≤ i + 65536) : memRead (ringWrite m base idx k bs) (ringByte base idx i) = memRead m (ringByte base idx i) := by
  induction bs generalizing m k with
  | nil => rfl
  | cons b bs ih =>
    rw [List.length_cons] at hk
    rw [ringWrite, ih (memWrite_wf _ _ _ h) (by omega) (by omega),
      memRead_memWrite_other _ _ _ _ h (ringByte_ne hi (by omega))]

/-- A run of bytes written to a ring stands at its places. -/
theorem memRead_ringWrite {base idx i : Nat} (bs : Bytes) {m : Mem} {k : Nat} (h : Memory.wf m = true) (hi : i < bs.length)
    (hl : bs.length ≤ 65536) : memRead (ringWrite m base idx k bs) (ringByte base idx (k + i)) = bs.getD i 0 := by
  induction bs generalizing m k i with
  | nil => simp at hi
  | cons b bs ih =>
    rw [List.length_cons] at hl hi
    rw [ringWrite]
    cases i with
    | zero =>
      rw [memRead_ringWrite_before bs (memWrite_wf _ _ _ h) (by omega) (by omega), Nat.add_zero, memRead_memWrite_same _ _ _ h]
      rfl
    | succ i =>
      rw [show k + (i + 1) = k + 1 + i by omega, ih (memWrite_wf _ _ _ h) (by omega) (by omega)]
      rfl

/-- A raised event without a record only sets its pending bit. -/
theorem raiseEvent_kci_recordless {s : State} {num fn : Nat} (payload : Nat) (h : eventAllowed s num fn = true)
    (hr : recordless num = true) : (raiseEvent num fn payload s).kci = setPendingBit s.kci num := by
  simp [raiseEvent, raiseEventAt, h, hr]

/-- The pending bits of the mailboxes may be set while READY is 1. -/
theorem eventAllowed_mailbox {s : State} (m : Fin 4) (fn : Nat) (h : s.boot.ready = true) : eventAllowed s m.val fn = true := by
  have hm : m.val ≤ 13 := by omega
  simp [eventAllowed, hm, h, show reservedEvent m.val = false by revert m; decide]

/-- A response that is written: its bytes, its mailbox's tail, and the pending bit. -/
theorem putRsp_kci {m : Fin 4} (bytes : Bytes) {s : State} (h : s.boot.ready = true) :
    (putRsp m bytes s).kci = setPendingBit { s.kci with
      bar0 := ringWrite s.kci.bar0 (rspRingBase m.val) (s.kci.mbx[m].rspTail.toNat % 256) 0 bytes
      mbx := s.kci.mbx.set m { s.kci.mbx[m] with
        rspTail := s.kci.mbx[m].rspTail + BitVec.ofNat 9 (entriesFor (bytes.length - 32))
        rspOut := s.kci.mbx[m].rspOut ++ [entriesFor (bytes.length - 32)] } } m.val := by
  unfold putRsp
  rw [raiseEvent_kci_recordless]
  · rfl
  · exact eventAllowed_mailbox m 0 h
  · revert m; decide

/-- A response with room behind no held one is written with the next SEQ. -/
theorem respond_fits {m : Fin 4} (req : Req) (rc d : Nat) {body : Bytes} {s : State} (hheld : s.kci.mbx[m].rspHeld = [])
    (hroom : rspUsed s.kci.mbx[m] + entriesFor body.length ≤ 256) :
    respond m req rc d body s = putRsp m (rspBytes req rc d s.coh.generation s.kci.seq body)
      (s.onKci fun k => { k with seq := k.seq + 1 }) := by
  have fits : (s.kci.mbx[m].rspHeld.isEmpty
      && rspFits s.kci.mbx[m] (rspBytes req rc d s.coh.generation s.kci.seq body)) = true := by
    rw [hheld, rspFits, rspBytes_length, Nat.add_sub_cancel, decide_eq_true hroom]
    rfl
  exact if_pos fits

/-- Taking a request leaves the responses of its mailbox. -/
theorem takeReq_mbx (m : Fin 4) (req : Req) (s : State) : (takeReq m req s).kci.mbx[m] = { s.kci.mbx[m] with
    waiting := s.kci.mbx[m].waiting.drop 1
    reqHead := s.kci.mbx[m].reqHead + BitVec.ofNat 9 (entriesFor req.length) } := by
  unfold takeReq
  dsimp only
  split
  · simp [State.onMbx]
  · simp [State.onMbx]

/-- A request is taken only while READY is 1. -/
theorem ready_of_nextReq {s : State} {m : Fin 4} {req : Req} (h : nextReq s = some (m, req)) : s.boot.ready = true := by
  cases hr : s.boot.ready with
  | true => rfl
  | false => simp [nextReq, nextMbx, hr] at h

/-- Settles O7. -/
theorem responseStandsInTheRing : Obligations.ResponseStandsInTheRing := by
  intro s m req buf ht hinline hwf hheld hlen bytes hroom
  have hbody : fullBody req buf = req.body := by simp [fullBody, hinline]
  have hexec : exec (.echo buf) s = .next (putRsp m bytes ((takeReq m req s).onKci fun k => { k with seq := k.seq + 1 })) := by
    change execEcho buf s = _
    have hlong : ¬ 4064 < req.body.length := by omega
    rw [execEcho, runKci_taken ht, hbody, deliver]
    simp only [hinline, hlong, Bool.false_eq_true, if_false, List.length_nil, Nat.zero_add, List.nil_append]
    rw [respond_fits req rcOk 0 (by rw [takeReq_mbx]; exact hheld) (by rw [takeReq_mbx]; exact hroom)]
    simp [bytes]
  have hready : ((takeReq m req s).onKci fun k => { k with seq := k.seq + 1 }).boot.ready = true := by
    simp [ready_of_nextReq ht.1]
  have hlen' : bytes.length = req.body.length + 32 := rspBytes_length ..
  have htail : (takeReq m req s).kci.mbx[m].rspTail = s.kci.mbx[m].rspTail := by rw [takeReq_mbx]
  clear_value bytes
  refine ⟨_, hexec, fun i hi => ?_, ?_, ?_, ?_⟩
  all_goals rw [putRsp_kci _ hready]
  · have stands := memRead_ringWrite (base := rspRingBase m.val) (idx := s.kci.mbx[m].rspTail.toNat % 256) (k := 0) bytes hwf hi
      (by omega)
    rw [Nat.zero_add] at stands
    rw [setPendingBit_frame, State.onKci_kci, htail, takeReq_kci_bar0]
    exact stands
  · rw [setPendingBit_frame, State.onKci_kci, hlen', Nat.add_sub_cancel, htail]
    simp
  · rw [setPendingBit_frame]
    simp
  · exact setPendingBit_getLsbD _ _ (by omega)

end Sys2Proof.Machine

/-! ## The switch of a commit (O11) -/

namespace Sys2Proof.Machine

/-- Eddy, Riffle and Confluence take up a new set without a work of their own. -/
theorem applyFn_of_switchOnly {old : NMap Bytes} {s : State} {fn : Nat} (h : fn = 0x0300 ∨ fn = 0x0400 ∨ fn = 0x0F00) :
    applyFn old s fn = s := by
  obtain rfl | rfl | rfl := h
  · rfl
  · rfl
  · rfl

theorem foldl_applyFn_of_switchOnly {old : NMap Bytes} {s : State} {fns : List Nat}
    (h : ∀ f ∈ fns, f = 0x0300 ∨ f = 0x0400 ∨ f = 0x0F00) : fns.foldl (applyFn old) s = s := by
  induction fns with
  | nil => rfl
  | cons f fns ih =>
    rw [List.foldl_cons, applyFn_of_switchOnly (h f (.head _))]
    exact ih fun g hg => h g (.tail _ hg)

/-- The generation after all ones is 1 (R34). -/
theorem nextGen_toNat (g : BitVec 32) : (nextGen g).toNat = if g.toNat = 2 ^ 32 - 1 then 1 else g.toNat + 1 := by
  unfold nextGen
  have hall : g = 0xFFFFFFFF ↔ g.toNat = 2 ^ 32 - 1 := BitVec.toNat_inj.symm
  have hlt := g.isLt
  by_cases h : g.toNat = 2 ^ 32 - 1
  · rw [if_pos (hall.mpr h), if_pos h]
    rfl
  · rw [if_neg (mt hall.mp h), if_neg h, BitVec.toNat_add]
    exact Nat.mod_eq_of_lt (show g.toNat + 1 < 2 ^ 32 by omega)

/-- Every radio forgets its peaks; nothing else changes. -/
theorem forgetPeaks_all (s : State) :
    let t := ([0, 1, 2] : List (Fin 3)).foldl (fun s r => forgetPeaks r s) s
    (∀ r : Fin 3, t.radio r = { s.radio r with
      windows := (s.radio r).windows.map fun w => { w with peak := none, fresh := true } }) ∧
    t = { s with radios := t.radios } := by
  refine ⟨fun r => ?_, rfl⟩
  have hr : r = 0 ∨ r = 1 ∨ r = 2 := by omega
  obtain rfl | rfl | rfl := hr
  all_goals simp [forgetPeaks, State.onRadio, State.radio, State.onRadios]

/-- A commit of functions that only switch changes the sets, and then makes the radios forget their peaks. -/
theorem switchSets_of_switchOnly {s : State} {c : Commit} (h : ∀ f ∈ c.functions, f = 0x0300 ∨ f = 0x0400 ∨ f = 0x0F00) :
    ∃ u : State, switchSets c s = ([0, 1, 2] : List (Fin 3)).foldl (fun s r => forgetPeaks r s) u ∧
      u.coh.active = commitResult s.coh.active c.image c.functions ∧ u.coh.generation = nextGen s.coh.generation ∧
      u.coh.commit = none ∧ u.coh.staged = s.coh.staged ∧ u = { s with coh := u.coh } :=
  ⟨_, foldl_applyFn_of_switchOnly h, rfl, rfl, rfl, rfl, rfl⟩

/-- Settles O11. -/
theorem commitReplacesTheActiveSet : Obligations.CommitReplacesTheActiveSet := by
  intro s c hc t
  obtain ⟨u, ht, hactive, hgen, hcommit, hstaged, hu⟩ := switchSets_of_switchOnly (s := s) hc
  obtain ⟨hradio, hrest⟩ := forgetPeaks_all u
  rw [← ht] at hradio hrest
  have hcoh : t.coh = u.coh := by
    change (switchSets c s).coh = _
    rw [hrest]
  refine ⟨hcoh ▸ hactive, ?_, hcoh ▸ hcommit, hcoh ▸ hstaged, fun r => ?_, ?_⟩
  · rw [hcoh, hgen, nextGen_toNat]
  · rw [hradio r, hu]
    rfl
  · rw [hcoh]
    refine hrest.trans ?_
    rw [hu]

end Sys2Proof.Machine

/-! ## Slot boundaries (O14) -/

namespace Sys2Proof.Machine

/-- A slot above ASN_FLOOR runs and becomes the floor (R365). -/
theorem runOrIdle_runs {n : Nat} {s : State} (h : s.time.asnFloor.toNat < n) : runOrIdle n s =
    (true, { s with time := { s.time with asnFloor := BitVec.ofNat 48 n, idling := false } }) := by
  simp [runOrIdle, h, State.onTime]

/-- A slot at or below ASN_FLOOR is idled (R365). -/
theorem runOrIdle_idles {n : Nat} {s : State} (h : n ≤ s.time.asnFloor.toNat) :
    (runOrIdle n s).1 = false ∧ (runOrIdle n s).2.time = { s.time with idling := true } := by
  unfold runOrIdle
  rw [if_neg (Nat.not_lt.mpr h)]
  refine ⟨rfl, ?_⟩
  dsimp only
  split
  · rfl
  · rw [raiseEvent_time]
    rfl

section
variable {s : State} {peaks : List Int} (hready : asnReady (checkBases (takePeaks peaks (beaconRealign s))) = true)
  (hawake : s.power.phase = .awake)
include hready hawake

/-- Where the slot is already in progress and no realignment is due, a boundary changes nothing. -/
theorem exec_slotBoundary_inProgress
    (hre : (checkBases (takePeaks peaks (beaconRealign s))).time.realign = false)
    (hn : (checkBases (takePeaks peaks (beaconRealign s))).time.asn =
      some (boundarySlot s (checkBases (takePeaks peaks (beaconRealign s))))) :
    exec (.slotBoundary peaks) s = .next s := by
  change execSlotBoundary peaks s = _
  simp [execSlotBoundary, hready, hawake, hre, hn]

/-- A boundary that begins a slot takes over what waits for it, and then runs or idles the slot. -/
theorem exec_slotBoundary_begins {n : Nat} (hn : boundarySlot s (checkBases (takePeaks peaks (beaconRealign s))) = n)
    (hold : s.time.asn = none ∨ (checkBases (takePeaks peaks (beaconRealign s))).time.realign = false ∨ s.time.realign = true)
    (hnew : (checkBases (takePeaks peaks (beaconRealign s))).time.realign = true ∨
      (checkBases (takePeaks peaks (beaconRealign s))).time.asn ≠ some n) :
    exec (.slotBoundary peaks) s =
      let r := runOrIdle n (queueAged (shedChannels (endBoundarySlot n (takeOverGates n (endInhibit (beginSlot n
        (checkBases (takePeaks peaks (beaconRealign s)))))))))
      if r.1 then .next (startCals n (allWindows.foldl slotStep (openCells n r.2)))
      else .next (r.2.onLink fun l => { l with slotCells := [] }) := by
  change execSlotBoundary peaks s = _
  unfold execSlotBoundary
  dsimp only
  rw [hn]
  generalize checkBases (takePeaks peaks (beaconRealign s)) = s1 at *
  have h1 : (!asnReady s1 || s.power.phase != .awake) = false := by rw [hready, hawake]; rfl
  have h2 : (s.time.asn.isSome && s1.time.realign && !s.time.realign) = false := by
    obtain h | h | h := hold
    · rw [h]; rfl
    · rw [h, Bool.and_false]; rfl
    · rw [h]; exact Bool.and_false _
  have h3 : (!s1.time.realign && s1.time.asn == some n) = false := by
    obtain h | h := hnew
    · rw [h]; rfl
    · simp [h]
  simp only [h1, h2, h3, Bool.false_eq_true, if_false]

end

/-- Settles O14. -/
theorem slotBoundaryRunsOrIdlesTheSlot : Obligations.SlotBoundaryRunsOrIdlesTheSlot := by
  intro s peaks s1 n u hready hawake hold
  refine ⟨fun hnew => ?_, fun hre hn => exec_slotBoundary_inProgress hready hawake hre hn⟩
  have hexec := exec_slotBoundary_begins hready hawake rfl hold hnew
  change exec (.slotBoundary peaks) s = (let r := runOrIdle n u
    if r.1 then .next (startCals n (allWindows.foldl slotStep (openCells n r.2)))
    else .next (r.2.onLink fun l => { l with slotCells := [] })) at hexec
  clear_value u
  refine ⟨fun hruns => ?_, fun hidles => ?_⟩
  · rw [runOrIdle_runs hruns] at hexec
    exact ⟨_, hexec, rfl, rfl⟩
  · obtain ⟨hidle, htime⟩ := runOrIdle_idles hidles
    simp only [hidle, Bool.false_eq_true, if_false] at hexec
    refine ⟨_, hexec, rfl, ?_, ?_⟩
    · rw [State.onLink_time, htime]
    · rw [State.onLink_time, htime]

end Sys2Proof.Machine

/-! ## Accesses of a page's window (O26) -/

namespace Sys2Proof.Machine

section
variable {s : State} {by_ : BusMaster} {p : Fin 32} {op : Nat} {f : State → Nat × State}

/-- A master that sleep has stopped issues nothing. -/
theorem issueOp_off (h : coreOff s by_ = true) : issueOp by_ p op s f = s := if_pos h

/-- An operation of a master that may not drive the page is denied (R285). -/
theorem issueOp_denied (hon : coreOff s by_ = false) (h : pageAllowed s by_ p = false) :
    issueOp by_ p op s f = denyPage p s := by
  simp [issueOp, hon, h]

/-- An operation of a master that may drive an idle, working page begins. -/
theorem issueOp_begins (hon : coreOff s by_ = false) (h : pageAllowed s by_ p = true) (hw : pageWorks s p = true)
    (hidle : (s.page p).busy = none) : issueOp by_ p op s f = beginJob p op (f s).1 false (f s).2 := by
  simp [issueOp, hon, h, hw, hidle]

theorem issueVerify_off {block len : Nat} (h : coreOff s by_ = true) : issueVerify by_ p block len s = s := if_pos h

theorem issueVerify_denied {block len : Nat} (hon : coreOff s by_ = false) (h : pageAllowed s by_ p = false) :
    issueVerify by_ p block len s = denyPage p s := by
  simp [issueVerify, hon, h]

/-- Command `c` issues an operation on page `p` for `by_`. -/
inductive IssuesOn (by_ : BusMaster) (p : Fin 32) (s : State) (c : Instr) : Prop
  | plain (op block len : Nat) (h : exec c s = .next (issuePlain by_ p op block len s))
  | verify (h : exec c s = .next (issueVerify by_ p 0 0 s))
  | context (op : Nat) (f : State → Nat × State) (h : exec c s = .next (issueOp by_ p op s f))

theorem IssuesOn.off {c : Instr} (h : IssuesOn by_ p s c) (hoff : coreOff s by_ = true) : exec c s = .next s := by
  cases h with
  | plain op block len e => rw [e, issuePlain, issueOp_off hoff]
  | verify e => rw [e, issueVerify_off hoff]
  | context op f e => rw [e, issueOp_off hoff]

theorem IssuesOn.denied {c : Instr} (h : IssuesOn by_ p s c) (hon : coreOff s by_ = false)
    (hno : pageAllowed s by_ p = false) : exec c s = .next (denyPage p s) := by
  cases h with
  | plain op block len e => rw [e, issuePlain, issueOp_denied hon hno]
  | verify e => rw [e, issueVerify_denied hon hno]
  | context op f e => rw [e, issueOp_denied hon hno]

/-- A write of PG_CMD that names neither TAG_VERIFY nor a context operation issues a plain operation. -/
theorem writePgCmd_plain {v : Nat} (h : v % 16 < 9 ∨ v % 16 = 10 ∨ 12 < v % 16) :
    writePgCmd by_ p v s = issuePlain by_ p (v % 16) (v / 16 % 128) (v / 65536 % 16) s := by
  have hverify : v % 16 ≠ 9 := by omega
  have hsave : v % 16 ≠ 11 := by omega
  have hrestore : v % 16 ≠ 12 := by omega
  simp [writePgCmd, hverify, hsave, hrestore, bits]

end

/-- Settles O26. -/
theorem pageAccessIsGuarded : Obligations.PageAccessIsGuarded := by
  intro s by_ p denied
  refine ⟨fun c hc => ?_, fun hoff offset v => ?_, fun hon hno offset => ⟨fun v => ?_, ?_⟩, fun hon hmay offset =>
    ⟨fun v hne => ⟨s.onPage p (pageWrite offset v), ?_, onPage_page s p _, fun q hq => onPage_page_ne s p q _ hq, rfl⟩,
      fun v hv => ?_, ?_⟩⟩
  · have issues : IssuesOn by_ p s c := by
      obtain rfl | rfl | rfl | rfl | rfl | rfl | ⟨b, l, rfl⟩ | ⟨b, l, rfl⟩ | ⟨b, l, rfl⟩ | rfl | rfl | ⟨w, n, rfl⟩ | ⟨w, n, rfl⟩ := hc
      · exact .plain 1 0 0 rfl
      · exact .plain 0 0 0 rfl
      · exact .plain 2 0 0 rfl
      · exact .plain 3 0 0 rfl
      · exact .plain 4 0 0 rfl
      · exact .plain 5 0 0 rfl
      · exact .plain 6 b.val l.val rfl
      · exact .plain 7 b.val l.val rfl
      · exact .plain 8 b.val l.val rfl
      · exact .verify rfl
      · exact .plain 10 0 0 rfl
      · exact .context 11 (saveCtx p w n) rfl
      · exact .context 12 (restoreCtx p w n) rfl
    exact ⟨issues.off, issues.denied⟩
  · change execPageAccess by_ p offset v s = _
    simp [execPageAccess, hoff]
  · change execPageAccess by_ p offset (some v) s = _
    simp [execPageAccess, hon, hno, denied]
  · change execPageAccess by_ p offset none s = _
    simp [execPageAccess, hon, hno, denied]
  · change execPageAccess by_ p offset (some v) s = _
    simp [execPageAccess, hon, hmay, hne]
  · change execPageAccess by_ p 0 (some v) s = _
    simp [execPageAccess, hon, hmay, writePgCmd_plain hv]
  · change execPageAccess by_ p offset none s = _
    simp [execPageAccess, hon, hmay]
    rfl

end Sys2Proof.Machine

/-! ## Egress decisions (O30) -/

namespace Sys2Proof.Machine

theorem State.onEgress_same {s : State} {e : Fin 6} {f : Egress → Egress} :
    (s.onEgress e f).router.egress[e] = f s.router.egress[e] := Vector.getElem_set_self _

theorem State.onEgress_ne {s : State} {e d : Fin 6} {f : Egress → Egress} (h : d ≠ e) :
    (s.onEgress e f).router.egress[d] = s.router.egress[d] :=
  Vector.getElem_set_ne e.isLt d.isLt fun k => h (Fin.ext k.symm)

section
variable {g : Egress} {q : Nat} {f : EgQueue → EgQueue} {j : Fin 16}

@[simp] theorem qIdx_val (q : Fin 16) : qIdx q.val = q := Fin.ofNat_val_eq_self q

@[simp] theorem Egress.onQueue_same : (g.onQueue q f).queues[qIdx q] = f g.queues[qIdx q] := Vector.getElem_set_self _

theorem Egress.onQueue_ne (h : j ≠ qIdx q) : (g.onQueue q f).queues[j] = g.queues[j] :=
  Vector.getElem_set_ne (qIdx q).isLt j.isLt fun e => h (Fin.ext e.symm)

/-- A change that leaves the packets of queue `q` leaves those of every queue. -/
theorem Egress.onQueue_packets (h : ∀ x, (f x).packets = x.packets) :
    ((g.onQueue q f).queues[j]).packets = (g.queues[j]).packets := by
  by_cases e : j = qIdx q
  · rw [e, Egress.onQueue_same, h]
  · rw [Egress.onQueue_ne e]

/-- The packets of a queue go by its number. -/
theorem packets_congr {g : Egress} {i j : Fin 16} (h : i = j) : (g.queues[i]).packets = (g.queues[j]).packets := by
  subst h
  rfl

@[simp] theorem refillEgress_packets {m : NMap Bytes} {e : Nat} {now : BitVec 64} :
    ((refillEgress m e now g).queues[j]).packets = (g.queues[j]).packets := by
  simp [refillEgress, refillQueue]

@[simp] theorem chargeQueue_packets {m : NMap Bytes} {e l : Nat} :
    ((chargeQueue m e q l g).queues[j]).packets = (g.queues[j]).packets := Egress.onQueue_packets fun _ => rfl

theorem popQueue_packets_same : ((popQueue q g).queues[qIdx q]).packets = (g.queues[qIdx q]).packets.drop 1 := by
  rw [popQueue, Egress.onQueue_same]

theorem popQueue_packets_ne (h : j ≠ qIdx q) : ((popQueue q g).queues[j]).packets = (g.queues[j]).packets := by
  rw [popQueue, Egress.onQueue_ne h]

end

/-- The first number whose image there is gives the first entry of the images. -/
theorem find?_filterMap_range {β : Type} {n i : Nat} {f : Nat → Option β} {p : β → Bool} {b : β} (hi : i < n)
    (hb : f i = some b) (hp : p b = true) (hlow : ∀ j < i, f j = none) : ((List.range n).filterMap f).find? p = some b := by
  have hfind : (List.range n).find? (fun j => (f j).any p) = some i :=
    List.find?_range_eq_some.mpr ⟨by simp [hb, hp], List.mem_range.mpr hi, fun j hj => by simp [hlow j hj]⟩
  rw [List.find?_filterMap, hfind]
  exact hb

/-- The lowest strict queue that holds a packet and is eligible is the one that a decision picks (R332). -/
theorem weirPick_strict {s : State} {e : Fin 6} {m : NMap Bytes} {now : BitVec 64} {q : Fin 16} {x : Packet}
    {rest : List Packet} (he : e ≠ 5) (hq : q.val < 4) (hx : ((s.router.egress[e]).queues[q]).packets = x :: rest)
    (hlow : ∀ j : Fin 16, j < q → ((s.router.egress[e]).queues[j]).packets = [])
    (hel : weirEligible m e.val (refillEgress m e.val now s.router.egress[e]) q.val = true) :
    ∃ l, weirPick m e.val now (egressHeads s e) s.router.egress[e] =
      some (q.val, chargeQueue m e.val q.val l (refillEgress m e.val now s.router.egress[e])) := by
  have hfirst : ((egressHeads s e).filter fun h => weirEligible m e.val (refillEgress m e.val now s.router.egress[e]) h.1).find?
      (fun h => h.1 < 4) = some (q.val, packetLength s.coh.active e x) := by
    rw [List.find?_filter]
    refine find?_filterMap_range q.isLt ?_ ?_ fun j hj => ?_
    · have hhead : ((s.router.egress[e]).queues[qIdx q.val]).packets = x :: rest := (packets_congr (qIdx_val q)).trans hx
      simp only [hhead, List.head?_cons, he, decide_false, Bool.false_and, Bool.false_eq_true, if_false]
    · exact decide_eq_true ⟨hel, decide_eq_true hq⟩
    · have hnone : ((s.router.egress[e]).queues[qIdx j]).packets = [] :=
        (packets_congr (Fin.ext (Nat.mod_eq_of_lt (by omega)))).trans (hlow ⟨j, by omega⟩ hj)
      simp only [hnone, List.head?_nil]
  unfold weirPick
  simp only [hfirst]
  exact ⟨_, rfl⟩

/-- A port that has nothing to wait for sends the head of the queue that the decision picks. -/
theorem decideEgress_port {s : State} {e : Fin 6} {g : Egress} {q : Fin 16} {x : Packet} {rest : List Packet} (he : e ≠ 5)
    (hnow : (s.router.egress[e]).nextAt.toNat ≤ s.time.fabric.toNat)
    (hpick : weirPick s.coh.active e.val s.time.fabric (egressHeads s e) s.router.egress[e] = some (q.val, g))
    (hx : (g.queues[q]).packets = x :: rest) :
    decideEgress e s = sendPacket e q.val x (pmuEvent pmuWeir 0x10 1 (packetLength s.coh.active e x) (s.onEgress e fun _ =>
      { popQueue q.val g with
        nextAt := s.time.fabric + BitVec.ofNat 64 (shapeCycles s.coh.active e.val (packetLength s.coh.active e x)) })) := by
  have hhead : (g.queues[qIdx q.val]).packets = x :: rest := (packets_congr (qIdx_val q)).trans hx
  unfold decideEgress
  simp only [he, if_false, Nat.not_lt.mpr hnow, decide_false, Bool.false_eq_true, hpick, hhead, List.head?_cons]

theorem portEgress_ne_host (p : Fin 2) : portEgress p ≠ 5 := by
  revert p
  decide

/-- A packet leaves a port on its line, and is counted with its length. -/
theorem sendPacket_port (p : Fin 2) (q : Nat) (x : Packet) (s : State) : sendPacket (portEgress p) q x s =
    (countPort p 8 (s.onRouter fun r => { r with ports := r.ports.set p { r.ports[p] with sent := x.data } })).countN
      (portFn p) 9 (x.data.length + 4) := by
  have hp : Fin.ofNat 2 (portEgress p).val = p := Fin.ofNat_val_eq_self p
  simp only [sendPacket, portEgress_ne_host, if_false, hp]

/-- Settles O30. -/
theorem strictQueuesLeaveFirst : Obligations.StrictQueuesLeaveFirst := by
  intro s p hrouter
  refine ⟨fun h => ?_, ?_⟩
  · change execEgressDecision (some p) s = _
    unfold execEgressDecision
    obtain h | h | h | h := h
    all_goals simp [-Fin.getElem_fin, h]
  · intro q x rest g hawake hport hup hpaused hnow hq hx hlow hel
    obtain ⟨l, hpick⟩ := weirPick_strict (portEgress_ne_host p) hq hx hlow hel
    generalize hg : chargeQueue s.coh.active (portEgress p).val q.val l (refillEgress s.coh.active (portEgress p).val
      s.time.fabric s.router.egress[portEgress p]) = g' at hpick
    have hpackets (j : Fin 16) : (g'.queues[j]).packets = (g.queues[j]).packets := by
      rw [← hg, chargeQueue_packets, refillEgress_packets]
    have hexec : exec (.egressDecision (some p)) s = .next (decideEgress (portEgress p) s) := by
      change execEgressDecision (some p) s = _
      simp [-Fin.getElem_fin, execEgressDecision, hawake, hrouter, hport, hpaused, hup]
    rw [decideEgress_port (portEgress_ne_host p) hnow hpick ((hpackets q).trans hx), sendPacket_port] at hexec
    generalize hG : ({ popQueue q.val g' with
      nextAt := s.time.fabric + BitVec.ofNat 64 (shapeCycles s.coh.active (portEgress p).val
        (packetLength s.coh.active (portEgress p) x)) } : Egress) = G at hexec
    have hqueues : G.queues = (popQueue q.val g').queues := by rw [← hG]
    refine ⟨_, hexec, rfl, ?_, fun e j hne => ?_, rfl, rfl, ?_⟩
    · change (((s.onEgress (portEgress p) fun _ => G).router.egress[portEgress p]).queues[q]).packets = _
      rw [State.onEgress_same, hqueues]
      have hpop := popQueue_packets_same (g := g') (q := q.val)
      rw [packets_congr (qIdx_val q), packets_congr (qIdx_val q), hpackets q, hx] at hpop
      exact hpop
    · change (((s.onEgress (portEgress p) fun _ => G).router.egress[e]).queues[j]).packets = _
      by_cases he : e = portEgress p
      · subst he
        have hj : j ≠ qIdx q.val := by
          rw [qIdx_val]
          exact hne.resolve_left fun h => h rfl
        rw [State.onEgress_same, hqueues]
        exact (popQueue_packets_ne hj).trans (hpackets j)
      · rw [State.onEgress_ne he]
    · simp only [countPort, State.count, State.countN, State.onRouter, pmuEvent, pmuEventIf, State.onCluster, State.onEgress]

end Sys2Proof.Machine

/-! ## A tick of a timer unit, register by register (O35) -/

namespace Sys2Proof.Machine

/-! ### Counting -/

section
variable (cfg : TimerCfg) (u : Timer)

/-- Without UPDOWN COUNT runs up to PERIOD and starts again at 0 (R385). -/
theorem nextCount_upOnly (h : cfg.updown = false) :
    (nextCount cfg u).1 = (if u.period ≤ u.count then 0 else u.count + 1) ∧ (nextCount cfg u).2.1 = false := by
  by_cases hc : u.period ≤ u.count
  · simp [nextCount, h, hc]
  · simp [nextCount, h, hc]

/-- With DOWN set COUNT moves down (R385). -/
theorem nextCount_downward (h : cfg.updown = true) (hd : u.down = true) : (nextCount cfg u).1 = u.count - 1 := by
  simp [nextCount, h, hd]

@[simp] theorem tickCount_period :
    (tickCount cfg u).period = if (nextCount cfg u).1 = 0 then u.periodShadow.getD u.period else u.period := by
  simp only [tickCount, apply_ite Timer.period, setStatus, applyShadows, nextCount_zero, ite_self, decide_eq_true_eq]

@[simp] theorem tickCount_periodShadow :
    (tickCount cfg u).periodShadow = if (nextCount cfg u).1 = 0 then none else u.periodShadow := by
  simp only [tickCount, apply_ite Timer.periodShadow, setStatus, applyShadows, nextCount_zero, ite_self, decide_eq_true_eq]

@[simp] theorem tickCount_armed : (tickCount cfg u).armed = u.armed := by
  simp only [tickCount, apply_ite Timer.armed, setStatus, applyShadows, ite_self]

@[simp] theorem tickCount_cmp : (tickCount cfg u).cmp = u.cmp := by
  simp only [tickCount, apply_ite Timer.cmp, setStatus, applyShadows, ite_self]

@[simp] theorem tickCount_missed : (tickCount cfg u).missed = u.missed := by
  simp only [tickCount, apply_ite Timer.missed, setStatus, applyShadows, ite_self]

@[simp] theorem tickCount_step : (tickCount cfg u).step = u.step := by
  simp only [tickCount, apply_ite Timer.step, setStatus, applyShadows, ite_self]

/-- The status bits that a tick sets: ZERO, TOP and ONE_CYCLE_DONE. -/
def tickStatus (zero top oneCycle : Bool) : BitVec 13 :=
  BitVec.ofNat 13 (256 * flag zero + 512 * flag top) ||| BitVec.ofNat 13 (if zero && oneCycle then 1024 else 0)

theorem tickCount_status :
    (tickCount cfg u).status = u.status ||| tickStatus (nextCount cfg u).2.2.zero (nextCount cfg u).2.2.top cfg.oneCycle := by
  rw [tickStatus, ← BitVec.or_assoc]
  unfold tickCount
  dsimp only
  split <;> split <;> simp [setStatus, applyShadows, *]

/-- A tick leaves FIRED and FROZEN. -/
theorem tickCount_status_of_ne {i : Nat} (h : i < 4 ∨ i = 12) : (tickCount cfg u).status.getLsbD i = u.status.getLsbD i := by
  have unset : ∀ i < 13, i < 4 ∨ i = 12 → ∀ z t o : Bool, (tickStatus z t o).getLsbD i = false := by decide
  rw [tickCount_status, BitVec.getLsbD_or, unset i (by omega) h, Bool.or_false]

/-- A zero turning point sets ZERO. -/
theorem tickCount_status_zero (h : (nextCount cfg u).1 = 0) : (tickCount cfg u).status.getLsbD 8 = true := by
  have set : ∀ t o : Bool, (tickStatus true t o).getLsbD 8 = true := by decide
  rw [tickCount_status, BitVec.getLsbD_or, nextCount_zero, decide_eq_true h, set, Bool.or_true]

end

/-! ### Comparators -/

/-- Two forms of a unit agree in what decides and records the firing of comparator `n`. -/
structure SameCmp (n : Fin 4) (u v : Timer) : Prop where
  armed : v.armed.getLsbD n.val = u.armed.getLsbD n.val
  fired : v.status.getLsbD n.val = u.status.getLsbD n.val
  frozen : v.status.getLsbD 12 = u.status.getLsbD 12
  cmp : v.cmp[n] = u.cmp[n]
  missed : v.missed[n] = u.missed[n]
  step : v.step[n] = u.step[n]
  ticks : v.ticks = u.ticks

section
variable {n m : Fin 4} {miss : Bool} {u v w : Timer}

theorem SameCmp.refl : SameCmp n u u := ⟨rfl, rfl, rfl, rfl, rfl, rfl, rfl⟩

theorem SameCmp.trans (h : SameCmp n u v) (k : SameCmp n v w) : SameCmp n u w :=
  ⟨k.armed.trans h.armed, k.fired.trans h.fired, k.frozen.trans h.frozen, k.cmp.trans h.cmp, k.missed.trans h.missed,
    k.step.trans h.step, k.ticks.trans h.ticks⟩

/-- A bit of a status word in which another bit is set. -/
theorem getLsbD_or_pow_ne {k i j : Nat} (x : BitVec k) (h : j ≠ i) : (x ||| BitVec.ofNat k (2 ^ i)).getLsbD j = x.getLsbD j := by
  rw [BitVec.getLsbD_or, BitVec.getLsbD_ofNat, Nat.testBit_two_pow_of_ne (Ne.symm h), Bool.and_false, Bool.or_false]

theorem getLsbD_or_pow_self {k i : Nat} (x : BitVec k) (h : i < k) : (x ||| BitVec.ofNat k (2 ^ i)).getLsbD i = true := by
  rw [BitVec.getLsbD_or, BitVec.getLsbD_ofNat, Nat.testBit_two_pow_self, decide_eq_true h, Bool.and_true, Bool.or_true]

/-- A bit of a mask from which another bit is taken. -/
theorem getLsbD_andNot_pow_ne {k i j : Nat} (x : BitVec k) (hj : j < k) (h : j ≠ i) :
    (x &&& ~~~(BitVec.ofNat k (2 ^ i))).getLsbD j = x.getLsbD j := by
  rw [BitVec.getLsbD_and, BitVec.getLsbD_not, BitVec.getLsbD_ofNat, Nat.testBit_two_pow_of_ne (Ne.symm h), Bool.and_false,
    decide_eq_true hj, Bool.not_false, Bool.and_true, Bool.and_true]

theorem getLsbD_andNot_pow_self {k i : Nat} (x : BitVec k) (h : i < k) :
    (x &&& ~~~(BitVec.ofNat k (2 ^ i))).getLsbD i = false := by
  rw [BitVec.getLsbD_and, BitVec.getLsbD_not, BitVec.getLsbD_ofNat, Nat.testBit_two_pow_self, decide_eq_true h]
  exact Bool.and_false _

/-- Firing comparator `m` leaves what concerns another. -/
theorem fireCmp_other (h : n ≠ m) : SameCmp n u (fireCmp m miss u) := by
  have hv : n.val ≠ m.val := fun e => h (Fin.ext e)
  have hfired : (u.status ||| BitVec.ofNat 13 (2 ^ m.val)).getLsbD n.val = u.status.getLsbD n.val := getLsbD_or_pow_ne _ hv
  have hfrozen : (u.status ||| BitVec.ofNat 13 (2 ^ m.val)).getLsbD 12 = u.status.getLsbD 12 :=
    getLsbD_or_pow_ne _ (by omega)
  have kept {α : Type} (x : Vector α 4) (y : α) : (x.set m y)[n] = x[n] :=
    Vector.getElem_set_ne m.isLt n.isLt (Ne.symm hv)
  unfold fireCmp
  dsimp only
  split
  · exact ⟨getLsbD_andNot_pow_ne _ n.isLt hv, hfired, hfrozen, rfl, rfl, rfl, rfl⟩
  · refine ⟨rfl, hfired, hfrozen, kept _ _, ?_, rfl, rfl⟩
    split
    · exact kept _ _
    · rfl

theorem evalCmp_other (h : n ≠ m) : SameCmp n u (evalCmp m miss u) := by
  unfold evalCmp
  split
  · exact fireCmp_other h
  · exact .refl

/-- The comparators of a list without `n` leave what concerns `n`. -/
theorem foldl_evalCmp_other {ns : List (Fin 4)} (h : n ∉ ns) :
    SameCmp n u (ns.foldl (fun u m => evalCmp m miss u) u) := by
  induction ns generalizing u with
  | nil => exact .refl
  | cons m ns ih =>
    rw [List.mem_cons, not_or] at h
    exact (evalCmp_other h.1).trans (ih h.2)

/-- Evaluating all comparators does to comparator `n` what evaluating it alone does, in a unit that agrees in it. -/
theorem evalCmps_cmp (n : Fin 4) (miss : Bool) (u : Timer) :
    ∃ v, SameCmp n u v ∧ SameCmp n (evalCmp n miss v) (evalCmps miss u) := by
  obtain ⟨before, after, hsplit⟩ := List.append_of_mem (List.mem_finRange n)
  have hnodup := hsplit ▸ List.nodup_finRange 4
  obtain ⟨-, htail, hdisjoint⟩ := List.nodup_append.mp hnodup
  have hbefore : n ∉ before := fun hb => hdisjoint n hb n List.mem_cons_self rfl
  have hafter : n ∉ after := (List.nodup_cons.mp htail).1
  refine ⟨_, foldl_evalCmp_other (miss := miss) hbefore, ?_⟩
  unfold evalCmps
  rw [hsplit, List.foldl_append, List.foldl_cons]
  exact foldl_evalCmp_other hafter

/-- A comparator fires as R386 says: a one-shot one is disarmed, a stepping one moves past the present. -/
theorem fireCmp_self (harmed : u.armed.getLsbD n.val = true) :
    (fireCmp n miss u).status.getLsbD n.val = true ∧
    ((fireCmp n miss u).armed.getLsbD n.val = true ↔ u.step[n].toNat ≠ 0) ∧
    (u.step[n].toNat ≠ 0 → (fireCmp n miss u).cmp[n] = u.cmp[n] +
      BitVec.ofNat 32 (((timerT u - u.cmp[n]).toNat / u.step[n].toNat + 1) * u.step[n].toNat)) := by
  have hfired : (u.status ||| BitVec.ofNat 13 (2 ^ n.val)).getLsbD n.val = true := getLsbD_or_pow_self _ (by omega)
  have hdisarmed := getLsbD_andNot_pow_self u.armed n.isLt
  unfold fireCmp
  dsimp only
  split
  · next hstep => exact ⟨hfired, iff_of_false (by rw [setStatus, hdisarmed]; exact Bool.false_ne_true) (Classical.not_not.mpr hstep),
      fun h => absurd hstep h⟩
  · next hstep => exact ⟨hfired, iff_of_true harmed hstep, fun _ => Vector.getElem_set_self _⟩

/-- A comparator of the unit that is due when all are evaluated fires. -/
theorem evalCmps_due (harmed : u.armed.getLsbD n.val = true) (hfrozen : u.status.getLsbD 12 = false)
    (hdue : (timerT u - u.cmp[n]).toNat < 2 ^ 31) :
    (evalCmps miss u).status.getLsbD n.val = true ∧
    ((evalCmps miss u).armed.getLsbD n.val = true ↔ u.step[n].toNat ≠ 0) ∧
    (u.step[n].toNat ≠ 0 → (evalCmps miss u).cmp[n] = u.cmp[n] +
      BitVec.ofNat 32 (((timerT u - u.cmp[n]).toNat / u.step[n].toNat + 1) * u.step[n].toNat)) := by
  obtain ⟨v, huv, hv⟩ := evalCmps_cmp n miss u
  have hT : timerT v = timerT u := by rw [timerT, huv.ticks, timerT]
  have hfires : evalCmp n miss v = fireCmp n miss v := by
    rw [evalCmp, huv.armed, harmed, huv.frozen, hfrozen, cmpDue, hT, huv.cmp, decide_eq_true hdue]
    rfl
  obtain ⟨hstatus, harm, hcmp⟩ := fireCmp_self (miss := miss) (huv.armed.trans harmed)
  rw [hT, huv.cmp, huv.step] at hcmp
  rw [huv.step] at harm
  rw [hfires] at hv
  exact ⟨hv.fired.trans hstatus, hv.armed ▸ harm, fun h => hv.cmp.trans (hcmp h)⟩

/-- A comparator that is not armed, or not due, stays as it is when all are evaluated. -/
theorem evalCmps_notDue (h : u.armed.getLsbD n.val = false ∨ 2 ^ 31 ≤ (timerT u - u.cmp[n]).toNat) :
    SameCmp n u (evalCmps miss u) := by
  obtain ⟨v, huv, hv⟩ := evalCmps_cmp n miss u
  have hT : timerT v = timerT u := by rw [timerT, huv.ticks, timerT]
  have hrests : evalCmp n miss v = v := by
    rw [evalCmp, huv.armed, cmpDue, hT, huv.cmp]
    obtain h | h := h
    · rw [h]; rfl
    · rw [decide_eq_false (Nat.not_lt.mpr h), Bool.and_false]; rfl
  rw [hrests] at hv
  exact huv.trans hv

end

/-! ### The tick -/

section
variable (s : State) (t : Fin 16) (u : Timer)

/-- What a tick leaves to the comparators is the unit's own, at the new TICKS. -/
theorem tickCount_sameCmp (n : Fin 4) (cfg : TimerCfg) :
    SameCmp n { u with ticks := u.ticks + 1 } (tickCount cfg (stampPhase s { u with phase := 0 })) where
  armed := by rw [tickCount_armed]; rfl
  fired := tickCount_status_of_ne _ _ (.inl n.isLt)
  frozen := tickCount_status_of_ne _ _ (.inr rfl)
  cmp := by rw [tickCount_cmp]; rfl
  missed := by rw [tickCount_missed]; rfl
  step := by rw [tickCount_step]; rfl
  ticks := tickCount_ticks _ _

end

section
variable (s : State) (t : Fin 16) (u : Timer)

@[simp] theorem tickedUnit_period : (tickedUnit s t u).period =
    if (tickedUnit s t u).count = 0 then u.periodShadow.getD u.period else u.period := by
  rw [tickedUnit_count, tickedUnit, evalCmps_keeps Timer.period _ _ fun u n => by rw [evalCmp_frame], tickCount_period,
    nextCount_stampPhase]
  rfl

@[simp] theorem tickedUnit_periodShadow : (tickedUnit s t u).periodShadow =
    if (tickedUnit s t u).count = 0 then none else u.periodShadow := by
  rw [tickedUnit_count, tickedUnit, evalCmps_keeps Timer.periodShadow _ _ fun u n => by rw [evalCmp_frame],
    tickCount_periodShadow, nextCount_stampPhase]
  rfl

/-- A comparator that is due at the new TICKS fires. -/
theorem tickedUnit_due {n : Fin 4} (harmed : u.armed.getLsbD n.val = true) (hfrozen : u.status.getLsbD 12 = false)
    (hdue : ((u.ticks + 1).setWidth 32 - u.cmp[n]).toNat < 2 ^ 31) :
    (tickedUnit s t u).status.getLsbD n.val = true ∧
    ((tickedUnit s t u).armed.getLsbD n.val = true ↔ u.step[n].toNat ≠ 0) ∧
    (u.step[n].toNat ≠ 0 → (tickedUnit s t u).cmp[n] = u.cmp[n] +
      BitVec.ofNat 32 ((((u.ticks + 1).setWidth 32 - u.cmp[n]).toNat / u.step[n].toNat + 1) * u.step[n].toNat)) := by
  have hw := tickCount_sameCmp s u n (timerCfg (timerPart s.coh.active t))
  have hT : timerT (tickCount (timerCfg (timerPart s.coh.active t)) (stampPhase s { u with phase := 0 })) =
      (u.ticks + 1).setWidth 32 := by rw [timerT, hw.ticks]
  have hfires := evalCmps_due (n := n) (miss := true) (hw.armed.trans harmed) (hw.frozen.trans hfrozen)
    (by rw [hT, hw.cmp]; exact hdue)
  rw [hT, hw.cmp, hw.step] at hfires
  exact hfires

/-- A comparator that is not armed, or not due at the new TICKS, stays as it is. -/
theorem tickedUnit_notDue {n : Fin 4}
    (h : u.armed.getLsbD n.val = false ∨ 2 ^ 31 ≤ ((u.ticks + 1).setWidth 32 - u.cmp[n]).toNat) :
    SameCmp n { u with ticks := u.ticks + 1 } (tickedUnit s t u) := by
  have hw := tickCount_sameCmp s u n (timerCfg (timerPart s.coh.active t))
  refine hw.trans (evalCmps_notDue ?_)
  rw [hw.armed, timerT, hw.ticks, hw.cmp]
  exact h

/-- The tick that leaves COUNT at 0 sets ZERO. -/
theorem tickedUnit_zero (h : (tickedUnit s t u).count = 0) : (tickedUnit s t u).status.getLsbD 8 = true := by
  rw [tickedUnit_count] at h
  exact evalCmps_status _ _ _ (tickCount_status_zero _ _ h)

end

/-- Another unit is left by a change of unit `t`. -/
theorem changeTimer_other {s : State} {t k : Fin 16} {f : Timer → Timer} (h : k ≠ t) :
    (changeTimer t f s).timers[k] = s.timers[k] := by
  have hk : ((changeTimer t f s).timers)[k] = ((s.onTimer t fun u => stampStart s u (f u)).timers)[k] := by
    rw [changeTimer_timers]
  exact hk.trans (Vector.getElem_set_ne t.isLt k.isLt fun e => h (Fin.ext e.symm))

section
variable {s : State} {t : Fin 16} (hworks : s.works (timerFn t) = true) (hrun : s.timers[t].run = true)
  (hawake : timersRun s = true) (hsource : timerSource (timerPart s.coh.active t) ≠ 3 ∨ s.time.asn.isSome = true)
include hworks hrun hawake hsource

/-- A tick of a running unit that may count freezes it, leaves it frozen, or counts (R383, R390). -/
theorem execTimerTick_running : execTimerTick t s = .next (
    if freezeAsked s t then s.onTimer t (setStatus 4096) else if s.timers[t].status.getLsbD 12 then s
    else changeTimer t (tickedUnit s t) s) := by
  have hcounts : (timerSource (timerPart s.coh.active t) != 3 || s.time.asn.isSome) = true := by simpa using hsource
  simp only [execTimerTick, hworks, hrun, hawake, hcounts, Bool.and_self, if_true]
  split
  · rfl
  · split
    · rfl
    · rfl

end

/-- Settles O35. -/
theorem timerTickCountsAndFires : Obligations.TimerTickCountsAndFires := by
  intro s t u b
  refine ⟨fun h => ?_, fun hworks hrun hawake hsource => ⟨fun hfreeze => ?_, fun hhalt hfrozen => ?_, fun hhalt hfrozen => ?_⟩⟩
  · change execTimerTick t s = _
    rw [execTimerTick]
    obtain h | h | h := h
    · simp [-Fin.getElem_fin, h]
    · simp [-Fin.getElem_fin, show s.timers[t].run = false from h]
    · simp [-Fin.getElem_fin, h]
  · change execTimerTick t s = _
    rw [execTimerTick_running hworks hrun hawake hsource, hfreeze]
    rfl
  · change execTimerTick t s = _
    rw [execTimerTick_running hworks hrun hawake hsource, hhalt, show s.timers[t].status.getLsbD 12 = true from hfrozen]
    rfl
  · refine ⟨changeTimer t (tickedUnit s t) s, ?_, ?_⟩
    · change execTimerTick t s = _
      rw [execTimerTick_running hworks hrun hawake hsource, hhalt, show s.timers[t].status.getLsbD 12 = false from hfrozen]
      rfl
    have hunit : (changeTimer t (tickedUnit s t) s).timers[t] = tickedUnit s t u :=
      (changeTimer_unit ..).trans (stampStart_of_run s _ _ hrun)
    dsimp only
    rw [hunit]
    refine ⟨tickedUnit_ticks .., fun hup => ?_, fun hup hdown => ?_, fun hup hdown hlt => ?_, fun hz => ?_, fun hnz => ?_, ?_,
      fun n harmed hdue => ?_, fun n hn => ?_, fun k hk => changeTimer_other hk⟩
    · rw [tickedUnit_count, tickedUnit_down]
      exact nextCount_upOnly _ _ hup
    · rw [tickedUnit_count]
      exact nextCount_downward _ _ hup hdown
    · rw [tickedUnit_count]
      exact (nextCount_up _ _ hdown hlt).1
    · rw [tickedUnit_period, tickedUnit_periodShadow, if_pos hz, if_pos hz]
      exact ⟨rfl, rfl, tickedUnit_zero s t u hz⟩
    · rw [tickedUnit_period, tickedUnit_periodShadow, if_neg hnz, if_neg hnz]
      exact ⟨rfl, rfl⟩
    · have hu : u.run = true := hrun
      rw [tickedUnit_run, hu]
      split
      · next h => exact iff_of_true rfl h
      · next h => exact iff_of_false (by simp) h
    · exact tickedUnit_due s t u harmed hfrozen hdue
    · have hn' := tickedUnit_notDue s t u hn
      exact ⟨hn'.armed, hn'.cmp, hn'.missed, hn'.fired⟩

end Sys2Proof.Machine

/-! ## Accesses by a master (O46) -/

namespace Sys2Proof.Machine

/-! ### Which bytes an access reads -/

/-- What decides a byte of physical memory besides the tables of Backwater and the bytes of memory themselves. -/
structure SameBytes (s t : State) : Prop where
  phys : t.mem.phys = s.mem.phys
  store : t.radios.store = s.radios.store
  kept : t.kept = s.kept
  slots : t.cipher.slots = s.cipher.slots
  streams : ∀ a, t.streams a = s.streams a
  fabric : t.time.fabric = s.time.fabric

theorem SameBytes.byteAt {s t : State} (h : SameBytes s t) (a : Nat) : t.byteAt a = s.byteAt a := by
  simp only [State.byteAt, State.calRaw, h.phys, h.store, h.kept, h.slots, h.streams, h.fabric]

theorem SameBytes.load {s t : State} (h : SameBytes s t) (a n : Nat) : t.load a n = s.load a n := by
  simp only [State.load, h.phys, h.byteAt]

/-- Counting an access changes row states, counters and performance counters alone. -/
theorem rowAccess_frame (by_ : BusMaster) (pa : Nat) (s : State) : ∃ rows counters cluster,
    rowAccess by_ pa s =
      { s with mem := { s.mem with openRows := rows }, counters := counters, cluster := cluster } := by
  unfold rowAccess
  dsimp only
  split
  · split
    · exact ⟨_, _, _, rfl⟩
    · exact ⟨_, _, _, rfl⟩
  · exact ⟨_, _, _, rfl⟩

theorem countDram_frame (by_ : BusMaster) (pa n : Nat) (write : Bool) (s : State) : ∃ rows counters cluster,
    countDram by_ pa n write s =
      { s with mem := { s.mem with openRows := rows }, counters := counters, cluster := cluster } := by
  obtain ⟨rows, counters, cluster, hrow⟩ := rowAccess_frame by_ pa s
  unfold countDram
  split
  · exact ⟨s.mem.openRows, _, _, rfl⟩
  · dsimp only
    rw [hrow]
    cases write with
    | false => exact ⟨rows, _, _, rfl⟩
    | true =>
      rw [if_pos rfl]
      split
      · exact ⟨rows, _, _, rfl⟩
      · exact ⟨rows, _, _, rfl⟩

theorem countDram_sameBytes (by_ : BusMaster) (pa n : Nat) (write : Bool) (s : State) :
    SameBytes s (countDram by_ pa n write s) := by
  obtain ⟨rows, counters, cluster, h⟩ := countDram_frame by_ pa n write s
  rw [h]
  exact ⟨rfl, rfl, rfl, rfl, fun _ => rfl, rfl⟩

/-! ### Stores -/

theorem State.storeTable_wf {s : State} {a : Nat} {b : Byte} (h : Memory.wf s.mem.phys = true) :
    Memory.wf (s.storeTable a b).mem.phys = true := by
  unfold State.storeTable
  split
  · dsimp only
    split
    · exact h
    · exact memWrites_wf _ _ _ h
  · exact h

theorem State.storeEach_wf {s : State} {a : Nat} {bs : Bytes} (h : Memory.wf s.mem.phys = true) :
    Memory.wf (s.storeEach a bs).mem.phys = true := by
  induction bs generalizing s a with
  | nil => exact h
  | cons b bs ih =>
    refine ih ?_
    split
    · exact memWrite_wf _ _ _ h
    · exact State.storeTable_wf h

/-- A store keeps physical memory in canonical form. -/
theorem State.store_wf {s : State} {a : Nat} {bs : Bytes} (h : Memory.wf s.mem.phys = true) :
    Memory.wf (s.store a bs).mem.phys = true := by
  unfold State.store
  split
  · exact memWrites_wf _ _ _ h
  · exact State.storeEach_wf h

/-- From the counter table to the end of the tables no byte is stored (R300). -/
theorem State.storeEach_counters {s : State} {a : Nat} {bs : Bytes} (ha : counterTable ≤ a) (hend : a + bs.length ≤ tablesEnd) :
    s.storeEach a bs = s := by
  induction bs generalizing a with
  | nil => rfl
  | cons b bs ih =>
    rw [List.length_cons] at hend
    have hin : (decide (a < calTable) || decide (tablesEnd ≤ a)) = false := by
      rw [counterTable] at ha
      rw [calTable, decide_eq_false (by omega), decide_eq_false (by omega)]
      rfl
    rw [State.storeEach, hin, if_neg Bool.false_ne_true, State.storeTable_counters s _ _ ha]
    exact ih (by omega) (by omega)

/-- A store from the counter table to the end of the tables leaves every byte. -/
theorem State.store_counters_byteAt {s : State} {a : Nat} {bs : Bytes} (ha : counterTable ≤ a)
    (hend : a + bs.length ≤ tablesEnd) (k : Nat) : (s.store a bs).byteAt k = s.byteAt k := by
  refine SameBytes.byteAt ?_ k
  cases bs with
  | nil =>
    unfold State.store
    split
    · exact ⟨rfl, rfl, rfl, rfl, fun _ => rfl, rfl⟩
    · exact ⟨rfl, rfl, rfl, rfl, fun _ => rfl, rfl⟩
  | cons b bs =>
    have hin : offTables a (b :: bs).length = false := by
      rw [offTables, Bool.or_eq_false_iff, decide_eq_false_iff_not, decide_eq_false_iff_not, List.length_cons]
      rw [counterTable] at ha
      rw [List.length_cons] at hend
      rw [calTable]
      omega
    rw [State.store, hin, if_neg Bool.false_ne_true, State.storeEach_counters ha hend]
    exact ⟨rfl, rfl, rfl, rfl, fun _ => rfl, rfl⟩

/-- A store leaves the state of the DRAM channels. -/
theorem State.store_channels (s : State) (a : Nat) (bs : Bytes) : (s.store a bs).mem.channels = s.mem.channels := by
  obtain ⟨_, _, _, h⟩ := s.store_frame a bs
  rw [h]

/-- Writing outside a range leaves what is read there. -/
theorem memReads_memWrites_outside {m : Mem} {a k n : Nat} {bs : Bytes} (hwf : Memory.wf m = true)
    (h : k + n ≤ a ∨ a + bs.length ≤ k) : memReads (memWrites m a bs) k n = memReads m k n := by
  induction n generalizing k with
  | zero => rfl
  | succ n ih => rw [memReads, memReads, memRead_memWrites_outside _ _ _ _ hwf (by omega), ih (by omega)]

section
variable {s : State} {a : Nat} {bs : Bytes} (hwf : Memory.wf s.mem.phys = true) (hoff : offTables a bs.length = true)
include hwf hoff

/-- Away from the tables a store stands where nothing streams. -/
theorem State.store_byteAt_inside {i : Nat} (hi : i < bs.length) (hs : s.streams (a + i) = false) :
    (s.store a bs).byteAt (a + i) = bs.getD i 0 := by
  obtain ⟨hphys, -⟩ := s.store_plain a bs hoff
  have hout : (decide (a + i < calTable) || decide (tablesEnd ≤ a + i)) = true := by
    rw [offTables, Bool.or_eq_true, decide_eq_true_eq, decide_eq_true_eq] at hoff
    rw [Bool.or_eq_true, decide_eq_true_eq, decide_eq_true_eq]
    omega
  have hs' : (s.store a bs).streams (a + i) = false := by rw [State.streams, State.store_rx]; exact hs
  rw [State.byteAt, hs', if_neg Bool.false_ne_true, if_pos hout, hphys, memRead_memWrites_inside _ _ _ _ hwf hi]

/-- Away from the tables a store leaves every byte that it does not write. -/
theorem State.store_byteAt_outside {k : Nat} (hk : k < a ∨ a + bs.length ≤ k) : (s.store a bs).byteAt k = s.byteAt k := by
  obtain ⟨hphys, hradios⟩ := s.store_plain a bs hoff
  have hstreams : (s.store a bs).streams k = s.streams k := by simp only [State.streams, State.store_rx]
  have hkept : (s.store a bs).kept = s.kept := by
    unfold State.kept
    rw [State.store_channels, State.store_sluice, State.store_time, State.store_power, State.store_timers]
  rw [offTables, Bool.or_eq_true, decide_eq_true_eq, decide_eq_true_eq] at hoff
  have hread : memRead (s.store a bs).mem.phys k = memRead s.mem.phys k := by
    rw [hphys, memRead_memWrites_outside _ _ _ _ hwf hk]
  have hraw (h1 : calTable ≤ k) (h2 : k < counterTable) :
      (s.store a bs).calRaw ((k - calTable) / 32) = s.calRaw ((k - calTable) / 32) := by
    unfold State.calRaw
    rw [hradios, hphys, memReads_memWrites_outside]
    · exact hwf
    · rw [calTable] at *
      rw [counterTable] at h2
      rw [tablesEnd] at hoff
      omega
  simp only [State.byteAt, hstreams, hkept, hread, State.store_time, State.store_cipher]
  split
  · rfl
  · split
    · rfl
    · next hin =>
      rw [Bool.or_eq_true, decide_eq_true_eq, decide_eq_true_eq] at hin
      split
      · next hcal => rw [hraw (by omega) hcal]
      · rfl

end

/-! ### The windows -/

/-- What the map allows lies in no register window. -/
theorem not_window_of_accessAllowed {m : Memory} {by_ : BusMaster} {write : Bool} {a n : Nat}
    (h : accessAllowed m by_ write a n = true) (s : State) : inWindow a = false ∧ foreignPage by_ a s = false := by
  have hout : a ≤ 0x11000000 ∨ dramBase ≤ a := by
    cases by_ <;>
      simp only [accessAllowed, inGeneral, inCluster, inSample, inMemory, Bool.or_eq_true, Bool.and_eq_true,
        decide_eq_true_eq] at h <;> omega
  rw [dramBase] at hout
  simp only [inWindow, foreignPage, Bool.or_eq_false_iff, Bool.and_eq_false_iff, decide_eq_false_iff_not]
  omega

/-- Not every condition of a window access holds. -/
theorem window_false {a n : Nat} (h : inWindow a = false ∨ n ≠ 4 ∨ a % 4 ≠ 0) :
    (inWindow a && decide (n = 4) && decide (a % 4 = 0)) = false := by
  obtain h | h | h := h
  · rw [h]; rfl
  · rw [decide_eq_false h, Bool.and_false]; rfl
  · rw [decide_eq_false h, Bool.and_false]

@[simp] theorem leNat_leBytes {n v : Nat} (h : v < 256 ^ n) : leNat (leBytes n v) = v := by
  induction n generalizing v with
  | zero =>
    rw [Nat.pow_zero] at h
    exact (Nat.lt_one_iff.mp h).symm
  | succ n ih =>
    have hdiv : v / 256 < 256 ^ n := by rw [Nat.pow_succ] at h; omega
    simp only [leBytes, leNat, ih hdiv, BitVec.toNat_ofNat]
    omega

/-- The word that its own four bytes hold. -/
theorem ofNat_leNat_leBytes (v : BitVec 32) : BitVec.ofNat 32 (leNat (leBytes 4 v.toNat)) = v := by
  rw [leNat_leBytes v.isLt, BitVec.ofNat_toNat, BitVec.setWidth_eq]

section
variable {s : State} {by_ : BusMaster} {addr : Nat} (hon : coreOff s by_ = false)
include hon

/-- A word access at a register of a window follows the register's own rules. -/
theorem memAccess_word (hwin : inWindow addr = true) (hal : addr % 4 = 0) (v : Option (BitVec 32)) :
    exec (.memAccess by_ addr (v.map fun v => leBytes 4 v.toNat) 4) s = windowAccess by_ addr v s := by
  change execMemAccess by_ addr _ 4 s = _
  cases v with
  | none => simp [execMemAccess, hon, hwin, hal]
  | some v => simp [execMemAccess, hon, hwin, hal, leBytes_length, ofNat_leNat_leBytes]

/-- An access in a page that is not the master's is the page block's, whatever its size (R285). -/
theorem memAccess_foreign (hpage : foreignPage by_ addr s = true) (v : Option Bytes) (len : Nat) :
    exec (.memAccess by_ addr v len) s = windowAccess by_ addr (v.map fun d => BitVec.ofNat 32 (leNat d)) s := by
  change execMemAccess by_ addr v len s = _
  simp [execMemAccess, hon, hpage]

/-- An allowed write is counted and stores its bytes. -/
theorem memAccess_write_allowed {d : Bytes} (h : accessAllowed s.mem by_ true addr d.length = true) (len : Nat) :
    exec (.memAccess by_ addr (some d) len) s = .next ((countDram by_ addr d.length true s).store addr d) := by
  obtain ⟨hwin, hpage⟩ := not_window_of_accessAllowed h s
  change execMemAccess by_ addr (some d) len s = _
  simp [execMemAccess, hon, hwin, hpage, h]

end

/-- An access in a page's window is the page block's. -/
theorem windowAccess_page {by_ : BusMaster} {addr : Nat} (h : addr < 0x13000000) (v : Option (BitVec 32)) (s : State) :
    windowAccess by_ addr v s = exec (.pageAccess by_ (Fin.ofNat 32 (addr / 4096)) (addr % 4096) v) s := by
  have hp : Fin.ofNat 32 (addr / 4096 % 32) = Fin.ofNat 32 (addr / 4096) := Fin.ext (Nat.mod_mod _ _)
  unfold windowAccess
  rw [if_pos h, hp]
  rfl

/-- Settles O46. -/
theorem memoryAccessReadsAndWrites : Obligations.MemoryAccessReadsAndWrites := by
  intro s by_ addr len hwf
  refine ⟨fun hoff data => ?_, fun d hon hallowed => ?_, fun hon hallowed hgood => ?_, fun v hon hal => ⟨fun h1 h2 => ?_, fun h1 h2 => ?_⟩,
    fun v hon hpage => ?_, fun d hon hpage hwin hno => ?_, fun hon hpage hwin hno => ?_, fun c fn => rfl⟩
  · change execMemAccess by_ addr data len s = _
    simp [execMemAccess, hoff]
  · have hcount := countDram_sameBytes by_ addr d.length true s
    obtain ⟨rows, counters, cluster, hframe⟩ := countDram_frame by_ addr d.length true s
    have hwf' : Memory.wf (countDram by_ addr d.length true s).mem.phys = true := by rw [hcount.phys]; exact hwf
    refine ⟨_, memAccess_write_allowed hon hallowed len, fun hoff => ⟨fun i hi hs => ?_, fun a ha => ?_⟩, fun ha hend a => ?_,
      State.store_wf hwf', ?_⟩
    · exact State.store_byteAt_inside hwf' hoff hi ((hcount.streams _).trans hs)
    · rw [State.store_byteAt_outside hwf' hoff ha, hcount.byteAt]
    · rw [State.store_counters_byteAt ha hend, hcount.byteAt]
    · obtain ⟨st, ph, po, hstore⟩ := (countDram by_ addr d.length true s).store_frame addr d
      rw [hstore, hframe]
  · have hcount := countDram_sameBytes by_ addr len false s
    obtain ⟨rows, counters, cluster, hframe⟩ := countDram_frame by_ addr len false s
    obtain ⟨hwin, hpage⟩ := not_window_of_accessAllowed hallowed s
    have hpoison : poisonsIn (countDram by_ addr len false s).mem addr len = [] := by
      rw [hframe]
      rw [poisoned, Bool.not_eq_false', List.isEmpty_iff] at hgood
      exact hgood
    refine ⟨_, memAccess_read_allowed hon hwin hpage len hallowed hpoison, ?_, fun a => ?_, ?_⟩
    · rw [hcount.load, State.onKci_kci, hframe]
    · rw [← hcount.byteAt]
      rfl
    · rw [hframe]
      rfl
  · rw [memAccess_word hon (by simp [inWindow]; omega) hal, windowAccess_page (by omega)]
  · have ht : Fin.ofNat 16 (addr / 256 % 16) = Fin.ofNat 16 (addr / 256) := Fin.ext (Nat.mod_mod _ _)
    rw [memAccess_word hon (by simp [inWindow]; omega) hal]
    unfold windowAccess
    refine (if_neg (by omega)).trans ((if_pos (by omega)).trans ?_)
    cases v with
    | none => exact congrArg (fun t => Host.Outcome.next (timerReadBy by_ t (addr % 256) s)) ht
    | some v => exact congrArg (fun t => Host.Outcome.next (timerWriteBy by_ t (addr % 256) v s)) ht
  · rw [memAccess_foreign hon hpage, windowAccess_page]
    simp only [foreignPage, Bool.and_eq_true, decide_eq_true_eq] at hpage
    omega
  · change execMemAccess by_ addr (some d) len s = _
    simp only [execMemAccess, hon, window_false hwin, hpage, Option.isSome, hno, Bool.or_self, Bool.not_false,
      Bool.false_eq_true, if_false, if_true]
  · change execMemAccess by_ addr none len s = _
    simp only [execMemAccess, hon, window_false hwin, hpage, Option.isSome, hno, Bool.or_self, Bool.not_false,
      Bool.false_eq_true, if_false, if_true]

end Sys2Proof.Machine

/-! ## Ending launches and receptions

What the end of a launch or of a reception touches: the host control block, the counters, Sluice, the router's drops, the
neighbour table, the frames in reception, the performance counters and the telemetry span.  A view of the state that sees
none of these is unchanged. -/

namespace Sys2Proof.Machine

/-- A view of the state that sees nothing of what the end of a launch or of a reception touches. -/
structure TrafficBlind {α : Type} (g : State → α) : Prop where
  kci : ∀ s f, g (State.onKci s f) = g s
  counters : ∀ (s : State) m, g { s with counters := m } = g s
  sluice : ∀ s f, g (State.onSluice s f) = g s
  router : ∀ s f, g (State.onRouter s f) = g s
  link : ∀ s f, g (State.onLink s f) = g s
  rx : ∀ s f, g (State.onRx s f) = g s
  thermal : ∀ s f, g (State.onThermal s f) = g s
  cluster : ∀ s f, g (State.onCluster s f) = g s

theorem trafficBlind_safety : TrafficBlind State.safety :=
  ⟨fun _ _ => rfl, fun _ _ => rfl, fun _ _ => rfl, fun _ _ => rfl, fun _ _ => rfl, fun _ _ => rfl, fun _ _ => rfl, fun _ _ => rfl⟩

theorem trafficBlind_coh : TrafficBlind State.coh :=
  ⟨fun _ _ => rfl, fun _ _ => rfl, fun _ _ => rfl, fun _ _ => rfl, fun _ _ => rfl, fun _ _ => rfl, fun _ _ => rfl, fun _ _ => rfl⟩

theorem trafficBlind_radios : TrafficBlind State.radios :=
  ⟨fun _ _ => rfl, fun _ _ => rfl, fun _ _ => rfl, fun _ _ => rfl, fun _ _ => rfl, fun _ _ => rfl, fun _ _ => rfl, fun _ _ => rfl⟩

theorem trafficBlind_time : TrafficBlind State.time :=
  ⟨fun _ _ => rfl, fun _ _ => rfl, fun _ _ => rfl, fun _ _ => rfl, fun _ _ => rfl, fun _ _ => rfl, fun _ _ => rfl, fun _ _ => rfl⟩

namespace TrafficBlind

variable {α : Type} {g : State → α} (h : TrafficBlind g)
include h

theorem countN (s : State) (fn i n : Nat) : g (s.countN fn i n) = g s := h.counters ..
theorem count (s : State) (fn i : Nat) : g (s.count fn i) = g s := h.counters ..
theorem onAccount (s : State) (i : Fin 16) (f : Account → Account) : g (s.onAccount i f) = g s := h.sluice ..
theorem onLaunch (s : State) (l : Nat) (f : Launch → Launch) : g (s.onLaunch l f) = g s := h.sluice ..
theorem onFrame (s : State) (n : Nat) (f : DlFrame → DlFrame) : g (s.onFrame n f) = g s := h.sluice ..
theorem onEgress (s : State) (e : Fin 6) (f : Egress → Egress) : g (s.onEgress e f) = g s := h.router ..
theorem onNb (s : State) (i : Nat) (f : NbState → NbState) : g (s.onNb i f) = g s := h.link ..
theorem onRxFrame (s : State) (n : Nat) (f : RxFrame → RxFrame) : g (s.onRxFrame n f) = g s := h.rx ..

theorem raiseEvent (num fn payload : Nat) (s : State) : g (raiseEvent num fn payload s) = g s := by
  rw [raiseEvent_frame]; exact h.kci s fun _ => _

theorem longDone (id rc : Nat) (s : State) : g (longDone id rc s) = g s := by
  unfold Machine.longDone
  split
  · rfl
  · dsimp only
    split <;> simp only [h.raiseEvent, h.kci]

/-! ### Frame rings -/

theorem fillDescs (r : Fin 16) (it : RingItem) (fuel : Nat) :
    ∀ (first : Bool) (data : Bytes) (s : State), g (fillDescs r it fuel first data s) = g s := by
  induction fuel with
  | zero => exact fun _ _ _ => rfl
  | succ fuel ih =>
    intro first data s
    simp only [Machine.fillDescs, returnDesc, bufWrite]
    split <;> split <;> split <;> simp only [ih, h.raiseEvent, h.kci]

theorem pumpRing (r : Fin 16) (fuel : Nat) : ∀ s : State, g (pumpRing r fuel s) = g s := by
  induction fuel with
  | zero => exact fun _ => rfl
  | succ fuel ih =>
    intro s
    simp only [Machine.pumpRing]
    split
    · rfl
    · split
      · simp only [ih, h.fillDescs, h.kci]
      · split
        · simp only [h.raiseEvent, h.kci]
        · rfl

theorem dropAtQueue (e : Fin 6) (q : Nat) (s : State) : g (dropAtQueue e q s) = g s := by
  unfold Machine.dropAtQueue
  dsimp only
  split <;> simp only [h.count, h.router]

theorem toRing (r kind reason : Nat) (gen : BitVec 32) (data : Bytes) (s : State) :
    g (toRing r kind reason gen data s) = g s := by
  unfold Machine.toRing
  dsimp only
  split <;> simp only [h.dropAtQueue, h.pumpRing, h.kci]

/-! ### Charges -/

theorem nearCheck (i : Fin 16) (s : State) : g (nearCheck i s) = g s := by
  unfold Machine.nearCheck
  dsimp only
  split
  · simp only [h.raiseEvent, h.onAccount]
  · split
    · exact h.onAccount ..
    · rfl

theorem chargeBands (c : Nat) (l : List (Fin 16)) : ∀ s : State, g (chargeBands c l s) = g s := by
  induction l with
  | nil => exact fun _ => rfl
  | cons i is ih => intro s; simp only [Machine.chargeBands, ih, h.nearCheck, h.onAccount]

theorem refundLaunch (x : Launch) (s : State) : g (refundLaunch x s) = g s := by
  unfold Machine.refundLaunch
  split
  · exact (h.onLaunch ..).trans (foldl_keeps g _ (fun _ _ => h.onAccount ..) _ s)
  · rfl

theorem refundCommitted (x : Launch) (c : Nat) (s : State) : g (refundCommitted x c s) = g s :=
  foldl_keeps g _ (fun _ _ => (h.nearCheck ..).trans (h.onAccount ..)) x.committed s

theorem giveBackSecond (r : Fin 3) (c ns : Nat) (s : State) : g (giveBackSecond r c ns s) = g s := by
  unfold Machine.giveBackSecond
  dsimp only
  split
  · exact h.sluice ..
  · rfl

theorem countRefusal (r : Fin 3) (reason : Nat) (s : State) : g (countRefusal r reason s) = g s := by
  simp only [Machine.countRefusal, apply_ite g, h.count, ite_self]

/-! ### Records and queued frames -/

theorem writeLaunchRecord (x : Launch) (reason : Nat) (truncated : Bool) (charged : Nat) (s : State) :
    g (writeLaunchRecord x reason truncated charged s) = g s := by
  simp only [Machine.writeLaunchRecord, apply_ite g, h.toRing, ite_self]

theorem unsendAck (x : Launch) (s : State) : g (unsendAck x s) = g s := by
  unfold Machine.unsendAck Machine.ackOffset
  split
  · dsimp only
    split <;> simp only [h.onNb, h.onRxFrame]
  · rfl

theorem removeFrame (f : DlFrame) (reason : Nat) (truncated pending : Bool) (s : State) :
    g (removeFrame f reason truncated pending s) = g s := by
  have hempty (q : Nat) (t : State) : g (emptyRadioQueue q t) = g t := foldl_keeps g _ (fun _ _ => h.onEgress ..) _ t
  simp only [Machine.removeFrame, queuedRecord, h.toRing, apply_ite g, hempty, h.sluice, h.count, ite_self]

theorem dropExpired (f : Nat) (s : State) : g (dropExpired f s) = g s := by
  unfold Machine.dropExpired expireFrame
  split
  · rw [h.removeFrame, h.count]
  · rfl

/-! ### The ends of a launch -/

theorem endLaunch (x : Launch) (reason : Nat) (remove : Bool) (s : State) : g (endLaunch x reason remove s) = g s := by
  unfold Machine.endLaunch
  dsimp only
  split
  · simp only [apply_ite g, h.longDone, h.writeLaunchRecord, h.count, h.unsendAck, h.countRefusal, dropLaunch, h.sluice,
      h.refundLaunch, ite_self]
  · split
    · simp only [h.countRefusal, dropLaunch, h.sluice, h.refundLaunch]
    · simp only [apply_ite g, h.removeFrame, h.dropExpired, refusalRecord, h.toRing, h.onFrame, h.countRefusal, dropLaunch,
        h.sluice, h.refundLaunch, ite_self]

theorem cutLaunch (x : Launch) (reason : Nat) (fate : CutFate) (s : State) : g (cutLaunch x reason fate s) = g s := by
  have charged (c : Nat) (bands : List (Fin 16)) (ns : Nat) :
      g (if x.reserved then addSecond x.radio c (Machine.chargeBands c bands (Machine.refundLaunch x s))
        else Machine.refundCommitted x (x.charge - c) (Machine.giveBackSecond x.radio (x.charge - c) ns s)) = g s := by
    simp only [apply_ite g, addSecond, h.sluice, h.chargeBands, h.refundLaunch, h.refundCommitted, h.giveBackSecond, ite_self]
  unfold Machine.cutLaunch
  dsimp only
  split
  · simp only [h.writeLaunchRecord, h.thermal, h.countN, dropLaunch, h.sluice, charged]
  · split
    · simp only [h.thermal, h.countN, dropLaunch, h.sluice, charged]
    · split
      · rw [h.dropExpired, h.count, h.onFrame]
        split <;> simp only [queuedRecord, h.toRing, h.onFrame, h.thermal, h.countN, dropLaunch, h.sluice, charged]
      · simp only [h.removeFrame, h.onFrame, h.thermal, h.countN, dropLaunch, h.sluice, charged]

/-- Cutting a radio rests its balls and ends launches. -/
theorem cutRadio (r : Fin 3) (reason : Nat) (fate : CutFate) (s : State) :
    g (cutRadio r reason fate s) = g (restBalls r s) := by
  unfold Machine.cutRadio
  dsimp only
  rw [foldl_keeps g _ (fun _ _ => h.endLaunch ..),
    foldl_keeps g _ (fun _ _ => by simp only [apply_ite g, h.longDone, h.cutLaunch, ite_self])]

theorem releaseBookings (reason : Nat) (s : State) : g (releaseBookings reason s) = g s :=
  foldl_keeps g _ (fun _ _ => h.endLaunch ..) _ s

/-! ### Frames in reception -/

theorem startJob (e : Fin 48) (j : Nat × Nat) (stolen : Bool) (s : State) : g (startJob e j stolen s) = g s := by
  unfold Machine.startJob
  split
  · rfl
  · dsimp only
    split <;> simp only [pmuEvent, pmuEventIf, h.cluster, h.count, h.onRxFrame, State.onEngine, h.rx]

theorem feedLocal (s : State) (e : Fin 48) : g (feedLocal s e) = g s := by
  unfold Machine.feedLocal
  dsimp only
  split
  · rfl
  · split <;> simp only [h.startJob, State.onQueue, h.rx]

theorem feedSteal (s : State) (e : Fin 48) : g (feedSteal s e) = g s := by
  unfold Machine.feedSteal
  dsimp only
  split
  · rfl
  · split
    · rfl
    · split
      · rfl
      · split <;> simp only [h.startJob, State.onQueue, h.rx]

theorem feedEngines (s : State) : g (feedEngines s) = g s := by
  unfold Machine.feedEngines
  split
  · exact (foldl_keeps g _ h.feedSteal _ _).trans (foldl_keeps g _ h.feedLocal _ s)
  · rfl

theorem enqueueJobs (x : RxFrame) (js : List Nat) (head : Bool) (s : State) : g (enqueueJobs x js head s) = g s := by
  simp only [Machine.enqueueJobs, State.onQueue, h.rx, h.onRxFrame]

theorem dropRx (f : Nat) (s : State) : g (dropRx f s) = g s := h.rx ..

theorem joinLlrs (x : RxFrame) (s : State) : g (joinLlrs x s) = g s := by
  have hcombined (f : Nat) (t : State) : g (startCombined f t) = g t := by
    unfold startCombined
    split
    · rfl
    · simp only [h.feedEngines, h.enqueueJobs, h.onRxFrame]
  unfold Machine.joinLlrs
  split
  · rfl
  · simp only [apply_ite g, hcombined, h.onRxFrame, h.dropRx, ite_self]

theorem unpark (y : RxFrame) (s : State) : g (unpark y s) = g s := by
  simp only [Machine.unpark, apply_ite g, h.joinLlrs, h.dropRx, h.onRxFrame, h.enqueueJobs, ite_self]

theorem freeLane (x : RxFrame) (s : State) : g (freeLane x s) = g s := by
  unfold Machine.freeLane
  split
  · rfl
  · dsimp only
    split
    · simp only [apply_ite g, setCapture, h.rx, ite_self]
    · rfl

theorem releaseAck (x : RxFrame) (s : State) : g (releaseAck x s) = g s := by
  have hbooked (l : Option Nat) (t : State) : g (releaseBooked l t) = g t := by
    unfold releaseBooked
    split
    · rfl
    · simp only [apply_ite g, dropLaunch, h.sluice, h.refundLaunch, ite_self]
  unfold Machine.releaseAck
  dsimp only
  split <;> simp only [h.onRxFrame, hbooked]

theorem discardEarly (x : RxFrame) (s : State) : g (discardEarly x s) = g s := by
  unfold Machine.discardEarly
  dsimp only
  split <;> simp only [h.feedEngines, h.dropRx, h.unpark, h.releaseAck, h.freeLane]

theorem dropReception (r : Fin 3) (s : State) : g (dropReception r s) = g s :=
  foldl_keeps g _ (fun _ _ => (h.count ..).trans (h.discardEarly ..)) _ s

end TrafficBlind

/-- Once a radio has been cut its PA_EN is deasserted, and the other radios keep theirs. -/
theorem cutRadio_paEn (r k : Fin 3) (reason : Nat) (fate : CutFate) (s : State) :
    ((cutRadio r reason fate s).radio k).paEn = (decide (k ≠ r) && (s.radio k).paEn) := by
  have h : (cutRadio r reason fate s).radio k = (restBalls r s).radio k :=
    congrArg (fun x : Radios => x.unit[k]) (trafficBlind_radios.cutRadio r reason fate s)
  rw [h]
  simp only [restBalls, State.onRadio, State.onRadios, State.radio]
  by_cases hk : k = r
  · subst hk
    simp
  · simp [hk, Vector.getElem_set_ne, Fin.val_ne_of_ne (Ne.symm hk)]

/-! ## Handling a raise (O52) -/

/-- Functions marked one after another change the configuration's function states alone. -/
theorem foldl_onFn_frame (f : FnState → FnState) (l : List Nat) : ∀ s : State, ∃ fns,
    l.foldl (fun s n => s.onFn n f) s = { s with coh := { s.coh with fns := fns } } := by
  induction l with
  | nil => exact fun s => ⟨s.coh.fns, rfl⟩
  | cons n l ih =>
    intro s
    obtain ⟨fns, h⟩ := ih (s.onFn n f)
    exact ⟨fns, h⟩

/-- Abandoning the resets in progress ends them, and leaves the safety state but for the reactions. -/
theorem abandonResets_frame (s : State) : ∃ kci reactions coh,
    abandonResets s = { s with kci := kci, safety := { s.safety with reactions := reactions }, coh := coh } ∧
    coh.resets = [] := by
  have hfold (l : List ResetJob) : ∀ s : State, ∃ coh, l.foldl (fun s j =>
      (resetScope j.fn).foldl (fun s f => s.onFn f fun x => { x with inReset := false }) s) s = { s with coh := coh } := by
    induction l with
    | nil => exact fun s => ⟨s.coh, rfl⟩
    | cons j l ih =>
      intro s
      rw [List.foldl_cons]
      obtain ⟨fns, h⟩ := foldl_onFn_frame (fun x => { x with inReset := false }) (resetScope j.fn) s
      obtain ⟨coh, h'⟩ := ih { s with coh := { s.coh with fns := fns } }
      exact ⟨coh, by rw [h, h']⟩
  obtain ⟨coh, h⟩ := hfold s.coh.resets s
  unfold abandonResets
  rw [h]
  dsimp only
  split
  · split
    · exact ⟨_, _, _, rfl, rfl⟩
    · exact ⟨_, _, _, rfl, rfl⟩
  · exact ⟨_, _, _, rfl, rfl⟩

/-- An abandoned commit is gone; otherwise only the host control block hears of it. -/
theorem abandonCommit_frame (fn : Nat) (s : State) : ∃ kci,
    abandonCommit fn s = { s with kci := kci, coh := { s.coh with commit := none } } := by
  unfold abandonCommit
  split
  case h_1 h => exact ⟨s.kci, by rw [← h]⟩
  · dsimp only
    rw [raiseEvent_frame]
    unfold finishExecuting
    split
    · exact ⟨_, rfl⟩
    · split
      · rw [respond_frame]
        exact ⟨_, rfl⟩
      · exact ⟨_, rfl⟩

/-- The safe state: its marks stand, no commit is pending, no radio has PA_EN asserted. -/
theorem enterSafeState_marks (n : Nat) (s4 hold : Bool) (s : State) :
    let t := enterSafeState n s4 hold s
    t.safety = { s.safety with safeState := true, faultN := true, safeOk := false } ∧
    t.coh = { s.coh with commit := none } ∧ ∀ r, (t.radio r).paEn = false := by
  unfold enterSafeState
  dsimp only
  generalize hu : releaseBookings rcSafeState ([0, 1, 2].foldl (fun s r => cutRadio r rcSafeState .requeue s) s) = u
  have hsafety : u.safety = s.safety := by
    subst hu
    simp only [trafficBlind_safety.releaseBookings, List.foldl, trafficBlind_safety.cutRadio, restBalls, State.onRadio_safety]
  have hcoh : u.coh = s.coh := by
    subst hu
    simp only [trafficBlind_coh.releaseBookings, List.foldl, trafficBlind_coh.cutRadio, restBalls, State.onRadio_coh]
  have hpa (r : Fin 3) : (u.radio r).paEn = false := by
    subst hu
    have h (v : State) : (releaseBookings rcSafeState v).radio r = v.radio r :=
      congrArg (fun x : Radios => x.unit[r]) (trafficBlind_radios.releaseBookings rcSafeState v)
    rw [h]
    simp only [List.foldl, cutRadio_paEn]
    obtain rfl | rfl | rfl : r = 0 ∨ r = 1 ∨ r = 2 := by omega
    · simp
    · simp
    · simp
  rw [raiseEvent_frame]
  obtain ⟨kci, h⟩ := abandonCommit_frame 0x0F00 (if u.safety.safeState = true then
      u.onSafety fun x => { x with safeState := true, faultN := true, safeOk := false }
    else (u.onSafety fun x => { x with safeState := true, faultN := true, safeOk := false }).count 0x0F00 10)
  rw [h]
  split
  · exact ⟨by rw [← hsafety]; rfl, by rw [← hcoh]; rfl, hpa⟩
  · exact ⟨by rw [← hsafety]; rfl, by rw [← hcoh]; rfl, hpa⟩

/-- A reserved source, and any source of a sleeping device, is detected by no command that counts it. -/
theorem countDetected_idle {n : Nat} {detail : BitVec 64} {s : State} (h : s.asleep = true ∨ reservedSource n = true) :
    countDetected n detail s = s := by
  unfold countDetected
  obtain h | h := h
  · have hp : (s.power.phase == .awake) = false := by
      cases hp : s.power.phase <;> simp [State.asleep, hp] at h ⊢
    simp [h, hp]
  · have hn : 145 ≤ n := by
      simp [reservedSource] at h
      omega
    rw [if_neg (by simp; omega), if_neg (by simp; omega)]

theorem countDetected_frame (n : Nat) (detail : BitVec 64) (s : State) : ∃ kci counters,
    countDetected n detail s = { s with kci := kci, counters := counters } := by
  unfold countDetected
  split
  · exact ⟨_, _, rfl⟩
  · split
    · rw [raiseEvent_frame]
      exact ⟨_, _, rfl⟩
    · exact ⟨_, _, rfl⟩

/-- The state in which a raise of source `n` is handled: the raise has been counted at its source, in the counters and in
the telemetry span. -/
def IsCounted (n : Nat) (s u : State) : Prop := ∃ kci counters thermal,
  u = { s with
    kci := kci, counters := counters, thermal := thermal
    safety := { s.safety with counts := mmod 0 s.safety.counts n (· + 1) } }

/-- A raise in an awake device is counted and then handled (R549). -/
theorem exec_faultSourceRaise_awake {s : State} {n : Fin 192} {named : Nat} {detail : BitVec 64}
    (hsup : supervises s = true) (hres : reservedSource n.val = false) (hawake : s.asleep = false) :
    ∃ u, IsCounted n.val s u ∧ exec (.faultSourceRaise n named detail) s = .next (handleRaise n.val named detail false u) := by
  obtain ⟨kci, counters, h⟩ := countDetected_frame n.val detail s
  have hhib : hibernating s = false := by
    cases hp : s.power.phase <;> simp_all [State.asleep, hibernating]
  have hraise (v : State) (hv : v = { s with kci := kci, counters := counters }) :
      ∃ u, IsCounted n.val s u ∧ raiseFault n.val named detail false v = handleRaise n.val named detail false u := by
    have h1 : hibernating v = false := by rw [hv]; exact hhib
    have h2 : v.asleep = false := by rw [hv]; exact hawake
    unfold raiseFault
    rw [hres, h1, h2]
    subst hv
    dsimp only
    split
    next hf => simp at hf
    · by_cases hn : n.val = 126
      · rw [if_neg Bool.false_ne_true, if_neg Bool.false_ne_true, if_pos hn]
        exact ⟨_, ⟨_, _, _, rfl⟩, rfl⟩
      · rw [if_neg Bool.false_ne_true, if_neg Bool.false_ne_true, if_neg hn]
        exact ⟨_, ⟨_, _, _, rfl⟩, rfl⟩
  obtain ⟨u, hu, he⟩ := hraise _ h
  refine ⟨u, hu, ?_⟩
  change execFaultSourceRaise n named detail s = _
  rw [execFaultSourceRaise, if_pos hsup, he]

section
variable {n : Nat} {s u : State} (h : IsCounted n s u)
include h

theorem IsCounted.severity (k : Nat) : severity u k = severity s k := by
  obtain ⟨_, _, _, rfl⟩ := h
  rfl

theorem IsCounted.mergeInto (k named sev : Nat) : mergeInto u k named sev = mergeInto s k named sev := by
  obtain ⟨_, _, _, rfl⟩ := h
  rfl

theorem IsCounted.counts_same : mgetD u.safety.counts n 0 = mgetD s.safety.counts n 0 + 1 := by
  obtain ⟨_, _, _, rfl⟩ := h
  simp [mmod, msetD, mgetD]

theorem IsCounted.counts_other {k : Nat} (hk : k ≠ n) : mgetD u.safety.counts k 0 = mgetD s.safety.counts k 0 := by
  obtain ⟨_, _, _, rfl⟩ := h
  simp [mmod, msetD, mgetD, mget_mset_other _ _ _ _ hk]

end

/-- A merged raise is counted as consequential in its reaction; the rest of the safety state but the records stays. -/
theorem mergeRaise_safety (r : Reaction) (n : Nat) (s : State) :
    let t := mergeRaise r n s
    t.safety.counts = s.safety.counts ∧ t.safety.logCount = s.safety.logCount ∧
    t.safety.reactions = s.safety.reactions.map (fun y => if y.recNo = r.recNo then
      { y with
        consequential := min (r.consequential + 1) 0xFFFF
        firstConseq := if r.firstConseq = 0xFFFF then n else r.firstConseq } else y) ∧
    t.safety.safeState = s.safety.safeState ∧ t.safety.faultN = s.safety.faultN := by
  refine ⟨rfl, rfl, ?_, rfl, rfl⟩
  simp [mergeRaise, State.onRecord]

/-- A report of a raise writes one log record, opens its interval and raises an event. -/
theorem reportNote_frame (n sev count : Nat) (detail : BitVec 64) (injected : Bool) (s : State) : ∃ kci log,
    reportNote n sev count detail injected s = { s with
      kci := kci
      safety := { s.safety with
        log := log, logCount := s.safety.logCount + 1, reports := mset s.safety.reports n ⟨s.time.fabric, 0, 0, false⟩ } } := by
  unfold reportNote
  dsimp only
  rw [raiseEvent_frame]
  exact ⟨_, _, rfl⟩

/-- What an S3 reaction leaves: the safe state with its marks, no commit and no reset, and a restart asked for unless an
S4 reaction holds (R549). -/
theorem react_s3 {recNo n target : Nat} {s t : State} (ht : react recNo n 3 target s = t) :
    (∃ reactions, t.safety = { s.safety with
      reactions := reactions, safeState := true, faultN := true, safeOk := false, restartPending := !s.safety.s4Held }) ∧
    t.coh.commit = none ∧ t.coh.resets = [] ∧ ∀ r, (t.radio r).paEn = false := by
  rw [react, if_neg (by decide), if_pos rfl] at ht
  obtain ⟨kci, reactions, coh, h, hresets⟩ := abandonResets_frame s
  have hmarks := enterSafeState_marks n false false (abandonResets s)
  revert ht hmarks
  generalize enterSafeState n false false (abandonResets s) = v
  rintro rfl ⟨hsafety, hcoh, hpa⟩
  refine ⟨⟨reactions, ?_⟩, ?_, ?_, hpa⟩
  · rw [State.onSafety_safety, hsafety, h]
  · rw [State.onSafety_coh, hcoh]
  · rw [State.onSafety_coh, hcoh, h]
    exact hresets

/-- The first raise at S3: its record is logged and latched, and then it reacts (R549, R553). -/
theorem reactRaise_s3_first {n target named : Nat} {detail : BitVec 64} {injected : Bool} {s : State}
    (h : s.safety.latch = none) : ∃ kci r q,
      r = { newRecord s n 3 0 detail injected with first := true, overflow := false } ∧
      reactRaise n 3 target named detail injected s = react s.safety.logCount.toNat n 3 0 { s with
        kci := kci
        safety := { s.safety with
          log := ((s.safety.logCount.toNat, r) :: s.safety.log).take 16, logCount := s.safety.logCount + 1, latch := some r
          latchNo := s.safety.logCount.toNat, springFirst := BitVec.ofNat 16 n, reactions := s.safety.reactions ++ [q] } } := by
  simp only [reactRaise, h, Option.isNone_none]
  exact ⟨_, _, _, rfl, rfl⟩

/-- After P a raise is held, and waits to wake the device (R409). -/
theorem raiseFault_entering {n named : Nat} {detail : BitVec 64} {s : State} (hres : reservedSource n = false)
    (hsev : reactSeverity s n named < 3) (hp : s.power.phase = .entering) :
    raiseFault n named detail false s = s.onPower fun p =>
      { p with
        held := s.power.held ++ [⟨n, named, detail, false, s.time.fabric, s.asn64, s.time.spring⟩]
        wakePending := some (p.wakePending.getD 6) } := by
  have hsev' (p : Power) : ¬ 3 ≤ reactSeverity { s with power := p } n named := Nat.not_le.mpr hsev
  have hhib : hibernating s = false := by simp [hibernating, hp]
  have hasleep : s.asleep = true := by simp [State.asleep, hp]
  simp only [raiseFault, hres, hhib, hasleep, wakeOnFault, State.onPower_power, hp]
  exact if_neg (hsev' _)

/-- In DOZE a raise is held, and wakes the device (R409). -/
theorem raiseFault_dozing {n named : Nat} {detail : BitVec 64} {s : State} (hres : reservedSource n = false)
    (hsev : reactSeverity s n named < 3) (hp : s.power.phase = .asleep) (hst : s.power.state = .doze) :
    raiseFault n named detail false s = s.onPower fun p =>
      { p with
        held := s.power.held ++ [⟨n, named, detail, false, s.time.fabric, s.asn64, s.time.spring⟩]
        phase := .waking, lastWake := 6, wakeAt := s.time.spring, refEn := true, wakePending := none
        commanded := false } := by
  have hsev' (p : Power) : ¬ 3 ≤ reactSeverity { s with power := p } n named := Nat.not_le.mpr hsev
  have hhib : hibernating s = false := by simp [hibernating, hst]
  have hasleep : s.asleep = true := by simp [State.asleep, hp]
  simp only [raiseFault, hres, hhib, hasleep, wakeOnFault, beginWake, State.onPower_power, hp, hst]
  refine (if_neg (hsev' _)).trans ?_
  simp [State.onPower]

/-! ### The counts of the sources -/

/-- The counts of the sources: no handling of a raise changes them. -/
def sourceCounts (s : State) : NMap Nat := s.safety.counts

theorem trafficBlind_sourceCounts : TrafficBlind sourceCounts :=
  ⟨fun _ _ => rfl, fun _ _ => rfl, fun _ _ => rfl, fun _ _ => rfl, fun _ _ => rfl, fun _ _ => rfl, fun _ _ => rfl, fun _ _ => rfl⟩

@[simp] theorem sourceCounts_onFn (s : State) (n : Nat) (f : FnState → FnState) : sourceCounts (s.onFn n f) = sourceCounts s :=
  rfl

theorem sourceCounts_endReaction (recNo : Nat) (s : State) : sourceCounts (endReaction recNo s) = sourceCounts s := by
  unfold endReaction
  split <;> rfl

theorem sourceCounts_clampOutputs (fn : Nat) (s : State) : sourceCounts (clampOutputs fn s) = sourceCounts s := by
  have hcut (r : Fin 3) (reason : Nat) (fate : CutFate) (t : State) : sourceCounts (cutRadio r reason fate t) = sourceCounts t :=
    trafficBlind_sourceCounts.cutRadio ..
  unfold clampOutputs
  split
  · rfl
  · split
    · exact (trafficBlind_sourceCounts.dropReception ..).trans (hcut ..)
    · split
      · exact foldl_keeps sourceCounts _ (fun _ _ => hcut ..) _ s
      · simp only [apply_ite sourceCounts]
        exact (ite_congr rfl (fun _ => rfl) fun _ => ite_self _).trans (ite_self _)

theorem sourceCounts_startReset (fn : Nat) (source : Option Nat) (s : State) :
    sourceCounts (startReset fn source s) = sourceCounts s := by
  have clamped : sourceCounts ((resetScope fn).foldl (fun s f =>
      (if s.enabled f then clampOutputs f s else s).onFn f fun x => { x with inReset := true }) s) = sourceCounts s :=
    foldl_keeps sourceCounts _ (fun _ _ => by
      simp only [sourceCounts_onFn, apply_ite sourceCounts, sourceCounts_clampOutputs, ite_self]) _ s
  have habandon (t : State) : sourceCounts (abandonCommit fn t) = sourceCounts t := by
    obtain ⟨_, h⟩ := abandonCommit_frame fn t
    rw [h]
    rfl
  unfold startReset
  dsimp only
  split
  · simp only [apply_ite sourceCounts, habandon]
    exact (ite_self _).trans clamped
  · exact clamped

theorem sourceCounts_react (recNo n sev target : Nat) (s : State) : sourceCounts (react recNo n sev target s) = sourceCounts s := by
  have hsafe (s4 hold : Bool) (t : State) : sourceCounts (enterSafeState n s4 hold (abandonResets t)) = sourceCounts t := by
    obtain ⟨_, _, _, h, -⟩ := abandonResets_frame t
    have hmarks := (enterSafeState_marks n s4 hold (abandonResets t)).1
    rw [sourceCounts, hmarks, h]
    rfl
  have hheld (l : List Nat) (t : State) :
      sourceCounts (l.foldl (fun s f => s.onFn f fun x => { x with held := true }) t) = sourceCounts t :=
    foldl_keeps sourceCounts _ (fun _ _ => sourceCounts_onFn ..) l t
  have hmarked (t : State) (f : Safety → Safety) (hf : ∀ x, (f x).counts = x.counts) :
      sourceCounts (t.onSafety f) = sourceCounts t := hf t.safety
  by_cases h2 : sev = 2
  · rw [react, if_pos h2]
    simp only [apply_ite sourceCounts, sourceCounts_endReaction, sourceCounts_startReset, ite_self]
  · by_cases h3 : sev = 3
    · rw [react, if_neg h2, if_pos h3]
      rw [hmarked, hsafe]
      exact fun _ => rfl
    · rw [react, if_neg h2, if_neg h3, sourceCounts_endReaction, hheld, hmarked, hsafe]
      exact fun _ => rfl

/-- No handling of a raise changes the counts of the sources. -/
theorem sourceCounts_handleRaise (n named : Nat) (detail : BitVec 64) (injected : Bool) (s : State) :
    sourceCounts (handleRaise n named detail injected s) = sourceCounts s := by
  have hreport (sev count : Nat) (t : State) : sourceCounts (reportNote n sev count detail injected t) = sourceCounts t := by
    obtain ⟨_, _, h⟩ := reportNote_frame n sev count detail injected t
    rw [h]
    rfl
  unfold handleRaise
  dsimp only
  split
  · rfl
  · split
    · unfold noteRaise
      split
      · exact hreport ..
      · split
        · exact hreport ..
        · rfl
    · unfold reactRaise
      rw [sourceCounts_react]
      simp only [apply_ite State.safety, sourceCounts, raiseEvent_safety, State.onSafety_safety, State.count_safety]
      split <;> rfl

/-! ### The three ways -/

/-- A raise that an open shadow window takes is merged. -/
theorem handleRaise_merges {n named : Nat} {detail : BitVec 64} {injected : Bool} {s : State} {r : Reaction}
    (h : mergeInto s n named (severity s n) = some r) : handleRaise n named detail injected s = mergeRaise r n s := by
  simp [handleRaise, h]

/-- A raise at S0 or S1 that is not merged and has no interval open is reported at once. -/
theorem handleRaise_reports {n named : Nat} {detail : BitVec 64} {injected : Bool} {s : State}
    (h : mergeInto s n named (severity s n) = none) (hsev : severity s n ≤ 1) (hrep : mget s.safety.reports n = none) :
    handleRaise n named detail injected s = reportNote n (severity s n) 1 detail injected s := by
  simp [handleRaise, h, hsev, noteRaise, hrep]

/-- A raise at S3 that is not merged reacts. -/
theorem handleRaise_reacts {n named : Nat} {detail : BitVec 64} {injected : Bool} {s : State}
    (h : mergeInto s n named (severity s n) = none) (hsev : severity s n = 3) :
    handleRaise n named detail injected s = reactRaise n 3 (resetTarget s n named) named detail injected s := by
  rw [hsev] at h
  simp [handleRaise, reactSeverity, h, hsev]

/-- Settles O52: a raise is counted (`exec_faultSourceRaise_awake`) and then merged, reported or reacted to; in a sleep it is
held. -/
theorem raisesAreHandledBySeverity : Obligations.RaisesAreHandledBySeverity := by
  intro s n named detail
  refine ⟨fun hsup => ?_, fun hsup hres => ?_, fun hsup hres hsev => ?_, fun hsup hres hawake => ?_⟩
  · change execFaultSourceRaise n named detail s = _
    simp [execFaultSourceRaise, hsup]
  · change execFaultSourceRaise n named detail s = _
    simp [execFaultSourceRaise, hsup, countDetected_idle (Or.inr hres), raiseFault, hres]
  · intro held
    have hexec (hasleep : s.asleep = true) :
        exec (.faultSourceRaise n named detail) s = .next (raiseFault n.val named detail false s) := by
      change execFaultSourceRaise n named detail s = _
      rw [execFaultSourceRaise, if_pos hsup, countDetected_idle (Or.inl hasleep)]
    refine ⟨fun hp => ?_, fun hp hst => ?_, fun hp hst => ?_⟩
    · rw [hexec (by simp [State.asleep, hp])]
      exact congrArg _ (raiseFault_entering hres hsev hp)
    · rw [hexec (by simp [State.asleep, hp])]
      exact ⟨_, congrArg _ (raiseFault_dozing hres hsev hp hst), rfl, rfl⟩
    · rw [hexec (by simp [State.asleep, hp])]
      simp [raiseFault, hibernating, hp, hst]
  · obtain ⟨u, hu, hexec⟩ := exec_faultSourceRaise_awake (named := named) (detail := detail) hsup hres hawake
    refine ⟨_, hexec, ?_⟩
    refine ⟨?_, fun k hk => ?_, fun r hr => ?_, fun hr hsev hrep => ?_, fun hr hsev hl => ?_⟩
    · rw [← hu.counts_same]
      exact congrArg (mgetD · n.val 0) (sourceCounts_handleRaise ..)
    · rw [← hu.counts_other hk]
      exact congrArg (mgetD · k 0) (sourceCounts_handleRaise ..)
    · rw [← hu.mergeInto, ← hu.severity] at hr
      rw [handleRaise_merges hr]
      obtain ⟨_, _, _, rfl⟩ := hu
      exact (mergeRaise_safety r n.val _).2
    · rw [← hu.mergeInto, ← hu.severity] at hr
      rw [← hu.severity] at hsev
      have hrep' : mget u.safety.reports n.val = none := by
        obtain ⟨_, _, _, rfl⟩ := hu
        exact hrep
      rw [handleRaise_reports hr hsev hrep']
      obtain ⟨_, _, h⟩ := reportNote_frame n.val (severity u n.val) 1 detail false u
      rw [h]
      obtain ⟨_, _, _, rfl⟩ := hu
      exact ⟨rfl, rfl, rfl, rfl, rfl, rfl, mget_mset_same .., rfl, rfl, rfl⟩
    · rw [← hu.mergeInto, ← hu.severity] at hr
      rw [← hu.severity] at hsev
      have hl' : u.safety.latch = none := by
        obtain ⟨_, _, _, rfl⟩ := hu
        exact hl
      rw [handleRaise_reacts hr hsev]
      obtain ⟨_, r, _, hrec, h⟩ := reactRaise_s3_first (n := n.val) (target := resetTarget u n.val named) (named := named)
        (detail := detail) (injected := false) hl'
      obtain ⟨⟨_, hsafety⟩, hcommit, hresets, hpa⟩ := react_s3 h.symm
      rw [hsafety]
      obtain ⟨_, _, _, rfl⟩ := hu
      refine ⟨rfl, ⟨r, rfl, ?_⟩, rfl, rfl, rfl, rfl, rfl, hcommit, hresets, hpa⟩
      subst hrec
      exact ⟨rfl, rfl, rfl, rfl, rfl, rfl⟩

end Sys2Proof.Machine

/-! ## Accesses of the host (O3, O5) -/

namespace Sys2Proof.Machine

/-- An access of the host while the device is awake acts at once. -/
theorem onHost_awake {s : State} (hon : blockOff s = false) (hawake : s.asleep = false) (a : HostAccess) :
    onHost s a = a.run (hostAccess s) := by
  simp [onHost, hon, hawake]

/-- An access of the host in DOZE wakes the device and is held. -/
theorem onHost_asleep {s : State} (hon : blockOff s = false) (hasleep : s.asleep = true) (a : HostAccess) :
    onHost s a = (hostAccess s).onPower fun p => { p with hostHeld := p.hostHeld ++ [a] } := by
  simp [onHost, hon, hasleep]

/-! ### Pointers (O3) -/

/-- A doorbell that ends at whole requests hands them over (R52). -/
theorem ringDoorbell_hands {m : Fin 4} {v : BitVec 9} {h : State} {rs : List Req} (hready : h.boot.ready = true)
    (herr : h.kci.mbx[m].error = false)
    (hle : (h.kci.mbx[m].reqTail - h.kci.mbx[m].reqHead).toNat ≤ (v - h.kci.mbx[m].reqHead).toNat)
    (hmax : (v - h.kci.mbx[m].reqHead).toNat ≤ 256)
    (hrs : readReqs h.kci.bar0 m.val
      ((v - h.kci.mbx[m].reqHead).toNat - (h.kci.mbx[m].reqTail - h.kci.mbx[m].reqHead).toNat)
      (h.kci.mbx[m].reqTail.toNat % 256)
      ((v - h.kci.mbx[m].reqHead).toNat - (h.kci.mbx[m].reqTail - h.kci.mbx[m].reqHead).toNat) = some rs) :
    ringDoorbell m v h = h.onMbx m fun x => { x with reqTail := v, waiting := x.waiting ++ rs } := by
  have hrange : ¬(256 < (v - h.kci.mbx[m].reqHead).toNat ∨
      (v - h.kci.mbx[m].reqHead).toNat < (h.kci.mbx[m].reqTail - h.kci.mbx[m].reqHead).toNat) := by omega
  simp only [ringDoorbell, hready, herr, hrs, Bool.not_true, Bool.or_self, Bool.false_eq_true, if_false]
  rw [if_neg (by simpa using hrange)]

/-- A release of whole responses, with none held back, moves the head past them (R52). -/
theorem advanceRsp_releases {m : Fin 4} {v : BitVec 9} {h : State} {l : List Nat}
    (hle : (v - h.kci.mbx[m].rspHead).toNat ≤ rspUsed h.kci.mbx[m])
    (hl : releaseRsp h.kci.mbx[m].rspOut (v - h.kci.mbx[m].rspHead).toNat = some l) (hheld : h.kci.mbx[m].rspHeld = []) :
    advanceRsp m v h = h.onMbx m fun x => { x with rspHead := v, rspOut := l } := by
  simp only [advanceRsp, hl, hheld, flushRsp]
  exact if_neg (Nat.not_lt.mpr hle)

/-- A move of EVT_HEAD within the ring, with no record dropped, stores it (R74). -/
theorem advanceEvt_stores {v : BitVec 11} {h : State} (hle : (v - h.kci.evtHead).toNat ≤ evtUsed h.kci)
    (hdrop : h.kci.droppedSince = 0) : advanceEvt v h = { h with kci := { h.kci with evtHead := v } } := by
  simp only [advanceEvt, if_neg (Nat.not_lt.mpr hle)]
  simp [hdrop, State.onKci]

/-- Settles O3: each write moves its own pointer (`ringDoorbell_hands`, `advanceRsp_releases`, `advanceEvt_stores`), and a
reset acts on its mailbox alone. -/
theorem hostPointerWrites : Obligations.HostPointerWrites := by
  intro s m hon hawake h b
  refine ⟨fun value rs hready herr hle hmax hrs => ?_, fun value l hle hl hheld => ?_, fun value hbit => ?_,
    fun value hle hdrop => ?_⟩
  · exact congrArg Host.Outcome.next ((onHost_awake hon hawake _).trans (ringDoorbell_hands hready herr hle hmax hrs))
  · exact congrArg Host.Outcome.next ((onHost_awake hon hawake _).trans (advanceRsp_releases hle hl hheld))
  · have hreset : onHost s (.control m value) = resetMbx m h := by
      rw [onHost_awake hon hawake]
      simp [HostAccess.run, mbxControl, hbit, h]
    refine ⟨resetMbx m h, congrArg Host.Outcome.next hreset, rfl, ?_, fun n hn => ?_, fun e he => ?_, rfl, rfl, rfl, rfl⟩
    · simp [resetMbx, State.onKci]
    · simp [resetMbx, State.onKci, Vector.getElem_set_ne, Fin.val_ne_of_ne hn.symm]
    · simp [resetMbx, State.onKci, Option.filter_eq_some_iff] at he
      exact he.2
  · rw [exec_evtHeadWrite_awake value hon hawake, advanceEvt_stores hle hdrop]

/-! ### Interrupts -/

/-- With legacy interrupts no message is sent. -/
theorem sendMsix_legacy {k : Kci} (h : k.intMode = false) : sendMsix k = k := by
  simp [sendMsix, h]

/-- With MSI-X in use the message of an active vector that is armed, elapsed and not masked, with none held back, goes out
and disarms it (R76). -/
theorem sendMsix_sends {k : Kci} {v : Fin 32} {x : Vec} (hx : k.vecs[v] = x) (hmode : k.intMode = true)
    (hen : k.globalEn = true) (hactive : vecActive k v.val = true) (hpba : x.pba = false) (harmed : x.armed = true)
    (helapsed : x.elapsed = true) (hmasked : x.masked = false) :
    (sendMsix k).vecs[v] = { x.send with armed := false } := by
  rw [Fin.getElem_fin] at *
  simp [sendMsix, hx, hmode, hen, hactive, hpba, harmed, helapsed, hmasked]

/-- A bit of a word of 256 bits with ones of one of its 32-bit words cleared. -/
theorem getLsbD_clearWord (p : BitVec 256) (v : BitVec 32) (k : Fin 8) {n : Nat} (hn : n < 256) :
    (p &&& ~~~(v.setWidth 256 <<< (32 * k.val))).getLsbD n =
      (p.getLsbD n && !(decide (n / 32 = k.val) && v.getLsbD (n % 32))) := by
  simp only [BitVec.getLsbD_and, BitVec.getLsbD_not, BitVec.getLsbD_shiftLeft, BitVec.getLsbD_setWidth, hn, decide_true,
    Bool.true_and]
  congr 2
  by_cases hk : n / 32 = k.val
  · have h1 : ¬ n < 32 * k.val := by omega
    have h2 : n - 32 * k.val = n % 32 := by omega
    have h3 : n % 32 < 256 := by omega
    simp [hk, h1, h2, h3]
  · by_cases h1 : n < 32 * k.val
    · simp [hk, h1]
    · have h2 : 32 ≤ n - 32 * k.val := by omega
      simp [hk, BitVec.getLsbD_of_ge _ _ h2]

/-- INT_PENDING_CLEAR changes the pending bits that it names and what MSI-X keeps of its vectors. -/
theorem clearPending_frame (k : Nat) (v : BitVec 32) (h : State) : ∃ vecs,
    clearPending k v h = { h with kci := { h.kci with
      intPending := h.kci.intPending &&& ~~~(v.setWidth 256 <<< (32 * k)), vecs := vecs } } ∧
    (h.kci.intMode = false → vecs = h.kci.vecs) := by
  simp only [clearPending, State.onKci]
  rw [sendMsix_frame]
  exact ⟨_, rfl, fun hmode => by rw [sendMsix_legacy (by exact hmode)]⟩

/-- INT_VEC_EOI with legacy interrupts arms the vectors that it names, and no others (R44). -/
theorem rearm_legacy {v : BitVec 32} {h : State} (hmode : h.kci.intMode = false) :
    rearm v h = { h with kci := { h.kci with
      vecs := h.kci.vecs.mapIdx fun i x => if v.getLsbD i then { x with armed := true } else x } } := by
  simp only [rearm, State.onKci]
  rw [sendMsix_legacy (by exact hmode)]

theorem writeDbg_low (v : BitVec 32) (h : State) : writeDbg false v h = { h with kci := { h.kci with
    dbgLo := v &&& 0xFFFFF000
    dbgMap := if h.kci.dbgOpen then dbgBase { h.kci with dbgLo := v &&& 0xFFFFF000 } else h.kci.dbgMap } } := by
  cases hopen : h.kci.dbgOpen <;> simp [writeDbg, State.onKci, hopen]

theorem writeDbg_high (v : BitVec 32) (h : State) : writeDbg true v h = { h with kci := { h.kci with
    dbgHi := v &&& 0xFF
    dbgMap := if h.kci.dbgOpen then dbgBase { h.kci with dbgHi := v &&& 0xFF } else h.kci.dbgMap } } := by
  cases hopen : h.kci.dbgOpen <;> simp [writeDbg, State.onKci, hopen]

/-! ### Ring indexes, the SPI port and plain registers -/

/-- RING_HOST_IDX of a disabled ring is stored (log entry 97). -/
theorem advanceRing_disabled {r : Fin 16} {v : BitVec 13} {bufs : List Bytes} {h : State}
    (hen : ringEnabled h.coh.active r.val = false) :
    advanceRing r v bufs h = h.onKci fun k => { k with ringHost := k.ringHost.set r v } := by
  simp [advanceRing, hen]

/-- A legal value of an enabled ring is stored, and the ring goes on (R77, R78). -/
theorem advanceRing_legal {r : Fin 16} {v : BitVec 13} {bufs : List Bytes} {h t : State}
    (ht : t = h.onKci fun k => { k with ringHost := k.ringHost.set r v })
    (hen : ringEnabled h.coh.active r.val = true) (hv : v.toNat % 4096 < ringSize h.coh.active r.val)
    (hold : ringHanded h r ≤ ringHanded t r) (hmax : ringHanded t r ≤ ringSize h.coh.active r.val)
    (hlink : linkDown h = false) :
    advanceRing r v bufs h = if r.val < 8 then pumpRing r h.kci.ringWait.length t else takeFrames r (ringOwned t r) bufs t := by
  have hlink' : linkDown t = false := by rw [ht]; exact hlink
  have hwait : t.kci.ringWait = h.kci.ringWait := by rw [ht]; rfl
  simp only [advanceRing, hen, ← ht, hlink', hwait]
  rw [if_neg (by decide), if_neg (by simp; omega), if_neg (by decide)]

/-- An SPI write transaction at a whole register or in memory writes its data bytes (R40). -/
theorem spiRun_write {a2 a1 a0 : Byte} {data : Bytes} {h : State}
    (hreg : isReg (beNat [a2, a1, a0]) = false ∨ beNat [a2, a1, a0] % 4 = 0) :
    spiRun (0x02 :: a2 :: a1 :: a0 :: data) h = spiWrite data (beNat [a2, a1, a0]) (Config.freeValue h.freeCount) h := by
  have hword : (beNat [a2, a1, a0] % 4 != 0 && isReg (beNat [a2, a1, a0])) = false := by
    obtain h | h := hreg <;> simp [h]
  have hslice : slice (0x02 :: a2 :: a1 :: a0 :: data) 1 3 = [a2, a1, a0] := by simp [slice]
  have hop : u8 (0x02 :: a2 :: a1 :: a0 :: data) 0 = 0x02 := rfl
  have hlen : ¬(0x02 :: a2 :: a1 :: a0 :: data).length < 4 := Nat.not_lt.mpr (Nat.le_add_left 4 data.length)
  simp only [spiRun, hslice, hop, hword, State.free, if_neg hlen, if_true, Bool.false_eq_true, if_false, List.drop_succ_cons,
    List.drop_zero]

/-- An SPI read transaction shifts out the bytes read (R40). -/
theorem spiRun_read {a2 a1 a0 d0 d1 : Byte} {data : Bytes} {h : State} :
    spiRun (0x0B :: a2 :: a1 :: a0 :: d0 :: d1 :: data) h =
      (spiRead data.length (beNat [a2, a1, a0]) h).2.onKci fun k =>
        { k with spiOut := (spiRead data.length (beNat [a2, a1, a0]) h).1 } := by
  have hslice : slice (0x0B :: a2 :: a1 :: a0 :: d0 :: d1 :: data) 1 3 = [a2, a1, a0] := by simp [slice]
  have hop : u8 (0x0B :: a2 :: a1 :: a0 :: d0 :: d1 :: data) 0 = 0x0B := rfl
  have hlen : ¬(0x0B :: a2 :: a1 :: a0 :: d0 :: d1 :: data).length < 4 :=
    Nat.not_lt.mpr (Nat.le_add_left 4 (data.length + 2))
  simp only [spiRun, hslice, hop, if_neg hlen]
  rfl

/-- A host write of a plain register takes place at the register's offset. -/
theorem writePlainMap_register {a : Nat} {v : BitVec 32} {h : State} (ha : a < 0x1000) (hword : a / 4 * 4 = a) :
    writePlainMap a v h = writePlainReg a v h := by
  rw [writePlainMap, if_pos (by simp [isReg, ha]), if_pos ha, hword]

/-- With legacy interrupts a write of INT_ENABLE stores its word. -/
theorem writePlainReg_intEnable {o k : Nat} {v : BitVec 32} {h : State} (hmode : h.kci.intMode = false)
    (ho : o = 0x430 + 4 * k) (hk : k < 8) :
    writePlainReg o v h = { h with kci := { h.kci with intEnable := setWord h.kci.intEnable k v } } := by
  have h1 : ¬ o = 0x400 := by omega
  have h2 : 0x430 ≤ o ∧ o < 0x450 := by omega
  have h3 : (o - 0x430) / 4 = k := by omega
  clear ho
  simp only [writePlainReg, State.onKci, if_neg h1, h2, h3, decide_true, Bool.and_self, if_true]
  rw [sendMsix_legacy (by exact hmode)]

/-- A write of a vector's holdoff stores its defined bits. -/
theorem writePlainReg_holdoff {o : Nat} {i : Fin 32} {v : BitVec 32} {h : State} (ho : o = 0x600 + 4 * i.val) :
    writePlainReg o v h =
      { h with kci := { h.kci with vecs := h.kci.vecs.set i { h.kci.vecs[i] with holdoff := v.setWidth 10 } } } := by
  have h1 : ¬ o = 0x400 := by omega
  have h2 : ¬ o < 0x450 := by omega
  have h3 : ¬ o < 0x600 := by omega
  have h4 : 0x600 ≤ o ∧ o < 0x680 := by omega
  have hi : Fin.ofNat 32 ((o - 0x600) / 4) = i := Fin.ext (by simp; omega)
  clear ho
  simp only [writePlainReg, State.onKci, if_neg h1, h2, h3, h4, hi, decide_true, decide_false, Bool.and_false, Bool.and_self,
    Bool.false_eq_true, if_false, if_true]

/-- A core that runs a context stores the scheduler arguments that it writes. -/
theorem exec_registerWrite_sched {c : Fin 8} {ctx : Holder} {a : Nat} {v : BitVec 32} {s : State}
    (hctx : schedCtx s c = some ctx) (ha : 0x14000000 < a) :
    exec (.registerWrite (.core c) a v) s = .next (setRegs ctx (fun r =>
      if a = 0x14000004 then { r with arg0 := v }
      else if a = 0x14000008 then { r with arg1 := v }
      else if a = 0x1400000C then { r with arg2 := v }
      else r) s) := by
  have hon : coreOff s (.core c) = false := by
    cases hoff : coreOff s (.core c) with
    | false => rfl
    | true =>
      simp [coreOff] at hoff
      simp [schedCtx, hoff] at hctx
  have h0 : a ≠ 0x14000000 := by omega
  change execRegisterWrite (.core c) a v s = _
  simp only [execRegisterWrite, hon, writePhysReg, hctx]
  rw [if_neg (by decide), if_neg (by simp; omega), if_neg (by simp; omega)]
  simp [h0]

/-- Settles O5: accesses in DOZE are held (`onHost_asleep`), others act at once (`onHost_awake`), each by the rule of its
register. -/
theorem registersOfTheHostBlock : Obligations.RegistersOfTheHostBlock := by
  have now {s : State} (hon : blockOff s = false) (hawake : s.asleep = false) (a : HostAccess) :
      Host.Outcome.next (onHost s a) = (Host.Outcome.next (a.run (hostAccess s)) : Out) :=
    congrArg _ (onHost_awake hon hawake a)
  refine ⟨⟨fun s hon hasleep => ?_, fun s hon hawake => ?_⟩, fun s hon hawake => ?_⟩
  · have held (a : HostAccess) : (Host.Outcome.next (onHost s a) : Out) = _ := congrArg _ (onHost_asleep hon hasleep a)
    exact ⟨fun m v => ⟨held _, held _, held _⟩, fun v => ⟨held _, held _⟩, held _, fun k v => held _, fun high v => held _,
      fun r v bufs => held _, fun a v => held _⟩
  · intro h
    refine ⟨fun k value => ⟨_, now hon hawake (.intClear k value), ?_⟩,
      fun value hmode => ⟨_, now hon hawake (.eoi value), ?_⟩, fun v hmode => ?_,
      fun v hmode hen harmed hactive hmasked hpba => ⟨_, rfl, ?_, ?_⟩,
      ⟨_, now hon hawake .droppedRead, rfl, ?_, rfl⟩, fun value => ⟨_, now hon hawake (.dbgBase false value), ?_⟩,
      fun value => ⟨_, now hon hawake (.dbgBase true value), ?_⟩⟩
    · obtain ⟨_, heq, hvecs⟩ := clearPending_frame k.val value h
      rw [HostAccess.run, heq]
      exact ⟨rfl, hvecs, fun n hn => getLsbD_clearWord _ value k hn⟩
    · rw [HostAccess.run, rearm_legacy hmode]
      refine ⟨rfl, fun v => ?_⟩
      simp only [Fin.getElem_fin, Vector.getElem_mapIdx]
      cases value.getLsbD v.val <;> simp
    · change Host.Outcome.next (State.onKci _ _) = _
      rw [State.onKci, sendMsix_legacy (by exact hmode)]
    · rw [State.onKci, sendMsix_frame]
    · exact sendMsix_sends (x := { s.kci.vecs[v] with elapsed := true }) (by simp) hmode hen hactive hpba harmed rfl hmasked
    · change ((h.kci.dropped >>> 32).setWidth 32).toNat = _
      have hlt := h.kci.dropped.isLt
      rw [BitVec.toNat_setWidth, BitVec.toNat_ushiftRight, Nat.shiftRight_eq_div_pow]
      omega
    · rw [HostAccess.run, writeDbg_low]
      exact ⟨rfl, rfl, rfl, rfl⟩
    · rw [HostAccess.run, writeDbg_high]
      exact ⟨rfl, rfl, rfl, rfl⟩
  · intro h
    refine ⟨fun r value bufs => ⟨fun hen => ?_, fun hen hv hold hmax hlink => ?_⟩, fun a2 a1 a0 data hsel => ?_,
      fun k value hmode => ?_, fun v value => ?_, fun c ctx value hctx => ⟨?_, ?_, ?_⟩⟩
    · exact (now hon hawake _).trans (congrArg _ (advanceRing_disabled hen))
    · exact (now hon hawake _).trans (congrArg _ (advanceRing_legal rfl hen hv hold hmax hlink))
    · have hspi (mosi : Bytes) : exec (.spiTransaction mosi) s = .next (spiRun mosi h) := by
        change execSpiTransaction mosi s = _
        simp [execSpiTransaction, hsel, hon, hawake, h]
      exact ⟨fun hreg => (hspi _).trans (congrArg _ (spiRun_write hreg)), fun d0 d1 => (hspi _).trans (congrArg _ spiRun_read)⟩
    · refine (now hon hawake (.write _ _)).trans (congrArg _ ?_)
      rw [HostAccess.run, writePlainMap_register (by omega) (by omega)]
      exact writePlainReg_intEnable hmode rfl k.isLt
    · refine (now hon hawake (.write _ _)).trans (congrArg _ ?_)
      rw [HostAccess.run, writePlainMap_register (by omega) (by omega)]
      exact writePlainReg_holdoff rfl
    · simpa using exec_registerWrite_sched (v := value) hctx (a := 0x14000004) (by decide)
    · simpa using exec_registerWrite_sched (v := value) hctx (a := 0x14000008) (by decide)
    · simpa using exec_registerWrite_sched (v := value) hctx (a := 0x1400000C) (by decide)

end Sys2Proof.Machine

/-! ## Commands of the interface

What a taken command does follows from the reply of its own meaning (R55, R56). -/

namespace Sys2Proof.Machine

section
variable {s u : State} {op : Nat} {m : Fin 4} {req : Req} {buf : Bytes} {f : Meaning}

/-- A taken command that has its effect without a body is answered with RC_OK. -/
theorem taken_ok (h : Taken s op m req) (hf : f (takeReq m req s) m req (fullBody req buf) = ok u) :
    (.next (runKci op buf f s) : Out) = .next (respond m req rcOk 0 [] u) := by
  rw [runKci_taken h, hf, ok, deliver_bare]

/-- A taken command that answers with a reason alone is answered with it. -/
theorem taken_done {rc d : Nat} (h : Taken s op m req)
    (hf : f (takeReq m req s) m req (fullBody req buf) = .done u rc d [] []) :
    (.next (runKci op buf f s) : Out) = .next (respond m req rc d [] u) := by
  rw [runKci_taken h, hf, deliver_bare]

/-- A taken command that its own rules refuse is answered with their reason. -/
theorem taken_refuse {rc d : Nat} {b : Bytes} (h : Taken s op m req)
    (hf : f (takeReq m req s) m req (fullBody req buf) = .refuse rc d b) :
    (.next (runKci op buf f s) : Out) = .next (respond m req rc d b (takeReq m req s)) := by
  rw [runKci_taken h, hf, deliver_refuse]

/-- A taken command whose response follows later stays in execution. -/
theorem taken_defer (h : Taken s op m req) (hf : f (takeReq m req s) m req (fullBody req buf) = .defer u) :
    (.next (runKci op buf f s) : Out) = .next (u.onKci fun k => { k with executing := some ⟨m, req⟩ }) := by
  rw [runKci_taken h, hf, deliver]

/-- A taken command whose body fits answers with it. -/
theorem taken_answers {fixed var : Bytes} (h : Taken s op m req)
    (hf : f (takeReq m req s) m req (fullBody req buf) = .done u rcOk 0 fixed var) (hfits : ResponseFits req fixed var) :
    ∃ t, (.next (runKci op buf f s) : Out) = .next t ∧ AnswersOk m req fixed var u t := by
  rw [runKci_taken h, hf]
  exact ⟨_, rfl, deliver_fits hfits ..⟩

end

theorem field_u8 (b : Bytes) (o : Nat) : field b o 1 = u8 b o := rfl
theorem field_u16 (b : Bytes) (o : Nat) : field b o 2 = u16 b o := rfl
theorem field_u32 (b : Bytes) (o : Nat) : field b o 4 = u32 b o := rfl

@[simp] theorem takeReq_asn64 (m : Fin 4) (req : Req) (s : State) : (takeReq m req s).asn64 = s.asn64 := by
  rw [takeReq_frame]; rfl

/-! ## Snapshots and function resets (O8) -/

/-- A list of functions that exist, the device not among them, is not refused. -/
theorem snapCheck_passes {names : List Nat} (h : ∀ f ∈ names, knownFn f = true ∧ f ≠ 0) : snapCheck names = none := by
  rw [snapCheck, List.findSome?_eq_none_iff]
  intro f hf
  obtain ⟨hk, hz⟩ := h f hf
  simp [hk, hz]

/-- A snapshot of functions that exist answers the instant and their blocks (R69). -/
theorem snapshot_answers {f : State → Nat → Bytes} {s : State} {m : Fin 4} {req : Req} {body : Bytes}
    (h1 : 1 ≤ u8 body 0) (h16 : u8 body 0 ≤ 16) (hzero : field body 1 3 = 0) {names : List Nat}
    (hnames : names = (List.range (u8 body 0)).map fun i => u16 body (4 + 2 * i))
    (hknown : ∀ f ∈ names, knownFn f = true ∧ f ≠ 0) {blocks : Bytes}
    (hblocks : blocks = names.flatMap fun n => snapBlock s n (f s n)) (hlen : blocks.length + 24 ≤ 4064) :
    snapshot f s m req body = .done s rcOk 0
      (leBytes 8 s.time.fabric.toNat ++ leBytes 8 s.asn64.toNat ++ leBytes 8 s.time.spring.toNat) blocks := by
  have hfields : checkFields body [⟨0, 1, .range 1 16⟩, ⟨1, 3, .zero⟩] = none := by
    rw [checkFields_none]
    simp [checkField, field_u8, hzero, h1, h16]
  simp only [snapshot, hfields, ← hnames, snapCheck_passes hknown, ← hblocks]
  rw [if_neg (by omega)]

/-- A list of which a test finds no element, by a proof for each. -/
theorem find?_none_of_false {α : Type} {p : α → Bool} {l : List α} (h : ∀ a ∈ l, p a = false) : l.find? p = none := by
  simpa using h

/-- FUNCTION_RESET is accepted when nothing stands against it (R70, R72). -/
theorem exec_functionReset_accepts {s : State} {m : Fin 4} {req : Req} {buf : Bytes} (h : Taken s 0x0020 m req)
    (hres : resettable req.fn = true) (hsafe : s.safety.safeState = false)
    (hin : ∀ f ∈ resetScope req.fn, (takeReq m req s).inReset f = false)
    (hcommit : ∀ c, s.coh.commit = some c → ∀ f ∈ resetScope req.fn, f ∉ c.functions) :
    exec (.functionReset buf) s =
      .next ((startReset req.fn none (takeReq m req s)).onKci fun k => { k with executing := some ⟨m, req⟩ }) := by
  have hfree : ((takeReq m req s).coh.commit.bind fun c => (resetScope req.fn).find? c.functions.contains) = none := by
    rw [takeReq_coh]
    cases hc : s.coh.commit with
    | none => rfl
    | some c => exact find?_none_of_false fun f hf => by simpa using hcommit c hc f hf
  refine taken_defer h ?_
  simp only [hres, takeReq_safety, hsafe, find?_none_of_false hin, hfree]
  rfl

/-! ### A reset of a cipher page -/

/-- A page has no outputs to clamp. -/
theorem clampOutputs_page {fn : Nat} (hlo : 0x0720 ≤ fn) (hhi : fn ≤ 0x073F) (s : State) : clampOutputs fn s = s := by
  have hradio : radioOf fn = none := by
    rw [radioOf, if_neg (by omega), if_neg (by omega), if_neg (by omega)]
  rw [clampOutputs, if_neg (by simp; omega), hradio]
  simp only
  rw [if_neg (by omega), if_neg (by omega), if_neg (by omega)]

/-- A page has no members. -/
theorem resetScope_page {fn : Nat} (hlo : 0x0720 ≤ fn) (hhi : fn ≤ 0x073F) : resetScope fn = [fn] := by
  rw [resetScope, members, if_neg (by omega), if_neg (by omega), if_neg (by omega), if_neg (by omega)]

/-- The start of a page's reset marks the page and lists the job. -/
theorem startReset_page {fn : Nat} (hlo : 0x0720 ≤ fn) (hhi : fn ≤ 0x073F) (s : State) : startReset fn none s =
    (s.onFn fn fun x => { x with inReset := true }).onCoh fun c => { c with resets := c.resets ++ [⟨fn, none⟩] } := by
  simp only [startReset, resetScope_page hlo hhi, List.foldl, clampOutputs_page hlo hhi, ite_self]
  split
  · contradiction
  · rfl

/-- A function that is marked IN_RESET is in reset, and no other changes. -/
theorem fnState_markReset (fn : Nat) (s : State) :
    let t := s.onFn fn fun x => { x with inReset := true }
    t.inReset fn = true ∧ ∀ g, g ≠ fn → t.fnState g = s.fnState g := by
  have hne : ({ s.fnState fn with inReset := true } : FnState) ≠ FnState.reset := fun h => by
    have := congrArg FnState.inReset h
    simp [FnState.reset] at this
  have hset : (s.onFn fn fun x => { x with inReset := true }).coh.fns =
      mset s.coh.fns fn { s.fnState fn with inReset := true } := if_neg hne
  refine ⟨?_, fun g hg => ?_⟩
  · rw [State.inReset, State.fnState, hset, mgetD, mget_mset_same]
    rfl
  · rw [State.fnState, hset, mgetD, mget_mset_other _ _ _ _ hg]
    rfl

/-- Settles O8: each reply follows from the meaning of its command (`taken_answers`, `snapshot_answers`), and the start of a
page's reset is `startReset_page`. -/
theorem snapshotsAndFunctionResets : Obligations.SnapshotsAndFunctionResets := by
  refine ⟨fun s m req buf => ?_, fun s m req buf => ?_⟩
  · intro h body names instant
    have hinstant : leBytes 8 h.time.fabric.toNat ++ leBytes 8 h.asn64.toNat ++ leBytes 8 h.time.spring.toNat = instant := by
      simp only [h, takeReq_time, takeReq_asn64, instant]
    refine ⟨fun ht hfits => ?_, fun ht h1 h16 hzero hknown hlen hfits => ?_, fun ht h1 h16 hzero hknown hlen hfits => ?_,
      fun fixed var ht hres hinto hbody hfits => ?_⟩
    · refine taken_answers ht ?_ hfits
      simp only [takeReq_boot]
      rfl
    · exact taken_answers ht ((snapshot_answers h1 h16 hzero rfl hknown rfl hlen).trans (by rw [hinstant])) hfits
    · exact taken_answers ht ((snapshot_answers h1 h16 hzero rfl hknown rfl hlen).trans (by rw [hinstant])) hfits
    · refine taken_answers ht ?_ hfits
      have hres' : (u16 (fullBody req buf) 2 != 0) = false := by simpa using hres
      have hinto' : (!stagesInto (u16 (fullBody req buf) 0) req.fn) = false := by simpa using hinto
      simp only [takeReq_coh, hres', hinto']
      exact congrArg (fun o => match o with
        | none => no rcFieldRange
        | some (fixed, var) => Reply.done h rcOk 0 fixed var) hbody
  · refine ⟨exec_functionReset_accepts, fun fn j hj => ?_, fun fn hlo hhi => ?_⟩
    · change execFunctionResetComplete fn s = _
      rw [execFunctionResetComplete, hj]
    · rw [startReset_page hlo hhi]
      obtain ⟨hmark, hother⟩ := fnState_markReset fn s
      exact ⟨hmark, hother, rfl, rfl⟩

end Sys2Proof.Machine

/-! ## Staging and commits (O9, O10) -/

namespace Sys2Proof.Machine

/-- A response with a fixed part alone is delivered with it, inline or not. -/
theorem deliver_fixed {req : Req} {fixed : Bytes} (h : fixed.length ≤ 4064) (s0 u : State) (m : Fin 4) (rc d : Nat) :
    deliver s0 m req (.done u rc d fixed []) = respond m req rc d fixed u := by
  simp [deliver, Nat.not_lt.mpr h]

/-- A taken command that answers a fixed body is answered with it. -/
theorem taken_fixed {s u : State} {op : Nat} {m : Fin 4} {req : Req} {buf : Bytes} {f : Meaning} {fixed : Bytes} {rc d : Nat}
    (h : Taken s op m req) (hf : f (takeReq m req s) m req (fullBody req buf) = .done u rc d fixed [])
    (hlen : fixed.length ≤ 4064) : (.next (runKci op buf f s) : Out) = .next (respond m req rc d fixed u) := by
  rw [runKci_taken h, hf, deliver_fixed hlen]

/-- A taken staging command whose fields pass writes its part and is answered with RC_OK. -/
theorem taken_stage {s : State} {op op' sel idx : Nat} {m : Fin 4} {req : Req} {buf : Bytes} {fs : List FieldSpec}
    (h : Taken s op m req) (hfs : checkFields (fullBody req buf) fs = none) :
    (.next (runKci op buf (stageOne op' sel idx fs) s) : Out) =
      .next (respond m req rcOk 0 [] ((takeReq m req s).stage req.fn op' sel idx (fullBody req buf))) :=
  taken_ok h (stageOne_passes _ _ _ _ _ _ _ _ hfs)

/-- Settles O9: each staging command passes its checks (`taken_stage`), and the others do what they name (`taken_ok`). -/
theorem stagingCommandsOfTheInterface : Obligations.StagingCommandsOfTheInterface := by
  intro s m req buf
  dsimp only
  refine ⟨fun ht h0 h1 => ?_, fun ht h0 h1 h2 h2' h3 h4 => ?_, fun ht hpads => ?_, fun ht => ?_, fun ht h0 h1 hopen => ?_,
    fun hreq hop hs4 => ?_⟩
  · exact taken_stage ht (by simp [checkFields_none, checkField, field_u8, h0, h1])
  · refine taken_ok ht (stageOne_passes _ _ _ _ _ _ _ _ ?_)
    simp [checkFields_none, checkField, field_u8, field_u32, h0, h1, h2, h2', h3, h4]
  · have hpass : (fullBody req buf).findSome? padCheck = none := by
      rw [List.findSome?_eq_none_iff]
      intro b hb
      obtain ⟨hlt, hpull⟩ := hpads b hb
      simp [padCheck, bits, hlt, hpull]
    refine taken_ok ht ?_
    simp only [hpass]
  · exact taken_ok ht (by simp only [State.onCoh, takeReq_coh])
  · refine taken_ok ht ?_
    have hfields : checkFields (fullBody req buf) [⟨0, 1, .range 0 1⟩, ⟨1, 3, .zero⟩] = none := by
      simp [checkFields_none, checkField, field_u8, h0, h1]
    have hdbg : (takeReq m req s).kci.dbgOpen = s.kci.dbgOpen ∧ dbgBase (takeReq m req s).kci = dbgBase s.kci := by
      rw [takeReq_frame]
      exact ⟨rfl, rfl⟩
    have hopen' : (s.kci.dbgOpen == (u8 (fullBody req buf) 0 == 1)) = false := by simpa using hopen
    simp only [hfields, hdbg.1, hopen', Bool.false_eq_true, if_false, State.onKci, hdbg.2, beq_iff_eq]
  · change execBadOpcodeRequest s = _
    simp [execBadOpcodeRequest, hreq, hop, execute, commonCheck, headerCheck, hs4]

/-- The commit that is recorded for functions `fns` (R65). -/
def newCommit (s : State) (fns : List Nat) (b : Boundary) : Commit :=
  { functions := fns, image := imageOf s.coh.staged fns, boundary := b, targetGen := (nextGen s.coh.generation).toNat
    writes := s.coh.writes.filter fun e => fns.contains (e.1 / 256 * 256) }

/-- The state in which a commit of functions `fns` is pending. -/
def withCommit (s : State) (fns : List Nat) (b : Boundary) : State :=
  s.onCoh fun x =>
    { x with commit := some (newCommit s fns b), staged := if fns.contains 0x0700 then freezeMarks x.staged else x.staged }

/-- A commit whose result is consistent, at a boundary that may be taken, is recorded (R65, R66). -/
theorem commitChecked_records {s : State} {fns : List Nat} {kind asn : Nat} {b : Boundary}
    (hset : checkSet s (commitResult s.coh.active s.coh.staged fns) = none) (hb : takeBoundary s kind asn = .inl b) :
    commitChecked s fns kind asn = match b with
      | .now => .defer (withCommit s fns b)
      | .slot n => .done (withCommit s fns b) rcOk 0 (commitBody (nextGen s.coh.generation).toNat n 0) [] := by
  simp only [commitChecked, hset, hb]
  cases b <;> rfl

/-- A CONFIG_COMMIT whose fields and list pass, with nothing against its scope, comes to the check of its result. -/
theorem exec_configCommit_checked {s : State} {m : Fin 4} {req : Req} {buf : Bytes} {fns : List Nat}
    (ht : Taken s 0x0012 m req) (hkind : u8 (fullBody req buf) 0 ≤ 2) (hcount : u8 (fullBody req buf) 1 ≤ 64)
    (hres : u16 (fullBody req buf) 2 = 0) (hres' : u8 (fullBody req buf) 0 = 2 → u16 (fullBody req buf) 10 = 0)
    (hnames : namesCheck [] ((List.range (u8 (fullBody req buf) 1)).map fun i => u16 (fullBody req buf) (12 + 2 * i)) = none)
    (hnone : s.coh.commit = none) (hgen : req.expectsGen = true → req.expectGen = s.coh.generation.toNat)
    (hfns : commitScope (takeReq m req s)
      ((List.range (u8 (fullBody req buf) 1)).map fun i => u16 (fullBody req buf) (12 + 2 * i)) = fns)
    (hin : ∀ f ∈ fns, (takeReq m req s).inReset f = false) (hne : fns ≠ []) :
    exec (.configCommit buf) s = .next (deliver (takeReq m req s) m req
      (commitChecked (takeReq m req s) fns (u8 (fullBody req buf) 0) (leNat (slice (fullBody req buf) 4 6)))) := by
  have hfields : checkFields (fullBody req buf) ([⟨0, 1, .range 0 2⟩, ⟨1, 1, .range 0 64⟩, ⟨2, 2, .zero⟩]
      ++ if u8 (fullBody req buf) 0 = 2 then [⟨10, 2, .zero⟩] else []) = none := by
    rw [checkFields_none]
    split
    next h => simp [checkField, field_u8, field_u16, hcount, hres, hres' h, h]
    next h => simp [checkField, field_u8, field_u16, hkind, hcount, hres]
  have hgen' : (req.expectsGen && req.expectGen != s.coh.generation.toNat) = false := by
    cases he : req.expectsGen
    · rfl
    · simp [hgen he]
  have hempty : fns.isEmpty = false := by simpa using hne
  change (.next (runKci 0x0012 buf _ s) : Out) = _
  rw [runKci_taken ht]
  simp only [hfields, hnames, takeReq_coh, hnone, Option.isSome_none, hgen', hfns, find?_none_of_false hin, hempty,
    Bool.false_eq_true, if_false]

/-- Settles O10: a checked commit is recorded (`exec_configCommit_checked`, `commitChecked_records`); COMMIT_APPLY acts when the
boundary has come. -/
theorem commitAndCancel : Obligations.CommitAndCancel := by
  intro s m req buf h body kind names fns
  refine ⟨fun b ht hkind hcount hres hres' hnames hnone hgen hin hne hset hb => ?_, fun ht => taken_ok ht rfl, fun hnone => ?_,
    fun c hc hawake => ⟨fun hb => ?_, fun n hb hle hasn => ?_, fun n hb hlt => ?_⟩⟩
  · intro c t
    have hcoh : h.coh = s.coh := takeReq_coh ..
    have ht' : t = withCommit h fns b := by
      simp only [withCommit, newCommit, hcoh]
      rfl
    rw [exec_configCommit_checked ht hkind hcount hres hres' hnames hnone hgen rfl hin hne,
      commitChecked_records (b := b) (by rw [takeReq_coh]; exact hset) hb, takeReq_coh]
    cases b with
    | now => rw [ht']; rfl
    | slot n =>
      rw [ht']
      exact congrArg _ (deliver_fixed (by simp [commitBody, zeros]) ..)
  · change execCommitApply s = _
    rw [execCommitApply, hnone]
  · change execCommitApply s = _
    simp [execCommitApply, hc, hb, hawake]
  · change execCommitApply s = _
    simp [execCommitApply, hc, hb, hawake, hle, hasn]
  · change execCommitApply s = _
    simp [execCommitApply, hc, hb, hawake, Nat.not_le.mpr hlt]

end Sys2Proof.Machine

/-! ## Configuration of the link and of reception (O12) -/

namespace Sys2Proof.Machine

@[simp] theorem takeReq_enabled (m : Fin 4) (req : Req) (s : State) (fn : Nat) :
    (takeReq m req s).enabled fn = s.enabled fn := by
  rw [takeReq_frame]; rfl

@[simp] theorem takeReq_works (m : Fin 4) (req : Req) (s : State) (fn : Nat) :
    (takeReq m req s).works fn = s.works fn := by
  rw [takeReq_frame]; rfl

/-- Entries that all pass their fields refuse nothing. -/
theorem entries_pass {es : List Bytes} {fs : Bytes → List FieldSpec} (h : ∀ e ∈ es, checkFields e (fs e) = none) :
    (es.findSome? fun e => checkFields e (fs e)) = none := by
  rw [List.findSome?_eq_none_iff]
  exact h

/-- A list without repetition is distinct. -/
theorem distinct_of_nodup {l : List Nat} (h : l.Nodup) : distinct l = true := by
  induction l with
  | nil => rfl
  | cons x xs ih =>
    obtain ⟨hx, hxs⟩ := List.nodup_cons.mp h
    simp [distinct, hx, ih hxs]

/-- Settles O12: each command passes its checks and stages its part, its run or its header. -/
theorem linkAndReceptionConfiguration : Obligations.LinkAndReceptionConfiguration := by
  refine ⟨fun s m req buf => ?_, fun s m req buf => ?_⟩
  · dsimp only
    refine ⟨fun ht h0 h1 h4 h6 h8 h8' h12 h12' h16 h16' h20 h20' h32 h36 hon hoff h44 h45 h46 => ?_,
      fun ht h0 h1 h2 hnodup => ?_, fun ht h0 h1 h2 h3 h4 h4' h12 h16 hrun hcells => ?_,
      fun ht h6 h4 h4' hrun hes hfree => ?_, fun ht h6 h4 h4' hrun hfits => ?_, fun ht hen hrelay => ⟨fun hscan => ?_, fun hsearch => ?_⟩⟩
    · refine taken_ok ht (stageOne_passes _ _ _ _ _ _ _ _ ?_)
      by_cases hdev : u8 (fullBody req buf) 0 = 1
      · have h40 := hon hdev
        simp [checkFields_none, checkField, field_u8, field_u16, field_u32, hdev, h1, h4, h6, h8, h8', h12, h12', h16, h16', h20,
          h20', h32, h36, h40.symm, Nat.lt_succ_of_le h44, h45, h46]
      · have h40 := hoff (by omega)
        simp [checkFields_none, checkField, field_u8, field_u16, field_u32, hdev, h0, h1, h4, h6, h8, h8', h12, h12', h16, h16',
          h20, h20', h32, h36, h40, Nat.lt_succ_of_le h44, h45, h46]
    · refine taken_ok ht ?_
      have hfields : checkFields (fullBody req buf) [⟨0, 1, .range 0 7⟩, ⟨1, 1, .range 0 64⟩, ⟨2, 2, .zero⟩] = none := by
        simp [checkFields_none, checkField, field_u8, field_u16, h0, h1, h2]
      have hd : distinct (((fullBody req buf).drop 4).map BitVec.toNat) = true := distinct_of_nodup hnodup
      simp only [hfields, hd]
      rfl
    · refine taken_ok ht ?_
      have hfields : checkFields (fullBody req buf) [⟨0, 1, .range 0 7⟩, ⟨1, 1, .range 0 1⟩, ⟨2, 1, .range 0 7⟩, ⟨3, 1, .zero⟩,
          ⟨4, 4, .range 1 65536⟩, ⟨12, 4, .range 0 (if req.indirect then 65536 else 252)⟩,
          ⟨16, 4, .range 0 1048576⟩] = none := by
        simp [checkFields_none, checkField, field_u8, field_u32, h0, h1, h2, h3, h4, h4', h12, h16]
      simp only [hfields, if_neg (Nat.not_lt.mpr hrun), entries_pass hcells]
    · refine taken_ok ht ?_
      have hrange : ¬(u16 (fullBody req buf) 4 = 0 || (if req.indirect then 16384 else 63) < u16 (fullBody req buf) 4
          || 262144 < u32 (fullBody req buf) 0 + u16 (fullBody req buf) 4) = true := by
        simp only [Bool.or_eq_true, decide_eq_true_eq]
        omega
      have hwrites : (takeReq m req s).writesOf 0x0604 = s.writesOf 0x0604 := by rw [State.writesOf, takeReq_coh]; rfl
      simp only [h6, if_neg hrange, entries_pass (fs := fun _ => nbFields) hes, hwrites, if_neg (Nat.not_lt.mpr hfree)]
      rfl
    · refine taken_answers ht ?_ hfits
      have hrange : ¬(u16 (fullBody req buf) 4 = 0 || (if req.indirect then 16384 else 63) < u16 (fullBody req buf) 4
          || 262144 < u32 (fullBody req buf) 0 + u16 (fullBody req buf) 4) = true := by
        simp only [Bool.or_eq_true, decide_eq_true_eq]
        omega
      simp only [h6, if_neg hrange]
      rfl
    · refine taken_ok ht ?_
      simp [hen, hrelay, hscan]
    · refine taken_ok ht ?_
      simp [hen, hrelay, hsearch]
  · dsimp only
    refine ⟨fun ht hfields hes => ⟨fun hhead => ?_, fun hhead => ?_⟩, fun ht h0 h0' h1 h2 hth h18 hb h28 => ?_,
      fun ht hit h4 h4' h5 h6 h6' h8 h10 => ?_⟩
    · refine taken_ok ht ?_
      simp only [hfields, entries_pass hes, hhead]
      rfl
    · refine taken_ok ht ?_
      simp only [hfields, entries_pass hes, hhead]
      rfl
    · refine taken_stage ht ?_
      simp [checkFields_none, checkField, field_u8, field_u16, field_u32, byteFields, h0, h0', Nat.lt_succ_of_le h1, h2, h18, h28,
        or_imp, forall_and]
      exact ⟨hth, hb⟩
    · refine taken_stage ht ?_
      simp [checkFields_none, checkField, field_u8, field_u16, h4, h4', Nat.lt_succ_iff, h5, h6, h6', h8, h10, or_imp,
        forall_and]
      exact fun i hi => if_pos (hit i (Nat.lt_succ_of_le hi))

end Sys2Proof.Machine

/-! ## Loss of synchronisation (O13) -/

namespace Sys2Proof.Machine

/-- Settles O13: BEACON_MISSED branches on what the relay is doing, and a report of lost neighbours on their number. -/
theorem synchronisationEvents : Obligations.SynchronisationEvents := by
  intro s
  refine ⟨fun hworks hrelay n hasn => ?_, fun hlost => ?_, fun hlost => ?_⟩
  · have hcond : (s.works linkFn && linkRelay s.coh.active && s.time.asn.isSome) = true := by
      simp [hworks, hrelay, hasn]
    intro h
    refine ⟨fun hsync => ?_, fun hsync hlt => ?_, fun hsync hge => ?_, fun hsync => ?_⟩ <;>
      change execBeaconMissed s = _ <;> rw [execBeaconMissed, if_pos hcond] <;> simp only [State.count_link, hsync]
    · simp only [State.count_time, State.onLink_time, State.count_coh, State.onLink_coh, hasn, Option.getD_some]
      rfl
    · rw [if_neg (by simp only [State.onLink_link, State.count_link]; omega)]
      rfl
    · rw [if_pos (by simp only [State.onLink_link, State.count_link]; omega)]
      rfl
    · rfl
  · change execNeighbourLostSyncReport s = _
    simp [execNeighbourLostSyncReport, hlost]
  · change execNeighbourLostSyncReport s = _
    simp [execNeighbourLostSyncReport, hlost]

end Sys2Proof.Machine

/-! ## Gains, power and changes of radios (O15) -/

namespace Sys2Proof.Machine

/-- Settles O15: where the conditions of an event hold, it does what its rule says. -/
theorem gainsPowerAndChangesOfRadios : Obligations.GainsPowerAndChangesOfRadios := by
  refine ⟨fun s r w => ?_, fun s r => ?_⟩
  · dsimp only
    have hwin (hen : s.enabled (radioFn r) = true) (hw : w.val < windowCount s.coh.active r.val) :
        (s.enabled (radioFn r) && decide (w.val < windowCount s.coh.active r.val)) = true := by simp [hen, hw]
    refine ⟨fun hopen hauto hspaced hgain => ?_, fun hopen => ⟨fun hgain => ?_, fun hgain hcell => ?_⟩,
      fun hen hw => ⟨fun level calibrated hfree => ⟨fun hin => ?_, fun hout => ?_⟩, fun hlate => ?_⟩⟩
    · change execAgcClipStep r w s = _
      cases ht : (s.radio r).windows[w].clipAt with
      | none => simp [-Fin.getElem_fin, execAgcClipStep, hopen, hauto, hgain, ht]
      | some t =>
        simp [-Fin.getElem_fin, -BitVec.toNat_sub, execAgcClipStep, hopen, hauto, hgain, ht, hspaced t ht]
    · change execAgcPinned r w false s = _
      simp [-Fin.getElem_fin, execAgcPinned, hopen, hgain, flag]
    · change execAgcPinned r w true s = _
      simp [-Fin.getElem_fin, execAgcPinned, hopen, hgain, hcell, flag]
    · change execTestToneInject r w level calibrated s = _
      simp [execTestToneInject, hwin hen hw, hfree, hin]
    · change execTestToneInject r w level calibrated s = _
      simp [execTestToneInject, hwin hen hw, hfree, Nat.not_le.mpr hout]
    · change execLatentTestLate r w s = _
      cases ht : (s.radio r).windows[w].toneAt with
      | none => simp [-Fin.getElem_fin, execLatentTestLate, hwin hen hw, ht]
      | some t => simp [-Fin.getElem_fin, -BitVec.toNat_sub, execLatentTestLate, hwin hen hw, ht, hlate t ht]
  · refine ⟨fun hen hoff hawake => ?_, fun hon hsynth hworks => ?_, fun hon => ?_,
      fun hon hawake hauto hneed hsoon hbg hhost hchange => ?_, fun htr => ?_, fun c hc hwork htwin => ?_⟩
    · change execRadioPowerUp r s = _
      simp [execRadioPowerUp, hen, hoff, hawake, powerRadio]
    · change execRetuneStart (.need r) s = _
      simp [execRetuneStart, retunePowered, hon, hsynth, hworks]
    · change execRxActiveAssert r s = _
      simp [execRxActiveAssert, hon]
    · change execRadioPowerDown r s = _
      simp [execRadioPowerDown, hon, hawake, hauto, hneed, hsoon, hbg, hhost, hchange, unpowerRadio]
    · change execBlankingEnd r s = _
      simp [execBlankingEnd, htr]
    · change execRadioChangeStart r s = _
      simp [execRadioChangeStart, hc, hwork, htwin]

end Sys2Proof.Machine

/-! ## Bits set and cleared -/

namespace Sys2Proof.Machine

theorem bit_eq_testBit (v i : Nat) : bit v i = v.testBit i := by
  rw [bit, Nat.testBit_eq_decide_div_mod_eq]
  rfl

/-- A power of two added where its bit is clear sets that bit and no other. -/
theorem testBit_add_pow {v i : Nat} (h : v.testBit i = false) (j : Nat) :
    (v + 2 ^ i).testBit j = (decide (j = i) || v.testBit j) := by
  rw [Nat.add_comm]
  obtain hlt | rfl | hgt := Nat.lt_trichotomy j i
  · rw [Nat.testBit_two_pow_add_gt hlt, decide_eq_false (by omega), Bool.false_or]
  · simp [Nat.testBit_two_pow_add_eq, h]
  · have hdiv : (2 ^ i + v) / 2 ^ i = v / 2 ^ i + 1 := by
      rw [Nat.add_comm, Nat.add_div_right _ (Nat.two_pow_pos i)]
    have heven : v / 2 ^ i % 2 = 0 := by
      rw [Nat.testBit_eq_decide_div_mod_eq] at h
      have := of_decide_eq_false h
      omega
    have hhigh : (2 ^ i + v) / 2 ^ (i + 1) = v / 2 ^ (i + 1) := by
      rw [Nat.pow_succ, ← Nat.div_div_eq_div_mul, ← Nat.div_div_eq_div_mul, hdiv]
      omega
    obtain ⟨d, rfl⟩ := Nat.exists_eq_add_of_lt hgt
    rw [decide_eq_false (by omega), Bool.false_or, show i + d + 1 = d + (i + 1) by omega, Nat.testBit_add, hhigh, ← Nat.testBit_add]

/-- `withBit` gives its bit the value and leaves the others. -/
theorem testBit_withBit (v i j : Nat) (x : Bool) : (withBit v i x).testBit j = if j = i then x else v.testBit j := by
  unfold withBit
  rw [bit_eq_testBit]
  by_cases hx : v.testBit i = x
  · rw [if_pos (by simpa using hx)]
    split
    next h => rw [h, hx]
    · rfl
  · rw [if_neg (by simpa using hx)]
    cases x with
    | true => simp [testBit_add_pow (Bool.eq_false_iff.mpr hx)]
    | false =>
      have hset : v.testBit i = true := by simpa using hx
      have hge : 2 ^ i ≤ v := Nat.ge_two_pow_of_testBit hset
      obtain ⟨u, rfl⟩ := Nat.exists_eq_add_of_le' hge
      have hu : u.testBit i = false := by
        rw [Nat.add_comm, Nat.testBit_two_pow_add_eq] at hset
        simpa using hset
      rw [testBit_add_pow hu, if_neg Bool.false_ne_true, Nat.add_sub_cancel]
      by_cases h : j = i <;> simp [h, hu]

/-- A byte with the bits that a mask names given values. -/
def driveBits (mask value : Nat → Bool) (v : BitVec 8) : BitVec 8 :=
  (List.range 8).foldl (fun v i => if mask i then BitVec.ofNat 8 (withBit v.toNat i (value i)) else v) v

/-- Bits given values one after another, where a mask names them. -/
theorem getLsbD_foldl_withBit (mask value : Nat → Bool) (l : List Nat) (j : Nat) (hj : j < 8) : ∀ v : BitVec 8,
    (l.foldl (fun v i => if mask i then BitVec.ofNat 8 (withBit v.toNat i (value i)) else v) v).getLsbD j =
      if j ∈ l ∧ mask j = true then value j else v.getLsbD j := by
  induction l with
  | nil => simp
  | cons i l ih =>
    intro v
    rw [List.foldl_cons, ih]
    by_cases hl : j ∈ l ∧ mask j = true
    · rw [if_pos hl, if_pos ⟨List.mem_cons_of_mem _ hl.1, hl.2⟩]
    · rw [if_neg hl]
      split
      next hm =>
        simp only [BitVec.getLsbD_ofNat, hj, decide_true, Bool.true_and, testBit_withBit, BitVec.testBit_toNat]
        by_cases hji : j = i
        · subst hji
          simp [hm]
        · simp only [hji, if_false, List.mem_cons, false_or, hl]
      next hm =>
        by_cases hji : j = i
        · subst hji
          simp [hm]
        · simp only [hji, List.mem_cons, false_or, hl, if_false]

/-- The bits that the mask names take their values, the others stay. -/
theorem getLsbD_driveBits (mask value : Nat → Bool) (v : BitVec 8) {j : Nat} (hj : j < 8) :
    (driveBits mask value v).getLsbD j = if mask j = true then value j else v.getLsbD j := by
  rw [driveBits, getLsbD_foldl_withBit mask value _ j hj]
  simp [hj]

end Sys2Proof.Machine

/-! ## Commands of the radios (O16) -/

namespace Sys2Proof.Machine

@[simp] theorem takeReq_radio (m : Fin 4) (req : Req) (s : State) (r : Fin 3) : (takeReq m req s).radio r = s.radio r := by
  rw [takeReq_frame]; rfl

/-- A change of a radio depends on what it makes of the present radio alone. -/
theorem State.onRadio_congr {s : State} {r : Fin 3} {f g : Radio → Radio} (h : f (s.radio r) = g (s.radio r)) :
    s.onRadio r f = s.onRadio r g := by
  simp only [State.onRadio, State.onRadios]
  rw [State.radio] at h
  rw [h]

/-- Pre-empting background calibration leaves the configuration. -/
theorem preemptCal_coh (r : Fin 3) (s : State) : (preemptCal r s).coh = s.coh := by
  have hclaim (t : State) : (claimObs t).coh = t.coh := by
    unfold claimObs
    split <;> rfl
  have hfree (t : State) : (freeObs r t).coh = t.coh := by
    unfold freeObs
    split
    · exact hclaim _
    · rfl
  have hrequeue : (requeueCal r s).coh = s.coh := by
    unfold requeueCal
    split
    · rfl
    · rw [State.onRadio_coh, hfree]
  unfold preemptCal
  split
  · rfl
  · exact hrequeue

/-- Settles O16: each command passes its checks and does what it names. -/
theorem radioCommands : Obligations.RadioCommands := by
  intro s m req buf
  dsimp only
  refine ⟨fun ht hfields => taken_ok ht (stageOne_passes _ _ _ _ _ _ _ _ hfields),
    fun ht hpins h16 h16' h18 h20 h22 h22' h24 h26 => ?_, fun r ht hr h0 h1 h2 h4 hen hcal => ?_, fun r ht hr h2 => ?_,
    fun ht hfirst hcount hrun hinline hfits => ?_⟩
  · have hcheck : (List.range 8).findSome? (checkPin (fullBody req buf)) = none := by
      rw [List.findSome?_eq_none_iff]
      intro i hi
      obtain ⟨hlt, hmod, hlt'⟩ := hpins i (List.mem_range.mp hi)
      simp [checkPin, Nat.not_le.mpr hmod, Nat.div_eq_of_lt hlt, Nat.div_eq_of_lt hlt']
    refine taken_ok ht ?_
    simp only [hcheck]
    exact stageOne_passes _ _ _ _ _ _ _ _
      (by simp [checkFields_none, checkField, field_u16, h16, h16', h18, h20, h22, h22', h24, h26])
  · refine taken_done ht ?_
    have hfields : checkFields (fullBody req buf) [⟨0, 1, .range 0 2⟩, ⟨1, 1, .flags 1⟩, ⟨2, 2, .zero⟩] = none := by
      simp [checkFields_none, checkField, field_u8, field_u16, h0, Nat.lt_succ_of_le h1, h2]
    have hlo : (u8 (fullBody req buf) 0 != 2 && u32 (fullBody req buf) 4 != 0) = false := by
      by_cases h : u8 (fullBody req buf) 0 = 2
      · simp [h]
      · simp [h4 h]
    have hcoh : (dropReception r (preemptCal r (takeReq m req s))).coh = s.coh := by
      rw [trafficBlind_coh.dropReception, preemptCal_coh, takeReq_coh]
    simp only [hfields, hlo, hr, takeReq_enabled, hen, takeReq_radio, hcal, hcoh]
    rfl
  · let mask := fun i => bit (u8 (fullBody req buf) 0) i && pinFunction s.coh.active r.val i == 5
    refine ⟨driveBits mask (bit (u8 (fullBody req buf) 1)) (s.radio r).staticDrive, taken_ok ht ?_, fun i hi => ?_⟩
    · have hfields : checkFields (fullBody req buf) [⟨2, 2, .zero⟩] = none := by
        simp [checkFields_none, checkField, field_u16, h2]
      simp only [hfields, hr, takeReq_coh]
      exact congrArg ok (State.onRadio_congr (by rw [takeReq_radio]; rfl))
    · rw [getLsbD_driveBits _ _ _ hi]
      simp [mask]
  · refine taken_answers ht ?_ hfits
    have hrange : ¬(u16 (fullBody req buf) 0 > 4095 || u16 (fullBody req buf) 2 = 0
        || u16 (fullBody req buf) 0 + u16 (fullBody req buf) 2 > 4096
        || (!req.indirect && u16 (fullBody req buf) 2 > 126)) = true := by
      cases hind : req.indirect with
      | true => simp; omega
      | false =>
        have hmax := hinline hind
        simp
        omega
    refine (if_neg hrange).trans ?_
    rw [takeReq_radios] <;> rfl

end Sys2Proof.Machine

/-! ## Synthesisers and calibrations (O17) -/

namespace Sys2Proof.Machine

/-- Settles O17: where the conditions of an event hold, it does what its rule says. -/
theorem synthesiserAndCalibrationEvents : Obligations.SynthesiserAndCalibrationEvents := by
  intro s r
  refine ⟨fun result hsynth hforced => ?_, fun result hsynth hforced => ?_, fun hlock => ?_, fun hun hsynth hforced => ?_,
    fun hobs => ?_, fun result it hit hgood => ?_, fun results id hid htones => ?_, fun it rest hqueue hstarved => ?_⟩
  · change execSynthLock r result s = _
    simp [execSynthLock, hsynth, hforced]
  · change execSynthLock r result s = _
    simp [execSynthLock, hsynth, hforced]
  · change execSynthUnlock r s = _
    simp [execSynthUnlock, hlock]
  · change execSynthRelockTimeout r s = _
    simp [execSynthRelockTimeout, hun, hsynth, hforced]
  · change execObsSynthUnlock s = _
    simp [execObsSynthUnlock, hobs]
  · change execBackgroundCalDone r result s = _
    simp [execBackgroundCalDone, hit, hgood]
  · change execRadioCalibrateDone r results s = _
    have hwait : (hostTones (s.radio r) && s.radios.obsServes != some r) = false := by
      cases ht : hostTones (s.radio r)
      · rfl
      · simp [htones ht]
    simp [execRadioCalibrateDone, hid, hwait]
  · change execCalStarvedTimeout r s = _
    simp [execCalStarvedTimeout, hqueue, hstarved]

end Sys2Proof.Machine

/-! ## Headers and the hand-off of frames (O19) -/

namespace Sys2Proof.Machine

/-- Counting of a group touches the counters and the performance counters alone. -/
theorem countGroup_frame (ch i : Nat) (s : State) : ∃ counters cluster,
    countGroup ch i s = { s with counters := counters, cluster := cluster } := by
  unfold countGroup
  dsimp only
  split
  · exact ⟨_, _, rfl⟩
  · exact ⟨_, _, rfl⟩
  · exact ⟨_, _, rfl⟩
  · exact ⟨_, _, rfl⟩

@[simp] theorem countGroup_time (ch i : Nat) (s : State) : (countGroup ch i s).time = s.time := by
  obtain ⟨_, _, h⟩ := countGroup_frame ch i s
  rw [h]

theorem countGroup_works (ch i : Nat) (s : State) (fn : Nat) : (countGroup ch i s).works fn = s.works fn := by
  obtain ⟨_, _, h⟩ := countGroup_frame ch i s
  rw [h]
  rfl

/-- A function that works is not in reset. -/
theorem inReset_of_works {s : State} {fn : Nat} (h : s.works fn = true) : s.inReset fn = false := by
  rw [State.works] at h
  simp only [Bool.and_eq_true, Bool.not_eq_true'] at h
  exact h.1.2

section
variable {s : State} {f : Nat} {x : RxFrame}

/-- A frame in its PSDU with the quality measured at its last bit. -/
def withQuality (x : RxFrame) (snr : Int) (evm : Nat) : RxFrame := { x with lqi := lqiOf snr, evm := min evm 255 }

/-- The state in which a frame's quality and its hand-off are recorded. -/
def recordQuality (f : Nat) (y : RxFrame) (s : State) : State :=
  (countGroup y.ch 8 (s.onRxFrame f fun _ => y)).onChan y.ch fun c => { c with lastLqi := y.lqi, lastEvm := y.evm }

/-- A hand-off in the PSDU records the frame's quality and counts, and goes on by the kind of the frame. -/
theorem exec_frameHandOff_psdu (hx : s.rxFrame f = some x) (hstage : x.stage = .psdu) (llrs : List Int) (snr : Int) (evm : Nat) :
    exec (.frameHandOff f llrs snr evm) s =
      let y := withQuality x snr evm
      let u := recordQuality f y s
      match oxMode (chanMode (rxSet s x) x.ch) with
      | none =>
        let t := if x.coded then countGroup x.ch 12 u else u
        .next (t.onRxFrame f fun z => { z with stage := .trellis, handedAt := t.time.fabric })
      | some o =>
        let l := laneLlrs (llrBytes o x.len (x.kind == 2)) llrs
        match x.mate with
        | some _ => .next (runStage5 (feedEngines (joinSecond y l u)))
        | none =>
          if u.inReset riffleFn then .next (discardWith y rcDiscardedReset u)
          else if !u.works riffleFn then .next (discardWith y rcFunctionDisabled u)
          else .next (handOff f l u) := by
  change execFrameHandOff f llrs snr evm s = _
  rw [execFrameHandOff, hx]
  dsimp only
  rw [if_neg (by rw [hstage]; decide)]
  rfl

/-- A sync word in search that matches, in the window of a cell and within the frequency range, is accepted (R185). -/
theorem exec_syncWordAccepted_match (hx : s.rxFrame f = some x) (hstage : x.stage = .search) {word : BitVec 32} {coded : Bool}
    (hmatch : syncMatch s x word = some coded) (syncOffset : Nat) (afc : Int) :
    exec (.syncWordAccepted f syncOffset afc word) s =
      let m := rxSet s x
      let start : Int := (syncOffset : Int) * 625 / 24 - headNs m x.ch
      let ns := syncEndNs s x syncOffset
      let cells := x.cells.filter fun c => decide ((c.early : Int) * 1000 ≤ start) && decide (start ≤ (c.late : Int) * 1000)
      if cells.isEmpty && !scanning s x.ch && !awaitsAck s x.ch (ns - headNs m x.ch) then
        .next (countGroup x.ch 4 (discardEarly x s))
      else if 6 * afcRange (chanMode m x.ch) (chanBw m x.ch) < 5 * afc.natAbs then
        .next (countGroup x.ch 3 (discardEarly x s))
      else
        .next (s.onRxFrame f fun y =>
          { y with
            stage := .synced, cells := cells, syncOffset := syncOffset, syncSpring := springAgo s (s.netNs - ns), syncNs := ns
            err := max (-32767) (min 32767 (Int.tdiv (start - (txOffset m * 1000 : Nat)) 1000))
            floor := (s.chan y.ch).floor, afc := afc, coded := coded, beacon := !isSun m x.ch && seeksBeacon s x }) := by
  change execSyncWordAccepted f syncOffset afc word s = _
  rw [execSyncWordAccepted, hx]
  dsimp only
  rw [if_pos hstage, hmatch]

/-- The first frame of its channel that waits for the trellis decoder is decoded. -/
theorem exec_trellisDecodeDone_first (hx : s.rxFrame f = some x) (hstage : x.stage = .trellis)
    (hfirst : ∀ y ∈ s.rx.frames, y.id ≠ f → y.ch = x.ch → y.stage = .trellis → x.handedAt.toNat ≤ y.handedAt.toNat)
    (soft : List Int) :
    exec (.trellisDecodeDone f soft) s =
      let p := sunPsdu (sunFec (rxSet s x) x.ch) x.coded x.white x.len (laneLlrs (sunDataBits x) soft)
      if fcsOk p x.fcs4 then .next (runStage5 (s.onRxFrame f fun y => { y with stage := .stage5, psdu := p }))
      else .next (recordFrame f rcFcsFail [] (countFailed (countGroup x.ch 13 (noAck f s)))) := by
  have hany : (s.rx.frames.any fun y =>
      y.id != f && y.ch == x.ch && y.stage == .trellis && decide (y.handedAt.toNat < x.handedAt.toNat)) = false := by
    rw [List.any_eq_false]
    intro y hy h
    simp only [Bool.and_eq_true, bne_iff_ne, beq_iff_eq, decide_eq_true_eq] at h
    obtain ⟨⟨⟨hid, hch⟩, hst⟩, hlt⟩ := h
    exact Nat.not_lt.mpr (hfirst y hy hid hch hst) hlt
  change execTrellisDecodeDone f soft s = _
  rw [execTrellisDecodeDone, hx]
  dsimp only
  rw [hany, if_neg (by rw [hstage]; decide)]

end

/-- Settles O19: each event of a frame in the stage that admits it follows its rule's branches. -/
theorem headersAndHandOff : Obligations.HeadersAndHandOff := by
  refine ⟨fun s f x hx => ?_, fun s f x hx => ?_⟩
  · dsimp only
    refine ⟨fun syncOffset afc word hstage hmatch => ?_, fun syncOffset afc word coded hstage hmatch => ⟨fun hcells hafc => ?_,
      fun hcells hscan hack => ?_⟩, fun phr agree rssi hstage => ⟨fun o ho => ?_, fun ho => ?_⟩⟩
    · change execSyncWordAccepted f syncOffset afc word s = _
      simp [execSyncWordAccepted, hx, hstage, hmatch]
    · rw [exec_syncWordAccepted_match hx hstage hmatch]
      dsimp only
      rw [List.isEmpty_eq_false_iff.mpr hcells, Bool.false_and, Bool.false_and, if_neg Bool.false_ne_true, if_neg (by omega)]
    · rw [exec_syncWordAccepted_match hx hstage hmatch]
      dsimp only
      rw [if_pos (by rw [hcells, hscan, hack]; rfl)]
    · change execPhrReceived f phr agree rssi s = _
      simp [execPhrReceived, hx, hstage, ho]
    · change execPhrReceived f phr agree rssi s = _
      simp [execPhrReceived, hx, hstage, ho]
  · dsimp only
    refine ⟨fun llrs snr evm hstage => ⟨fun ho => ?_, fun o ho hmate hworks => ?_⟩, fun hstage hfirst soft => ⟨fun hfcs => ?_,
      fun hfcs => ?_⟩⟩
    · rw [exec_frameHandOff_psdu hx hstage, ho]
      have htime (u : State) : (if x.coded then countGroup x.ch 12 u else u).time = u.time := by
        split
        · exact countGroup_time ..
        · rfl
      dsimp only
      rw [htime]
      rfl
    · have hworks' : (recordQuality f (withQuality x snr evm) s).works riffleFn = true :=
        (countGroup_works ..).trans hworks
      rw [exec_frameHandOff_psdu hx hstage, ho]
      dsimp only
      split
      next h => rw [hmate] at h; contradiction
      · rw [inReset_of_works hworks', if_neg Bool.false_ne_true, hworks', if_neg (by decide)]
        rfl
    · rw [exec_trellisDecodeDone_first hx hstage hfirst]
      dsimp only
      rw [if_pos hfcs]
    · rw [exec_trellisDecodeDone_first hx hstage hfirst]
      dsimp only
      rw [if_neg (by rw [hfcs]; decide)]

end Sys2Proof.Machine

/-! ## Captures, noise floors and reloads (O20) -/

namespace Sys2Proof.Machine

theorem eddyMeets_none {s : State} (h : ∀ e ∈ s.mem.poison, e.1 < 0x10000000 ∨ 0x10400000 ≤ e.1) : eddyMeets s = (none, s) :=
  meetPoison_none s _ _ h

section
variable {s : State} {lane : Fin 64} {c : Capture} (hc : s.rx.captures[lane] = some c)
include hc

theorem exec_subtractionDone_whole (hphase : c.phase = .subtract)
    (hwhole : ∀ e ∈ s.mem.poison, e.1 < 0x10000000 ∨ 0x10400000 ≤ e.1) :
    exec (.subtractionDone lane) s =
      let t := match c.rebuilt with
        | some d => subtractFrom (s.setOf c.generation) c.ch d s
        | none => s
      .next (setCapture lane (some { c with phase := .ready }) (t.count eddyFn 5)) := by
  change execSubtractionDone lane s = _
  rw [execSubtractionDone, hc]
  dsimp only
  rw [if_pos hphase, eddyMeets_none hwhole] <;> rfl

theorem exec_redemodStart_ready {y : RxFrame} (hphase : c.phase = .ready) (hlate : redemodLate s c = false)
    (hy : owedFrame s c = some y) (hair : inProgress y = false) :
    exec (.redemodStart lane) s = .next (setCapture lane (some { c with phase := .redemod }) s) := by
  change execRedemodStart lane s = _
  rw [execRedemodStart, hc]
  simp [hphase, hlate, hy, hair]

theorem exec_redemodDone_whole {y : RxFrame} (hphase : c.phase = .redemod)
    (hwhole : ∀ e ∈ s.mem.poison, e.1 < 0x10000000 ∨ 0x10400000 ≤ e.1) (hy : owedFrame s c = some y) (llrs : List Int) :
    exec (.redemodDone lane llrs) s = .next (endObligation lane c ((s.onRxFrame y.id fun z =>
        { z with sic := true, llr := overwriteLlrs c.checkpoint.llrs z.llr llrs }).count eddyFn 6)) := by
  change execRedemodDone lane llrs s = _
  rw [execRedemodDone, hc]
  simp [hphase, hy, eddyMeets_none hwhole]

theorem exec_redemodAbandon_late (hphase : c.phase ≠ .redemod) (hlate : redemodLate s c = true)
    (hsic : sicEn (s.setOf c.generation) = true) :
    exec (.redemodAbandon lane) s = if c.phase = .frame then
        match owedFrame s c with
        | none => .next s
        | some y =>
          let k := if s.rx.frames.any fun x => x.id == c.frame && inProgress x then some { c with below := none } else none
          .next (feedEngines (unpark y (setCapture lane k (s.count eddyFn 8))))
      else .next (endObligation lane c (s.count eddyFn 8)) := by
  change execRedemodAbandon lane s = _
  rw [execRedemodAbandon, hc]
  dsimp only
  rw [if_neg (by simp [hphase, hlate, hsic])] <;> rfl

end

/-- Settles O20: each event of a lane, a channel or a ring in the state that admits it does what its rule says. -/
theorem capturesFloorsAndReloads : Obligations.CapturesFloorsAndReloads := by
  refine ⟨fun s lane c hc => ?_, fun s ch => ?_⟩
  · intro whole
    refine ⟨fun hphase hwhole hrebuilt => ?_, fun d hphase hwhole hrebuilt => ?_, fun y => exec_redemodStart_ready hc,
      fun y llrs hphase hwhole hy => exec_redemodDone_whole hc hphase hwhole hy llrs, fun hsic hlate => ?_⟩
    · rw [exec_subtractionDone_whole hc hphase hwhole]
      dsimp only
      rw [hrebuilt]
    · rw [exec_subtractionDone_whole hc hphase hwhole, hrebuilt]
    · have hlate' : redemodLate s c = true := by
        simpa only [redemodLate, decide_eq_true_eq] using hlate
      refine ⟨fun hphase => ?_, fun y hphase hy => ?_⟩
      · have h1 : c.phase ≠ .redemod := by obtain h | h := hphase <;> simp [h]
        have h2 : c.phase ≠ .frame := by obtain h | h := hphase <;> simp [h]
        rw [exec_redemodAbandon_late hc h1 hlate' hsic, if_neg h2]
      · rw [exec_redemodAbandon_late hc (by simp [hphase]) hlate' hsic, if_pos hphase, hy]
  · dsimp only
    refine ⟨fun power hworks hexists hmon hshed hsettling hlistens hreceives hidle => ?_, fun hsettling hold htwin => ?_,
      fun hkb => ?_, fun hkb hold => ?_⟩
    · change execNoiseFloorBlock ch power s = _
      simp [execNoiseFloorBlock, hworks, hexists, hmon, hshed, hsettling, hlistens, hreceives, hidle]
    · change execChannelReloadDone ch s = _
      have hnone : ((onChannel s ch.val).any fun x => x.generation != s.coh.generation) = false := by
        simpa [List.any_eq_false] using hold
      simp [execChannelReloadDone, hsettling, htwin, hnone]
    · change execEddyRingChange ch s = _
      simp [execEddyRingChange, changeRing, hkb]
    · change execEddyRingChange ch s = _
      have hnone : (s.rx.captures.toList.any fun c =>
          c.any fun k => k.ch == ch.val && k.generation != s.coh.generation) = false := by
        rw [List.any_eq_false]
        intro c hmem
        obtain ⟨i, hi, rfl⟩ := Vector.getElem_of_mem (Vector.mem_toList_iff.mp hmem)
        cases hk : s.rx.captures[i] with
        | none => simp
        | some k =>
          simpa using hold ⟨i, hi⟩ k hk
      simp [execEddyRingChange, changeRing, hkb, hnone]

end Sys2Proof.Machine

/-! ## Decode engines, deadlines and the release gate (O21) -/

namespace Sys2Proof.Machine

/-- A job of a working pool that meets no uncorrectable word is completed (R227). -/
theorem exec_riffleJobComplete_whole {s : State} {e : Fin 48} {agrees : Bool} {j : Nat × Nat} (hworks : s.works riffleFn = true)
    (hjob : s.rx.engines[e].job = some j) (hstalled : s.rx.engines[e].stalled = false)
    (hwhole : ∀ e ∈ s.mem.poison, e.1 < 0x10400000 ∨ 0x10600000 ≤ e.1) :
    exec (.riffleJobComplete e agrees) s = .next (runStage5 (completeJob e agrees s)) := by
  change execRiffleJobComplete e agrees s = _
  rw [execRiffleJobComplete, if_pos hworks, endJob, hjob]
  dsimp only
  rw [hstalled, if_neg Bool.false_ne_true, meetPoison_none s _ _ hwhole]

section
variable {s : State} {f : Nat} {x : RxFrame} (hx : s.rxFrame f = some x)
include hx

/-- A first half whose second part does not come fails (R224). -/
theorem exec_twinSecondPartTimeout_waits (hkind : x.kind = 1) (hsecond : x.second = none)
    (hmate : ∀ y ∈ s.rx.frames, y.mate ≠ some f) (hstage : x.stage = .twinWait) :
    exec (.twinSecondPartTimeout f) s = .next (failFrame f rcTwinMissing (s.count riffleFn 12)) := by
  have hnone : (s.rx.frames.any fun y => y.mate == some f) = false := by simpa [List.any_eq_false] using hmate
  change execTwinSecondPartTimeout f s = _
  simp [execTwinSecondPartTimeout, hx, hkind, hsecond, hnone, hstage]

/-- A frame whose jobs are too old fails, unless a stalled engine holds its result (R230, R233). -/
theorem exec_decodeTimeout_old (hstage : x.stage = .decode ∨ x.stage = .twinWait)
    (hheld : ∀ g ∈ s.rx.engines.toList, g.stalled = true → ∀ j, g.job = some j → j.1 ≠ f)
    (hage : u16 (rifflePart (rxSet s x)) 6 * 400000 ≤ (s.time.fabric - x.handedAt).toNat) :
    exec (.decodeTimeout f) s = .next (failFrame f rcDecodeTimeout (s.count riffleFn 8)) := by
  have hnone : (s.rx.engines.toList.any fun g => g.stalled && g.job.any fun j => j.1 == f) = false := by
    rw [List.any_eq_false]
    intro g hg h
    obtain ⟨hst, hjob⟩ := Bool.and_eq_true_iff.mp h
    cases hj : g.job with
    | none => simp [hj] at hjob
    | some j => exact hheld g hg hst j hj (by simpa [hj] using hjob)
  have hst : (x.stage == .decode || x.stage == .twinWait) = true := by simpa using hstage
  change execDecodeTimeout f s = _
  rw [execDecodeTimeout, hx]
  dsimp only
  rw [hst, hnone, if_pos (by simpa only [Bool.true_and, Bool.not_false, decide_eq_true_eq] using hage)]

/-- A frame at the gate that is next passes by its class (R231). -/
theorem exec_releaseGatePass_open (hstage : x.stage = .gate) (hopen : gateOpenFor s x = true) (p : Fin 4) :
    exec (.releaseGatePass f p) s =
      match x.cls, macOf s x with
      | .join, some h =>
        if verifyAhead s x then .next s else .next (recordFrame f rcJoinCandidate (h.content h.payload) s)
      | .fresh, some h | .control, some h =>
        if h.level = 0 then
          if verifyAhead s x then .next s else .next (verifiedFrame f h h.payload s)
        else if (s.page ⟨p.val, by omega⟩).busy.isSome then .next s
        else .next (wakeWaiting x.nb x.counter (startVerify f ⟨p.val, by omega⟩ x h s))
      | _, _ => if verifyAhead s x then .next s else .next (recordFrame f x.reason [] s) := by
  change execReleaseGatePass f p s = _
  rw [execReleaseGatePass, hx]
  dsimp only
  rw [if_neg (by simp [hstage, hopen])] <;> rfl

end

/-- Settles O21: each event of an engine, a frame or a page in the state that admits it does what its rule says. -/
theorem decodeEnginesAndDeadlines : Obligations.DecodeEnginesAndDeadlines := by
  intro s
  refine ⟨fun e agrees j => exec_riffleJobComplete_whole, fun e => ⟨fun hfree hidle => ?_, fun hnot => ?_⟩,
    fun p j hbusy hop hreason => ⟨fun f hf => ?_, fun hf => ?_⟩, fun f x hx => ⟨fun hkind hsecond hmate hstage => ?_,
    exec_decodeTimeout_old hx, fun p hstage hopen => ⟨fun hcls hahead => ?_, fun h hmac => ⟨fun hcls hahead => ?_,
      fun hcls hlevel hahead => ?_, fun hcls hlevel hbusy => ?_⟩⟩⟩⟩
  · change execEngineClockGate e s = _
    rw [execEngineClockGate, if_pos (by simpa only [hfree, Bool.true_and, decide_eq_true_eq] using hidle)]
  · change execEngineClockGate e s = _
    rw [execEngineClockGate, if_neg]
    intro h
    obtain ⟨hfree, hidle⟩ := Bool.and_eq_true_iff.mp h
    obtain hnot | hnot := hnot
    · rw [hnot] at hfree
      exact Bool.false_ne_true hfree
    · exact Nat.not_le.mpr hnot (of_decide_eq_true hidle)
  · change execTagVerifyVerdict p s = _
    simp [execTagVerifyVerdict, hbusy, hop, hreason, hf]
  · change execTagVerifyVerdict p s = _
    simp [execTagVerifyVerdict, hbusy, hop, hreason, hf]
  · exact exec_twinSecondPartTimeout_waits hx hkind hsecond hmate hstage
  · rw [exec_releaseGatePass_open hx hstage hopen]
    obtain hcls | hcls | hcls | hcls := hcls <;> simp [hcls, hahead]
  · rw [exec_releaseGatePass_open hx hstage hopen]
    simp [hcls, hmac, hahead]
  · rw [exec_releaseGatePass_open hx hstage hopen]
    obtain hcls | hcls := hcls <;> simp [hcls, hmac, hlevel, hahead]
  · rw [exec_releaseGatePass_open hx hstage hopen]
    obtain hcls | hcls := hcls <;> simp [hcls, hmac, hlevel, hbusy]

end Sys2Proof.Machine

/-! ## The launch chain (O22) -/

namespace Sys2Proof.Machine

/-- Below ASN_FLOOR no slot is selected for. -/
theorem selectBarred_below {s : State} {a t0 : Nat} (h : a < s.time.asnFloor.toNat) : selectBarred s a t0 = true := by
  simp [selectBarred, h]

theorem selectCell_below {sf idx a : Nat} {s : State} (h : a < s.time.asnFloor.toNat) : selectCell sf idx a s = s := by
  unfold selectCell
  dsimp only
  split
  · rfl
  · rw [selectBarred_below h, Bool.or_true, if_pos rfl]

theorem selectGate_below {r : Fin 3} {idx a : Nat} {s : State} (h : a < s.time.asnFloor.toNat) : selectGate r idx a s = s := by
  unfold selectGate
  dsimp only
  split
  · rfl
  · split
    · rfl
    · rw [selectBarred_below h, Bool.or_true, if_pos rfl]

/-- A selection in a slot below ASN_FLOOR changes nothing (R365). -/
theorem exec_launchSelection_below {s : State} {what : LaunchWhat} {asn : Nat} (h : asn < s.time.asnFloor.toNat) :
    exec (.launchSelection what asn) s = .next s := by
  change execLaunchSelection what asn s = _
  unfold execLaunchSelection
  split
  · rfl
  · cases what with
    | cell sf idx => simp only [selectCell_below h, ite_self]
    | gate l idx => simp only [selectGate_below h, ite_self]

section
variable {s : State} {l : Nat} {x : Launch} (hx : findLaunch s l = some x)
include hx

/-- LO_CLASSIFY of a selected launch records the class of its LO and its corrections (R154, R134). -/
theorem exec_loClassify_selected (hstep : x.step = .selected) :
    exec (.loClassify l) s =
      let m := s.setOf x.generation
      let lo := chanLo m x.channel
      let tuned := (s.radio x.radio).synth == .locked && (s.radio x.radio).lo == lo
      .next ((lookupChan m x.radio x.channel s).onLaunch l fun y =>
        { y with
          calClass := if tuned = true then .valid else loClass s x.radio lo
          needRetune := !tuned
          corr := chanCorr s x.radio lo (chanCentre m x.channel)
          step := if y.step = .selected then .classified else y.step }) := by
  change execLoClassify l s = _
  rw [execLoClassify, hx]
  dsimp only
  rw [hstep, if_pos (by decide)]
  cases ((s.radio x.radio).synth == .locked && (s.radio x.radio).lo == chanLo (s.setOf x.generation) x.channel) <;> rfl

/-- RETUNE_START of a classified launch that needs it retunes its radio, where that is not in reset (R154). -/
theorem exec_retuneStart_classified (hstep : x.step = .classified) (hneed : x.needRetune = true)
    (hreset : s.inReset (radioFn x.radio) = false) :
    exec (.retuneStart (.launch l)) s =
      let lo := chanLo (s.setOf x.generation) x.channel
      .next (retuneAs x.radio lo x.calClass (s.onLaunch l fun y =>
        { y with
          needRetune := false
          calClass := if (s.radio x.radio).synth = .locked ∧ (s.radio x.radio).lo = lo then y.calClass else x.calClass
          step := if y.step = .booked then .booked else .retuned })) := by
  change execRetuneStart (.launch l) s = _
  rw [State.inReset] at hreset
  simp only [execRetuneStart, retuneLaunch, hx, hstep, hneed, hreset]
  simp

/-- TR_SW_ASSERT of a launch on its way to the air turns the radio around, or ends the launch with what blocks it (R136). -/
theorem exec_trSwAssert_tuned (hstep : x.step = .selected ∨ x.step = .classified ∨ x.step = .retuned) :
    exec (.trSwAssert l) s = match txBlocked s x.radio x.window x.t0 with
      | some rc => .next (endLaunch x rc false s)
      | none => .next (closeRx x.radio (dropReception x.radio
          ((s.onRadio x.radio fun y => { y with trSw := true, txActive := true, blanked := true }).onLaunch l fun y =>
            { y with step := .trOn }))) := by
  have hcond : (decide (x.step = .selected) || decide (x.step = .classified) || decide (x.step = .retuned)) = true := by
    simpa [or_assoc] using hstep
  change execTrSwAssert l s = _
  rw [execTrSwAssert, hx]
  dsimp only
  rw [if_pos hcond] <;> rfl

/-- PA_EN_ASSERT of a launch that has turned around asserts PA_EN, or ends the launch with what blocks it (R142). -/
theorem exec_paEnAssert_turned (hstep : x.step = .trOn) :
    exec (.paEnAssert l) s = match turnBlocked s x with
      | some rc => .next (endLaunch x rc false s)
      | none => .next ((s.onRadio x.radio fun y => { y with paEn := true }).onLaunch l fun y => { y with step := .paOn }) := by
  change execPaEnAssert l s = _
  rw [execPaEnAssert, hx]
  dsimp only
  rw [if_pos hstep] <;> rfl

/-- RAMP_UP_START of a launch with PA_EN asserted starts the ramp, or ends the launch with what blocks it or as late
(R155, R158). -/
theorem exec_rampUpStart_paOn (hstep : x.step = .paOn) (lateUs : Nat) :
    exec (.rampUpStart l lateUs) s =
      let rest (t : State) : State := if turnedAround t x.radio then t else restBalls x.radio t
      match turnBlocked s x with
      | some rc => .next (rest (endLaunch x rc false s))
      | none =>
        if x.kind != .test && decide (x.lateTol < lateUs) then
          .next (rest (endLaunch x rcLaunchMissedSynth true (countRadio x.radio 8 s)))
        else if (s.radio x.radio).synth == .locked && (s.radio x.radio).lo == chanLo (s.setOf x.generation) x.channel then
          .next (s.onLaunch l fun y =>
            { y with step := .ramping, rampAt := s.netNs, lateUs := if y.kind = .test then 0 else lateUs })
        else .next s := by
  change execRampUpStart l lateUs s = _
  rw [execRampUpStart, hx]
  dsimp only
  rw [if_neg (by simp [hstep])] <;> rfl

/-- LAUNCH_START of a ramping launch commits its charge and puts it on air (R265). -/
theorem exec_launchStart_ramping (hstep : x.step = .ramping) :
    exec (.launchStart l) s =
      let u := addSecond x.radio x.charge (chargeBands x.charge (launchBands s x) (refundLaunch x s))
      .next (countLaunched x (u.onLaunch l fun y =>
        { y with step := .onAir, committed := (launchBands s x).map fun i => (i, u.sluice.accounts[i].period) })) := by
  change execLaunchStart l s = _
  rw [execLaunchStart, hx]
  dsimp only
  rw [if_pos hstep]

end

/-- Settles O22: each command of the chain acts on a launch at its step, and a selection bars the slots below ASN_FLOOR. -/
theorem launchChainUpToTheAir : Obligations.LaunchChainUpToTheAir := by
  intro s
  refine ⟨fun what asn => exec_launchSelection_below, fun asn hasn hsluice => ⟨fun sf idx hlink => ?_, fun l idx => ?_⟩,
    fun l x hx => ?_⟩
  · change execLaunchSelection (.cell sf idx) asn s = _
    simp [execLaunchSelection, Option.isSome_iff_ne_none.mp hasn, hsluice, hlink]
  · change execLaunchSelection (.gate l.val idx) asn s = _
    simp [execLaunchSelection, Option.isSome_iff_ne_none.mp hasn, hsluice]
  · dsimp only
    refine ⟨exec_loClassify_selected hx, exec_retuneStart_classified hx, fun hstep hblock => ?_, fun hstep rc hblock => ?_,
      fun hstep hblock => ?_, fun hstep rc lateUs hblock => ⟨fun hstep => ?_, fun hstep => ?_⟩,
      fun lateUs hstep hblock hkind hlate hsynth hlo => ?_, fun lateUs hstep hblock hkind hlate => ?_,
      exec_launchStart_ramping hx⟩
    · rw [exec_trSwAssert_tuned hx hstep, hblock]
    · rw [exec_trSwAssert_tuned hx hstep, hblock]
    · rw [exec_paEnAssert_turned hx hstep, hblock]
    · rw [exec_paEnAssert_turned hx hstep, hblock]
    · rw [exec_rampUpStart_paOn hx hstep, hblock]
    · rw [exec_rampUpStart_paOn hx hstep, hblock]
      dsimp only
      rw [if_neg (by simp [Nat.not_lt.mpr hlate]), if_pos (by simp [hsynth, hlo])]
    · rw [exec_rampUpStart_paOn hx hstep, hblock]
      dsimp only
      rw [if_pos (by simp [hkind, hlate])]

end Sys2Proof.Machine

/-! ## The ends of launches, queues and buckets (O23) -/

namespace Sys2Proof.Machine

section
variable {s : State} {r : Fin 3}

/-- The composite of one frame on air is compared with its expected power (R147). -/
theorem exec_obsPowerVerdict_one {x : Launch} (hair : framesOnAir s r = [x]) (measured : Int) :
    exec (.obsPowerVerdict r measured) s =
      let m := s.setOf x.generation
      let e := expectedQ m r.val x.power
      let tol : Int := obsTolQ m r.val
      if powerOf measured > powerOf (e + tol) then .next (obsReject r 1 x.channel ((measured - e) * 25) (countRadio r 13 s))
      else if powerOf (measured + tol) < powerOf e then .next (countRadio r 15 (countRadio r 13 s))
      else .next (countRadio r 13 s) := by
  change execObsPowerVerdict r measured s = _
  rw [execObsPowerVerdict, hair]
  simp

/-- The carrier error of one frame on air is compared with the tolerance, and then the power outside with its limit. -/
theorem exec_obsFrequencyVerdict_one {x : Launch} (hair : framesOnAir s r = [x]) (err outside : Int) :
    exec (.obsFrequencyVerdict r [(x.id, err)] outside) s =
      let m := s.setOf x.generation
      let tol := obsFreqTol m r.val * 100
      let lim : Int := -(obsAclr m r.val * 100 : Int)
      if tol < err.natAbs then
        .next (obsReject r 2 x.channel (if err < 0 then err + tol else err - tol) (countRadio r 13 s))
      else .next (if lim < outside then obsReject r 3 x.channel (outside - lim) (countRadio r 13 s) else countRadio r 13 s) := by
  change execObsFrequencyVerdict r [(x.id, err)] outside s = _
  rw [execObsFrequencyVerdict, hair]
  dsimp only
  by_cases h : obsFreqTol (s.setOf x.generation) r.val * 100 < err.natAbs
  · simp [h]
  · simp [h]

/-- A frame whose acknowledgement does not come is sent again, or removed when it has expired or has had its launches
(R254). -/
theorem exec_dlAckWindowExpiry_awaited {f : Nat} {y : DlFrame} (hy : findFrame s f = some y) (hawait : y.awaiting.isSome = true) :
    exec (.dlAckWindowExpiry f) s =
      let z := { y with awaiting := none }
      let u := s.onFrame f fun _ => z
      if y.expired then .next (expireFrame z u)
      else if dlAttempts (s.setOf y.generation) ≤ y.launches then .next (removeFrame z rcNoAck false y.pendingBit (countTx 5 u))
      else .next u := by
  change execDlAckWindowExpiry f s = _
  rw [execDlAckWindowExpiry, hy]
  dsimp only
  rw [if_neg (by simpa using Option.isSome_iff_ne_none.mp hawait)] <;> rfl

/-- A frame past its lifetime goes, or is marked while it is in flight (R254). -/
theorem exec_dlLifetimeExpiry_past {f : Nat} {y : DlFrame} (hy : findFrame s f = some y)
    (hpast : dlLifetimeMs s.coh.active * 400000 ≤ (s.time.fabric - y.admitted).toNat) :
    exec (.dlLifetimeExpiry f) s =
      if y.inFlight || y.awaiting.isSome then .next (s.onFrame f fun z => { z with expired := true })
      else .next (expireFrame y s) := by
  change execDlLifetimeExpiry f s = _
  rw [execDlLifetimeExpiry, hy]
  dsimp only
  rw [if_neg (Nat.not_lt.mpr hpast)]

end

/-- Settles O23: each event of a launch, a frame, a gate or a band in the state that admits it does what its rule says. -/
theorem launchEndsQueuesAndBuckets : Obligations.LaunchEndsQueuesAndBuckets := by
  refine ⟨fun s => ⟨fun l x hx hstep hkind => ⟨fun hf => ?_, fun f hf => ?_⟩, fun r => ⟨fun hmore => ?_, rfl,
    fun x hair => ⟨fun measured hhigh hlow => ?_, fun measured hhigh => ?_, fun outside hout => ⟨fun err herr => ?_,
      fun err herr => ?_⟩⟩, fun x hx => ?_⟩⟩, fun s => ⟨fun f y hy => ⟨fun hawait => ⟨fun hexp => ?_, fun hexp hmax => ?_,
      fun hexp hmax => ?_⟩, fun hpast => ⟨fun hflight hawait => ?_, fun hbusy => ?_⟩⟩, fun l x hx hstep => ?_,
    fun r idx a h e es hasn hidle hforce he hkind hslot => ?_, fun band hawake hband => ?_⟩⟩
  · change execRampDownStart l s = _
    simp [execRampDownStart, hx, hstep, hkind, hf]
  · change execRampDownStart l s = _
    simp [execRampDownStart, hx, hstep, hkind, hf]
  · change execPaEnDeassert r s = _
    have hnone : (s.sluice.launches.any fun x => x.radio == r && (x.step == .paOn || x.step == .ramping || x.step == .onAir)) =
        false := by
      rw [List.any_eq_false]
      intro x hx h
      simp only [Bool.and_eq_true, Bool.or_eq_true, beq_iff_eq] at h
      obtain ⟨hr, (hp | hp) | hp⟩ := h
      · exact (hmore x hx hr).1 hp
      · exact (hmore x hx hr).2.1 hp
      · exact (hmore x hx hr).2.2 hp
    rw [execPaEnDeassert, hnone, if_neg Bool.false_ne_true]
  · rw [exec_obsPowerVerdict_one hair]
    dsimp only
    rw [if_neg (Nat.not_lt.mpr hhigh), if_neg (Nat.not_lt.mpr hlow)]
  · rw [exec_obsPowerVerdict_one hair]
    dsimp only
    rw [if_pos hhigh]
  · rw [exec_obsFrequencyVerdict_one hair]
    dsimp only
    rw [if_neg (Nat.not_lt.mpr herr), if_neg (Int.not_lt.mpr hout)]
  · rw [exec_obsFrequencyVerdict_one hair]
    dsimp only
    rw [if_pos herr]
    exact ⟨_, rfl⟩
  · change execTxTestEnd r s = _
    rw [execTxTestEnd, hx]
  · rw [exec_dlAckWindowExpiry_awaited hy hawait]
    dsimp only
    rw [if_pos hexp]
  · rw [exec_dlAckWindowExpiry_awaited hy hawait]
    dsimp only
    rw [hexp, if_neg Bool.false_ne_true, if_pos hmax]
  · rw [exec_dlAckWindowExpiry_awaited hy hawait]
    dsimp only
    rw [hexp, if_neg Bool.false_ne_true, if_neg (Nat.not_le.mpr hmax)]
  · rw [exec_dlLifetimeExpiry_past hy hpast, hflight, hawait]
    rfl
  · rw [exec_dlLifetimeExpiry_past hy hpast, if_pos (by simpa using hbusy)]
  · change execAckStage5Deadline l s = _
    rw [execAckStage5Deadline, hx]
    dsimp only
    rw [if_pos hstep]
  · change execGateEntry r idx s = _
    simp [execGateEntry, hasn, hidle, hforce, he, hkind, hslot]
  · change execDutyBucketAdvance band s = _
    have hband' : (bandExists s.coh.active band.val || bandExists s.sluice.keptBands band.val) = true := by simpa using hband
    simp [execDutyBucketAdvance, hawake, hband', advanceBuckets]

end Sys2Proof.Machine

/-! ## Transmit commands (O24) -/

namespace Sys2Proof.Machine

/-- The fields of two runs of specifications pass where each run's do. -/
theorem checkFields_append {b : Bytes} {l k : List FieldSpec} :
    checkFields b (l ++ k) = none ↔ checkFields b l = none ∧ checkFields b k = none := by
  simp only [checkFields_none, List.mem_append, or_imp, forall_and]

/-- Settles O24: each command passes its checks and stages its part, or starts its test. -/
theorem transmitCommands : Obligations.TransmitCommands := by
  intro s m req buf
  dsimp only
  refine ⟨fun ht h0 h1 h2 h2' h3 h3' h4 h4' h8 h8' h9 hr0 hr1 hr2 => ?_, fun ht h0 h1 h2 h10 h12 hes => ?_,
    fun ht h0 h1 hes => ?_, fun r ht h0 h3 h4 h4' hen husable hradio hsched hpass => ?_⟩
  · refine taken_stage ht ?_
    refine checkFields_append.mpr ⟨checkFields_append.mpr ⟨checkFields_append.mpr ⟨?_, hr0⟩, hr1⟩, hr2⟩
    simp [checkFields_none, checkField, field_u8, field_u32, h0, Nat.lt_succ_of_le h1, h2, h2', h3, h3', h4, h4', h8, h8', h9]
  · refine taken_ok ht ?_
    have hfields : checkFields (fullBody req buf) [⟨0, 1, .range 0 2⟩, ⟨1, 1, .range 0 1⟩,
        ⟨2, 2, .range 0 (if req.indirect then 256 else 253)⟩, ⟨10, 2, .zero⟩, ⟨12, 4, .range 0 65536⟩] = none := by
      simp [checkFields_none, checkField, field_u8, field_u16, field_u32, h0, h1, h2, h10, h12]
    simp only [hfields, entries_pass hes]
  · refine taken_ok ht ?_
    have hfields : checkFields (fullBody req buf) [⟨0, 1, .range 0 16⟩, ⟨1, 3, .zero⟩] = none := by
      simp [checkFields_none, checkField, field_u8, h0, h1]
    have hpass := entries_pass (fs := fun _ => [⟨8, 4, .range 1 1000000⟩, ⟨12, 2, .range 1 3600⟩, ⟨14, 1, .range 0 500⟩,
          ⟨15, 1, .range 0 100⟩]) fun e he => by
      obtain ⟨h8, h8', h12, h12', h14, h15⟩ := hes e he
      simp [checkFields_none, checkField, field_u8, field_u16, field_u32, h8, h8', h12, h12', h14, h15]
    simp only [hfields, hpass]
  · refine taken_done ht ?_
    have hfields : checkFields (fullBody req buf) [⟨0, 1, .range 0 2⟩, ⟨3, 1, .range 0 1⟩, ⟨4, 4, .range 1 1000000⟩] = none := by
      have : r.val ≤ 2 := by omega
      simp [checkFields_none, checkField, field_u8, field_u32, h0, this, h3, h4, h4']
    have hr : Fin.ofNat 3 (u8 (fullBody req buf) 0) = r := by
      rw [h0]
      exact Fin.ext (Nat.mod_eq_of_lt r.isLt)
    have hradio' : (chanRadioFin s.coh.active (u8 (fullBody req buf) 1) != r) = false := by simp [hradio]
    simp only [hfields, takeReq_enabled, hen, takeReq_coh, husable, hr, hradio', hsched, hpass, Bool.not_true, Bool.or_self,
      Bool.false_eq_true, if_false]
    rfl

end Sys2Proof.Machine

/-! ## The plain page operations (O25) -/

namespace Sys2Proof.Machine

section
variable {s t u : State} {by_ : BusMaster} {p : Fin 32} {x y : Page}

/-- `t` is `s` with `y` on page `p`: other pages stand, and nothing outside the cipher engine and the counters changed. -/
structure PageBecomes (s : State) (p : Fin 32) (y : Page) (t : State) : Prop where
  page : t.page p = y
  others : ∀ q : Fin 32, q ≠ p → t.page q = s.page q
  frame : t = { s with cipher := t.cipher, counters := t.counters }

/-- A further change of the page keeps to the cipher engine and the counters. -/
theorem PageBecomes.then {z : Page} (h : PageBecomes s p y t) (page : u.page p = z)
    (others : ∀ q : Fin 32, q ≠ p → u.page q = t.page q) (frame : u = { t with cipher := u.cipher, counters := u.counters }) :
    PageBecomes s p z u where
  page := page
  others q hq := (others q hq).trans (h.others q hq)
  frame := by
    have ht := h.frame
    generalize t.cipher = c, t.counters = n at ht
    subst ht
    exact frame

theorem PageBecomes.self : PageBecomes s p (s.page p) s := ⟨rfl, fun _ _ => rfl, rfl⟩

theorem PageBecomes.onPage (h : PageBecomes s p y t) (f : Page → Page) : PageBecomes s p (f y) (t.onPage p f) :=
  h.then (by rw [onPage_page, h.page]) (fun _ hq => onPage_page_ne _ _ _ _ hq) rfl

theorem PageBecomes.countN (h : PageBecomes s p y t) (fn i n : Nat) : PageBecomes s p y (t.countN fn i n) :=
  h.then h.page (fun _ _ => rfl) rfl

theorem PageBecomes.count (h : PageBecomes s p y t) (fn i : Nat) : PageBecomes s p y (t.count fn i) := h.countN fn i 1

/-- The use of a key changes the key cache and the counters. -/
theorem PageBecomes.useKey (h : PageBecomes s p y t) (k n blocks : Nat) : PageBecomes s p y (useKey k n blocks t) := by
  have hmiss : PageBecomes s p y (if t.cipher.cache.contains k then t else t.count cipherFn 3) := by
    split
    · exact h
    · exact h.count _ _
  exact hmiss.then hmiss.page (fun _ _ => rfl) rfl

theorem PageBecomes.beginJob (h : PageBecomes s p y t) (op rc : Nat) (good : Bool) :
    PageBecomes s p { y with busy := some ⟨op, rc, good, none, y.dest, y.relLen.toNat⟩, done := false }
      (beginJob p op rc good t) :=
  h.then (by rw [beginJob_page, h.page]) (fun _ hq => beginJob_page_ne _ _ _ _ _ _ hq) (by
    conv => lhs; rw [beginJob_frame]
    rw [beginJob_frame])

/-- An operation that a page takes up and that will post RC_OK leaves the page busy with it. -/
theorem issuePlain_busy {op block len : Nat} (hon : coreOff s by_ = false) (hw : pageWorks s p = true)
    (hmay : pageAllowed s by_ p = true) (hidle : (s.page p).busy = none)
    (hrun : runPageOp p (regOp (s.page p) op block len) s = (rcOk, u)) (hu : PageBecomes s p y u) :
    PageBecomes s p { y with busy := some ⟨op, rcOk, false, none, y.dest, y.relLen.toNat⟩, done := false }
      (issuePlain by_ p op block len s) := by
  rw [issuePlain, issueOp_begins hon hmay hw hidle, hrun]
  exact hu.beginJob _ _ _

theorem withKey_some {i : Nat} {k : Bytes} (hk : (s.page p).key = some (i, k)) (f : Bytes → Page → Page) :
    withKey p s f = (rcOk, (s.onPage p (f k)).count cipherFn 1) := by
  simp only [withKey, hk]

/-- Operands within the quarantine pass the check of R289. -/
theorem operands_within {block len : Nat} (hb : block < 80) (hl : len < 16) : ¬(80 ≤ block || 16 < len) = true := by
  simp
  omega

/-- KEY_LOAD of a valid key that the page may load, by what unwrapping it gives (R297). -/
theorem loadKey_valid {i : Nat} (hv : keyValid s.coh.active i = true)
    (hu : usageAllowed s.coh.active p (keyUsage s.coh.active i) = true) : loadKey p i s =
    match openKey s.coh.active i with
    | .bad rc =>
      (rc, if rc = rcUnwrapFail then raiseSource 55 cipherFn i ((s.count cipherFn 3).count cipherFn 14) else s.count cipherFn 3)
    | .good key _ => (rcOk, Sys2Proof.Machine.useKey i 1 0 (s.onPage p fun x => { x with key := some (i, key), x := zeros 16 })) := by
  simp only [loadKey, hv, hu, Bool.not_true, Bool.false_eq_true, if_false] <;> rfl

end

/-- Settles O25: each operation's row of `runPageOp` is read off, and beginning it leaves the page busy with its outcome. -/
theorem plainPageOperations : Obligations.PlainPageOperations := by
  intro s by_ p hon hw hmay hidle
  dsimp only
  have settle : ∀ (op block len : Nat) {y : Page} {u : State},
      runPageOp p (regOp (s.page p) op block len) s = (rcOk, u) → PageBecomes s p y u →
      ∃ t, (.next (issuePlain by_ p op block len s) : Out) = .next t ∧
        t.page p = { y with busy := some ⟨op, rcOk, false, none, y.dest, y.relLen.toNat⟩, done := false } ∧
        (∀ q : Fin 32, q ≠ p → t.page q = s.page q) ∧ t = { s with cipher := t.cipher, counters := t.counters } := by
    intro op block len y u hrun hu
    obtain ⟨hpage, hothers, hframe⟩ := issuePlain_busy hon hw hmay hidle hrun hu
    exact ⟨_, rfl, hpage, hothers, hframe⟩
  have keyed : ∀ (op block len : Nat) {i : Nat} {k : Bytes} {f : Bytes → Page → Page}, (s.page p).key = some (i, k) →
      runPageOp p (regOp (s.page p) op block len) s = withKey p s f → 
      ∃ t, (.next (issuePlain by_ p op block len s) : Out) = .next t ∧
        t.page p = { f k (s.page p) with
          busy := some ⟨op, rcOk, false, none, (f k (s.page p)).dest, (f k (s.page p)).relLen.toNat⟩, done := false } ∧
        (∀ q : Fin 32, q ≠ p → t.page q = s.page q) ∧ t = { s with cipher := t.cipher, counters := t.counters } :=
    fun _ _ _ _ _ _ hk hrun => settle _ _ _ (hrun.trans (withKey_some hk _)) ((PageBecomes.self.onPage _).count _ _)
  refine ⟨fun i k hk => ⟨?_, ?_, ?_, fun block len hb => ⟨?_, ?_⟩⟩, fun block len hb => ?_, fun hheld => ?_, ?_, ?_,
    fun hv hu => ?_⟩
  · exact keyed 2 0 0 hk rfl
  · exact keyed 3 0 0 hk rfl
  · exact keyed 4 0 0 hk rfl
  · exact keyed 7 _ _ hk (if_neg (operands_within hb len.isLt))
  · exact keyed 8 _ _ hk (if_neg (operands_within hb len.isLt))
  · exact settle 6 _ _ (if_neg (operands_within hb len.isLt)) (PageBecomes.self.onPage _)
  · have hread : runPageOp p (regOp (s.page p) 5 0 0) s = (rcOk, s.onPage p fun y => { y with out := y.x }) :=
      (if_neg (operands_within (block := 0) (len := 0) (by decide) (by decide))).trans (if_neg (by simp [hheld]))
    exact settle 5 0 0 hread (PageBecomes.self.onPage _)
  · exact settle 10 0 0 rfl (PageBecomes.self.onPage _)
  · exact settle 0 0 0 rfl PageBecomes.self
  · have hload : loadKey p (s.page p).keyIndex.toNat s = _ := loadKey_valid hv hu
    split
    next key _ hopen =>
      rw [hopen] at hload
      exact settle 1 0 0 hload ((PageBecomes.self.onPage _).useKey _ _ _)
    next rc hopen =>
      rw [hopen] at hload
      change (.next (issuePlain by_ p 1 0 0 s) : Out) = _
      rw [issuePlain, issueOp_begins hon hmay hw hidle]
      change (.next (beginJob p 1 (loadKey p (s.page p).keyIndex.toNat s).1 false (loadKey p (s.page p).keyIndex.toNat s).2) : Out) = _
      rw [hload]

end Sys2Proof.Machine

/-! ## Tag verification and contexts (O27) -/

namespace Sys2Proof.Machine

section
variable {s t : State} {by_ : BusMaster} {p : Fin 32}

/-- A TAG_VERIFY whose operands and destination pass starts its comparison (R288). -/
theorem issueVerify_begins {block len : Nat} (hon : coreOff s by_ = false) (hmay : pageAllowed s by_ p = true)
    (hw : pageWorks s p = true) (hidle : (s.page p).busy = none)
    (hpass : verifyRefused (s.page p) (regOp (s.page p) 9 block len) = none) (hdest : destOk s p = true) :
    issueVerify by_ p block len s =
      beginJob p 9 rcOk (tagMatches (s.page p) (regOp (s.page p) 9 block len)) (s.count cipherFn 1) := by
  simp [issueVerify, hon, hmay, hw, hidle, hpass, hdest]

/-- Beginning an operation leaves the list of the contexts. -/
theorem beginJob_contexts (op rc : Nat) (good : Bool) (s : State) :
    (beginJob p op rc good s).cipher.contexts = s.cipher.contexts := by
  rw [beginJob]
  obtain ⟨_, _, _, _, h⟩ := grantCores_frame (s.onPage p fun x =>
    { x with busy := some ⟨op, rc, good, none, x.dest, x.relLen.toNat⟩, done := false })
  rw [h]
  rfl

theorem beginJob_mem (op rc : Nat) (good : Bool) (s : State) : (beginJob p op rc good s).mem = s.mem := by
  rw [beginJob_frame]

theorem beginJob_radios (op rc : Nat) (good : Bool) (s : State) : (beginJob p op rc good s).radios = s.radios := by
  rw [beginJob_frame]

theorem beginJob_counters (op rc : Nat) (good : Bool) (s : State) : (beginJob p op rc good s).counters = s.counters := by
  rw [beginJob_frame]

theorem beginJob_freeCount (op rc : Nat) (good : Bool) (s : State) : (beginJob p op rc good s).freeCount = s.freeCount := by
  rw [beginJob_frame]

theorem freeBytes_length : ∀ (n : Nat) (s : State), (freeBytes n s).1.length = n
  | 0, _ => rfl
  | n + 1, s => congrArg (· + 1) (freeBytes_length n s.free.2)

/-- The state after `blob`, free bytes, has been stored as context `c` (R291). -/
def contextSaved (addr n : Nat) (c : SavedCtx) (s : State) : State :=
  (((freeBytes n s).2.store addr (freeBytes n s).1).onCipher fun y => { y with contexts := c :: y.contexts }).count cipherFn 15

/-- CTX_SAVE on a firmware page without a held quarantine, to a place that suits its form (R291). -/
theorem saveCtx_place {wrapped : Bool} {addr : Nat} (hp : p.val < 4) (hheld : (s.page p).held = false)
    (hplace : ctxPlace wrapped addr = true) :
    ∃ c, saveCtx p wrapped addr s = (rcOk, contextSaved addr (if wrapped = true then 72 else 64) c s) := by
  refine ⟨⟨(freeBytes (if wrapped = true then 72 else 64) s).1, wrapped, (s.page p).key, (s.page p).x, (s.page p).out,
    (s.page p).tagLen, (s.page p).relLen⟩, ?_⟩
  rw [saveCtx, if_neg (Nat.not_le.mpr hp), if_neg (by simp [hheld]), if_neg (by simp [hplace])]
  rfl

/-- A saved context changes memory, the calibration store behind its tables, the engine, counters and free values. -/
theorem contextSaved_frame (addr n : Nat) (c : SavedCtx) (s : State) : contextSaved addr n c s =
    { s with radios := (contextSaved addr n c s).radios, mem := (contextSaved addr n c s).mem
             cipher := (contextSaved addr n c s).cipher, counters := (contextSaved addr n c s).counters
             freeCount := (contextSaved addr n c s).freeCount } := by
  obtain ⟨st, ph, po, h⟩ := (freeBytes n s).2.store_frame addr (freeBytes n s).1
  rw [contextSaved, h, freeBytes_frame]
  rfl

theorem contextSaved_page (addr n : Nat) (c : SavedCtx) (q : Fin 32) : (contextSaved addr n c s).page q = s.page q := by
  change (((freeBytes n s).2.store addr (freeBytes n s).1).cipher.pages)[q] = _
  rw [State.store_cipher, freeBytes_frame]
  rfl

/-- Off the tables of Backwater a saved context is in memory alone. -/
theorem contextSaved_plain {addr n : Nat} (c : SavedCtx) (h : offTables addr n = true) :
    (contextSaved addr n c s).mem.phys = memWrites s.mem.phys addr (freeBytes n s).1 ∧
      (contextSaved addr n c s).radios = s.radios := by
  obtain ⟨hphys, hradios⟩ := (freeBytes n s).2.store_plain addr (freeBytes n s).1 (by rw [freeBytes_length]; exact h)
  rw [freeBytes_frame] at hphys hradios
  constructor
  · rw [contextSaved, freeBytes_frame]
    exact hphys
  · rw [contextSaved, freeBytes_frame]
    exact hradios

theorem contextSaved_contexts (addr n : Nat) (c : SavedCtx) :
    (contextSaved addr n c s).cipher.contexts = c :: s.cipher.contexts := by
  change c :: ((freeBytes n s).2.store addr (freeBytes n s).1).cipher.contexts = _
  rw [State.store_cipher, freeBytes_frame]

/-- CTX_RESTORE of a context that the engine wrote (R291). -/
theorem restoreCtx_written {wrapped : Bool} {addr : Nat} {c : SavedCtx} (hp : p.val < 4) (hplace : ctxPlace wrapped addr = true)
    (hfind : s.cipher.contexts.find? (fun c => c.wrapped == wrapped &&
      c.blob == s.load addr (if wrapped = true then 72 else 64)) = some c) :
    restoreCtx p wrapped addr s = (rcOk, (s.onPage p fun x =>
      { x with key := c.key, x := c.x, out := c.out, tagLen := c.tagLen, relLen := c.relLen }).count cipherFn 16) := by
  rw [restoreCtx, if_neg (Nat.not_le.mpr hp), if_neg (by simp [hplace])]
  dsimp only
  rw [hfind]

/-- The verdict of a comparison on a page that no link frame holds and that the cluster does not own. -/
theorem exec_tagVerifyVerdict_firmware {good : Bool} {dest : BitVec 40} {len : Nat}
    (hbusy : (s.page p).busy = some ⟨9, rcOk, good, none, dest, len⟩) (howner : pageOwner s.coh.active p = 0) :
    exec (.tagVerifyVerdict p) s = .next (pageVerdict p ⟨9, rcOk, good, none, dest, len⟩ s) := by
  have hcoh : (pageVerdict p ⟨9, rcOk, good, none, dest, len⟩ s).coh = s.coh := by
    rw [pageVerdict]
    dsimp only
    split
    · exact State.store_coh ..
    · rfl
  change execTagVerifyVerdict p s = _
  rw [execTagVerifyVerdict, hbusy]
  dsimp only
  rw [if_neg (by simp), pageDone, hcoh, if_neg (by simp [howner])]

/-- General SRAM lies beyond the tables of Backwater. -/
theorem offTables_of_inGeneral {a n k : Nat} (h : inGeneral a n = true) : offTables a k = true := by
  simp only [inGeneral, Bool.and_eq_true, decide_eq_true_eq] at h
  have hbeyond : tablesEnd ≤ a := by
    have : tablesEnd ≤ 0x10700000 := by decide
    omega
  simp [offTables, hbeyond]

theorem pageVerdict_phys {good : Bool} {dest : BitVec 40} {len : Nat} (howner : pageOwner s.coh.active p = 0)
    (hdest : inGeneral dest.toNat len = true) : (pageVerdict p ⟨9, rcOk, good, none, dest, len⟩ s).mem.phys =
      if good = true then memWrites s.mem.phys dest.toNat ((s.page p).q.take len) else s.mem.phys := by
  cases good with
  | false => rfl
  | true =>
    obtain ⟨hphys, -⟩ := s.store_plain dest.toNat ((s.page p).q.take len) (offTables_of_inGeneral hdest)
    rw [if_pos rfl, ← hphys, pageVerdict]
    dsimp only
    rw [if_pos (by simp [howner])]
    rfl

theorem pageVerdict_page (j : PageJob) : (pageVerdict p j s).page p =
    { wipePage (s.page p) with busy := none, done := true, reason := BitVec.ofNat 16 (if j.good then rcOk else rcTagFail) } := by
  rw [pageVerdict]
  dsimp only
  rw [show ∀ (u : State) fn i, (u.count fn i).page p = u.page p from fun _ _ _ => rfl, onPage_page]
  split
  · rw [State.page, State.store_cipher]
    rfl
  · rfl

/-- A taken CTX_SAVE leaves its context stored and the page busy. -/
theorem issueOp_saveCtx {wrapped : Bool} {addr : Nat} (hon : coreOff s by_ = false) (hmay : pageAllowed s by_ p = true)
    (hw : pageWorks s p = true) (hidle : (s.page p).busy = none) (hp : p.val < 4) (hheld : (s.page p).held = false)
    (hplace : ctxPlace wrapped addr = true) : ∃ c, issueOp by_ p 11 s (saveCtx p wrapped addr) =
      beginJob p 11 rcOk false (contextSaved addr (if wrapped = true then 72 else 64) c s) := by
  obtain ⟨c, hsave⟩ := saveCtx_place hp hheld hplace
  exact ⟨c, by rw [issueOp_begins hon hmay hw hidle, hsave]⟩

end

/-- Settles O27: comparison, verdict, end of an operation and contexts, each by what its operation leaves. -/
theorem tagVerificationAndContexts : Obligations.TagVerificationAndContexts := by
  intro s by_ p
  dsimp only
  refine ⟨fun hon hw hmay hidle => ⟨fun hpass hdest => ?_, fun wrapped addr hp hheld hplace => ?_,
    fun wrapped addr c hp hplace hfind => ?_⟩, fun good dest len hbusy howner hdest => ?_, fun j hbusy hop hwait => ?_⟩
  · obtain ⟨hpage, -, hframe⟩ := (PageBecomes.self (s := s) (p := p)).count cipherFn 1 |>.beginJob 9 rcOk
      (tagMatches (s.page p) (regOp (s.page p) 9 0 0))
    rw [← issueVerify_begins hon hmay hw hidle hpass hdest] at hpage hframe
    exact ⟨_, rfl, hpage, hframe⟩
  · obtain ⟨c, hissue⟩ := issueOp_saveCtx hon hmay hw hidle hp hheld hplace
    refine ⟨issueOp by_ p 11 s (saveCtx p wrapped addr), _, rfl, rfl, ?_⟩
    rw [hissue]
    refine ⟨fun hoff => ?_, ?_, ?_, ?_⟩
    · rw [beginJob_mem, beginJob_radios]
      exact contextSaved_plain c hoff
    · rw [beginJob_contexts, contextSaved_contexts, List.length_cons]
    · rw [beginJob_page, contextSaved_page]
    · have hsaved := contextSaved_frame addr (if wrapped = true then 72 else 64) c s
      generalize contextSaved addr (if wrapped = true then 72 else 64) c s = u at hsaved ⊢
      generalize u.radios = r, u.mem = m, u.cipher = y, u.counters = k, u.freeCount = n at hsaved
      subst hsaved
      rw [beginJob_mem, beginJob_radios, beginJob_counters, beginJob_freeCount]
      exact beginJob_frame _ _ _ _ _
  · have hissue := issueOp_begins (op := 12) (f := restoreCtx p wrapped addr) hon hmay hw hidle
    rw [restoreCtx_written hp hplace hfind] at hissue
    obtain ⟨hpage, -, hframe⟩ := (PageBecomes.self (s := s) (p := p)).onPage (fun x =>
      { x with key := c.key, x := c.x, out := c.out, tagLen := c.tagLen, relLen := c.relLen }) |>.count cipherFn 16
      |>.beginJob 12 rcOk false
    rw [← hissue] at hpage hframe
    exact ⟨_, rfl, hpage, hframe⟩
  · exact ⟨_, exec_tagVerifyVerdict_firmware hbusy howner, pageVerdict_page _, pageVerdict_phys howner hdest⟩
  · change execPageOperationDone p none s = _
    unfold execPageOperationDone
    rw [hbusy]
    dsimp only
    rw [if_neg (by simp [hop, hwait])]

end Sys2Proof.Machine

/-! ## Keys and the counter journal (O28) -/

namespace Sys2Proof.Machine

section
variable {s : State} {r : JRecord} {rest : List JRecord}

/-- A change of the journal leaves the counter slots. -/
theorem stepJournal_slots (f : Journal → Journal) (s : State) : (stepJournal f s).cipher.slots = s.cipher.slots := by
  unfold stepJournal
  dsimp only
  split
  · rfl
  · exact foldl_keeps (fun t : State => t.cipher.slots) _ (fun t i => by rw [raiseEvent_cipher]) _ _

/-- A durable record whose key has no counter slot is only put into the head sector and counted. -/
theorem recordDurable_unused (hslot : mget s.cipher.slots r.key = none) :
    recordDurable r s = (stepJournal (putRecord r) s).count cipherFn (if r.copied = true then 12 else 9) := by
  unfold recordDurable
  dsimp only
  rw [State.count_cipher, stepJournal_slots, hslot]

/-- One of the first three failures of a program only burns a word of the head sector. -/
theorem recordFailed_early (hfails : s.cipher.journal.fails < 3) : recordFailed s = stepJournal
    (fun y => turnJournal { putWord (failedWord (Config.freeValue s.freeCount)) y with fails := y.fails + 1 })
    { s with freeCount := s.freeCount + 1 } := by
  rw [recordFailed]
  exact if_neg (by simp; omega)

/-- The end of a program while a record waits, no fault stands and the head sector has room (R301, R303). -/
theorem exec_journalProgramDone_waiting (hq : s.cipher.journal.queue = r :: rest) (hfails : s.cipher.journal.fails < 4)
    (hroom : headFull s.cipher.journal = false) (ok : Bool) :
    exec (.journalProgramDone ok) s = .next (retryWaiting (if ok then recordDurable r s else recordFailed s)) := by
  change execJournalProgramDone ok s = _
  rw [execJournalProgramDone, hq]
  exact if_neg (by simp [hroom]; omega)

theorem exec_journalProgramDone_full (hfull : headFull s.cipher.journal = true) (ok : Bool) :
    exec (.journalProgramDone ok) s = .next s := by
  change execJournalProgramDone ok s = _
  rw [execJournalProgramDone]
  cases s.cipher.journal.queue with
  | nil => rfl
  | cons r rest => exact if_pos (by simp [hfull])

/-- The erase of a sector whose records have been copied ends (R304). -/
theorem exec_sectorEraseDone_copied {i : Nat} (hi : s.cipher.journal.reclaim = some i)
    (hcopied : ∀ r ∈ s.cipher.journal.queue, r.copied = false) (ok : Bool) : exec (.sectorEraseDone ok) s = .next
    (if ok then (stepJournal (fun y => turnJournal
        { y with
          sectors := y.sectors.set (Fin.ofNat 16 i)
            { Sector.reset with erases := s.cipher.journal.sectors[Fin.ofNat 16 i].erases + 1 }
          reclaim := none }) s).count cipherFn 11
      else raiseEvent 130 cipherFn (i + 2 * 2 ^ 8) s) := by
  change execSectorEraseDone ok s = _
  rw [execSectorEraseDone, hi]
  dsimp only
  rw [if_neg (by simpa using hcopied)]
  cases ok <;> rfl

/-- A response without a fixed part that fits inline is delivered whole. -/
theorem deliver_inline {req : Req} {fixed var : Bytes} (hreq : req.indirect = false) (h : fixed.length + var.length ≤ 4064)
    (s0 u : State) (m : Fin 4) (rc d : Nat) :
    deliver s0 m req (.done u rc d fixed var) = respond m req rc d (fixed ++ var) u := by
  simp [deliver, hreq, Nat.not_lt.mpr h]

end

section
variable (s : State) (m : Fin 4) (req : Req) (buf : Bytes)

theorem takeReq_writesOf (op : Nat) : (takeReq m req s).writesOf op = s.writesOf op := by
  rw [State.writesOf, takeReq_coh, State.writesOf]

/-- The import of keys whose entries are well formed, by its wrapping key, its entries and the room that is left (R298). -/
theorem exec_keyImport_wellFormed (ht : Taken s 0x0702 m req) :
    let h := takeReq m req s
    let body := fullBody req buf
    let form := u8 body 0
    let es := runEntries 8 (if form = 2 then 64 else 56) (u16 body 2) body
    u8 body 1 = 0 → form ≤ 2 → 1 ≤ u16 body 2 →
    u16 body 2 ≤ (if req.indirect = true then 16384 else if form = 2 then 63 else 72) →
    (form ≠ 1 → u32 body 4 = 0xFFFFFFFF) → (form ≠ 2 → ∀ e ∈ es, u32 e 4 = 0 ∧ u32 e 0 < 262144) →
    (form = 2 → ∀ e ∈ es, field e 51 5 = 0 ∧ u32 e 60 = 0) →
    exec (.keyImport buf) s = .next (match importKek h form (u32 body 4) with
      | .bad rc => respond m req rc 0 (leBytes 4 0xFFFFFFFF) h
      | .good kek _ =>
        match importAll form kek 0 es h with
        | (some (n, rc), _) => respond m req rc 0 (leBytes 4 n) (if rc = rcUnwrapFail then h.count cipherFn 14 else h)
        | (none, t) => if 65536 < s.writesOf 0x0702 + u16 body 2 then respond m req rcTableFull 0 [] h
          else respond m req rcOk 0 [] (addWrites 0x0702 (u16 body 2) t)) := by
  dsimp only
  intro h1 hform hcount hmost hwrap hkeys hcopies
  change (.next (runKci 0x0702 buf _ s) : Out) = _
  rw [runKci_taken ht]
  dsimp only
  generalize u8 (fullBody req buf) 0 = form at *
  generalize fullBody req buf = body at *
  generalize runEntries 8 (if form = 2 then 64 else 56) (u16 body 2) body = es at *
  have hrange : ¬(2 < form || decide (u16 body 2 = 0) || (decide ((if req.indirect = true then 16384
      else if form = 2 then 63 else 72) < u16 body 2)) || (form != 1 && u32 body 4 != 0xFFFFFFFF)) = true := by
    simp only [Bool.or_eq_true, decide_eq_true_eq, Bool.and_eq_true, bne_iff_ne]
    rintro (((h | h) | h) | ⟨h, h'⟩)
    · omega
    · omega
    · omega
    · exact h' (hwrap h)
  have hzeros : ¬(form != 2 && es.any fun e => u32 e 4 != 0) = true := by
    simp only [Bool.and_eq_true, bne_iff_ne, List.any_eq_true]
    rintro ⟨h, e, he, hne⟩
    exact hne (hkeys h e he).1
  have hrest : ¬(decide (form = 2) && es.any fun e => field e 51 5 != 0 || u32 e 60 != 0) = true := by
    simp only [Bool.and_eq_true, decide_eq_true_eq, Bool.or_eq_true, bne_iff_ne, List.any_eq_true]
    rintro ⟨h, e, he, hne⟩
    obtain ⟨h51, h60⟩ := hcopies h e he
    exact hne.elim (· h51) (· h60)
  have hindex : ¬(form != 2 && es.any fun e => decide (262144 ≤ u32 e 0)) = true := by
    simp only [Bool.and_eq_true, bne_iff_ne, List.any_eq_true, decide_eq_true_eq]
    rintro ⟨h, e, he, hge⟩
    exact Nat.not_le.mpr (hkeys h e he).2 hge
  rw [if_neg (by simp [h1]), if_neg hrange, if_neg hzeros, if_neg hrest, if_neg hindex]
  cases importKek (takeReq m req s) form (u32 body 4) with
  | bad rc => rfl
  | good kek _ =>
    dsimp only
    rcases importAll form kek 0 es (takeReq m req s) with ⟨_ | ⟨n, rc⟩, t⟩
    · dsimp only
      rw [takeReq_writesOf]
      split
      · rfl
      · rw [ok, deliver_bare]
    · exact congrArg _ (deliver_fixed (by simp [leBytes]) _ _ _ _ _)

end

/-- Settles O28: the key commands answer what their meanings give, and each journal event does the work of its branch. -/
theorem keysAndTheirJournal : Obligations.KeysAndTheirJournal := by
  refine ⟨fun s m req buf => ?_, fun s => ?_⟩
  · dsimp only
    refine ⟨fun ht h0 howner h2 => ?_, exec_keyImport_wellFormed s m req buf, fun ht h2 h0 h0' his hroom => ?_,
      fun ht h4 h4' hlast hfits => ?_, fun ht h0 hz hes h1 h1' hen henc hreset howner n rc outs rel t hrun => ?_,
      fun ht hk hfits => ?_⟩
    · refine taken_ok ht ?_
      have hcores : ¬(decide (2 < u8 (fullBody req buf) 0) ||
          (u8 (fullBody req buf) 0 == 2) != (u8 (fullBody req buf) 1 != 0)) = true := by
        by_cases h : u8 (fullBody req buf) 0 = 2
        · simp [h, howner.mp h]
        · simp [h, h0, Classical.not_not.mp (mt howner.mpr h)]
      exact (if_neg hcores).trans (stageOne_passes _ _ _ _ _ _ _ _ (by simp [checkFields_none, checkField, field_u16, h2]))
    · refine taken_ok ht ?_
      have hindex : ¬(decide (u16 (fullBody req buf) 0 = 0) || decide (1015 < u16 (fullBody req buf) 0) ||
          ((List.range (u16 (fullBody req buf) 0)).map fun i => u32 (fullBody req buf) (4 + 4 * i)).any
            fun i => decide (262144 ≤ i)) = true := by
        simp only [Bool.or_eq_true, decide_eq_true_eq, List.any_eq_true]
        rintro ((h | h) | ⟨i, hi, h⟩)
        · omega
        · omega
        · exact Nat.not_le.mpr (his i hi) h
      dsimp only
      rw [if_neg (by simp [h2]), if_neg hindex, takeReq_writesOf, if_neg (Nat.not_lt.mpr hroom)]
    · refine taken_answers ht ?_ hfits
      have hrun : ¬(decide (u32 (fullBody req buf) 4 = 0) || decide ((if req.indirect = true then 16384 else 63) <
          u32 (fullBody req buf) 4) || decide (262144 < u32 (fullBody req buf) 0 + u32 (fullBody req buf) 4)) = true := by
        simp only [Bool.or_eq_true, decide_eq_true_eq]
        omega
      dsimp only
      rw [if_neg hrun, takeReq_coh]
    · have hpad : ¬(u8 (fullBody req buf) 0 != 0 || field (fullBody req buf) 2 6 != 0 ||
          (runEntries 8 48 (u8 (fullBody req buf) 1) (fullBody req buf)).any fun e => field e 10 6 != 0) = true := by
        simpa [h0, hz] using hes
      have hcount : ¬(decide (u8 (fullBody req buf) 1 = 0) || decide (84 < u8 (fullBody req buf) 1)) = true := by
        simp
        omega
      have hexec : exec (.pageRun buf) s = .next (deliver (takeReq m req s) m req
          (.done (t.onPage (pageOf req.fn) fun x => { x with done := true, reason := BitVec.ofNat 16 rc }) rc 0
            (leBytes 1 n ++ zeros 7) (outs ++ rel))) := by
        change (.next (runKci 0x0705 buf _ s) : Out) = _
        rw [runKci_taken ht]
        dsimp only
        rw [if_neg hpad, if_neg hcount, if_neg (by simp [hen, henc]), if_neg (by simp [hreset]),
          if_neg (by simp [howner]), hrun]
      refine ⟨fun hinline hlen => ?_, fun _ => hexec⟩
      rw [hexec, deliver_inline hinline (by simp [leBytes, zeros]; omega)]
    · refine taken_answers ht ?_ hfits
      dsimp only
      rw [if_neg (Nat.not_le.mpr hk), takeReq_cipher]
      cases mget s.cipher.slots (u32 (fullBody req buf) 0) <;> rfl
  · dsimp only
    refine ⟨fun r rest hq hfails hroom hslot => ?_, fun r rest hq hfails hroom => ?_, exec_journalProgramDone_full,
      fun hfault => if_pos hfault, fun i hi hcopied => ⟨?_, ?_⟩⟩
    · rw [exec_journalProgramDone_waiting hq hfails hroom, if_pos rfl, recordDurable_unused hslot]
    · rw [exec_journalProgramDone_waiting hq (Nat.lt_succ_of_lt hfails) hroom, if_neg (by simp), recordFailed_early hfails]
    · exact exec_sectorEraseDone_copied hi hcopied true
    · exact exec_sectorEraseDone_copied hi hcopied false

end Sys2Proof.Machine

/-! ## Router events (O29) -/

namespace Sys2Proof.Machine

section
variable {s : State} {p : Fin 2} {frame : Bytes}

/-- The state after a received frame has been counted with its length (R317). -/
def frameCounted (p : Fin 2) (frame : Bytes) (s : State) : State :=
  (countPort p 1 s).countN (portFn p) 2 (frame.length + 4)

/-- A port that is disabled or down, or any while the device is asleep, takes no frame. -/
theorem exec_ethFrameReceived_deaf
    (h : s.asleep = true ∨ s.works (portFn p) = false ∨ (s.router.ports[p]).up = false) (fcsOk : Bool) :
    exec (.ethFrameReceived p frame fcsOk) s = .next s := by
  refine if_pos ?_
  simp only [Bool.or_eq_true, Bool.not_eq_true', Bool.and_eq_false_iff]
  exact h

/-- An untagged frame with a good FCS, up to its length check (R317). -/
theorem exec_ethFrameReceived_bad (hawake : s.asleep = false) (hw : s.works (portFn p) = true)
    (hup : (s.router.ports[p]).up = true) :
    exec (.ethFrameReceived p frame false) s = .next (countPort p 3 (frameCounted p frame s)) := by
  change execEthFrameReceived p frame false s = _
  rw [execEthFrameReceived]
  dsimp only
  rw [if_neg (by rw [hawake, hw, hup]; decide), if_pos (by decide)]
  rfl

theorem exec_ethFrameReceived_untagged (hawake : s.asleep = false) (hw : s.works (portFn p) = true)
    (hup : (s.router.ports[p]).up = true) (htag : beNat (slice frame 12 2) ≠ 0x8100) :
    (maxFrame s.coh.active p.val < frame.length + 4 →
      exec (.ethFrameReceived p frame true) s = .next (countPort p 4 (frameCounted p frame s))) ∧
    (∀ q : Bytes, beNat (slice frame 12 2) = 0x86DD → frame.length + 4 ≤ maxFrame s.coh.active p.val →
      addressedTo s.coh.active p (frame.take 6) = true → ipPacket (frame.drop 14) = some q → ipVersion q = 6 →
      s.works routerFn = true →
      exec (.ethFrameReceived p frame true) s =
        .next (routePacket s.coh.active s.coh.generation q (frameCounted p frame s)).2) := by
  have htagged : (decide (frame.length ≥ 14) && beNat (slice frame 12 2) == 0x8100) = false := by
    rw [beq_false_of_ne htag, Bool.and_false]
  have hexec : exec (.ethFrameReceived p frame true) s = execEthFrameReceived p frame true s := rfl
  rw [hexec, execEthFrameReceived]
  dsimp only
  rw [if_neg (by rw [hawake, hw, hup]; decide), if_neg (by decide), htagged]
  simp only [Bool.false_eq_true, if_false, Bool.false_and, Nat.reduceAdd]
  refine ⟨fun hlong => if_pos hlong, fun q hty hlen haddr hip hver hworks => ?_⟩
  rw [if_neg (Nat.not_lt.mpr hlen), hty, if_neg (by simp), if_neg (by simp [haddr]),
    if_neg (by decide), if_pos (by decide), hip]
  dsimp only
  rw [if_pos (by rw [hver]; decide)]
  exact congrArg _ (if_pos hworks)

end

/-- Settles O29: the branches of the frame's reception, of the link's change and of the report of drops. -/
theorem routerEvents : Obligations.RouterEvents := by
  intro s p
  refine ⟨fun frame fcsOk => ⟨fun hdeaf => exec_ethFrameReceived_deaf hdeaf fcsOk, fun hawake hw hup =>
    ⟨fun hfcs => ?_, fun hfcs htag hlong => ?_, fun q hfcs hty hlen haddr hip hver hworks => ?_⟩⟩, fun up speed => ?_,
    fun hnone => if_pos hnone, fun hdrops => if_neg hdrops⟩
  · rw [hfcs]
    exact exec_ethFrameReceived_bad hawake hw hup
  · rw [hfcs]
    exact (exec_ethFrameReceived_untagged hawake hw hup htag).1 hlong
  · rw [hfcs]
    exact (exec_ethFrameReceived_untagged hawake hw hup (by omega)).2 q hty hlen haddr hip hver hworks
  · have hspeed : (if (up && (portSpeeds s.coh.active p.val).contains speed.val) = true then speed.val else 0) =
        if up = true ∧ speed.val ∈ portSpeeds s.coh.active p.val then speed.val else 0 := by
      simp only [Bool.and_eq_true, List.contains_iff_mem]
    have hexec : exec (.portLinkChange p up speed) s = .next (setLink p
        (if (up && (portSpeeds s.coh.active p.val).contains speed.val) = true then speed.val else 0) s) := rfl
    dsimp only
    rw [hexec, hspeed]
    generalize (if up = true ∧ speed.val ∈ portSpeeds s.coh.active p.val then speed.val else 0) = sp
    refine ⟨fun hsame => ?_, fun hdiff => ?_⟩
    · rw [setLink]
      exact congrArg _ (if_pos (by simpa using hsame))
    · rw [setLink]
      exact congrArg _ (if_neg (by simpa using hdiff))

end Sys2Proof.Machine

/-! ## Router and time commands (O31) -/

namespace Sys2Proof.Machine

theorem leNat_lt : ∀ bs : Bytes, leNat bs < 256 ^ bs.length
  | [] => by simp [leNat]
  | b :: bs => by
    have hb := b.isLt
    have hbs := leNat_lt bs
    rw [leNat, List.length_cons, Nat.pow_succ]
    omega

theorem field_lt (b : Bytes) (o n : Nat) : field b o n < 256 ^ n :=
  Nat.lt_of_lt_of_le (leNat_lt _) (Nat.pow_le_pow_right (by decide) (List.length_take_le _ _))

theorem u16_le (b : Bytes) (o : Nat) : u16 b o ≤ 65535 := Nat.le_of_lt_succ (field_lt b o 2)

/-- A run of one-byte fields passes when each byte is in its range. -/
theorem byteFields_pass {b : Bytes} {off n hi : Nat} (h : ∀ i, i < n → u8 b (off + i) ≤ hi) :
    checkFields b (byteFields off n hi) = none := by
  rw [checkFields_none, byteFields]
  intro f hf
  obtain ⟨i, hi', rfl⟩ := List.mem_map.mp hf
  simp [checkField, field_u8, h i (List.mem_range.mp hi')]

/-- A run of `count` entries from `first` that is not empty, at most `most` long and within a table of `size`. -/
theorem run_within {count most first size : Nat} (h1 : 1 ≤ count) (hmost : count ≤ most) (hsize : first + count ≤ size) :
    ¬(decide (count = 0) || decide (most < count) || decide (size < first + count)) = true := by
  simp only [Bool.or_eq_true, decide_eq_true_eq]
  omega

section
variable {s : State} {m : Fin 4} {req : Req} {buf : Bytes}

/-- TIME_SET whose fields pass: the source in force, then the mode, then the validity and the size of the step (R366, R375). -/
theorem timeSet_passes {body : Bytes} (h0 : u8 body 0 ≤ 2) (h1 : u8 body 1 ≤ 1) (h2 : u16 body 2 = 0)
    (h12 : u32 body 12 ≤ if u8 body 0 = 0 then 999999999 else 0) :
    checkFields body ([⟨0, 1, .range 0 2⟩, ⟨1, 1, .flags 1⟩, ⟨2, 2, .zero⟩]
      ++ (if u8 body 0 = 0 then [⟨12, 4, .range 0 999999999⟩] else [⟨12, 4, .range 0 0⟩])) = none := by
  refine checkFields_append.mpr ⟨by simp [checkFields_none, checkField, field_u8, field_u16, h0, Nat.lt_succ_of_le h1, h2], ?_⟩
  split at h12
  next hmode => simp [hmode, checkFields_none, checkField, field_u32, h12]
  next hmode => simp [hmode, checkFields_none, checkField, field_u32, Nat.le_zero.mp h12]

/-- TIME_SET is refused while source 4 is in force, and while another disciplines time unless FORCE is set (R366). -/
theorem timeSource_blocks (force : Bool) : (decide (s.time.source = 4) || !(s.time.source == 0 || s.time.state == .holdover ||
    s.time.state == .refused || force)) = true ↔ s.time.source = 4 ∨
      ¬(s.time.source = 0 ∨ s.time.state = .holdover ∨ s.time.state = .refused ∨ force = true) := by
  simp [and_assoc]

theorem takeReq_netNs : (takeReq m req s).netNs = s.netNs := by
  rw [State.netNs, takeReq_time, State.netNs]

theorem takeReq_timeValid : (takeReq m req s).timeValid = s.timeValid := by
  rw [State.timeValid, takeReq_time, State.timeValid]

theorem takeReq_errBound : errBound (takeReq m req s) = errBound s := by
  simp [errBound, boundGrowth]

end

section
variable {s : State} {m : Fin 4} {req : Req} {buf : Bytes}

/-- By how much a TIME_SET of mode 0 or 2 moves network time. -/
def setDifference (body : Bytes) (netNs : Nat) : Int :=
  if u8 body 0 = 2 then i64 body 4 else ((u64 body 4 * 1000000000 + u32 body 12 : Nat) : Int) - netNs

theorem setDifference_relative {body : Bytes} (h : u8 body 0 = 2) (n : Nat) : setDifference body n = i64 body 4 := if_pos h

theorem setDifference_absolute {body : Bytes} (h : u8 body 0 = 0) (n : Nat) :
    setDifference body n = ((u64 body 4 * 1000000000 + u32 body 12 : Nat) : Int) - n := if_neg (by omega)

/-- A taken TIME_SET whose fields pass, by the source in force, its mode, the validity of time and the size of the step. -/
theorem exec_timeSet_taken (ht : Taken s 0x0D02 m req) (h0 : u8 (fullBody req buf) 0 ≤ 2) (h1 : u8 (fullBody req buf) 1 ≤ 1)
    (h2 : u16 (fullBody req buf) 2 = 0)
    (h12 : u32 (fullBody req buf) 12 ≤ if u8 (fullBody req buf) 0 = 0 then 999999999 else 0) (hen : s.enabled timeFn = true) :
    exec (.timeSet buf) s =
      (let h := takeReq m req s
       let body := fullBody req buf
       let force := bit (u8 body 1) 0
       let d := setDifference body s.netNs
       .next (deliver h m req
        (if s.time.source = 4 ∨ ¬(s.time.source = 0 ∨ s.time.state = .holdover ∨ s.time.state = .refused ∨ force = true) then
          no rcTimeSourceActive
        else if u8 body 0 = 1 then
          ok (h.onTime fun t => { t with ppsArmed := some (u64 body 4), ppsArmedForce := force, armedAt := t.fabric })
        else if u8 body 0 = 2 ∧ s.timeValid = false then no rcTimeNotValid
        else if s.timeValid = true ∧ jumpNs s.coh.active < absInt d ∧ force = false then no rcTimeJumpRefused
        else ok (setTime d force h)))) := by
  change (.next (runKci 0x0D02 buf _ s) : Out) = _
  rw [runKci_taken ht]
  simp only [timeSet_passes h0 h1 h2 h12, takeReq_enabled, hen, takeReq_time, timeSource_blocks, takeReq_timeValid,
    takeReq_netNs, takeReq_coh, Bool.and_eq_true, decide_eq_true_eq, Bool.not_eq_true', Bool.not_true, Bool.false_eq_true,
    if_false, and_assoc, gt_iff_lt, setDifference]
  congr 3

end

/-- Settles O31: each command's fields pass its checks, and the branch of its rules that is left gives the answer. -/
theorem routerAndTimeCommands : Obligations.RouterAndTimeCommands := by
  refine ⟨fun s m req buf => ?_, fun s m req buf => ?_⟩
  · dsimp only
    refine ⟨fun ht h26 h27 h28 h36 h54 h184 => ?_, fun ht h6 h1 hmost hlast hes hroom => ?_, fun ht => ⟨fun h5 => ?_, fun h5 hother => ?_,
      fun h5 hown hfields => ?_⟩, fun ht h4 h1 hmost hlast hes => ?_, fun ht h4 h1 hmost hlast hfits => ?_,
      fun ht h0 h1 h1' h2 h2' h10 h12 h13 => ?_⟩
    · refine taken_stage ht ?_
      refine checkFields_append.mpr ⟨checkFields_append.mpr ⟨checkFields_append.mpr ⟨checkFields_append.mpr ⟨?_,
        byteFields_pass h28⟩, byteFields_pass h36⟩, ?_⟩, byteFields_pass h184⟩
      · simp [checkFields_none, checkField, field_u8, h26.symm, h27]
      · simp [checkFields_none, checkField, field_u16, h54]
    · refine taken_ok ht ?_
      have hpass := List.findSome?_eq_none_iff.mpr hes
      dsimp only
      rw [if_neg (by simp [h6]), if_neg (run_within h1 hmost hlast), hpass]
      dsimp only
      rw [takeReq_writesOf, if_neg (Nat.not_lt.mpr hroom)]
    · exact taken_refuse ht (if_pos h5)
    · exact taken_refuse ht ((if_neg (Nat.not_lt.mpr h5)).trans (if_pos (by simp [hother])))
    · exact taken_ok ht (((if_neg (Nat.not_lt.mpr h5)).trans (if_neg (by simp [hown]))).trans
        (stageOne_passes _ _ _ _ _ _ _ _ hfields))
    · refine taken_ok ht ?_
      dsimp only
      rw [if_neg (by simp [h4]), if_neg (run_within h1 hmost hlast), entries_pass hes]
    · refine taken_answers ht ?_ hfits
      dsimp only
      rw [if_neg (by simp [h4]), if_neg (run_within h1 hmost hlast), takeReq_router]
    · refine taken_ok ht ?_
      refine (if_neg (by omega)).trans (stageOne_passes _ _ _ _ _ _ _ _ ?_)
      simp [checkFields_none, checkField, field_u8, field_u16, h0, h1, h2, h2', h10, h12, h13]
  · dsimp only
    refine ⟨fun ht h0 h1 h2 h3 h4 h4' h8 h8' h12 h12' h16 h16' h20 h20' h24 h26 h28 h28' h40 h42 h44 => ?_,
      fun ht h0 h1 h2 h12 h12' hen => ⟨fun hblock => ?_, fun hsource hfree hmode => ?_,
        fun hsource hfree hmode hvalid hjump hforce => ?_, fun hsource hfree hmode hsmall => ?_⟩,
      fun ht h0 h1 h2 h12 hen => ⟨fun hsource hfree hvalid => ?_, fun hsource hfree hvalid hjump hforce => ?_,
        fun hsource hfree hvalid hsmall => ?_⟩, fun ht hfits => ?_⟩
    · refine taken_stage ht ?_
      rw [i32] at h16 h16'
      simp [checkFields_none, checkField, field_u8, field_u16, field_u32, h0, h1.symm, h2, h3, h4, h4', h8, h8', h12, h12',
        h16, h16', h20, h20', h24, h26, u16_le, h28, h28', h40, h42, h44]
    · rw [exec_timeSet_taken ht (by omega) h1 h2 (by split <;> omega) hen]
      dsimp only
      rw [if_pos hblock, no, deliver_refuse]
    · rw [exec_timeSet_taken ht (by omega) h1 h2 (by split <;> omega) hen]
      dsimp only
      rw [if_neg (not_or.mpr ⟨hsource, Classical.not_not.mpr hfree⟩), if_pos hmode, ok, deliver_bare]
    · rw [exec_timeSet_taken ht (by omega) h1 h2 (by split <;> omega) hen]
      dsimp only
      rw [if_neg (not_or.mpr ⟨hsource, Classical.not_not.mpr hfree⟩), if_neg (by omega), if_neg (by omega),
        setDifference_absolute hmode, if_pos ⟨hvalid, hjump, hforce⟩, no, deliver_refuse]
    · have hkept : ¬(s.timeValid = true ∧ jumpNs s.coh.active < absInt (((u64 (fullBody req buf) 4 * 1000000000 +
          u32 (fullBody req buf) 12 : Nat) : Int) - s.netNs) ∧ bit (u8 (fullBody req buf) 1) 0 = false) := by
        rintro ⟨hvalid, hjump, hforce⟩
        rcases hsmall with h | h | h
        · exact Nat.not_le.mpr hjump h
        · rw [hforce] at h
          contradiction
        · rw [hvalid] at h
          contradiction
      rw [exec_timeSet_taken ht (by omega) h1 h2 (by split <;> omega) hen]
      dsimp only
      rw [if_neg (not_or.mpr ⟨hsource, Classical.not_not.mpr hfree⟩), if_neg (by omega), if_neg (by omega),
        setDifference_absolute hmode, if_neg hkept, ok, deliver_bare]
    · rw [exec_timeSet_taken ht (by omega) h1 h2 (by omega) hen]
      dsimp only
      rw [if_neg (not_or.mpr ⟨hsource, Classical.not_not.mpr hfree⟩), if_neg (by omega), if_pos ⟨h0, hvalid⟩, no, deliver_refuse]
    · rw [exec_timeSet_taken ht (by omega) h1 h2 (by omega) hen]
      dsimp only
      rw [if_neg (not_or.mpr ⟨hsource, Classical.not_not.mpr hfree⟩), if_neg (by omega), if_neg (by simp [hvalid]),
        setDifference_relative h0, if_pos ⟨hvalid, hjump, hforce⟩, no, deliver_refuse]
    · have hkept : ¬(s.timeValid = true ∧ jumpNs s.coh.active < absInt (i64 (fullBody req buf) 4) ∧
          bit (u8 (fullBody req buf) 1) 0 = false) := by
        rintro ⟨-, hjump, hforce⟩
        simp [hforce, Nat.not_le.mpr hjump] at hsmall
      rw [exec_timeSet_taken ht (by omega) h1 h2 (by omega) hen]
      dsimp only
      rw [if_neg (not_or.mpr ⟨hsource, Classical.not_not.mpr hfree⟩), if_neg (by omega), if_neg (by simp [hvalid]),
        setDifference_relative h0, if_neg hkept, ok, deliver_bare]
    · refine taken_answers ht ?_ hfits
      dsimp only
      rw [takeReq_timeValid, takeReq_errBound, takeReq_asn64, takeReq_time]

end Sys2Proof.Machine

/-! ## The PTP exchange (O32) -/

namespace Sys2Proof.Machine

section
variable {s : State} {clock : PtpSender} {seqId : BitVec 16}

theorem ptpFollowed_of_scope (hscope : ptpScope s.coh.active clock = true) (hmine : s.time.ptpTx = some clock.clock.toNat)
    (fn i : Nat) : ptpFollowed (s.count fn i) clock = true := by
  simp [ptpFollowed, hscope, hmine]

theorem ptpFollowed_out (hscope : ptpScope s.coh.active clock = false) (fn i : Nat) :
    ptpFollowed (s.count fn i) clock = false := by
  simp [ptpFollowed, hscope]

/-- Without PTP in use no message changes anything. -/
theorem ptp_unused (h : ptpTaken s = false) :
    (∀ d ts, exec (.ptpAnnounceRx clock d ts) s = .next s) ∧
      (∀ two t1 c st, exec (.ptpSyncRx clock seqId two t1 c st) s = .next s) ∧
      (∀ t1 c, exec (.ptpFollowUpRx clock seqId t1 c) s = .next s) ∧
      (∀ t4 c, exec (.ptpDelayRespRx clock seqId t4 c) s = .next s) ∧
      (∀ st, exec (.delayReqTx seqId st) s = .next s) := by
  have hno : ¬ptpTaken s = true := by simp [h]
  refine ⟨fun _ _ => if_neg hno, fun _ _ _ _ => if_neg hno, fun _ _ => if_neg hno, fun _ _ => if_neg hno, fun st => ?_⟩
  change execDelayReqTx seqId st s = _
  unfold execDelayReqTx
  split
  · rfl
  · rw [if_neg (by simp [h])]

/-- A message of another version or transport only counts (R356). -/
theorem ptp_outOfScope (h : ptpTaken s = true) (hscope : ptpScope s.coh.active clock = false) :
    (∀ d ts, exec (.ptpAnnounceRx clock d ts) s = .next (s.count timeFn 1)) ∧
      (∀ two t1 c st, exec (.ptpSyncRx clock seqId two t1 c st) s = .next (s.count timeFn 1)) ∧
      (∀ t1 c, exec (.ptpFollowUpRx clock seqId t1 c) s = .next (s.count timeFn 1)) ∧
      (∀ t4 c, exec (.ptpDelayRespRx clock seqId t4 c) s = .next (s.count timeFn 1)) := by
  have hout := ptpFollowed_out hscope timeFn 1
  refine ⟨fun d ts => (if_pos h).trans (if_neg (by simp [hscope])), fun two t1 c st => (if_pos h).trans (if_neg (by simp [hout])),
    fun t1 c => (if_pos h).trans ?_, fun t4 c => (if_pos h).trans ?_⟩
  · split
    · exact if_neg (by simp [hout])
    · rfl
  · split
    · split
      · exact if_neg (by simp [hout])
      · rfl
    · rfl

/-- An exchange whose delay exceeds the smallest by more than 10 µs gives no sample (R359). -/
theorem ptpSample_late {t1 t2 t3 t4 c1 c2 : Int}
    (hlate : minInt (((t2 - t1 - c1) + (t4 - t3 - c2)) / 2) ((((t2 - t1 - c1) + (t4 - t3 - c2)) / 2 :: s.time.ptpDelays).take 8)
      + 10000 < ((t2 - t1 - c1) + (t4 - t3 - c2)) / 2) :
    ptpSample t1 t2 t3 t4 c1 c2 s = (s.onTime fun t =>
      { t with ptpDelays := (((t2 - t1 - c1) + (t4 - t3 - c2)) / 2 :: s.time.ptpDelays).take 8, ptpSync := none }).count timeFn 4 := by
  rw [ptpSample]
  exact if_pos (by omega)

/-- Any other is a sample of PTP, unless PPS_PTP takes the seconds from it (R359). -/
theorem ptpSample_good {t1 t2 t3 t4 c1 c2 : Int}
    (hgood : ((t2 - t1 - c1) + (t4 - t3 - c2)) / 2 ≤ minInt (((t2 - t1 - c1) + (t4 - t3 - c2)) / 2)
      ((((t2 - t1 - c1) + (t4 - t3 - c2)) / 2 :: s.time.ptpDelays).take 8) + 10000)
    (hvalid : s.time.source ≠ 2 ∨ s.time.state ≠ .invalid) :
    ptpSample t1 t2 t3 t4 c1 c2 s = sampleFrom 1 (t2 - t1 - c1 - minInt (((t2 - t1 - c1) + (t4 - t3 - c2)) / 2)
        ((((t2 - t1 - c1) + (t4 - t3 - c2)) / 2 :: s.time.ptpDelays).take 8))
      ((s.onTime fun t =>
        { t with ptpDelays := (((t2 - t1 - c1) + (t4 - t3 - c2)) / 2 :: s.time.ptpDelays).take 8, ptpSync := none }).count
          timeFn 3) := by
  have hkept : ¬(decide (s.time.source = 2) && s.time.state == .invalid) = true := by
    simpa [Decidable.imp_iff_not_or] using hvalid
  rw [ptpSample]
  dsimp only
  rw [if_neg (by omega)]
  exact congrArg _ (if_neg hkept)

/-- The Delay_Resp of the followed transmitter that answers the exchange's Delay_Req gives its sample (R356, R359). -/
theorem exec_ptpDelayRespRx_answers {y : PtpSync} {t1 t3 : Int} (h : ptpTaken s = true)
    (hscope : ptpScope s.coh.active clock = true) (hmine : s.time.ptpTx = some clock.clock.toNat)
    (hsync : s.time.ptpSync = some y) (h1 : y.t1 = some t1) (h3 : y.t3 = some t3) (hseq : y.reqSeq = seqId.toNat) (t4 c : Int) :
    exec (.ptpDelayRespRx clock seqId t4 c) s = .next (ptpSample t1 y.t2 t3 t4 y.correction c
      ((s.count timeFn 1).onTime fun t => { t with delayLog := clock.interval })) := by
  have hf := ptpFollowed_of_scope hscope hmine timeFn 1
  refine (if_pos h).trans ?_
  rw [State.count_time, hsync]
  dsimp only
  rw [h1, h3]
  dsimp only
  rw [if_pos (by simp [hf, hseq])]

end

/-- Settles O32: each message's command by whether PTP is in use, the message is in scope and of the followed transmitter. -/
theorem ptpExchange : Obligations.PtpExchange := by
  intro s clock seqId
  dsimp only
  refine ⟨ptp_unused, ptp_outOfScope, fun h st hdue => ?_, fun h hscope => ⟨fun d hnone hd hany => ?_, fun d ts hsome => ?_,
    fun two t1 c st hmine hlo hhi => ⟨fun hfew => ?_, fun hmany => ?_⟩, fun y t1 c hmine hsync hseq hopen => ?_,
    fun y st hsome hsync hdue => ?_, fun y t1 t3 t4 c hmine hsync h1 h3 hseq hvalid => ⟨fun hlate => ?_, fun hgood => ?_⟩⟩⟩
  · change execDelayReqTx seqId st s = _
    unfold execDelayReqTx
    split
    · rfl
    · rw [if_neg (by simp [hdue])]
  · exact (if_pos h).trans (if_pos (by simp [hscope, hnone, hd, hany]))
  · have : s.time.ptpTx.isNone = false := Option.isNone_eq_false_iff.mpr (Option.isSome_iff_ne_none.mpr hsome)
    exact (if_pos h).trans (if_neg (by simp [this]))
  · have hf := ptpFollowed_of_scope hscope hmine timeFn 1
    exact (if_pos h).trans (if_pos (by simp only [Bool.and_eq_true, decide_eq_true_eq]; exact ⟨⟨⟨hf, hlo⟩, hhi⟩, hfew⟩))
  · exact (if_pos h).trans (if_neg (by simp only [Bool.and_eq_true, decide_eq_true_eq]; exact fun ⟨_, hfew⟩ => Nat.not_lt.mpr hmany hfew))
  · have hf := ptpFollowed_of_scope hscope hmine timeFn 1
    refine (if_pos h).trans ?_
    rw [State.count_time, hsync]
    exact if_pos (by simp [hf, hseq, hopen])
  · change execDelayReqTx seqId st s = _
    unfold execDelayReqTx
    rw [hsync]
    have hsome' : s.time.ptpTx.isSome = true := Option.isSome_iff_ne_none.mpr hsome
    exact if_pos (by simp [h, hsome', hdue])
  · rw [exec_ptpDelayRespRx_answers h hscope hmine hsync h1 h3 hseq, ptpSample_late]
    · rfl
    · exact hlate
  · rw [exec_ptpDelayRespRx_answers h hscope hmine hsync h1 h3 hseq, ptpSample_good]
    · rfl
    · exact hgood
    · exact hvalid

end Sys2Proof.Machine

/-! ## Sources, holdover and Spring (O34) -/

namespace Sys2Proof.Machine

section
variable {s : State} {k : Nat}

theorem lostWith_self (h1 : 1 ≤ k) (h4 : k ≤ 4) : k ∈ lostWith k := by
  have : k = 1 ∨ k = 2 ∨ k = 3 ∨ k = 4 := by omega
  rcases this with rfl | rfl | rfl | rfl <;> decide

/-- What was followed of source `k` goes with it (R353). -/
def sourceForgotten (k : Nat) (s : State) : State :=
  s.onTime fun t =>
    { t with
      ptpTx := if k = 1 then none else t.ptpTx, ptpSync := if k = 1 then none else t.ptpSync
      ppsLast := if k = 2 || k = 3 then none else t.ppsLast, ppsPresent := t.ppsPresent && !(k == 2 || k == 3)
      backupAt := if (lostWith k).contains (backupSource s.coh.active) then none else t.backupAt
      primaryAt := if (lostWith k).contains (primarySource s.coh.active) then none else t.primaryAt }

/-- Without a backup the loss of the source in force enters holdover (R354). -/
theorem loseSource_noBackup (hin : s.time.source ∈ lostWith k) (hnone : s.time.backupAt = none) :
    loseSource k s = enterHoldover (sourceForgotten k s) := by
  have hback : (sourceForgotten k s).time.backupAt = none := by
    change (if _ then none else s.time.backupAt) = none
    rw [hnone, ite_self]
  change (if (!(lostWith k).contains s.time.source) = true then sourceForgotten k s else _) = _
  rw [if_neg (by simpa using hin)]
  change (if ((match (sourceForgotten k s).time.backupAt with
    | some t => decide ((s.time.fabric - t).toNat ≤ 800000000)
    | none => false) && _ && _) = true then _ else _) = _
  rw [hback]
  exact if_neg (by simp)

/-- A backup with a usable sample in the last 2 s takes over (R354). -/
theorem loseSource_backup {at_ : BitVec 64} (hin : s.time.source ∈ lostWith k) (hsome : s.time.backupAt = some at_)
    (hfresh : (s.time.fabric - at_).toNat ≤ 800000000) (hkept : backupSource s.coh.active ∉ lostWith k)
    (h4 : backupSource s.coh.active ≤ 4) :
    loseSource k s = switchSource (backupSource s.coh.active) 1 (sourceForgotten k s) := by
  have hback : (sourceForgotten k s).time.backupAt = some at_ := by
    change (if _ then none else s.time.backupAt) = _
    rw [if_neg (by simpa using hkept), hsome]
  change (if (!(lostWith k).contains s.time.source) = true then sourceForgotten k s else _) = _
  rw [if_neg (by simpa using hin)]
  change (if ((match (sourceForgotten k s).time.backupAt with
    | some t => decide ((s.time.fabric - t).toNat ≤ 800000000)
    | none => false) && (backupSource s.coh.active != s.time.source) && decide (backupSource s.coh.active ≤ 4)) = true
    then _ else _) = _
  rw [hback]
  have hother : backupSource s.coh.active ≠ s.time.source := fun h => hkept (h ▸ hin)
  refine if_pos ?_
  simp only [Bool.and_eq_true, decide_eq_true_eq, bne_iff_ne]
  exact ⟨⟨hfresh, hother⟩, h4⟩

/-- Counting after a change of the time bases. -/
theorem count_of_timeOnly {t : State} (h : t = { s with time := t.time }) (fn i : Nat) :
    t.count fn i = { s with time := (t.count fn i).time, counters := (s.count fn i).counters } := by
  generalize t.time = x at h
  subst h
  rfl

theorem sourceForgotten_errBound : errBound (sourceForgotten k s) = errBound s := by
  simp [errBound, boundGrowth, sourceForgotten]

theorem enterHoldover_locked (h : s.time.state = .locked) : enterHoldover s =
    raiseEvent 164 timeFn (1 + s.time.source * 256) (((freezeBound .holdover s).onTime fun t =>
      { t with phaseTerm := 0, jumpEpisode := false, holdSince := t.fabric }).count timeFn 11) :=
  if_neg (by simp [h])

theorem switchSource_other {cause : Nat} (h : s.time.source ≠ k) : switchSource k cause s =
    raiseEvent 163 timeFn (k + s.time.source * 256 + cause * 65536)
      ((s.onTime fun t => { t with source := k, backupAt := none, primaryAt := none }).count timeFn 10) :=
  if_neg h

/-- The loss timer of the source in force can expire (R353). -/
theorem exec_sourceLost_inForce (hw : s.works timeFn = true) (hk : k = s.time.source) (h1 : 1 ≤ k) (h4 : k ≤ 4)
    (hpps : (k = 2 ∨ k = 3) → ∀ p, s.time.ppsLast = some p → p + 2500000000 ≤ s.netNs)
    (hbeacon : k = 4 → s.link.sync ≠ .synced) : exec (.sourceLost k) s = .next (loseSource k s) := by
  have hdue : lossDue k s = true := by
    unfold lossDue
    split
    next h =>
      split
      next p hp => exact decide_eq_true (hpps (by simpa using h) p hp)
      next => rfl
    next =>
      split
      next h => simpa using hbeacon h
      next => rfl
  refine if_pos ?_
  rw [hw, hdue]
  exact List.any_eq_true.mpr ⟨k, lostWith_self h1 h4, by simp [hk]⟩

/-- A Spring measurement with time LOCKED (R352, R370). -/
theorem exec_springMeasurement_locked (hw : s.works timeFn = true) (hawake : s.power.phase = .awake)
    (hlocked : s.time.state = .locked) (cycles : Nat) :
    let u := if 7680 < absInt ((cycles : Int) - 38400000) then plausFail 2 105 cycles 0 s else s
    let n : Int := cycles * 1000000000 / 38400000 + (cycles : Int) * freqPpb u / 38400000
    let ppb := (1000000000 - n) * 1000000000 / n
    n ≠ 0 → exec (.springMeasurement cycles) s = .next (u.onTime fun x =>
      { x with
        springPpb := if x.springSeconds = 0 then ppb else x.springPpb + (ppb - x.springPpb) / 64
        springSeconds := x.springSeconds + 1, springDisc := x.springDisc || decide (64 ≤ x.springSeconds + 1) }) := by
  intro u n ppb hn
  change execSpringMeasurement cycles s = _
  rw [execSpringMeasurement, if_pos (by simp [hw, refRuns, hawake])]
  dsimp only
  have hno : (if (decide (s.time.state = .holdover) || decide (s.time.state = .holdoverExpired)) = true then
      s.count timeFn 12 else s) = s := if_neg (by simp [hlocked])
  rw [hno]
  change (.next (u.onTime fun x =>
      { x with
        springPpb := if x.springSeconds = 0 then (if n = 0 then 0 else ppb)
          else x.springPpb + ((if n = 0 then 0 else ppb) - x.springPpb) / 64
        springSeconds := x.springSeconds + 1, springDisc := x.springDisc || decide (64 ≤ x.springSeconds + 1) }) : Out) = _
  rw [if_neg hn]

end

/-- Settles O34: the loss of a source by its backup, and each other event of the time unit by its condition. -/
theorem sourcesHoldoverAndSpring : Obligations.SourcesHoldoverAndSpring := by
  intro s
  refine ⟨fun hw => ⟨fun k hk h1 h4 hpps hbeacon => ⟨fun hnone hlocked => ?_, fun at_ hsome hfresh hkept hb4 => ?_⟩,
    fun hhold hdue => ?_, fun at_ hother hrevert hsince hdue => ?_, fun hawake hvalid hen => ⟨fun hwhole => ?_, fun hwhole => ?_⟩,
    fun cycles hawake hlocked => exec_springMeasurement_locked hw hawake hlocked cycles⟩, fun hinvalid => ?_,
    ⟨fun hwidth => if_pos hwidth, fun hwidth => if_neg (Nat.not_le.mpr hwidth)⟩, fun hnone => ?_, fun v hsome hsoon => ?_,
    fun v hsome hdue => ?_⟩
  · have hlost := (exec_sourceLost_inForce hw hk h1 h4 hpps hbeacon).trans
      (congrArg _ (loseSource_noBackup (hk ▸ lostWith_self h1 h4) hnone))
    rw [enterHoldover_locked (s := sourceForgotten k s) hlocked] at hlost
    rw [show (sourceForgotten k s).time.source = k from hk.symm] at hlost
    exact ⟨_, hlost, rfl, rfl, hk.symm, sourceForgotten_errBound, rfl, count_of_timeOnly rfl _ _⟩
  · have hin : s.time.source ∈ lostWith k := hk ▸ lostWith_self h1 h4
    have hlost := (exec_sourceLost_inForce hw hk h1 h4 hpps hbeacon).trans
      (congrArg _ (loseSource_backup hin hsome hfresh hkept hb4))
    have hother : s.time.source ≠ backupSource s.coh.active := fun h => hkept (h ▸ hin)
    rw [switchSource_other (s := sourceForgotten k s) hother] at hlost
    rw [show (sourceForgotten k s).time.source = k from hk.symm] at hlost
    exact ⟨_, hlost, rfl, rfl, rfl⟩
  · change execHoldoverExpiry s = _
    rw [execHoldoverExpiry, if_pos]
    rw [hw, hhold, decide_eq_true hdue]
    rfl
  · have hrev : revertDue s = true := by
      unfold revertDue
      rw [hsince]
      exact decide_eq_true hdue
    refine (if_pos (by simp [hw, hother, hrevert, hrev])).trans (congrArg _ (switchSource_other hother))
  · exact if_pos (by simp [hw, refRuns, hawake, hvalid, hen, hwhole])
  · exact if_neg (by simp [hwhole])
  · exact if_neg (by simp [hinvalid])
  · exact if_neg (by simp [hnone])
  · exact if_neg (by simp only [Bool.and_eq_true, decide_eq_true_eq]; exact fun h => Nat.not_le.mpr hsoon h.2)
  · exact if_pos (by simp only [hsome, Option.isSome_some, Bool.true_and, decide_eq_true_eq]; exact hdue)

end Sys2Proof.Machine

/-! ## Timer registers (O36) -/

namespace Sys2Proof.Machine

section
variable {s : State} {by_ : BusMaster} {t : Fin 16} {off : Nat} {v : BitVec 32}

theorem timerWriteBy_off (h : coreOff s by_ = true) : timerWriteBy by_ t off v s = s := if_pos (by simp [h])

theorem timerWriteBy_idle (h : s.works (timerFn t) = false) : timerWriteBy by_ t off v s = s := if_pos (by simp [h])

theorem timerWriteBy_denied (hon : coreOff s by_ = false) (hw : s.works (timerFn t) = true) (h : timerOwner s by_ t = false) :
    timerWriteBy by_ t off v s = raiseSource 103 (timerFn t) t.val s := by
  simp [timerWriteBy, hon, hw, h]

theorem timerWriteBy_owner (hon : coreOff s by_ = false) (hw : s.works (timerFn t) = true) (h : timerOwner s by_ t = true) :
    timerWriteBy by_ t off v s = changeTimer t (timerWrite (timerCfg (timerPart s.coh.active t)) off v) s := by
  simp [timerWriteBy, hon, hw, h]

theorem timerReadBy_off (h : coreOff s by_ = true) : timerReadBy by_ t off s = s := if_pos h

theorem timerReadBy_idle (hon : coreOff s by_ = false) (h : s.works (timerFn t) = false) :
    timerReadBy by_ t off s = s.onKci fun k => { k with readOut := 0 } := by
  simp [timerReadBy, hon, h]

theorem timerReadBy_denied (hon : coreOff s by_ = false) (hw : s.works (timerFn t) = true) (h : timerOwner s by_ t = false) :
    timerReadBy by_ t off s = raiseSource 103 (timerFn t) t.val (s.onKci fun k => { k with readOut := 0 }) := by
  simp [timerReadBy, hon, hw, h]

theorem timerReadBy_owner (hon : coreOff s by_ = false) (hw : s.works (timerFn t) = true) (h : timerOwner s by_ t = true) :
    timerReadBy by_ t off s =
      (s.onKci fun k => { k with readOut := timerRead off s.timers[t] }).onTimer t (timerReadEffect off) := by
  simp [timerReadBy, hon, hw, h]

/-- A write of TMR_CTRL, TMR_PERIOD, TMR_CMPn, TMR_CMP_EN or TMR_STATUS is a write of some register of the window (R392). -/
theorem exec_timerWrites (s : State) (by_ : BusMaster) (t : Fin 16) (run : Bool) (p : BitVec 31) (n : Fin 4) (value : BitVec 32) :
    ∀ c ∈ [Instr.tmrCtrlRun by_ t run, .tmrCtrlClear by_ t run, .tmrPeriodShadow by_ t p, .tmrPeriodImmediate by_ t p,
      .tmrCmpWrite by_ t n value, .tmrCmpEnWrite by_ t value, .tmrStatusClear by_ t value],
      ∃ off v, exec c s = .next (timerWriteBy by_ t off v s) := by
  simp only [List.forall_mem_cons]
  exact ⟨⟨_, _, rfl⟩, ⟨_, _, rfl⟩, ⟨_, _, rfl⟩, ⟨_, _, rfl⟩, ⟨_, _, rfl⟩, ⟨_, _, rfl⟩, ⟨_, _, rfl⟩,
    fun _ h => absurd h List.not_mem_nil⟩

theorem exec_timerReads (s : State) (by_ : BusMaster) (t : Fin 16) (n : Fin 4) :
    ∀ c ∈ [Instr.tmrMissedRead by_ t n, .tmrTickLoRead by_ t], ∃ off, exec c s = .next (timerReadBy by_ t off s) := by
  simp only [List.forall_mem_cons]
  exact ⟨⟨_, rfl⟩, ⟨_, rfl⟩, fun _ h => absurd h List.not_mem_nil⟩

/-- A change that sets no status bit raises nothing. -/
theorem changeTimer_quiet {f : Timer → Timer} (h : (f s.timers[t]).status &&& ~~~s.timers[t].status = 0) :
    changeTimer t f s = s.onTimer t fun _ => stampStart s s.timers[t] (f s.timers[t]) := by
  have hrose : ((stampStart s s.timers[t] (f s.timers[t])).status &&& ~~~s.timers[t].status).toNat = 0 := by
    rw [stampStart_status, h]
    rfl
  unfold changeTimer
  dsimp only
  rw [← stampStart, hrose, if_neg (by simp)]

/-- A change that leaves RUN and sets no status bit leaves in the unit what it gives. -/
theorem changeTimer_running {f : Timer → Timer} (h : (f s.timers[t]).status &&& ~~~s.timers[t].status = 0)
    (hrun : (f s.timers[t]).run = s.timers[t].run) : changeTimer t f s = s.onTimer t fun _ => f s.timers[t] := by
  rw [changeTimer_quiet h, stampStart, hrun, if_neg (by simp)]

theorem stampStart_eq (s : State) (u x : Timer) : stampStart s u x =
    if x.run = true ∧ u.run = false then { x with phaseFabric := s.time.fabric, phaseSpring := s.time.spring } else x := by
  simp [stampStart, stampPhase]

theorem onTimer_self (s : State) (t : Fin 16) : (s.onTimer t fun _ => s.timers[t]) = s := by
  simp [State.onTimer]

theorem writeCtrl_run (cfg : TimerCfg) (run : Bool) (u : Timer) : writeCtrl cfg (BitVec.ofNat 32 (flag run)).toNat u =
    { u with run := run, out := if run = true ∧ u.run = true then u.out else cfg.idle } := by
  cases run <;> simp [writeCtrl, bit, flag]

theorem writeCtrl_clear (cfg : TimerCfg) (run : Bool) (u : Timer) : writeCtrl cfg (BitVec.ofNat 32 (flag run + 2)).toNat u =
    { u with count := 0, down := false, run := run, out := if run = true ∧ u.run = true then u.out else cfg.idle } := by
  cases run <;> simp [writeCtrl, bit, flag]

theorem writePeriod_shadow (cfg : TimerCfg) {p : BitVec 31} (h : p ≠ 0) (u : Timer) :
    writePeriod cfg (p.setWidth 32).toNat u = { u with periodWritten := p.toNat, periodShadow := some p.toNat } := by
  have hlt := p.isLt
  have hne : p.toNat ≠ 0 := fun h' => h (BitVec.eq_of_toNat_eq h')
  have hmod : (p.setWidth 32).toNat = p.toNat := by simp [BitVec.toNat_setWidth]; omega
  have hbit : bit p.toNat 31 = false := by simp [bit, Nat.div_eq_of_lt hlt]
  rw [hmod, writePeriod, Nat.mod_eq_of_lt hlt, if_neg hne, if_neg (by simp [hbit])]

theorem writePeriod_now (cfg : TimerCfg) {p : BitVec 31} (h : p ≠ 0) (u : Timer) :
    writePeriod cfg (BitVec.ofNat 32 (p.toNat + 2 ^ 31)).toNat u = writePeriodNow cfg p.toNat u := by
  have hlt := p.isLt
  have hne : p.toNat ≠ 0 := fun h' => h (BitVec.eq_of_toNat_eq h')
  have hval : (BitVec.ofNat 32 (p.toNat + 2 ^ 31)).toNat = p.toNat + 2 ^ 31 := by simp; omega
  have hmod : (p.toNat + 2 ^ 31) % 2 ^ 31 = p.toNat := by omega
  have hbit : bit (p.toNat + 2 ^ 31) 31 = true := by simp [bit]; omega
  rw [hval, writePeriod, hmod, if_neg hne, if_pos hbit]

theorem writePeriod_zero (cfg : TimerCfg) {v : Nat} (h : v % 2 ^ 31 = 0) (u : Timer) : writePeriod cfg v u = u := if_pos h

theorem writePeriodNow_above (cfg : TimerCfg) {p : Nat} {u : Timer} (h : u.count ≤ p) :
    writePeriodNow cfg p u = { u with periodWritten := p, periodShadow := none, period := p } := by
  simp [writePeriodNow, Nat.not_lt.mpr h]

/-- A period below COUNT: it is in force at once, the clip is marked, and an up/down unit turns (R389). -/
theorem writePeriodNow_below (cfg : TimerCfg) {p : Nat} {u : Timer} (h : p < u.count) :
    (writePeriodNow cfg p u).period = p ∧ (writePeriodNow cfg p u).periodShadow = none ∧
      (writePeriodNow cfg p u).count = u.count ∧ (writePeriodNow cfg p u).run = u.run ∧
      (cfg.updown = false ∨ u.down = false → (writePeriodNow cfg p u).status.getLsbD 11 = true) ∧
      (cfg.updown = true → (writePeriodNow cfg p u).down = true) := by
  cases hud : cfg.updown <;> cases hdown : u.down <;> cases hrun : u.run <;>
    simp [writePeriodNow, setStatus, hud, hdown, hrun, h]

theorem ofNat_index (n : Fin 4) (base : Nat) : Fin.ofNat 4 ((base + 4 * n.val - base) / 4) = n := by
  refine Fin.ext ?_
  simp only [Fin.val_ofNat]
  omega

theorem timerWrite_ctrl (cfg : TimerCfg) (v : BitVec 32) (u : Timer) : timerWrite cfg 0x00 v u = writeCtrl cfg v.toNat u := rfl

theorem timerWrite_period (cfg : TimerCfg) (v : BitVec 32) (u : Timer) : timerWrite cfg 0x04 v u = writePeriod cfg v.toNat u := rfl

theorem timerWrite_cmp (cfg : TimerCfg) (n : Fin 4) (v : BitVec 32) (u : Timer) :
    timerWrite cfg (0x20 + 4 * n.val) v u = writeCmp n v u := by
  rw [timerWrite, if_neg (by omega), if_neg (by omega), if_neg (by omega), if_neg (by omega), if_pos (by simp; omega), ofNat_index]

theorem timerRead_missed (n : Fin 4) (u : Timer) : timerRead (0x40 + 4 * n.val) u = u.missed[n].toNat := by
  simp only [timerRead]
  rw [if_neg (by omega), if_neg (by omega), if_neg (by omega), if_neg (by omega), if_neg (by omega), if_neg (by omega),
    if_neg (by omega), if_neg (by omega), if_neg (by simp; omega), if_neg (by simp), if_pos (by simp; omega)]
  exact congrArg (fun k : Fin 4 => u.missed[k].toNat) (ofNat_index n _)

theorem timerReadEffect_missed (n : Fin 4) (u : Timer) :
    timerReadEffect (0x40 + 4 * n.val) u = { u with missed := u.missed.set n 0 } := by
  rw [timerReadEffect, if_neg (by omega), if_pos (by simp; omega)]
  exact congrArg (fun k : Fin 4 => { u with missed := u.missed.set k 0 }) (ofNat_index n _)

/-- Clearing bits of a word sets none. -/
theorem and_cleared {w : Nat} (x m : BitVec w) : x &&& ~~~m &&& ~~~x = 0 := by
  rw [BitVec.and_assoc, BitVec.and_comm (~~~m), ← BitVec.and_assoc, BitVec.and_not_self]
  exact BitVec.zero_and

theorem State.onTimer_congr {f g : Timer → Timer} (h : f s.timers[t] = g s.timers[t]) : s.onTimer t f = s.onTimer t g := by
  rw [State.onTimer, h, State.onTimer]

theorem writeStatus_clears (value : BitVec 32) (u : Timer) :
    writeStatus value.toNat u = { u with status := u.status &&& ~~~((value.setWidth 12).setWidth 13) } := by
  have hmask : BitVec.ofNat 13 (value.toNat % 4096) = (value.setWidth 12).setWidth 13 := by
    apply BitVec.eq_of_toNat_eq
    simp
  rw [writeStatus, hmask]

end

/-- Settles O36: an access by the owner is the row of its register, and one by any other master is turned away. -/
theorem timerRegistersTakeTheirOwner : Obligations.TimerRegistersTakeTheirOwner := by
  intro s by_ t run p n value
  dsimp only
  refine ⟨fun hoff c hc => ?_, fun hon hidle => ⟨fun c hc => ?_, fun c hc => ?_⟩, fun hon hw hother => ⟨fun c hc => ?_,
    fun c hc => ?_⟩, fun hon hw howner => ?_⟩
  · rcases List.mem_append.mp hc with hc | hc
    · obtain ⟨off, v, h⟩ := exec_timerWrites s by_ t run p n value c hc
      rw [h, timerWriteBy_off hoff]
    · obtain ⟨off, h⟩ := exec_timerReads s by_ t n c hc
      rw [h, timerReadBy_off hoff]
  · obtain ⟨off, v, h⟩ := exec_timerWrites s by_ t run p n value c hc
    rw [h, timerWriteBy_idle hidle]
  · obtain ⟨off, h⟩ := exec_timerReads s by_ t n c hc
    rw [h, timerReadBy_idle hon hidle]
  · obtain ⟨off, v, h⟩ := exec_timerWrites s by_ t run p n value c hc
    rw [h, timerWriteBy_denied hon hw hother]
  · obtain ⟨off, h⟩ := exec_timerReads s by_ t n c hc
    rw [h, timerReadBy_denied hon hw hother]
  · generalize hcfg : timerCfg (timerPart s.coh.active t) = cfg
    have write : ∀ (off : Nat) (v : BitVec 32),
        (.next (timerWriteBy by_ t off v s) : Out) = .next (changeTimer t (timerWrite cfg off v) s) := fun off v => by
      rw [timerWriteBy_owner hon hw howner, hcfg]
    have keep : ∀ {f : Timer → Timer}, (f s.timers[t]).status = s.timers[t].status →
        (f s.timers[t]).status &&& ~~~s.timers[t].status = 0 := fun h => by rw [h, BitVec.and_not_self]
    refine ⟨?_, ?_, fun hp => ?_, fun hp => ⟨?_, ?_⟩, fun hp hle => ?_, fun hp hlt => ?_, ?_, ?_, ?_, ?_, ?_⟩
    · have hrow : timerWrite cfg 0x00 (BitVec.ofNat 32 (flag run)) s.timers[t] = _ := (timerWrite_ctrl ..).trans <| writeCtrl_run cfg run _
      refine (write _ _).trans (congrArg _ ?_)
      rw [changeTimer_quiet (keep (by rw [hrow])), hrow, stampStart_eq]
    · have hrow : timerWrite cfg 0x00 (BitVec.ofNat 32 (flag run + 2)) s.timers[t] = _ := (timerWrite_ctrl ..).trans <| writeCtrl_clear cfg run _
      refine (write _ _).trans (congrArg _ ?_)
      rw [changeTimer_quiet (keep (by rw [hrow])), hrow, stampStart_eq]
    · have hrow : timerWrite cfg 0x04 (p.setWidth 32) s.timers[t] = _ := (timerWrite_period ..).trans <| writePeriod_shadow cfg hp _
      refine (write _ _).trans (congrArg _ ?_)
      rw [changeTimer_running (keep (by rw [hrow])) (by rw [hrow]), hrow]
    · have hrow : timerWrite cfg 0x04 (p.setWidth 32) s.timers[t] = s.timers[t] :=
        (timerWrite_period ..).trans (writePeriod_zero cfg (by rw [hp]; rfl) _)
      refine (write _ _).trans (congrArg _ ?_)
      rw [changeTimer_running (keep (by rw [hrow])) (by rw [hrow]), hrow, onTimer_self]
    · have hrow : timerWrite cfg 0x04 (BitVec.ofNat 32 (p.toNat + 2 ^ 31)) s.timers[t] = s.timers[t] :=
        (timerWrite_period ..).trans (writePeriod_zero cfg (by rw [hp]; decide) _)
      refine (write _ _).trans (congrArg _ ?_)
      rw [changeTimer_running (keep (by rw [hrow])) (by rw [hrow]), hrow, onTimer_self]
    · have hrow : timerWrite cfg 0x04 (BitVec.ofNat 32 (p.toNat + 2 ^ 31)) s.timers[t] = _ :=
        ((timerWrite_period ..).trans (writePeriod_now cfg hp _)).trans (writePeriodNow_above cfg hle)
      refine (write _ _).trans (congrArg _ ?_)
      rw [changeTimer_running (keep (by rw [hrow])) (by rw [hrow]), hrow]
    · have hrow : timerWrite cfg 0x04 (BitVec.ofNat 32 (p.toNat + 2 ^ 31)) s.timers[t] = _ := (timerWrite_period ..).trans <| writePeriod_now cfg hp _
      obtain ⟨hperiod, hshadow, hcount, hrun, hclip, hturn⟩ := writePeriodNow_below cfg hlt
      refine ⟨_, write _ _, ?_⟩
      rw [changeTimer_unit, stampStart, hrow, hrun, if_neg (by simp)]
      exact ⟨hperiod, hshadow, hcount, hclip, hturn, fun k hk => changeTimer_other hk⟩
    · have hrow : timerWrite cfg (0x20 + 4 * n.val) value s.timers[t] = _ := timerWrite_cmp cfg n value _
      refine (write _ _).trans (congrArg _ ?_)
      rw [changeTimer_running (keep (by rw [hrow]; rfl)) (by rw [hrow]; rfl), hrow]
      rfl
    · have hrow : timerWrite cfg 0x1C value s.timers[t] = writeCmpEn value.toNat s.timers[t] := rfl
      have hchange : changeTimer t (timerWrite cfg 0x1C value) s = s.onTimer t fun _ => writeCmpEn value.toNat s.timers[t] := by
        rw [changeTimer_running (keep (by rw [hrow]; rfl)) (by rw [hrow]; rfl), hrow]
      refine ⟨_, write _ _, ?_, ?_⟩
      · rw [hchange, onTimer_unit, ← BitVec.ofNat_toNat]
        rfl
      · rw [hchange, onTimer_unit]
        rfl
    · have hrow : timerWrite cfg 0x18 value s.timers[t] = _ := writeStatus_clears value _
      refine (write _ _).trans (congrArg _ ?_)
      rw [changeTimer_running (by rw [hrow]; exact and_cleared _ _) (by rw [hrow]), hrow]
    · change (.next (timerReadBy by_ t (0x40 + 4 * n.val) s) : Out) = _
      rw [timerReadBy_owner hon hw howner, timerRead_missed]
      refine congrArg _ (State.onTimer_congr ?_)
      exact timerReadEffect_missed n _
    · change (.next (timerReadBy by_ t 0x10 s) : Out) = _
      rw [timerReadBy_owner hon hw howner]
      rfl

end Sys2Proof.Machine

/-! ## Compare writes, debugger halts and timer commands (O37) -/

namespace Sys2Proof.Machine

section
variable {s : State} {t : Fin 16} {n : Fin 4} {u : Timer} {v : BitVec 32} {vs : List (BitVec 32)}

/-- The oldest value written to comparator `n` moves into it and arms it (R386). -/
def compareLoaded (n : Fin 4) (v : BitVec 32) (vs : List (BitVec 32)) (u : Timer) : Timer :=
  { u with armed := u.armed ||| BitVec.ofNat 4 (2 ^ n.val), cmp := u.cmp.set n v, cmpNew := u.cmpNew.set n vs }

theorem getLsbD_twoPow_self {w i : Nat} (h : i < w) : (BitVec.ofNat w (2 ^ i)).getLsbD i = true := by
  rw [BitVec.getLsbD_ofNat, Nat.testBit_two_pow_self, decide_eq_true h]
  rfl

theorem compareLoaded_armed : (compareLoaded n v vs u).armed.getLsbD n.val = true := by
  rw [compareLoaded, BitVec.getLsbD_or, getLsbD_twoPow_self n.isLt, Bool.or_true]

theorem compareLoaded_cmp : (compareLoaded n v vs u).cmp[n] = v := Vector.getElem_set_self ..

/-- The value in the future: nothing fires. -/
theorem cmpEffect_ahead (hnew : u.cmpNew[n] = v :: vs) (h : 2 ^ 31 ≤ ((u.ticks.setWidth 32 : BitVec 32) - v).toNat) :
    cmpEffect n u = compareLoaded n v vs u := by
  have hdue : cmpDue (timerT u) v = false := decide_eq_false (Nat.not_lt.mpr h)
  have heval : evalCmp n true (compareLoaded n v vs u) = compareLoaded n v vs u := by
    rw [evalCmp, compareLoaded_cmp]
    exact if_neg (by rw [show timerT (compareLoaded n v vs u) = timerT u from rfl, hdue, Bool.and_false]; decide)
  rw [cmpEffect, hnew]
  change (if (!u.status.getLsbD 12 && cmpDue (timerT u) v && timerT u != v) = true then _
    else evalCmp n true (compareLoaded n v vs u)) = _
  rw [hdue, heval, Bool.and_false, Bool.false_and]
  exact if_neg (by decide)

theorem fireCmp_status (miss : Bool) : (fireCmp n miss u).status = u.status ||| BitVec.ofNat 13 (2 ^ n.val) := by
  unfold fireCmp
  dsimp only
  split <;> rfl

theorem fireCmp_cmpNew (miss : Bool) : (fireCmp n miss u).cmpNew = u.cmpNew := by
  unfold fireCmp
  dsimp only
  split <;> rfl

/-- The value behind: the comparator fires late. -/
theorem cmpEffect_behind (hnew : u.cmpNew[n] = v :: vs) (h : ((u.ticks.setWidth 32 : BitVec 32) - v).toNat < 2 ^ 31)
    (hne : (u.ticks.setWidth 32 : BitVec 32) ≠ v) (hfrozen : u.status.getLsbD 12 = false) :
    cmpEffect n u = setStatus (2 ^ (4 + n.val)) (fireCmp n true (compareLoaded n v vs u)) := by
  have hdue : cmpDue (timerT u) v = true := decide_eq_true h
  have heval : evalCmp n true (compareLoaded n v vs u) = fireCmp n true (compareLoaded n v vs u) := by
    rw [evalCmp, compareLoaded_cmp, compareLoaded_armed]
    exact if_pos (by
      rw [show timerT (compareLoaded n v vs u) = timerT u from rfl, hdue,
        show (compareLoaded n v vs u).status = u.status from rfl, hfrozen]
      decide)
  have hlate : (timerT u != v) = true := bne_iff_ne.mpr hne
  rw [cmpEffect, hnew]
  change (if (!u.status.getLsbD 12 && cmpDue (timerT u) v && timerT u != v) = true then
    setStatus (2 ^ (4 + n.val)) (evalCmp n true (compareLoaded n v vs u)) else _) = _
  rw [hdue, heval, hfrozen, hlate]
  exact if_pos (by decide)

theorem exec_cmpWriteEffect_works (hw : s.works (timerFn t) = true) :
    exec (.cmpWriteEffect t n) s = .next (changeTimer t (cmpEffect n) s) := if_pos hw

/-- A unit that is not frozen is not released (R390). -/
theorem releaseTimer_unfrozen (h : s.timers[t].status.getLsbD 12 = false) : releaseTimer s t = s := by
  rw [releaseTimer, h]
  exact if_neg (by simp)

theorem foldl_releaseTimer_unfrozen (h : ∀ t : Fin 16, s.timers[t].status.getLsbD 12 = false) (l : List (Fin 16)) :
    l.foldl releaseTimer s = s := by
  induction l with
  | nil => rfl
  | cons t l ih => rw [List.foldl_cons, releaseTimer_unfrozen (h t), ih]

/-- TIMER_ACCESS whose operands are in range reaches its unit (R392). -/
theorem accessOperands_pass {dir off : Nat} (h0 : dir ≤ 1) (hal : off % 4 = 0) (hoff : off < 0x58) :
    ¬(decide (1 < dir) || off % 4 != 0 || decide (0x58 ≤ off)) = true := by
  simp only [Bool.or_eq_true, decide_eq_true_eq, bne_iff_ne]
  omega

end

/-- Settles O37: the compare value is in the future or behind, and each command's fields pass its checks. -/
theorem comparesHaltsAndTimerCommands : Obligations.ComparesHaltsAndTimerCommands := by
  refine ⟨fun s t n v vs hw hnew => ⟨fun hahead => ?_, fun hbehind hne hfrozen => ?_⟩, fun s c => ⟨rfl, fun hfree => ?_⟩,
    fun s m req buf => ?_⟩
  · have heffect := cmpEffect_ahead hnew hahead
    refine (exec_cmpWriteEffect_works hw).trans (congrArg _ ?_)
    rw [changeTimer_running (by rw [heffect]; exact BitVec.and_not_self _) (by rw [heffect]; rfl), heffect]
    rfl
  · have heffect := cmpEffect_behind hnew hbehind hne hfrozen
    refine ⟨_, exec_cmpWriteEffect_works hw, ?_, ?_, ?_, fun k hk => changeTimer_other hk⟩
    · rw [changeTimer_unit, stampStart_status, heffect, setStatus, fireCmp_status, BitVec.getLsbD_or, BitVec.getLsbD_or,
        getLsbD_twoPow_self (by omega), Bool.or_true, Bool.true_or]
    · rw [changeTimer_unit, stampStart_status, heffect, setStatus, BitVec.getLsbD_or, getLsbD_twoPow_self (by omega),
        Bool.or_true]
    · have hnext : (cmpEffect n s.timers[t]).cmpNew[n] = vs := by
        rw [heffect]
        change (fireCmp n true (compareLoaded n v vs s.timers[t])).cmpNew[n] = vs
        simp only [fireCmp_cmpNew]
        exact Vector.getElem_set_self ..
      rw [changeTimer_unit, ← hnext]
      unfold stampStart
      split <;> rfl
  · change (.next ((List.finRange 16).foldl releaseTimer (s.onCore c fun x => { x with debugHalt := false })) : Out) = _
    exact congrArg _ (foldl_releaseTimer_unfrozen (s := s.onCore c fun x => { x with debugHalt := false }) hfree _)
  · dsimp only
    refine ⟨fun ht h0 hcores h2 h3 h4 h4' h8 h8' h12 h14 h16 h18 h20 h21 => ?_, fun ht hen h1 h0 hal hoff =>
      ⟨fun hother => ?_, fun hown hread => ?_, fun hown hwrite => ?_⟩⟩
    · refine taken_ok ht ?_
      have hpair : ¬(decide (u8 (fullBody req buf) 0 ≤ 1) &&
          (u8 (fullBody req buf) 0 == 1) != (u8 (fullBody req buf) 1 != 0)) = true := by
        by_cases h : u8 (fullBody req buf) 0 = 1
        · simp [h, hcores.mp h]
        · simp [h, Classical.not_not.mp (mt hcores.mpr h)]
      refine (if_neg hpair).trans (stageOne_passes _ _ _ _ _ _ _ _ ?_)
      simp [checkFields_none, timerConfigFields, checkField, field_u8, field_u16, field_u32, h0, h2, Nat.lt_succ_of_le h3, h4,
        h4', h8, h8', Nat.lt_succ_of_le h12, h14, h16.symm, h18.symm, Nat.lt_succ_of_le h20, h21]
    · refine taken_done ht ?_
      dsimp only
      rw [if_neg (by simp [hen]), if_neg (by simp [h1]), if_neg (accessOperands_pass h0 hal hoff)]
      exact if_pos (by simpa [timerOwner] using hother)
    · refine taken_fixed ht ?_ (by simp [leBytes])
      dsimp only
      rw [if_neg (by simp [hen]), if_neg (by simp [h1]), if_neg (accessOperands_pass h0 hal hoff),
        if_neg (by simpa [timerOwner] using hown), if_pos hread, takeReq_timers]
    · refine taken_fixed ht ?_ (by simp [zeros])
      dsimp only
      rw [if_neg (by simp [hen]), if_neg (by simp [h1]), if_neg (accessOperands_pass h0 hal hoff),
        if_neg (by simpa [timerOwner] using hown), if_neg (by omega), takeReq_coh]

end Sys2Proof.Machine

/-! ## The vote on an entry to sleep (O38) -/

namespace Sys2Proof.Machine

section
variable {s t : State}

/-- Pre-empting a background calibration changes the radios and the counters alone. -/
theorem preemptCal_frame (r : Fin 3) (s : State) : ∃ x c, preemptCal r s = { s with radios := x, counters := c } := by
  have hclaim (t : State) : ∃ x, claimObs t = { t with radios := x } := by
    unfold claimObs
    split
    · exact ⟨_, rfl⟩
    · exact ⟨_, rfl⟩
  have hfree : ∃ x, freeObs r s = { s with radios := x } := by
    unfold freeObs
    split
    · obtain ⟨x, h⟩ := hclaim (s.onRadios fun x => { x with obsServes := none })
      exact ⟨x, by rw [h]; rfl⟩
    · exact ⟨_, rfl⟩
  have hrequeue : ∃ x, requeueCal r s = { s with radios := x } := by
    unfold requeueCal
    split
    · exact ⟨_, rfl⟩
    · obtain ⟨x, h⟩ := hfree
      rw [h]
      exact ⟨_, rfl⟩
  unfold preemptCal
  split
  · exact ⟨_, _, rfl⟩
  · obtain ⟨x, h⟩ := hrequeue
    rw [h]
    exact ⟨_, _, rfl⟩

theorem stopCals_kci (s : State) : (stopCals s).kci = s.kci :=
  foldl_keeps (fun t : State => t.kci) _ (fun t r => by
    obtain ⟨x, c, h⟩ := preemptCal_frame r t
    rw [h]) _ _

/-- A refusal leaves the host interface. -/
theorem rollback_kci (auto : Bool) (c n fn : Nat) (s : State) : (rollback auto c n fn s).kci = s.kci := by
  have hcounts (u : State) : ((List.range n).foldl (fun s i => s.count powerFn (10 + 2 * i)) u).kci = u.kci :=
    foldl_keeps (fun t : State => t.kci) (fun s i => s.count powerFn (10 + 2 * i)) (fun _ _ => rfl) _ _
  have hstop : (if 8 ≤ n then stopCals s else s).kci = s.kci := by
    split
    · exact stopCals_kci s
    · rfl
  unfold rollback
  cases auto <;> exact (hcounts _).trans hstop

/-- A refused commanded entry leaves the device awake. -/
theorem rollback_phase (auto : Bool) (c n fn : Nat) (s : State) : (rollback auto c n fn s).power.phase = .awake := by
  cases auto <;> rfl

/-! ### Supplies -/

/-- `t` is `s` but for the supplies. -/
def SuppliesOnly (s t : State) : Prop := t = { s with supply := t.supply }

theorem SuppliesOnly.refl (s : State) : SuppliesOnly s s := rfl

theorem SuppliesOnly.onSupply (h : SuppliesOnly s t) (f : Supply → Supply) : SuppliesOnly s (t.onSupply f) := by
  unfold SuppliesOnly at h ⊢
  generalize t.supply = x at h
  subst h
  rfl

theorem writePmic_supplies (h : SuppliesOnly s t) (r reg : Nat) (d : PmicData) : SuppliesOnly s (writePmic r reg d t) := by
  unfold writePmic
  dsimp only
  split
  · exact h
  · exact h.onSupply _

theorem writeVsel_supplies (h : SuppliesOnly s t) (r mv : Nat) : SuppliesOnly s (writeVsel r mv t) := by
  unfold writeVsel
  dsimp only
  split
  · exact h
  · exact writePmic_supplies h ..

theorem switchRail_supplies (h : SuppliesOnly s t) (on : Bool) (r : Nat) : SuppliesOnly s (switchRail on t r) := by
  unfold switchRail
  dsimp only
  split
  · exact h
  · exact (writePmic_supplies h ..).onSupply _

theorem setTarget_supplies (h : SuppliesOnly s t) (r : Fin 10) (mv : Nat) : SuppliesOnly s (setTarget r mv t) := by
  unfold setTarget
  split
  · exact h
  · exact writeVsel_supplies ((h.onSupply _).onSupply _) ..

theorem lowerRails_supplies (s : State) : SuppliesOnly s (lowerRails s) := by
  unfold lowerRails
  split
  · exact setTarget_supplies (switchRail_supplies (.refl s) ..) ..
  · exact .refl s

theorem SuppliesOnly.power (h : SuppliesOnly s t) : t.power = s.power := by rw [h]

/-! ### The point of no return -/

theorem enterIdle_phase (s : State) : (enterIdle s).power.phase = s.power.phase := by
  unfold enterIdle
  split <;> rfl

theorem unpowerRadio_phase (r : Fin 3) (s : State) : (unpowerRadio r s).power.phase = s.power.phase := by
  unfold unpowerRadio
  split
  · exact enterIdle_phase _
  · rfl

theorem passP_phase (s : State) : (passP s).power.phase = .entering := by
  unfold passP
  dsimp only
  rw [(lowerRails_supplies _).power]
  exact foldl_keeps (fun t : State => t.power.phase) _ (fun t r => unpowerRadio_phase r t) _ _

theorem beginVote_passes {auto : Bool} (h : vote s s.power.target 14 = none) : beginVote auto none s = (none, passP s) := by
  rw [beginVote, h]

theorem beginVote_refused {auto : Bool} {c fn : Nat} (h : vote s s.power.target 14 = some (c, fn)) :
    beginVote auto none s = (some fn, rollback auto c (c - 1) fn s) := by
  rw [beginVote, h]

theorem beginVote_silent {auto : Bool} {k : Fin 14} (h : vote s s.power.target k.val = none) :
    beginVote auto (some k) s = (none, s.onPower fun p => { p with phase := .voting (k.val + 1) }) := by
  rw [beginVote, h]

/-- The entry that votes, with no command that waits for it, ends by the refusal of one class (R407). -/
theorem refuseEntry_voting {c k fn : Nat} (hphase : s.power.phase = .voting k) (hidle : s.kci.executing = none) :
    refuseEntry c fn s = rollback true c (k - 1) fn s := by
  unfold refuseEntry
  rw [hphase, hidle]
  dsimp only
  rw [finishExecuting, rollback_kci, hidle]

theorem leaveIdle_run (h : s.power.state = .run) : leaveIdle s = s := if_neg (by simp [h])

/-- The state in which DOZE is reached with its snapshot (R408, R411). -/
def dozing (s : State) : State :=
  ((s.onTime fun t =>
    { t with
      snapshot := some ⟨t.spring, s.netNs, t.slotBase, t.fabric, s.timeValid, t.asn⟩, ppsOut := false }).onPower fun p =>
    { p with
      phase := .asleep, state := p.target, since := s.time.spring, refEn := !refEnUsed s.coh.active && p.refEn
      lastState := 2, wakeNeed := none, hibInd := false, pllsStopped := true, sleptNs := s.netNs }).count powerFn 2

theorem exec_sleepSnapshot_doze (hphase : s.power.phase = .entering) (htgt : s.power.target = .doze)
    (hrun : s.power.state = .run) (hnone : s.power.wakePending = none) : exec .sleepSnapshot s = .next (dozing s) := by
  change execSleepSnapshot s = _
  unfold execSleepSnapshot
  rw [if_neg (by simp [hphase])]
  dsimp only
  rw [leaveIdle_run hrun, htgt, show (PowerState.doze == PowerState.hibernate) = false from rfl]
  simp only [Bool.false_eq_true, if_false, Bool.false_and, State.count_power, State.onPower_power, State.onTime_power, hnone, htgt]
  rfl

theorem radios_all_off (h : ∀ r : Fin 3, (s.radio r).powered = false) : s.radios.unit.toList.all (fun x => !x.powered) = true := by
  rw [List.all_eq_true]
  intro x hx
  obtain ⟨i, hi, rfl⟩ := List.mem_iff_getElem.mp hx
  have hlt : i < 3 := by simpa using hi
  have := h ⟨i, hlt⟩
  simpa [State.radio] using this

end

/-- Settles O38: the vote's outcome decides between the point of no return, the refusal and the wait. -/
theorem entryIsVotedOn : Obligations.EntryIsVotedOn := by
  refine ⟨fun s m req buf => ?_, fun s => ?_⟩
  · dsimp only
    refine ⟨fun ht h0 h1 h2 h2' h3 h4 h6 h6' h8 h8' hpads h15 => ?_, fun ht hmode h1 h3 h10 hen =>
      ⟨fun silent rc d hrefused => ?_, fun hfree => ⟨fun hvote => ?_, fun c fn hvote => ⟨?_, ?_⟩, fun k hvote => ?_⟩⟩⟩
    · refine taken_ok ht ?_
      refine (if_neg (by simp [h2']; omega)).trans (stageOne_passes _ _ _ _ _ _ _ _ ?_)
      have h12 := (hpads 12 (by simp)).symm
      have h13 := (hpads 13 (by simp)).symm
      have h14 := (hpads 14 (by simp)).symm
      simp [checkFields_none, checkField, field_u8, field_u16, field_u32, h0, (by omega : u8 (fullBody req buf) 1 < 8), h3, h4, h6, h6', h8, h8', h12,
        h13, h14, h15]
    all_goals
      have hmode' : 2 ≤ u8 (fullBody req buf) 0 ∧ u8 (fullBody req buf) 0 ≤ 3 := by omega
      have hfields : checkFields (fullBody req buf) [⟨0, 1, .range 2 3⟩, ⟨1, 1, .flags 1⟩, ⟨3, 1, .zero⟩, ⟨10, 2, .zero⟩] = none := by
        simp [checkFields_none, checkField, field_u8, field_u16, hmode', Nat.lt_succ_of_le h1, h3, h10]
    · refine taken_refuse ht ?_
      simp only [hfields, takeReq_enabled, hen, Bool.not_true, Bool.false_eq_true, if_false, hrefused]
    · refine ⟨_, taken_ok ht ?_, rfl, passP_phase _⟩
      simp only [hfields, takeReq_enabled, hen, Bool.not_true, Bool.false_eq_true, if_false, hfree]
      rw [beginVote_passes hvote]
      exact if_pos (by simp [passP_phase])
    · refine taken_done ht ?_
      simp only [hfields, takeReq_enabled, hen, Bool.not_true, Bool.false_eq_true, if_false, hfree]
      rw [beginVote_refused hvote]
    · exact rollback_phase ..
    · refine taken_defer ht ?_
      simp only [hfields, takeReq_enabled, hen, Bool.not_true, Bool.false_eq_true, if_false, hfree]
      rw [beginVote_silent hvote]
      rfl
  · dsimp only
    have hautoDoze : exec (.autoDozeEntry none) s = execAutoDozeEntry none s := rfl
    refine ⟨fun hawake hw hready hauto hneed hgap hradios hidle hcmd => ?_,
      fun c hphase hidle => ?_, fun h0 => if_pos h0, fun h0 => if_neg h0, fun hphase htgt hrun hnone => ?_⟩
    · have hstarts : exec (.autoDozeEntry none) s = .next (beginVote true none (s.onPower fun p =>
          { p with target := .doze, wakePending := none, wakeMask := BitVec.ofNat 8 (wakeMaskAuto s.coh.active) })).2 := by
        rw [hautoDoze, execAutoDozeEntry, hneed]
        dsimp only
        rw [if_pos (by simp [hw, hawake, hready, hauto, hgap, radios_all_off hradios, hidle]), State.onPower]
        rw [if_neg (by simp [hcmd])]
        rfl
      refine ⟨fun hvote => ?_, fun c fn hvote => ?_⟩
      · rw [hstarts, beginVote_passes hvote]
      · rw [hstarts, beginVote_refused hvote]
    · change execVoterAckTimeout s = _
      rw [execVoterAckTimeout, hphase]
      dsimp only
      rw [refuseEntry_voting hphase hidle]
    · exact ⟨_, exec_sleepSnapshot_doze hphase htgt hrun hnone, rfl, htgt, rfl, rfl, rfl, rfl⟩

end Sys2Proof.Machine

/-! ## Waking (O39) -/

namespace Sys2Proof.Machine

theorem trafficBlind_power : TrafficBlind State.power :=
  ⟨fun _ _ => rfl, fun _ _ => rfl, fun _ _ => rfl, fun _ _ => rfl, fun _ _ => rfl, fun _ _ => rfl, fun _ _ => rfl, fun _ _ => rfl⟩

theorem trafficBlind_timers : TrafficBlind State.timers :=
  ⟨fun _ _ => rfl, fun _ _ => rfl, fun _ _ => rfl, fun _ _ => rfl, fun _ _ => rfl, fun _ _ => rfl, fun _ _ => rfl, fun _ _ => rfl⟩

/-! ### The scheduler's decisions -/

namespace TrafficBlind

variable {α : Type} {g : State → α} (h : TrafficBlind g)
include h

theorem onThread (s : State) (t : Nat) (f : Thread → Thread) : g (s.onThread t f) = g s := h.cluster ..
theorem onCore (s : State) (c : Fin 8) (f : Core → Core) : g (s.onCore c f) = g s := h.cluster ..
theorem pmuThread (c : Fin 8) (t code cls : Nat) (s : State) : g (pmuThread c t code cls s) = g s := by
  unfold Machine.pmuThread pmuEventIf
  exact h.cluster ..

theorem trace (kind core thread prio cause arg : Nat) (s : State) : g (trace kind core thread prio cause arg s) = g s := by
  unfold Machine.trace
  split
  · rfl
  · simp only [apply_ite g, h.raiseEvent, h.cluster, h.count, ite_self]

theorem traceThread (kind c t cause arg : Nat) (s : State) : g (traceThread kind c t cause arg s) = g s := h.trace ..

theorem dispatch (t : Nat) (c : Fin 8) (old cause : Nat) (s : State) : g (dispatch t c old cause s) = g s := by
  simp only [Machine.dispatch, h.traceThread, h.pmuThread, h.count, h.cluster, h.onCore, h.onThread]

theorem preempt (u : Nat) (c : Fin 8) (by_ : Nat) (s : State) : g (preempt u c by_ s) = g s := by
  simp only [Machine.preempt, h.traceThread, h.pmuThread, h.count, h.cluster, h.onCore, h.onThread]

theorem place (t cause : Nat) (s : State) : g (place t cause s) = g s := by
  unfold Machine.place
  split
  · exact h.dispatch ..
  · split
    · rw [h.dispatch, h.preempt]
    · exact (h.cluster ..).trans (h.onThread ..)

theorem refill (c : Fin 8) (s : State) : g (refill c s) = g s := by
  unfold Machine.refill
  split
  · split
    · exact h.dispatch ..
    · rfl
  · rfl

theorem placeAll (s : State) : g (placeAll s) = g s := by
  refine (foldl_keeps g _ (fun t n => ?_) _ _).trans (foldl_keeps g _ (fun t c => h.refill c t) _ s)
  split
  · exact h.place ..
  · rfl

theorem issueTicket {f : Nat} {k : Holder} {s t : State} {n : BitVec 32} (e : issueTicket f k s = some (n, t)) : g t = g s := by
  unfold Machine.issueTicket at e
  split at e
  · contradiction
  · obtain ⟨rfl, rfl⟩ := Prod.mk.inj (Option.some.inj e)
    exact (h.count ..).trans (h.cluster ..)

theorem takeEvent {c : Fin 8} {s t : State} (e : takeEvent c s = some t) : g t = g s := by
  unfold Machine.takeEvent at e
  split at e
  · cases e
  · dsimp only at e
    split at e
    · cases e
    · cases e
      rw [h.trace, h.count, h.onCore]
      split
      · split
        · exact (h.issueTicket (by assumption)).trans (h.cluster ..)
        · dsimp only
          exact h.cluster s _
      · dsimp only
        exact h.cluster s _

theorem feedEvp (s : State) : g (feedEvp s) = g s := by
  refine foldl_keeps g _ (fun t c => ?_) _ s
  split
  · cases e : Machine.takeEvent c t with
    | none => rfl
    | some u => exact h.takeEvent e
  · rfl

theorem advanceAll (s : State) : g (advanceAll s) = g s := by
  refine foldl_keeps g _ (fun t i => ?_) _ s
  dsimp only
  generalize (if bandExists t.coh.active i.val = true then _ else _) = w
  split
  · rfl
  · exact (h.nearCheck ..).trans (h.onAccount ..)

end TrafficBlind

section
variable {s t : State}

/-! ### The exit begins -/

/-- From DOZE the exit begins in the power manager alone (R410). -/
theorem beginWake_doze (n : Nat) (h : s.power.state = .doze) : beginWake n s = s.onPower fun p =>
    { p with
      phase := .waking, lastWake := BitVec.ofNat 8 n, wakeAt := s.time.spring, refEn := true, wakePending := none
      commanded := p.commanded && (n == 1 || n == 5) } := by
  refine if_neg ?_
  simp [h]

theorem restoreRails_supplies (s : State) : SuppliesOnly s (restoreRails s) := by
  have hfold : ∀ (l : List Nat) (t : State), SuppliesOnly s t → SuppliesOnly s (l.foldl (switchRail true) t) := by
    intro l
    induction l with
    | nil => exact fun _ h => h
    | cons r l ih => exact fun t h => ih _ (switchRail_supplies h ..)
  unfold restoreRails
  dsimp only
  split
  · exact setTarget_supplies (hfold _ _ (.refl s)) ..
  · exact hfold _ _ (.refl s)

theorem writePmic_removed (r reg : Nat) (d : PmicData) (s : State) : (writePmic r reg d s).supply.removed = s.supply.removed := by
  unfold writePmic
  dsimp only
  split <;> rfl

theorem setTarget_removed (r : Fin 10) (mv : Nat) (s : State) : (setTarget r mv s).supply.removed = s.supply.removed := by
  unfold setTarget writeVsel
  dsimp only
  split
  · rfl
  · split
    · rfl
    · exact writePmic_removed ..

/-- A rail that returns removes none. -/
theorem switchRail_removed {r x : Nat} (h : x ∈ (switchRail true s r).supply.removed) : x ∈ s.supply.removed := by
  revert h
  unfold switchRail
  dsimp only
  split
  · exact id
  · intro h
    have := (List.mem_filter.mp h).1
    rwa [writePmic_removed] at this

theorem restoreRails_removed {x : Nat} (h : x ∈ (restoreRails s).supply.removed) : x ∈ s.supply.removed := by
  have hfold : ∀ (l : List Nat) (t : State), x ∈ (l.foldl (switchRail true) t).supply.removed → x ∈ t.supply.removed := by
    intro l
    induction l with
    | nil => exact fun _ h => h
    | cons r l ih => exact fun t h => switchRail_removed (ih _ h)
  revert h
  unfold restoreRails
  dsimp only
  split
  · rw [setTarget_removed]
    exact hfold _ _
  · exact hfold _ _

/-- From HIBERNATE the exit also restores the rails and makes a warm start due (R410, R414). -/
theorem beginWake_hibernate (n : Nat) (h : s.power.state = .hibernate) : ∃ t, beginWake n s = t ∧ t.power.phase = .waking ∧
    t.boot = { s.boot with phase := .due .warm true } ∧ (∀ r ∈ t.supply.removed, r ∈ s.supply.removed) ∧
    t = { s with power := t.power, boot := t.boot, supply := t.supply } := by
  generalize hu : (s.onPower fun p => { p with
    phase := .waking, lastWake := BitVec.ofNat 8 n, wakeAt := s.time.spring, refEn := true, wakePending := none
    commanded := p.commanded && (n == 1 || n == 5) }) = u
  have hexit : beginWake n s = (restoreRails u).onBoot fun b => { b with phase := .due .warm true } := by
    rw [← hu]
    exact if_pos h
  have hsup := restoreRails_supplies u
  refine ⟨_, hexit, ?_, ?_, fun r hr => ?_, ?_⟩
  · rw [State.onBoot_power, hsup.power, ← hu]
    rfl
  · rw [State.onBoot_boot, show (restoreRails u).boot = u.boot by rw [hsup], ← hu]
    rfl
  · have := restoreRails_removed hr
    rw [← hu] at this
    exact this
  · generalize restoreRails u = v at hsup
    unfold SuppliesOnly at hsup
    generalize v.supply = x at hsup
    subst hsup
    subst hu
    rfl

/-! ### Wake sources -/

theorem exec_wakeSource_other {n : Fin 5} (h : n ≠ 1) : exec (.wakeSource n) s = .next (fireWake n.val s) := if_neg h

theorem fireWake_enabled {n : Nat} (h : sourceEnabled s n = true) : fireWake n s =
    match s.power.phase with
    | .voting _ => refuseEntry 1 powerFn s
    | .entering => s.onPower fun p => { p with wakePending := some (p.wakePending.getD n) }
    | .asleep => beginWake n s
    | _ => s := if_neg (by simp [h])

/-- The only need that may wake the device is taken up once its lead has come (R404). -/
theorem exec_scheduledWake_need {need : Need} (hneed : wakeNeeds s = [need]) (hasleep : s.power.phase = .asleep)
    (hdoze : s.power.state = .doze) : exec .scheduledWake s = .next (if wakeInstant s need.at_ ≤ s.time.spring.toNat then
      beginWake (if need.latent then 5 else 1) (s.onPower fun p => { p with wakeNeed := some (springOf s need.at_, need.fn) })
    else s) := by
  change execScheduledWake s = _
  rw [execScheduledWake, hneed]
  dsimp only [List.foldl, earlier]
  rw [hasleep, hdoze]
  by_cases h : wakeInstant s need.at_ ≤ s.time.spring.toNat
  · rw [if_pos h]
    exact if_pos (by simpa using h)
  · rw [if_neg h]
    exact if_neg (by simpa using h)

theorem wakeNeeds_commit {c : Commit} {n : Nat} (hlatent : latentNeeds s = []) (hc : s.coh.commit = some c)
    (hb : c.boundary = .slot n) (h1 : sourceEnabled s 1 = false) : wakeNeeds s = [⟨slotStartNs s.coh.active n, 0, false⟩] := by
  simp [wakeNeeds, commitNeeds, hlatent, hc, hb, h1]

theorem wakeNeeds_latent (hc : s.coh.commit = none) (h1 : sourceEnabled s 1 = false) : wakeNeeds s = latentNeeds s := by
  simp [wakeNeeds, commitNeeds, hc, h1]

/-! ### The bases are rebuilt -/

/-- Unit `k` with the prescaler phase that it had as the sleep began (R391). -/
def entryStamped (s : State) (p : Snapshot) (k : Fin 16) : Timer :=
  { s.timers[k] with
    phase := entryPhase (timerPart s.coh.active k) p s.timers[k], phaseFabric := s.time.fabric, phaseSpring := s.time.spring }

/-- A stopped unit resumes as it entered. -/
theorem wakeTimer_stopped {t : Fin 16} {p : Snapshot} {ns spring slots : Nat} (h : s.timers[t].run = false) :
    wakeTimer t p ns spring slots s = s.onTimer t fun _ => entryStamped s p t := by
  unfold wakeTimer
  dsimp only
  rw [if_neg]
  · rfl
  · have hrun : (s.onTimer t fun u => stampPhase s { u with phase := entryPhase (timerPart s.coh.active t) p u }).timers[t].run =
        false := by
      rw [onTimer_unit]
      exact h
    rw [hrun, Bool.and_false, Bool.false_and, Bool.false_and]
    decide

/-- Stopped units resume as they entered, one after the other. -/
theorem foldl_wakeTimer_stopped {p : Snapshot} {ns spring slots : Nat} (l : List (Fin 16)) : ∀ s : State, l.Nodup →
    (∀ k ∈ l, s.timers[k].run = false) → ∃ x : Vector Timer 16,
      l.foldl (fun s t => wakeTimer t p ns spring slots s) s = { s with timers := x } ∧
        ∀ k, x[k] = if k ∈ l then entryStamped s p k else s.timers[k] := by
  induction l with
  | nil => exact fun s _ _ => ⟨s.timers, rfl, fun k => by simp⟩
  | cons t l ih =>
    intro s hnodup hstopped
    obtain ⟨hnew, hnodup'⟩ := List.nodup_cons.mp hnodup
    have hother (k : Fin 16) (hk : k ≠ t) : (s.onTimer t fun _ => entryStamped s p t).timers[k] = s.timers[k] := by
      simp only [State.onTimer, Fin.getElem_fin]
      exact Vector.getElem_set_ne _ _ fun e => hk (Fin.ext e.symm)
    obtain ⟨x, hx, hunits⟩ := ih (s.onTimer t fun _ => entryStamped s p t) hnodup' fun k hk => by
      rw [hother k fun e => hnew (e ▸ hk)]
      exact hstopped k (List.mem_cons_of_mem _ hk)
    refine ⟨x, ?_, fun k => ?_⟩
    · rw [List.foldl_cons, wakeTimer_stopped (hstopped t List.mem_cons_self), hx]
      rfl
    · rw [hunits k]
      by_cases hk : k = t
      · subst hk
        rw [if_neg hnew, if_pos List.mem_cons_self, onTimer_unit]
      · have hsame : entryStamped (s.onTimer t fun _ => entryStamped s p t) p k = entryStamped s p k := by
          rw [entryStamped, hother k hk]
          rfl
        rw [hsame, hother k hk]
        simp [hk]

/-- The bases loaded at the wake, with every unit stopped (R370). -/
theorem rebuildBases_stopped {p : Snapshot} (hsnap : s.time.snapshot = some p) (hstopped : ∀ k : Fin 16, s.timers[k].run = false)
    {ns : Nat} (hns : elapsedNs s (s.time.spring - p.spring).toNat = ns) {t : State} (hrebuild : rebuildBases s = t) :
    t.time.seconds = BitVec.ofNat 64 ((p.netNs + ns + 1667) / 1000000000) ∧
      t.time.nanos = BitVec.ofNat 32 ((p.netNs + ns + 1667) % 1000000000) ∧
      t.time.fabric = p.fabric + BitVec.ofNat 64 (ns * 2 / 5 + 667) ∧ t.time.snapshot = none ∧ t.time.spring = s.time.spring ∧
      t.coh = s.coh ∧ ∀ k : Fin 16, t.timers[k] = { s.timers[k] with
        phase := entryPhase (timerPart s.coh.active k) p s.timers[k], phaseFabric := t.time.fabric, phaseSpring := s.time.spring } := by
  have hloaded : ∃ (v : State) (m ticks slots : Nat), t = advanceAll ((List.finRange 16).foldl (fun s k =>
      wakeTimer k p m ticks slots s) v) ∧ v.timers = s.timers ∧ v.coh = s.coh ∧
      v.time.seconds = BitVec.ofNat 64 ((p.netNs + ns + 1667) / 1000000000) ∧
      v.time.nanos = BitVec.ofNat 32 ((p.netNs + ns + 1667) % 1000000000) ∧
      v.time.fabric = p.fabric + BitVec.ofNat 64 (ns * 2 / 5 + 667) ∧ v.time.snapshot = none ∧ v.time.spring = s.time.spring := by
    rw [rebuildBases, hsnap] at hrebuild
    dsimp only at hrebuild
    rw [hns] at hrebuild
    refine ⟨_, _, _, _, hrebuild.symm, ?_, ?_, ?_, ?_, ?_, ?_, ?_⟩ <;>
      simp only [State.onThermal_timers, State.onMem_timers, State.count_timers, State.onTime_timers, State.onThermal_coh,
        State.onMem_coh, State.count_coh, State.onTime_coh, State.onThermal_time, State.onMem_time, State.count_time,
        State.onTime_time]
  obtain ⟨v, m, ticks, slots, ht, htimers, hcoh, hseconds, hnanos, hfabric, hsnapshot, hspring⟩ := hloaded
  obtain ⟨x, hx, hunits⟩ := foldl_wakeTimer_stopped (p := p) (ns := m) (spring := ticks) (slots := slots) (List.finRange 16) v
    (List.nodup_finRange 16) fun k _ => by rw [htimers]; exact hstopped k
  rw [hx] at ht
  have htime : t.time = v.time := by rw [ht, trafficBlind_time.advanceAll]
  have hunit (k : Fin 16) : t.timers[k] = entryStamped v p k := by
    have : t.timers = x := by rw [ht, trafficBlind_timers.advanceAll]
    rw [this, hunits k, if_pos (List.mem_finRange k)]
  refine ⟨htime ▸ hseconds, htime ▸ hnanos, htime ▸ hfabric, htime ▸ hsnapshot, htime ▸ hspring, ?_, fun k => ?_⟩
  · rw [ht, trafficBlind_coh.advanceAll]
    exact hcoh
  · rw [hunit, entryStamped, htimers, hcoh, htime, hspring]

/-- `WAKE_REBUILD` from DOZE (R410). -/
theorem exec_wakeRebuild_doze (hqual : s.power.phase = .qualified) (hdoze : s.power.state = .doze) :
    exec .wakeRebuild s =
      .next ((restoreRails (endDoze (rebuildBases s))).onPower fun p => { p with phase := .rebuilt }) := by
  change execWakeRebuild s = _
  rw [execWakeRebuild, if_neg (by simp [hqual])]
  dsimp only
  rw [if_pos hdoze]

theorem endDoze_time (s : State) : (endDoze s).time = s.time := by
  rw [endDoze, State.onPower_time, State.onThermal_time, State.countN_time]

theorem endDoze_timers (s : State) : (endDoze s).timers = s.timers := by
  rw [endDoze, State.onPower_timers, State.onThermal_timers, State.countN_timers]

theorem endDoze_state (s : State) :
    (endDoze s).power.state = if autoLevel s.coh.active = 0 then PowerState.run else .slotIdle := by
  have hcoh (us : Nat) (f : Thermal → Thermal) : ((s.countN powerFn 3 us).onThermal f).coh = s.coh := by
    rw [State.onThermal_coh, State.countN_coh]
  rw [endDoze, State.onPower_power]
  exact congrArg (fun c : Coherence => if autoLevel c.active = 0 then PowerState.run else .slotIdle) (hcoh _ _)

theorem SuppliesOnly.time (h : SuppliesOnly s t) : t.time = s.time := by rw [h]

theorem SuppliesOnly.timers (h : SuppliesOnly s t) : t.timers = s.timers := by rw [h]

/-- From DOZE, with every unit stopped, the bases resume at the value that the snapshot gives. -/
theorem exec_wakeRebuild_stopped {p : Snapshot} (hqual : s.power.phase = .qualified) (hdoze : s.power.state = .doze)
    (hsnap : s.time.snapshot = some p) (hstopped : ∀ k : Fin 16, s.timers[k].run = false) {ns : Nat}
    (hns : elapsedNs s (s.time.spring - p.spring).toNat = ns) : ∃ t, exec .wakeRebuild s = .next t ∧ t.power.phase = .rebuilt ∧
      t.power.state = (if autoLevel s.coh.active = 0 then .run else .slotIdle) ∧
      t.time.seconds = BitVec.ofNat 64 ((p.netNs + ns + 1667) / 1000000000) ∧
      t.time.nanos = BitVec.ofNat 32 ((p.netNs + ns + 1667) % 1000000000) ∧
      t.time.fabric = p.fabric + BitVec.ofNat 64 (ns * 2 / 5 + 667) ∧ t.time.snapshot = none ∧
      t.time.spring = s.time.spring ∧ (∀ k : Fin 16, t.timers[k] = { s.timers[k] with
        phase := entryPhase (timerPart s.coh.active k) p s.timers[k], phaseFabric := t.time.fabric, phaseSpring := s.time.spring }) := by
  have hexec := exec_wakeRebuild_doze hqual hdoze
  generalize ht : rebuildBases s = t at hexec
  obtain ⟨hseconds, hnanos, hfabric, hsnapshot, hspring, hcoh, hunits⟩ := rebuildBases_stopped hsnap hstopped hns ht
  have hsup := restoreRails_supplies (endDoze t)
  generalize restoreRails (endDoze t) = v at hexec hsup
  have htime : v.time = t.time := hsup.time.trans (endDoze_time t)
  have htimers : v.timers = t.timers := hsup.timers.trans (endDoze_timers t)
  refine ⟨_, hexec, ?_⟩
  rw [State.onPower_time, State.onPower_timers, State.onPower_power, htime, htimers, hsup.power]
  refine ⟨rfl, ?_, hseconds, hnanos, hfabric, hsnapshot, hspring, hunits⟩
  rw [← hcoh]
  exact endDoze_state t

/-! ### The exit is done -/

/-- Without an ASN the slot in progress is not taken up: the windows only forget their peaks (R405). -/
theorem resumeSlot_unsynchronised (h : s.time.asn = none) : ∃ x, resumeSlot s = { s with radios := x } := by
  have hforget : ∀ (l : List (Fin 3)) (t : State), ∃ x, l.foldl (fun s r => forgetPeaks r s) t = { t with radios := x } := by
    intro l
    induction l with
    | nil => exact fun t => ⟨t.radios, rfl⟩
    | cons r l ih =>
      intro t
      obtain ⟨x, hx⟩ := ih (forgetPeaks r t)
      exact ⟨x, hx.trans rfl⟩
  obtain ⟨x, hx⟩ := hforget [0, 1, 2] s
  refine ⟨x, ?_⟩
  rw [resumeSlot, hx]
  split
  next => rfl
  next a ha => exact absurd (h.symm.trans ha) nofun

/-- What the power manager holds once the device is awake. -/
def exitDone (s : State) : Power :=
  { s.power with
    phase := .awake, selfRefresh := false, retention := false, contextsSaved := false, isolated := []
    lastExitUs := BitVec.ofNat 16 (min (springUs (s.time.spring - s.power.wakeAt)) 0xFFFF), wakeNeed := none
    wakeSpring := if s.power.commanded then s.power.wakeSpring else none }

theorem handleHeld_none (h : s.power.held = []) : handleHeld s = s := by
  rw [handleHeld, h]
  change { s with power := { s.power with held := [] } } = s
  rw [← h]

theorem runHeldAccesses_none (h : s.power.hostHeld = []) : runHeldAccesses s = s := by
  rw [runHeldAccesses, h]
  change { s with power := { s.power with hostHeld := [] } } = s
  rw [← h]

/-- `WAKE_COMPLETE` by the external wake input, without an ASN and with nothing outstanding. -/
theorem exec_wakeComplete_quiet (hrebuilt : s.power.phase = .rebuilt) (hhib : s.power.state ≠ .hibernate)
    (hasn : s.time.asn = none) (hneed : s.power.wakeNeed = none) (hheld : s.power.held = []) (hhost : s.power.hostHeld = [])
    (hrails : railsBack s = true) (hwake : s.power.lastWake = 2) : ∃ u, exec .wakeComplete s =
        .next (raiseEvent 208 powerFn (2 + min (springUs (s.time.spring - s.power.wakeAt)) 0xFFFFFFFF * 2 ^ 8)
          (feedEvp (placeAll u))) ∧
      u.power.phase = .awake ∧ u.power.lastExitUs = BitVec.ofNat 16 (min (springUs (s.time.spring - s.power.wakeAt)) 0xFFFF) ∧
      u.safety = { s.safety with tokenAt := s.time.fabric } ∧
      u = { s with power := u.power, safety := u.safety, radios := u.radios } := by
  change ∃ u, execWakeComplete s = _ ∧ _
  rw [execWakeComplete, if_neg (by simp [hrebuilt, hhib, hrails]), hneed]
  dsimp only
  generalize hawake : s.onPower _ = v
  have hv : v = { s with power := exitDone s } := hawake.symm
  clear hawake
  obtain ⟨x, hx⟩ := resumeSlot_unsynchronised (s := v) (by rw [hv]; exact hasn)
  rw [hx]
  generalize hu : State.onSafety _ _ = u
  have hpower : (feedEvp (placeAll u)).power = exitDone s := by
    rw [trafficBlind_power.feedEvp, trafficBlind_power.placeAll, ← hu, hv]
    rfl
  have hwake' : (exitDone s).lastWake = 2 := hwake
  refine ⟨u, ?_, ?_⟩
  · rw [hpower, hwake', handleHeld_none, runHeldAccesses_none]
    · exact congrArg _ (if_neg (by decide))
    · rw [apply_ite State.power, raiseEvent_power, hpower, ite_self]
      exact hhost
    · rw [apply_ite State.power, raiseEvent_power, hpower, ite_self]
      exact hheld
  · subst hu hv
    exact ⟨rfl, rfl, rfl, rfl⟩

end

/-- Settles O39: a wake source by the phase that it meets, the needs, the reference, the bases and the end of the exit. -/
theorem wakingRebuildsTheBases : Obligations.WakingRebuildsTheBases := by
  intro s
  refine ⟨fun n => ⟨fun hno => ?_, fun hn hen => ⟨fun hasleep hdoze => ?_, fun hasleep hhib => ?_, fun hentering hnone => ?_,
    fun c hvoting hidle => ?_⟩⟩, fun hlatent hc h1 => ?_, fun c n hlatent hc hb h1 hasleep hdoze => ⟨fun hearly => ?_, fun hdue => ?_⟩,
    fun need hlatent hc h1 hl hasleep hdoze hdue => ?_, fun hwaking href => ?_, fun href => ?_,
    fun p hqual hdoze hsnap hstopped => ?_, fun hrebuilt hhib hasn hneed hheld hhost hrails hwake => ?_⟩
  · by_cases h1 : n = 1
    · exact if_pos h1
    · rw [exec_wakeSource_other h1]
      exact congrArg _ (if_pos (by simp [hno.resolve_left h1]))
  · refine ⟨_, exec_wakeSource_other hn, ?_⟩
    have h15 : (n.val == 1 || n.val == 5) = false := by
      have : n.val ≠ 1 := fun e => hn (Fin.ext e)
      simp only [Bool.or_eq_false_iff, beq_eq_false_iff_ne]
      omega
    rw [fireWake_enabled hen, hasleep]
    dsimp only
    rw [beginWake_doze _ hdoze, h15]
    simp only [Bool.and_false]
    exact ⟨rfl, rfl⟩
  · obtain ⟨t, ht, hprop⟩ := beginWake_hibernate n.val hhib
    refine ⟨t, ?_, hprop⟩
    rw [exec_wakeSource_other hn, fireWake_enabled hen, hasleep]
    exact congrArg _ ht
  · rw [exec_wakeSource_other hn, fireWake_enabled hen, hentering]
    dsimp only
    rw [State.onPower, hnone]
    rfl
  · rw [exec_wakeSource_other hn, fireWake_enabled hen, hvoting]
    exact congrArg _ (refuseEntry_voting hvoting hidle)
  · change execScheduledWake s = _
    rw [execScheduledWake, wakeNeeds_latent hc h1, hlatent]
    rfl
  · rw [exec_scheduledWake_need (wakeNeeds_commit hlatent hc hb h1) hasleep hdoze]
    exact congrArg _ (if_neg (Nat.not_le.mpr hearly))
  · rw [exec_scheduledWake_need (wakeNeeds_commit hlatent hc hb h1) hasleep hdoze]
    dsimp only
    rw [if_pos hdue, if_neg (by decide), beginWake_doze]
    · exact ⟨_, rfl, rfl, rfl, rfl, rfl⟩
    · exact hdoze
  · rw [exec_scheduledWake_need ((wakeNeeds_latent hc h1).trans hlatent) hasleep hdoze]
    rw [if_pos hdue, if_pos hl, beginWake_doze]
    · exact ⟨_, rfl, rfl, rfl, rfl, rfl⟩
    · exact hdoze
  · exact if_pos (by simp [hwaking, href])
  · exact if_neg (by simp [href])
  · exact exec_wakeRebuild_stopped hqual hdoze hsnap hstopped rfl
  · exact exec_wakeComplete_quiet hrebuilt hhib hasn hneed hheld hhost hrails hwake

end Sys2Proof.Machine

/-! ## Supply dips (O40) -/

namespace Sys2Proof.Machine

section
variable {s : State}

/-- A dip has begun: the frames on air are cut and reported, and transmission is inhibited (R269, R435). -/
def dipBegun (cause : Nat) (s : State) : State :=
  let n := onAirCount s 0 + onAirCount s 1 + onAirCount s 2
  let v := ([0, 1, 2] : List (Fin 3)).foldl (fun u r => cutRadio r rcTxAbortSupply .requeue u) s
  let v := if n = 0 then v else raiseEvent 96 sluiceFn (n + flag (cause == 15) * 2 ^ 16) (v.countN sluiceFn 17 n)
  let v := v.onSluice fun x => { x with inhibit := true, recovered := false }
  let v := v.onSupply fun x => { x with dip := some ⟨cause, v.time.fabric, v.time.spring⟩ }
  v.onThermal fun t => { t with span := { t.span with dip := true } }

theorem startDip_eq (cause : Nat) (s : State) : startDip cause s =
    let p := cause + (if cause < 10 then railTarget (dipBegun cause s) (Fin.ofNat 10 cause) else 0) * 2 ^ 16
    raiseSource 168 supplyFn p
      (raiseEvent 193 supplyFn p (countSupply (if cause = 15 then 2 else 1) (dipBegun cause s))) := by
  rw [startDip, dipBegun]

theorem startDip_rail (r : Fin 10) (s : State) : startDip r.val s =
    raiseSource 168 supplyFn (r.val + railTarget (dipBegun r.val s) r * 2 ^ 16)
      (raiseEvent 193 supplyFn (r.val + railTarget (dipBegun r.val s) r * 2 ^ 16) (countSupply 1 (dipBegun r.val s))) := by
  rw [startDip_eq, if_pos r.isLt, if_neg (by omega), Fin.ofNat_val_eq_self]

theorem startDip_ball (s : State) : startDip 15 s =
    raiseSource 168 supplyFn 15 (raiseEvent 193 supplyFn 15 (countSupply 2 (dipBegun 15 s))) := by
  rw [startDip_eq, if_neg (by decide), if_pos rfl, Nat.zero_mul, Nat.add_zero]

theorem warnDip_first {cause : Nat} (h : s.supply.dip = none) : warnDip cause s = startDip cause s := if_neg (by simp [h])

theorem warnDip_later {cause : Nat} (h : s.supply.dip.isSome = true) : warnDip cause s = s := if_pos h

theorem railsRecovered_iff : railsRecovered s = true ↔
    ∀ r : Fin 10, railRemoved s r.val = true ∨ 94 * levelTarget s r ≤ 100 * (s.supply.rails[r]).present := by
  simp only [railsRecovered, List.all_eq_true, List.mem_finRange, forall_const, Bool.or_eq_true, decide_eq_true_eq]

/-- The end of a dip reports the lowest rail, its minimum and the duration (R270). -/
theorem endDip_eq (d : Dip) (s : State) : endDip d s =
    let e := (lowestRail s).getD (15, 0)
    raiseEvent 192 supplyFn (e.1 + e.2 * 2 ^ 16 + min (dipUs s d) 0xFFFFFFFF * 2 ^ 32)
      ((((s.onSupply fun x => { x with
          dip := none, warnBall := false, rails := x.rails.map fun y => { y with warn := false, minimum := none } }).onThermal fun t =>
        { t with span := { t.span with dipMin := (lowestRail s).map fun e => (e.2, e.1) } }).onSluice fun x =>
          if s.time.asn = none then { x with inhibit := false, recovered := false } else { x with recovered := true }).countN
        supplyFn 3 (dipUs s d)) := by
  have hresume : s.time.asn.isNone = decide (s.time.asn = none) := by cases s.time.asn <;> rfl
  unfold endDip
  dsimp only
  simp only [State.onThermal_time, State.onSupply_time, hresume, decide_eq_true_eq]

/-- The rails as `DIP_RECOVERY` measures them. -/
def remeasured (mv minima : List Nat) (s : State) : State :=
  s.onSupply fun x => { x with rails := Vector.ofFn fun r : Fin 10 =>
    { x.rails[r] with
      present := mv.getD r.val (x.rails[r]).present, minimum := (x.rails[r]).minimum.map fun v => min v (minima.getD r.val v) } }

theorem remeasured_present (mv minima : List Nat) (s : State) (r : Fin 10) :
    ((remeasured mv minima s).supply.rails[r]).present = mv.getD r.val (s.supply.rails[r]).present := by
  simp [remeasured]

theorem exec_dipRecovery {d : Dip} (mv minima : List Nat) (h : s.supply.dip = some d) : exec (.dipRecovery mv minima) s =
    if railsRecovered (remeasured mv minima s) then .next (endDip d (remeasured mv minima s)) else .next s := by
  change execDipRecovery mv minima s = _
  rw [execDipRecovery, h]
  rfl

end

/-- Settles O40: a warning by rail or ball, the first or a later one, and the recovery. -/
theorem warningsStartDipsAndRecoveryEndsThem : Obligations.WarningsStartDipsAndRecoveryEndsThem := by
  intro s dip
  have hbegun : dip = dipBegun := rfl
  clear_value dip
  subst hbegun
  refine ⟨fun rail mv => ⟨fun h => ?_, fun hin hlow => ⟨fun hdip => ?_, fun hdip => ?_⟩⟩, fun hdip => ?_, fun hdip => ?_,
    fun mv minima => ⟨fun hdip => ?_, fun d hdip hlow => ?_, fun d hdip hback => ?_⟩⟩
  · exact if_pos (by simpa using h)
  · refine (if_neg (by simp [hin, hlow])).trans (congrArg _ ?_)
    refine warnDip_later ?_
    exact hdip
  · refine (if_neg (by simp [hin, hlow])).trans (congrArg _ ?_)
    refine (warnDip_first ?_).trans (startDip_rail rail _)
    exact hdip
  · refine congrArg Host.Outcome.next ((warnDip_first ?_).trans (startDip_ball _))
    exact hdip
  · refine congrArg Host.Outcome.next (warnDip_later ?_)
    exact hdip
  · change execDipRecovery mv minima s = _
    rw [execDipRecovery, hdip]
  · rw [exec_dipRecovery mv minima hdip]
    refine if_neg fun hall => ?_
    obtain ⟨r, hin, hr⟩ := hlow
    have := (railsRecovered_iff.mp hall r).resolve_left (ne_true_of_eq_false hin)
    rw [remeasured_present] at this
    exact absurd hr (Nat.not_lt.mpr this)
  · rw [exec_dipRecovery mv minima hdip, if_pos (railsRecovered_iff.mpr fun r => by rw [remeasured_present]; exact hback r)]
    exact congrArg _ (endDip_eq d _)

end Sys2Proof.Machine

/-! ## Supply crossings, targets, operating points and clocks (O41, O42) -/

namespace Sys2Proof.Machine

section
variable {s : State}

/-! ### Raises that restart (R436, R446) -/

theorem restartRaise_service {n detail : Nat} (h : ∀ k hib, s.boot.phase ≠ .due k hib) :
    restartRaise n detail s = raiseSource n supplyFn detail s := by
  unfold restartRaise
  split
  next hib hwarm => exact absurd hwarm (h .warm hib)
  next hib hcold => exact absurd hcold (h .cold hib)
  next => rfl

theorem restartRaise_cold {n detail : Nat} {hib : Bool} (h : s.boot.phase = .due .cold hib) : restartRaise n detail s = s := by
  rw [restartRaise, h]

/-- A warm start in progress fails at a step of a start (log entry 84). -/
theorem restartRaise_warm {n detail : Nat} {hib : Bool} (h : s.boot.phase = .due .warm hib) :
    ∃ step reason u, restartRaise n detail s = failStart .warm step reason false u ∧ 1 ≤ step ∧ step ≤ 9 ∧
      u = { s with freeCount := u.freeCount } := by
  rw [restartRaise, h]
  exact ⟨_, _, _, rfl, by omega, by omega, rfl⟩

/-- Below its reset level a rail that is not VDD_SPRING asks for a restart (R436). -/
theorem exec_railResetCrossing_low {rail : Fin 10} {mv : Nat} (hin : railRemoved s rail.val = false)
    (hlow : 100 * mv < 88 * levelTarget s rail) (h2 : rail ≠ 2) : exec (.railResetCrossing rail mv) s =
      .next (restartRaise 169 (rail.val + mv * 2 ^ 16) (s.onRail rail fun x => { x with present := mv })) :=
  (if_neg (by simp [hin, hlow])).trans (if_neg h2)

end

/-- Settles O41: each crossing within its level and beyond it, by rail and by phase of the start. -/
theorem levelCrossingsRaiseTheirFaults : Obligations.LevelCrossingsRaiseTheirFaults := by
  intro s
  refine ⟨fun rail mv => ⟨fun h => ?_, fun hin hhigh => ?_, fun h => ?_, fun hin hlow => ⟨fun h2 => ?_, fun h2 hserve => ?_,
    fun hib h2 hwarm => ?_, fun hib h2 hcold => ?_⟩⟩, fun mv => ⟨fun h => ?_, fun h => ?_⟩⟩
  · exact if_pos (by simpa using h)
  · exact if_neg (by simp [hin, hhigh])
  · exact if_pos (by simpa using h)
  · exact (if_neg (by simp [hin, hlow])).trans (if_pos h2)
  · rw [exec_railResetCrossing_low hin hlow h2]
    exact congrArg _ (restartRaise_service hserve)
  · rw [exec_railResetCrossing_low hin hlow h2]
    obtain ⟨step, reason, u, hfail, hstep⟩ := restartRaise_warm (s := s.onRail rail fun x => { x with present := mv })
      (n := 169) (detail := rail.val + mv * 2 ^ 16) hwarm
    exact ⟨step, reason, u, congrArg _ hfail, hstep⟩
  · rw [exec_railResetCrossing_low hin hlow h2]
    exact congrArg _ (restartRaise_cold hcold)
  · exact congrArg _ (if_neg (Nat.not_lt.mpr h))
  · exact congrArg _ (if_pos h)

section
variable {s : State}

theorem trafficBlind_supply : TrafficBlind State.supply :=
  ⟨fun _ _ => rfl, fun _ _ => rfl, fun _ _ => rfl, fun _ _ => rfl, fun _ _ => rfl, fun _ _ => rfl, fun _ _ => rfl, fun _ _ => rfl⟩

/-! ### Targets (R428, R433) -/

theorem writePmic_eq (r reg : Nat) (d : PmicData) (s : State) :
    ∃ w, writePmic r reg d s = s.onSupply fun x => { x with writes := w } := by
  unfold writePmic
  dsimp only
  split
  · exact ⟨s.supply.writes, rfl⟩
  · exact ⟨_, rfl⟩

theorem writeVsel_eq (r mv : Nat) (s : State) : ∃ w, writeVsel r mv s = s.onSupply fun x => { x with writes := w } := by
  unfold writeVsel
  dsimp only
  split
  · exact ⟨s.supply.writes, rfl⟩
  · exact writePmic_eq ..

/-- A new target is the rail's; what else changes of the supplies is the settling and the writes that wait. -/
theorem setTarget_supply (r : Fin 10) (mv : Nat) (s : State) : ∃ st w, (setTarget r mv s).supply =
    { s.supply with settling := st, writes := w, rails := s.supply.rails.set r { s.supply.rails[r] with target := mv } } := by
  unfold setTarget
  split
  next h =>
    refine ⟨s.supply.settling, s.supply.writes, ?_⟩
    have hsame : s.supply.rails.set r { s.supply.rails[r] with target := mv } = s.supply.rails := by
      rw [← h]
      exact Vector.set_getElem_self _
    rw [hsame]
  next =>
    obtain ⟨w, hw⟩ := writeVsel_eq r.val mv ((s.onSupply fun x =>
      { x with settling := mset x.settling r.val ⟨levelTarget s r, s.time.fabric, s.time.spring⟩ }).onRail r fun y =>
        { y with target := mv })
    rw [hw]
    exact ⟨_, _, rfl⟩

theorem setTarget_same {r : Fin 10} {mv : Nat} (h : (s.supply.rails[r]).target = mv) : setTarget r mv s = s := if_pos h

/-- A demand of the present voltage moves nothing (R429). -/
theorem avsNext_same (lo hi target : Nat) : avsNext lo hi target target = target := by
  have hdown : ¬target + 5 ≤ target := by omega
  simp [avsNext, hdown]

/-- A demand far below moves one step down (R429). -/
theorem avsNext_down {lo hi target demand : Nat} (hfar : demand + 5 ≤ target) (hlo : lo + 5 ≤ target) :
    avsNext lo hi target demand = target - 5 := by
  rw [avsNext, if_neg (by omega), if_pos (by simp [hfar, hlo])]

theorem exec_avsMeasurement (hw : s.works supplyFn = true) (hconf : s.supply.configured = true)
    (hen : avsEn s.coh.active = true) (hin : railRemoved s 0 = false) (demand : Nat) : exec (.avsMeasurement demand) s =
      let old := (s.supply.rails[0]).target
      let new := avsNext (avsMin s.coh.active) (avsMax s.coh.active) old demand
      .next (setTarget 0 new (s.countN supplyFn 4 (if old ≤ new then (new - old) / 5 else (old - new) / 5))) :=
  if_pos (by simp [hw, hconf, hen, hin])

/-! ### PMIC writes (R428) -/

/-- While the device is awake no entry waits for a write. -/
theorem exec_pmicWriteRetry_awake {rail : Fin 10} {e : Settle} (he : mget s.supply.settling rail.val = some e)
    (hawake : s.power.phase = .awake) (acked : Bool) : exec (.pmicWriteRetry rail acked) s =
      let n := mgetD s.supply.pmic rail.val 0 + 1
      let u := (countSupply 6 s).onSupply fun x => { x with pmic := mdel x.pmic rail.val }
      if acked then .next u
      else if n < 3 then .next ((countSupply 6 s).onSupply fun x => { x with pmic := mset x.pmic rail.val n })
      else .next (pmicFault rail.val 1 (abandonTarget rail u)) := by
  have hentry : (s.power.phase == .voting 14 && s.supply.configured && (rail == 1 || rail == 3)) = false := by
    rw [hawake]
    rfl
  change execPmicWriteRetry rail acked s = _
  rw [execPmicWriteRetry, hentry, if_neg (by simp [he])]
  rfl

theorem abandonTarget_settling {rail : Fin 10} {e : Settle} (he : mget s.supply.settling rail.val = some e) :
    ((abandonTarget rail s).supply.rails[rail]).target = e.old ∧
      (abandonTarget rail s).supply.settling = mdel s.supply.settling rail.val ∧
      (abandonTarget rail s).supply.pmic = s.supply.pmic := by
  have htarget : ((s.onRail rail fun x => { x with target := e.old }).supply.rails[rail]).target = e.old := by
    simp [State.onRail]
  rw [abandonTarget, he]
  dsimp only
  split
  · exact ⟨htarget, rfl, rfl⟩
  · exact ⟨htarget, rfl, rfl⟩

theorem settleOver_awake (h : s.power.phase = .awake) (e : Settle) :
    settleOver s e = decide (80000 ≤ (s.time.fabric - e.at_).toNat) := by
  have hawake : s.asleep = false := by
    rw [State.asleep, h]
  rw [settleOver, hawake, Bool.false_and, Bool.or_false]

/-- A settling rail, 200 µs after the change (R433). -/
theorem exec_targetSettleTimeout_over {rail : Fin 10} {e : Settle} (he : mget s.supply.settling rail.val = some e)
    (hawake : s.power.phase = .awake) (hover : 80000 ≤ (s.time.fabric - e.at_).toNat) {mv : Nat} :
    exec (.targetSettleTimeout rail mv) s =
      let u := (s.onRail rail fun x => { x with present := mv }).onSupply fun x => { x with settling := mdel x.settling rail.val }
      .next (if nearTarget u rail mv then u else pmicFault rail.val 2 u) := by
  change execTargetSettleTimeout rail mv s = _
  rw [execTargetSettleTimeout, he]
  exact if_neg (by rw [settleOver_awake hawake]; simpa using hover)

theorem nearTarget_remeasured {rail : Fin 10} {mv : Nat} :
    nearTarget ((s.onRail rail fun x => { x with present := mv }).onSupply fun x =>
        { x with settling := mdel x.settling rail.val }) rail mv = true ↔
      98 * (s.supply.rails[rail]).target ≤ 100 * mv ∧ 100 * mv ≤ 102 * (s.supply.rails[rail]).target := by
  simp [nearTarget, State.onRail]

/-! ### Operating points (R430, R505) -/

/-- A change begins at the present point and frequency; the voltage rises first. -/
theorem startOpp_begins (i : Nat) (s : State) : (∃ at_, (startOpp i s).supply.oppNext = some ⟨i, at_⟩) ∧
    (startOpp i s).supply.opp = s.supply.opp ∧
    (s.supply.mhz < oppMhz s.coh.active i → ((startOpp i s).supply.rails[1]).target = oppMv s.coh.active i) ∧
    (oppMhz s.coh.active i ≤ s.supply.mhz → (startOpp i s).supply.rails = s.supply.rails) ∧ SuppliesOnly s (startOpp i s) := by
  by_cases hup : s.supply.mhz < oppMhz s.coh.active i
  · obtain ⟨st, w, hsupply⟩ := setTarget_supply 1 (oppMv s.coh.active i) s
    have htarget : ((setTarget 1 (oppMv s.coh.active i) s).supply.rails[(1 : Fin 10)]).target = oppMv s.coh.active i := by
      rw [hsupply]
      simp
    rw [startOpp]
    rw [if_pos (by simpa using hup)]
    have hopp := congrArg Supply.opp hsupply
    exact ⟨⟨_, rfl⟩, hopp, fun _ => htarget, fun h => absurd hup (Nat.not_lt.mpr h),
      (setTarget_supplies (.refl s) ..).onSupply _⟩
  · rw [startOpp]
    rw [if_neg (by simpa using hup)]
    exact ⟨⟨_, rfl⟩, rfl, fun h => absurd h hup, fun _ => rfl, (SuppliesOnly.refl s).onSupply _⟩

/-- The point that the load since the last evaluation asks for (R505). -/
def oppAsked (s : State) : Nat :=
  oppLimited s (oppSelected s.coh.active s.supply.opp s.cluster.evalBusy
    (s.cluster.evalClock * ((List.range 8).filter fun c => s.enabled (coreFn c)).length))

/-- The decision of `OPP_EVALUATION` over the cleared counts. -/
theorem exec_oppEvaluation (hw : s.works schedFn = true) (hawake : s.asleep = false) : exec .oppEvaluation s =
      let u := s.onCluster fun x => { x with evalBusy := 0, evalClock := 0 }
      if (oppAsked s = s.supply.opp && oppHolds (oppAsked s) s) || s.supply.oppNext.isSome || anyWarn s then .next u
      else .next (startOpp (oppAsked s) u) :=
  if_neg (by simp [hw, hawake])

theorem exec_oppEvaluation_holds (hw : s.works schedFn = true) (hawake : s.asleep = false) (hi : oppAsked s = s.supply.opp)
    (hholds : oppHolds (oppAsked s) s = true) :
    exec .oppEvaluation s = .next (s.onCluster fun x => { x with evalBusy := 0, evalClock := 0 }) :=
  (exec_oppEvaluation hw hawake).trans (if_pos (by simp only [hholds, decide_eq_true hi, Bool.and_self, Bool.true_or]))

theorem exec_oppEvaluation_moves (hw : s.works schedFn = true) (hawake : s.asleep = false)
    (hi : oppAsked s ≠ s.supply.opp ∨ oppHolds (oppAsked s) s = false) (hnone : s.supply.oppNext = none) (hwarn : anyWarn s = false) :
    exec .oppEvaluation s = .next (startOpp (oppAsked s) (s.onCluster fun x => { x with evalBusy := 0, evalClock := 0 })) := by
  refine (exec_oppEvaluation hw hawake).trans (if_neg ?_)
  have hmoves : (decide (oppAsked s = s.supply.opp) && oppHolds (oppAsked s) s) = false := by
    rcases hi with hi | hi
    · rw [decide_eq_false hi, Bool.false_and]
    · rw [hi, Bool.and_false]
  simp [hmoves, hnone, hwarn]

/-- The point sought is in force once the PLL has locked again. -/
theorem exec_pllRelockDone_due {c : OppChange} (hc : s.supply.oppNext = some c) (hrelock : s.relocking = true) :
    ∃ t, exec .pllRelockDone s = .next t ∧ t.supply.opp = c.idx ∧ t.supply.mhz = oppMhz s.coh.active c.idx ∧
      t.supply.oppNext = none ∧ (t.supply.rails[1]).target = oppMv s.coh.active c.idx := by
  generalize hu : countSupply 5 (s.onSupply fun x =>
    { x with opp := c.idx, mhz := oppMhz s.coh.active c.idx, oppNext := none }) = u
  have hexec : exec .pllRelockDone s = .next (feedEvp (placeAll (trace 10 0xFF 0xFFFF 0 0xFF c.idx
      (setTarget 1 (oppMv s.coh.active c.idx) u)))) := by
    change execPllRelockDone s = _
    rw [execPllRelockDone, hc]
    dsimp only
    rw [if_neg (by simp [hrelock]), ← hu]
    rfl
  have hkept : (feedEvp (placeAll (trace 10 0xFF 0xFFFF 0 0xFF c.idx (setTarget 1 (oppMv s.coh.active c.idx) u)))).supply =
      (setTarget 1 (oppMv s.coh.active c.idx) u).supply := by
    rw [trafficBlind_supply.feedEvp, trafficBlind_supply.placeAll, trafficBlind_supply.trace]
  obtain ⟨st, w, hsupply⟩ := setTarget_supply 1 (oppMv s.coh.active c.idx) u
  refine ⟨_, hexec, ?_⟩
  rw [hkept, hsupply]
  have hkeep : u.supply.opp = c.idx ∧ u.supply.mhz = oppMhz s.coh.active c.idx ∧ u.supply.oppNext = none := by
    rw [← hu]
    exact ⟨rfl, rfl, rfl⟩
  refine ⟨hkeep.1, hkeep.2.1, hkeep.2.2, ?_⟩
  simp

/-! ### Clock monitors and the watchdog (R442, R446) -/

/-- A PLL at fault (R442). -/
theorem exec_clockMonitorFault_pll {clock : Nat} (hruns : clockStopped s clock = false) (h2 : 2 ≤ clock) (h9 : clock ≤ 9)
    (h6 : clock ≠ 6) (frequency : Bool) : exec (.clockMonitorFault clock frequency) s =
      .next (raiseSource 173 supplyFn (clock + flag frequency * 2 ^ 8) (raiseEvent 194 supplyFn (clock + flag frequency * 2 ^ 8)
        ((s.onSupply fun x => { x with pllFaults := clock :: x.pllFaults.erase clock }).count supplyFn 7))) := by
  change execClockMonitorFault clock frequency s = _
  have h01 : (decide (clock = 0) || (decide (clock = 1) && s.boot.refSel)) = false := by
    simp [show clock ≠ 0 by omega, show clock ≠ 1 by omega]
  have hpll : ((decide (2 ≤ clock) && decide (clock ≤ 9)) || (decide (clock = 11) && frequency)) = true := by simp [h2, h9]
  unfold execClockMonitorFault
  rw [if_neg (ne_true_of_eq_false hruns)]
  dsimp only
  rw [if_neg (ne_true_of_eq_false h01), if_neg h6, if_neg (show clock ≠ 10 by omega), if_pos hpll]
  rfl

/-- The Spring crystal at fault (R442). -/
theorem exec_clockMonitorFault_spring (hruns : clockStopped s 10 = false) : exec (.clockMonitorFault 10 false) s =
    .next (raiseSource 175 supplyFn 10 (raiseEvent 194 supplyFn 10
      ((s.onSupply fun x => { x with springRuns := false }).count supplyFn 7))) :=
  if_neg (ne_true_of_eq_false hruns)

theorem exec_cpWatchdog_bites (hawake : s.asleep = false) (h : watchdogCycles ≤ s.supply.watchdog) : exec .cpWatchdog s =
    .next (restartRaise 176 0 (countSupply 10 (s.onSupply fun x => { x with watchdog := 0 }))) :=
  if_neg (by simp [hawake, h])

end

/-- Settles O42: AVS, PMIC writes, settling, operating points, clock monitors and the watchdog, clause by clause. -/
theorem targetsPointsAndClocks : Obligations.TargetsPointsAndClocks := by
  intro s
  refine ⟨fun hw hconf hen hin => ⟨?_, fun demand hfar hlo => ?_⟩, fun rail old at_ spring he hawake => ⟨?_, fun hfirst => ?_,
    fun hlast => ?_, fun mv => ⟨fun hearly => ?_, fun hover hlo hhi => ?_, fun hover hout => ?_⟩⟩,
    fun hw hawake => ⟨fun hi hholds => ?_, fun hi hnone hwarn => ?_⟩, fun c hc hrelock => ?_,
    fun c hc hrelock => exec_pllRelockDone_due hc hrelock, fun clock frequency hstop => if_pos hstop,
    fun clock frequency hruns h2 h9 h6 => exec_clockMonitorFault_pll hruns h2 h9 h6 frequency, exec_clockMonitorFault_spring,
    fun h => if_pos (by simpa using h), fun hawake h => ⟨fun hserve => ?_, fun hib hcold => ?_, fun hib hwarm => ?_⟩, rfl⟩
  · rw [exec_avsMeasurement hw hconf hen hin]
    dsimp only
    rw [avsNext_same, if_pos (Nat.le_refl _), Nat.sub_self]
    exact congrArg _ (setTarget_same rfl)
  · rw [exec_avsMeasurement hw hconf hen hin]
    dsimp only
    rw [avsNext_down hfar hlo, if_neg (by omega), show ∀ n : Nat, 5 ≤ n → (n - (n - 5)) / 5 = 1 by omega]
    omega
  · rw [exec_pmicWriteRetry_awake he hawake]
    rfl
  · rw [exec_pmicWriteRetry_awake he hawake]
    exact if_pos (Nat.succ_lt_succ hfirst)
  · rw [exec_pmicWriteRetry_awake he hawake]
    refine ⟨_, (if_neg Bool.false_ne_true).trans (if_neg (by omega)), ?_⟩
    exact abandonTarget_settling (s := (countSupply 6 s).onSupply fun x => { x with pmic := mdel x.pmic rail.val }) he
  · change execTargetSettleTimeout rail mv s = _
    rw [execTargetSettleTimeout, he]
    exact if_pos (by rw [settleOver_awake hawake]; simpa using Nat.not_le.mpr hearly)
  · rw [exec_targetSettleTimeout_over he hawake hover]
    exact congrArg _ (if_pos (nearTarget_remeasured.mpr ⟨hlo, hhi⟩))
  · rw [exec_targetSettleTimeout_over he hawake hover]
    refine congrArg _ (if_neg fun hnear => ?_)
    have := nearTarget_remeasured.mp hnear
    omega
  · exact exec_oppEvaluation_holds hw hawake hi hholds
  · exact ⟨_, exec_oppEvaluation_moves hw hawake hi hnone hwarn, startOpp_begins _ _⟩
  · change execPllRelockDone s = _
    rw [execPllRelockDone, hc]
    exact if_pos (by simp [hrelock])
  · rw [exec_cpWatchdog_bites hawake h]
    exact congrArg _ (restartRaise_service hserve)
  · rw [exec_cpWatchdog_bites hawake h]
    exact congrArg _ (restartRaise_cold hcold)
  · rw [exec_cpWatchdog_bites hawake h]
    obtain ⟨step, reason, u, hfail, hstep⟩ :=
      restartRaise_warm (s := countSupply 10 (s.onSupply fun x => { x with watchdog := 0 })) (n := 176) (detail := 0) hwarm
    exact ⟨step, reason, u, congrArg _ hfail, hstep⟩

end Sys2Proof.Machine

/-! ## Images and the pad hold (O45) -/

namespace Sys2Proof.Machine

section
variable {x : ImageSlot} {a i : Nat} {bs : Bytes}

/-- Within a list the default of `getD` plays no part (Mathlib's `List.getD_eq_getElem`, which the module does not import). -/
theorem getD_of_lt {l : Bytes} {i : Nat} (d : Byte) (h : i < l.length) : l.getD i d = l[i] := by
  rw [List.getD_eq_getElem?_getD, List.getElem?_eq_getElem h, Option.getD_some]

/-- The NOR clears bits (R467). -/
theorem ImageSlot.program_read_inside (h : Memory.wf x.content = true) (hi : i < bs.length) :
    (x.program a bs).read (a + i) 1 = List.zipWith (· &&& ·) (x.read (a + i) 1) [bs.getD i 0] := by
  have hlen : i < (List.zipWith (fun o b => o ||| ~~~b) (memReads x.content a bs.length) bs).length := by simpa using hi
  have hold : (memReads x.content a bs.length)[i]'(by simpa using hi) = memRead x.content (a + i) := by
    rw [← memReads_getD _ _ _ _ hi, getD_of_lt]
  have hbyte : memRead (x.program a bs).content (a + i) = memRead x.content (a + i) ||| ~~~(bs.getD i 0) := by
    refine (memRead_memWrites_inside _ _ a i h hlen).trans ?_
    rw [getD_of_lt _ hlen, List.getElem_zipWith, hold, getD_of_lt _ hi]
  simp only [ImageSlot.read, memReads, List.map_cons, List.map_nil, List.zipWith_cons_cons, List.zipWith_nil_left, hbyte,
    BitVec.not_or, BitVec.not_not]

theorem ImageSlot.program_read_outside (h : Memory.wf x.content = true) (hi : i < a ∨ a + bs.length ≤ i) :
    (x.program a bs).read i 1 = x.read i 1 := by
  have hbyte : memRead (x.program a bs).content i = memRead x.content i :=
    memRead_memWrites_outside _ _ a i h (by simpa using hi)
  simp only [ImageSlot.read, memReads, List.map_cons, List.map_nil, hbyte]

/-- A plain write programs the slot that does not run, and ends with RC_OK. -/
theorem writeImage_plain {body : Bytes} {s : State} (h : u8 body 0 = 0) : writeImage body s =
    (rcOk, s.onBoot (Boot.setSlot (!s.boot.imageSlot)
      ((s.boot.slot (!s.boot.imageSlot)).program (u32 body 4) (body.drop 8)))) := by
  rw [writeImage, h]
  rfl

theorem imageFields_pass {b : Bytes} (h0 : u8 b 0 ≤ 3) (h1 : field b 1 3 = 0) (h4 : u32 b 4 % 8 = 0)
    (hmost : u32 b 4 ≤ 0x400000) :
    checkFields b [⟨0, 1, .flags 2⟩, ⟨1, 3, .zero⟩, ⟨4, 4, .multiple 8⟩, ⟨4, 4, .range 0 0x400000⟩] = none := by
  simp [checkFields_none, checkField, field_u8, field_u32, Nat.lt_succ_of_le h0, h1, h4, hmost]

end

/-- Settles O45: the commands by the state of the running image, and the end of a plain write byte by byte. -/
theorem imagesAndPadHold : Obligations.ImagesAndPadHold := by
  refine ⟨fun s m req buf => ⟨fun ht => ⟨fun hhold => ?_, fun hhold => ?_⟩, fun ht h0 h1 h4 hlen => ⟨fun htrial => ?_,
    fun htrial => ?_⟩, fun ht => ⟨fun htrial => ?_, fun htrial => ?_⟩, fun ht hfits => ?_⟩, fun s hnone => ?_,
    fun s l rest hlongs hop hplain hwf => ?_⟩
  · exact taken_ok ht (if_neg (by simp [hhold]))
  · exact taken_ok ht (if_pos (by simp [hhold]))
  · refine taken_refuse ht ?_
    rw [imageFields_pass h0 h1 h4 (by omega)]
    exact (if_neg (Nat.not_lt.mpr hlen)).trans (if_pos (by simp [htrial]))
  · refine taken_done ht ?_
    rw [imageFields_pass h0 h1 h4 (by omega)]
    exact (if_neg (Nat.not_lt.mpr hlen)).trans (if_neg (by simp [htrial]))
  · exact taken_ok ht (if_neg (by simp [htrial]))
  · exact taken_ok ht (if_pos (by simp [htrial]))
  · exact taken_answers ht (by simp only [takeReq_boot]) hfits
  · change execImageWriteDone s = _
    have : (s.kci.longs.find? fun l => l.req.opcode == 0x1004) = none := by simpa using hnone
    rw [execImageWriteDone, this]
  · refine ⟨(s.boot.slot (!s.boot.imageSlot)).program (u32 l.buf 4) (l.buf.drop 8), _, ?_, rfl,
      fun i hi => ImageSlot.program_read_inside hwf hi, fun a ha => ImageSlot.program_read_outside hwf ha⟩
    have hfirst : (s.kci.longs.find? fun l => l.req.opcode == 0x1004) = some l := by simp [hlongs, hop]
    change execImageWriteDone s = _
    rw [execImageWriteDone, hfirst]
    dsimp only
    rw [writeImage_plain hplain]

end Sys2Proof.Machine

/-! ## Memory and cluster commands (O48) -/

namespace Sys2Proof.Machine

section
variable (m : Fin 4) (req : Req) (s : State)

/-! ### What the taking of a request leaves -/

theorem takeReq_load (a n : Nat) : (takeReq m req s).load a n = s.load a n := by
  rw [takeReq_frame]
  rfl

theorem takeReq_threadBytes (t : Nat) : threadBytes (takeReq m req s) t = threadBytes s t := by
  rw [takeReq_frame]
  rfl

theorem takeReq_traceAt (i : Nat) : traceAt (takeReq m req s) i = traceAt s i := by
  rw [traceAt, takeReq_cluster, traceAt]

theorem takeReq_fixedCounter (b : Fin 13) : fixedCounter (takeReq m req s) b = fixedCounter s b := by
  rw [takeReq_frame]
  rfl

theorem takeReq_eventsQueued : eventsQueued (takeReq m req s) = eventsQueued s := by
  rw [eventsQueued, takeReq_cluster, eventsQueued]

end

/-- The ring of a recorder that is on passes its checks. -/
theorem recorderFields_pass {b : Bytes} (h0 : u8 b 0 ≤ 2) (h1 : 1 ≤ u8 b 1) (h1' : u8 b 1 ≤ 2) (h2 : u8 b 2 ≤ 1)
    (h4 : field b 4 8 % 65536 = 0) (h12 : field b 12 4 % 64 = 0) (hlo : 1024 ≤ field b 12 4) (hhi : field b 12 4 ≤ 0xFFFFFFFF) :
    checkFields b ([⟨0, 1, .range 0 2⟩, ⟨1, 1, .range 0 2⟩, ⟨2, 1, .range 0 1⟩] ++
      (if u8 b 1 = 0 then [] else [⟨4, 8, .multiple 65536⟩, ⟨12, 4, .multiple 64⟩, ⟨12, 4, .range 1024 0xFFFFFFFF⟩])) = none := by
  rw [if_neg (by omega)]
  simp [checkFields_none, checkField, field_u8, h0, h1', h2, h4, h12, hlo, hhi]

theorem threadEntries_pass {es : List Bytes} (h : ∀ e ∈ es, u8 e 24 ≤ 63 ∧ u8 e 26 < 16 ∧ field e 27 5 = 0) :
    es.findSome? threadEntryCheck = none := by
  refine List.findSome?_eq_none_iff.mpr fun e he => ?_
  obtain ⟨h24, h26, h27⟩ := h e he
  simp [threadEntryCheck, checkFields_none, checkField, field_u8, h24, h26, h27]

/-- Settles O48: each command passes its checks and does what it names. -/
theorem memoryAndClusterCommands : Obligations.MemoryAndClusterCommands := by
  refine ⟨fun s m req buf => ?_, fun s m req buf => ?_⟩
  · dsimp only
    refine ⟨fun ht h0 h1 h2 h2' h4 h4' h6 h6' h8 h8' h9 h10 h11 => taken_stage ht ?_, fun ht => ⟨_, taken_done ht rfl, by rw [takeReq_time]⟩,
      fun ht hspare => ⟨_, taken_done ht ?_, rfl⟩, fun ht h0 h1 h1' h3 h2 h4 h12 hlo hhi => taken_ok ht ?_,
      fun ht h1 h0 hring hlen hfits => taken_answers ht ?_ hfits, fun ht hfits => taken_answers ht ?_ hfits⟩
    · simp [checkFields_none, checkField, field_u8, field_u16, h0, Nat.lt_succ_of_le h1, h2, h2', h4, h4', h6, h6', h8, h8', h9, h10,
        h11]
    · exact if_pos (by rw [takeReq_mem]; exact hspare)
    · dsimp only
      rw [if_neg (by simp only [Bool.and_eq_true, bne_iff_ne, not_and, Classical.not_not]; exact fun h => h3 (by omega))]
      exact stageOne_passes _ _ _ _ _ _ _ _ (recorderFields_pass h0 h1 h1' h2 h4 h12 hlo hhi)
    · simp only [takeReq_load, takeReq_coh, takeReq_mem]
      rw [if_neg (by simp [h1]), if_neg (by simp [h0, hring, hlen])]
    · rw [takeReq_mem]
  · dsimp only
    refine ⟨fun ht hpass h1 h5 h5' h6 h7 h8 h10 => taken_ok ht ?_, fun ht h4 h2 hlast hindirect hes => taken_ok ht ?_,
      fun ht hen h2 => ⟨fun h0 h1 h4 => taken_ok ht ?_, fun h0 h1 => ⟨fun hfull => taken_refuse ht ?_, fun hroom => taken_ok ht ?_⟩⟩,
      fun ht => ⟨fun hin => taken_ok ht ?_, fun hout => taken_refuse ht ?_⟩, fun ht h2 h2' hlast hfits => taken_answers ht ?_ hfits,
      fun ht h10 h8 h8' hfits => taken_answers ht ?_ hfits, fun bank hbank => ⟨fun ht h1 h2 hes hshared => taken_ok ht ?_,
        fun ht h1 => ?_⟩⟩
    · rw [hpass]
      refine stageOne_passes _ _ _ _ _ _ _ _ ?_
      simp [schedConfigFields, checkFields_none, checkField, field_u8, field_u16, h1, h5, h5', h6, h7, h8, h10]
    · dsimp only
      have hrun : (decide (u16 (fullBody req buf) 2 = 0) || decide (1024 < u16 (fullBody req buf) 0 + u16 (fullBody req buf) 2) ||
          (!req.indirect && decide (126 < u16 (fullBody req buf) 2))) = false := by
        rcases hindirect with h | h
        · simp [h, hlast]
          omega
        · simp [hlast, h]
          omega
      rw [if_neg (by simp [h4]), if_neg (ne_true_of_eq_false hrun), threadEntries_pass hes]
    · dsimp only
      rw [takeReq_enabled, if_neg (by simp [hen]), if_neg (by simp [h2]), if_pos h0, if_neg (by simp [h1, h4])]
    · dsimp only
      rw [takeReq_enabled, if_neg (by simp [hen]), if_neg (by simp [h2]), if_neg (by omega), if_pos h0, if_neg (by omega),
        putEvent2, if_pos (by rw [takeReq_eventsQueued]; exact hfull)]
      rfl
    · dsimp only
      rw [takeReq_enabled, if_neg (by simp [hen]), if_neg (by simp [h2]), if_neg (by omega), if_pos h0, if_neg (by omega),
        putEvent2, if_neg (by rw [takeReq_eventsQueued]; omega)]
    · exact if_pos (by rw [takeReq_mem]; exact hin)
    · exact if_neg (by rw [takeReq_mem, hout]; decide)
    · simp only [takeReq_threadBytes]
      exact if_neg (by simp; omega)
    · simp only [takeReq_traceAt, takeReq_cluster]
      rw [if_neg (by simp [h10]), if_neg (by simp; omega)]
    · have hentries := List.findSome?_eq_none_iff.mpr hes
      obtain ⟨n, hlt⟩ := bank
      subst hbank
      dsimp only
      rw [dif_pos hlt, if_neg (by simp [h2]; omega), hentries]
      dsimp only
      rw [if_neg (by simpa using fun h => hshared.resolve_left (Nat.not_lt.mpr h)), takeReq_cluster]
    · obtain ⟨n, hlt⟩ := bank
      subst hbank
      refine taken_fixed ht ?_ ?_
      · dsimp only
        rw [dif_pos hlt, if_neg (by simp [h1]), takeReq_fixedCounter, takeReq_cluster]
      · simp [List.map_const']

end Sys2Proof.Machine

/-! ## Scheduler operations (O49, O50) -/

namespace Sys2Proof.Machine

section
variable {s u : State} {c : Fin 8} {t : Nat} {h : Holder}

/-! ### Contexts (R513) -/

theorem runs_none (hctx : schedCtx s c = none) (f : Holder → SchRegs → State → State) :
    (.next (schedBoth c s f) : Out) = .next s := by
  rw [schedBoth, hctx]

theorem supervisor_none (hctx : schedCtx s c = none) (f : Holder → SchRegs → State → State) :
    (.next (privileged c none s fun s => schedBoth c s f) : Out) = .next s :=
  runs_none hctx f

/-- An operation of both modes has its effect on the context that writes it. -/
theorem runs_both {f : Holder → SchRegs → State → State} (hctx : schedCtx s c = some h) (hf : f h (ctxRegs s h) s = u) :
    (.next (schedBoth c s f) : Out) = .next u := by
  rw [schedBoth, hctx]
  exact congrArg _ hf

theorem runs_both_thread {f : Holder → SchRegs → State → State} (hctx : schedCtx s c = some (.thread t))
    (hf : f (.thread t) (s.thread t).regs s = u) : (.next (schedBoth c s f) : Out) = .next u :=
  runs_both hctx hf

theorem supervisor_thread {f : Holder → SchRegs → State → State} (hctx : schedCtx s c = some (.thread t))
    (hf : f (.thread t) (s.thread t).regs s = u) : (.next (privileged c none s fun s => schedBoth c s f) : Out) = .next u :=
  runs_both hctx hf

/-- An operation of THREAD mode has its effect on the thread that runs. -/
theorem runs_thread {f : Nat → SchRegs → State → State} (hctx : schedCtx s c = some (.thread t))
    (hf : f t (s.thread t).regs s = u) : (.next (schedThread c s f) : Out) = .next u :=
  runs_both hctx hf

/-- An EVP context may not write an operation of THREAD mode. -/
theorem runs_thread_core {k : Nat} (hctx : schedCtx s c = some (.core k)) (f : Nat → SchRegs → State → State) :
    (.next (schedThread c s f) : Out) = .next (setResult (.core k) rcCoreMode s) :=
  runs_both hctx rfl

/-- An operation of EVP mode has its effect on the EVP context. -/
theorem runs_evp {f : SchRegs → State → State} (hctx : schedCtx s c = some (.core c.val))
    (hf : f (s.core c).regs s = u) : (.next (schedEvp c s f) : Out) = .next u := by
  refine runs_both hctx ?_
  dsimp only [ctxRegs]
  rw [Fin.ofNat_val_eq_self]
  exact hf

/-- A thread may not write an operation of EVP mode. -/
theorem runs_evp_thread (hctx : schedCtx s c = some (.thread t)) (f : SchRegs → State → State) :
    (.next (schedEvp c s f) : Out) = .next (setResult (.thread t) rcCoreMode s) :=
  runs_both hctx rfl

/-- In user privilege a supervisor operation is a privilege exception. -/
theorem privileged_user (hctx : schedCtx s c = some h) (pc : BitVec 64) (f : State → State) :
    privileged c (some pc) s f = syncException c false pc s :=
  if_pos (by rw [hctx]; rfl)

/-! ### Giving up the core (R510, R514) -/

theorem sliceOut_alone {cause : Nat} (hno : ∀ u ∈ s.cluster.ready, (s.thread u).priority = (s.thread t).priority →
    threadAffinity s.coh.active u c = false) : sliceOut c t cause s = s := by
  refine if_neg fun h => ?_
  obtain ⟨u, hu, heq⟩ := List.any_eq_true.mp h
  obtain ⟨hprio, haff⟩ := Bool.and_eq_true_iff.mp heq
  exact Bool.false_ne_true ((hno u hu (by simpa using hprio)).symm.trans haff)

theorem sliceOut_equal {cause v : Nat} (hv : v ∈ s.cluster.ready) (hprio : (s.thread v).priority = (s.thread t).priority)
    (haff : threadAffinity s.coh.active v c = true) : sliceOut c t cause s =
      freeCore c (((traceThread 5 c.val t cause 0 (if cause = 66 then s.count schedFn 3 else s)).onThread t fun x =>
        { x with status := .ready }).onCluster fun x => { x with ready := x.ready ++ [t] }) :=
  if_pos (List.any_eq_true.mpr ⟨v, hv, by simp [hprio, haff]⟩)

end

/-- Settles O49: each operation by its context, and by what it asks for. -/
theorem threadOperations : Obligations.ThreadOperations := by
  intro s c
  refine ⟨fun hctx op hop => ?_, fun k hctx op hop => ?_, fun t hctx => ?_⟩
  · revert op
    simp only [List.forall_mem_cons, List.not_mem_nil, false_implies, implies_true, and_true]
    exact ⟨runs_none hctx _, runs_none hctx _, runs_none hctx _, runs_none hctx _, runs_none hctx _, supervisor_none hctx _,
      runs_none hctx _, runs_none hctx _, runs_none hctx _, runs_none hctx _, runs_none hctx _, runs_none hctx _,
      supervisor_none hctx _, runs_none hctx _, runs_none hctx _⟩
  · simp only [List.mem_cons, List.not_mem_nil, or_false] at hop
    rcases hop with rfl | rfl | rfl | rfl | rfl <;> exact runs_thread_core hctx _
  · dsimp only
    refine ⟨runs_both_thread hctx rfl, fun op hop => ?_, fun hwoken => runs_thread hctx (if_pos (by simpa using hwoken)),
      fun hwake hposts => runs_thread hctx ?_, fun hno => runs_both_thread hctx (if_pos (by simpa using hno)), fun hv hcan => ⟨fun hwaits => ?_,
      fun n hwaits => ?_⟩, fun hno => runs_thread hctx (sliceOut_alone hno),
      fun v hv hprio haff => runs_thread hctx (sliceOut_equal hv hprio haff), runs_thread hctx rfl, fun hv hst => ?_, fun hno => ?_,
      fun pc => ⟨congrArg _ (privileged_user hctx pc _), congrArg _ (privileged_user hctx pc _)⟩,
      fun hv => runs_both_thread hctx (if_pos hv), fun hv => runs_both_thread hctx (if_neg (Nat.not_lt.mpr hv)),
      fun hv => runs_thread hctx (if_pos hv), fun hv => ⟨fun hnone => runs_thread hctx ?_, fun n hn => runs_thread hctx ?_⟩,
      runs_both_thread hctx rfl⟩
    · simp only [List.mem_cons, List.not_mem_nil, or_false] at hop
      rcases hop with rfl | rfl <;> exact runs_evp_thread hctx _
    · dsimp only
      rw [if_neg (by simp [hwake, hposts]), trafficBlind_time.traceThread]
    · refine runs_both_thread hctx ((if_neg (by simpa [hcan] using hv)).trans ?_)
      dsimp only
      split
      next n hn => exact absurd hn (hwaits n)
      next => rfl
    · refine runs_both_thread hctx ((if_neg (by simpa [hcan] using hv)).trans ?_)
      dsimp only
      rw [hwaits]
    · exact supervisor_thread hctx (if_pos (by simpa [hv] using hst))
    · refine supervisor_thread hctx (if_neg ?_)
      simp only [Bool.and_eq_true, decide_eq_true_eq, Bool.or_eq_true, beq_iff_eq, not_and, not_or]
      exact fun hv => hno.resolve_left (Nat.not_le.mpr hv)
    · refine (if_neg (Nat.not_le.mpr hv)).trans ?_
      dsimp only
      rw [hnone]
    · refine (if_neg (Nat.not_le.mpr hv)).trans ?_
      dsimp only
      rw [hn]

section
variable {s : State} {c : Fin 8} {h : Holder}

/-! ### Flows and event queues (R515, R518, R519) -/

theorem issueTicket_room (f : Nat) (hroom : (unresolved s).length < 65536) : issueTicket f h s =
    some ((s.flow f).nextTicket, (s.onCluster fun x => { x with
      flows := mset x.flows f { s.flow f with nextTicket := (s.flow f).nextTicket + 1 }
      tickets := x.tickets ++ [⟨f, (s.flow f).nextTicket, h, false⟩] }).count schedFn 7) :=
  if_neg (Nat.not_le.mpr hroom)

theorem issueTicket_full (f : Nat) (hfull : 65536 ≤ (unresolved s).length) : issueTicket f h s = none := if_pos hfull

theorem setResult_eventsQueued (h : Holder) (rc : Nat) (s : State) : eventsQueued (setResult h rc s) = eventsQueued s := by
  cases h <;> rfl

theorem setResult_flow (h : Holder) (rc : Nat) (s : State) (f : Nat) : (setResult h rc s).flow f = s.flow f := by
  cases h <;> rfl

theorem putEvent2_full {q : Nat} {e : BitVec 64} (hfull : 16384 ≤ eventsQueued s) : putEvent2 q e s = none := if_pos hfull

theorem putEvent2_room {q : Nat} {e : BitVec 64} (hroom : eventsQueued s < 16384) : putEvent2 q e s =
    some (feedEvp (s.onCluster fun x => { x with queues := mset x.queues q (mgetD x.queues q [] ++ [e]) })) :=
  if_neg (Nat.not_le.mpr hroom)

theorem takeEvent_none (hq : nextQueue s c = none) : takeEvent c s = none := by
  rw [takeEvent, hq]

theorem trace_cores (kind core thread prio cause arg : Nat) (s : State) :
    (trace kind core thread prio cause arg s).cluster.cores = s.cluster.cores := by
  unfold trace
  split
  · rfl
  · dsimp only
    split
    · rw [raiseEvent_cluster]
      rfl
    · rfl

theorem trace_queues (kind core thread prio cause arg : Nat) (s : State) :
    (trace kind core thread prio cause arg s).cluster.queues = s.cluster.queues := by
  unfold trace
  split
  · rfl
  · dsimp only
    split
    · rw [raiseEvent_cluster]
      rfl
    · rfl

/-- A core takes the head of a queue without discipline: the other cores keep what they have. -/
theorem takeEvent_plain {q : Nat} {e : BitVec 64} {es : List (BitVec 64)} (hq : nextQueue s c = some q)
    (hhead : queueOf s q = e :: es) (hdisc : queueDiscipline s.coh.active q = 0) (hrise : keysRise s.cluster.queues = true) :
    ∃ t, takeEvent c s = some t ∧ (t.core c).held = some ⟨q, e, none, none⟩ ∧ (t.core c).regs.result = 0 ∧
      queueOf t q = es ∧ ∀ d : Fin 8, d ≠ c → t.core d = s.core d := by
  generalize hu : ((s.onCluster fun x => { x with queues := msetD [] x.queues q es }).onCore c fun x =>
    { x with held := some ⟨q, e, none, none⟩, waits := .nothing, gated := false
             lastTook := mset x.lastTook (queuePriority s.coh.active q) q, regs := { x.regs with result := 0 } }) = u
  refine ⟨trace 11 c.val 0xFFFF (queuePriority s.coh.active q) 0xFF q (u.count schedFn 10), ?_, ?_⟩
  · rw [takeEvent, hq]
    dsimp only
    rw [hhead]
    dsimp only
    rw [hdisc, ← hu]
    rfl
  · rw [State.core, trace_cores, queueOf, trace_queues]
    have hcore (d : Fin 8) : (u.count schedFn 10).cluster.cores[d] = if d = c then
        { s.core c with held := some ⟨q, e, none, none⟩, waits := .nothing, gated := false
                        lastTook := mset (s.core c).lastTook (queuePriority s.coh.active q) q
                        regs := { (s.core c).regs with result := 0 } } else s.core d := by
      rw [← hu]
      split
      next h =>
        subst h
        simp [State.onCore, State.core]
      next h => exact Vector.getElem_set_ne c.isLt d.isLt fun e => h (Fin.ext e.symm)
    refine ⟨?_, ?_, ?_, fun d hd => ?_⟩
    · rw [hcore, if_pos rfl]
    · rw [hcore, if_pos rfl]
    · rw [← hu]
      exact mget_msetD_same _ _ _ _ hrise
    · rw [State.core, trace_cores, hcore, if_neg hd]

end

/-- Settles O50: each operation by its context, and by the tickets, events and room that it finds. -/
theorem flowsAndEvents : Obligations.FlowsAndEvents := by
  intro s c
  refine ⟨fun h hctx => ?_, fun t hctx => ⟨fun hno => ?_, fun k hk => ⟨fun hgate => ?_, fun hgate => ?_⟩⟩, fun hctx =>
    ⟨fun e he => ⟨?_, fun hend => ?_⟩, fun hnone => ⟨?_, fun hno => ?_, fun q e es hq hhead hdisc hrise => ?_⟩⟩⟩
  · dsimp only
    refine ⟨fun hfull => runs_both hctx ?_, fun hroom => runs_both hctx ?_, fun hno => runs_both hctx ?_,
      fun k hk => runs_both hctx ?_, fun hq => runs_both hctx (if_pos hq), fun hq hfull => runs_both hctx ((if_neg (by omega)).trans ?_),
      fun hq hroom => runs_both hctx ((if_neg (by omega)).trans ?_)⟩
    · rw [issueTicket_full _ hfull]
    · rw [issueTicket_room _ hroom]
    · rw [hno]
    · rw [hk]
    · rw [putEvent2_full (by rw [setResult_eventsQueued]; exact hfull)]
    · rw [putEvent2_room (by rw [setResult_eventsQueued]; exact hroom)]
  · refine runs_thread hctx ?_
    rw [hno]
  · refine runs_thread hctx ?_
    rw [hk]
    exact if_pos ((congrArg Flow.gate (setResult_flow ..)).trans hgate)
  · refine runs_thread hctx ?_
    rw [hk]
    exact if_neg fun e => hgate ((congrArg Flow.gate (setResult_flow ..)).symm.trans e)
  · exact runs_evp hctx (if_pos (by simp [he]))
  · refine runs_evp hctx ?_
    rw [he]
    dsimp only
    rcases hend with hdiscard | hticket
    · exact if_pos hdiscard
    · rw [hticket]
      exact ite_self _
  · refine runs_evp hctx ?_
    rw [hnone]
  · refine runs_evp hctx ((if_neg (by simp [hnone])).trans ?_)
    rw [takeEvent_none hno]
  · obtain ⟨t, ht, hprop⟩ := takeEvent_plain hq hhead hdisc hrise
    refine ⟨t, runs_evp hctx ((if_neg (by simp [hnone])).trans ?_), hprop⟩
    rw [ht]

end Sys2Proof.Machine

/-! ## Reads, time-outs and exceptions of the cluster (O51) -/

namespace Sys2Proof.Machine

section
variable {s : State} {c : Fin 8} {t : Nat}

/-! ### Performance counters (R526) -/

theorem pmuValue_fixed (bank : Fin 13) : pmuValue s bank 0 = fixedCounter s bank := rfl

theorem pmuValue_counter (bank : Fin 13) (n : Fin 8) :
    pmuValue s bank n.succ = (s.cluster.banks[bank].counters[n]).value.toNat := by
  have hn : Fin.ofNat 8 (n.succ.val - 1) = n := by simp
  rw [pmuValue, if_neg (by simp)]
  simp only [hn]

theorem pmuLatch_fixed (bank : Fin 13) :
    let latched : Bank := { s.cluster.banks[bank] with fixedLatch := BitVec.ofNat 32 (fixedCounter s bank / 2 ^ 32) }
    pmuLatch bank 0 s = s.onCluster fun x => { x with banks := x.banks.set bank latched } := by
  unfold pmuLatch
  dsimp only
  rw [if_pos (show ((0 : Fin 9) : Nat) = 0 from rfl), pmuValue_fixed]

theorem pmuLatch_counter (bank : Fin 13) (n : Fin 8) :
    let b := s.cluster.banks[bank]
    let latched : Bank :=
      { b with counters := b.counters.set n { b.counters[n] with latch := BitVec.ofNat 32 (b.counters[n].value.toNat / 2 ^ 32) } }
    pmuLatch bank n.succ s = s.onCluster fun x => { x with banks := x.banks.set bank latched } := by
  have hn : Fin.ofNat 8 (n.succ.val - 1) = n := by simp
  unfold pmuLatch
  dsimp only
  rw [if_neg (by simp), pmuValue_counter]
  simp only [hn]

/-- A supervisor read of an awake device latches the high word and returns the low one. -/
theorem exec_pmuLowWordRead_supervisor (hawake : s.asleep = false) (bank : Fin 13) (n : Fin 9) :
    exec (.pmuLowWordRead c none bank n) s =
      .next ((pmuLatch bank n s).onKci fun k => { k with readOut := pmuValue s bank n % 2 ^ 32 }) := by
  change execPmuLowWordRead c none bank n s = _
  unfold execPmuLowWordRead
  rw [hawake]

theorem exec_pmuLowWordRead_user (hawake : s.asleep = false) {bank : Fin 13} (huser : s.cluster.banks[bank].user = false)
    (n : Fin 9) (pc : BitVec 64) : exec (.pmuLowWordRead c (some pc) bank n) s = .next (syncException c false pc s) := by
  change execPmuLowWordRead c (some pc) bank n s = _
  unfold execPmuLowWordRead
  rw [hawake, huser]

theorem exec_schWakeRead_contextless (hno : ∀ t, schedCtx s c ≠ some (.thread t)) (high : Bool) :
    exec (.schWakeRead c high) s = .next (s.onKci fun k => { k with readOut := 0 }) := by
  change execSchWakeRead c high s = _
  unfold execSchWakeRead
  split
  next t ht => exact absurd ht (hno t)
  next => rfl

theorem exec_schPostsRead_contextless (hno : ∀ t, schedCtx s c ≠ some (.thread t)) :
    exec (.schPostsRead c) s = .next (s.onKci fun k => { k with readOut := 0 }) := by
  change execSchPostsRead c s = _
  unfold execSchPostsRead
  split
  next t ht => exact absurd ht (hno t)
  next => rfl

/-! ### Time-outs (R514, R519) -/

theorem passed_iff {t : BitVec 64} {us : Nat} : passed s t us = true ↔ us * 400 ≤ (s.time.fabric - t).toNat := decide_eq_true_iff

/-- A thread whose limit has not passed waits on; one without a limit always does. -/
theorem exec_waitTimeout_early (h : (s.thread t).waits = .wait 0 ∨ (s.thread t).waits = .nothing ∨
    ∃ n, (s.thread t).waits = .wait (n + 1) ∧ (s.time.fabric - (s.thread t).since).toNat < (n + 1) * 400) :
    exec (.waitTimeout (.thread t)) s = .next s := by
  change execWaitTimeout (.thread t) s = _
  unfold execWaitTimeout
  dsimp only
  rcases h with h | h | ⟨n, h, hearly⟩
  · rw [h]
  · rw [h]
  · rw [h]
    exact congrArg _ (if_neg (mt passed_iff.mp (Nat.not_le.mpr hearly)))

/-- `QUANTUM_EXPIRY` does nothing on a core without a thread, without a quantum, before its time, or with no READY thread. -/
theorem exec_quantumExpiry_idle (h : (s.core c).thread = none ∨ quantumUs s.coh.active = 0 ∨ s.cluster.ready = [] ∨
    (s.time.fabric - (s.core c).since).toNat < quantumUs s.coh.active * 400) : exec (.quantumExpiry c) s = .next s := by
  change execQuantumExpiry c s = _
  unfold execQuantumExpiry
  dsimp only
  split
  next t ht =>
    split
    next hdue =>
      obtain ⟨hq, hpassed⟩ := Bool.and_eq_true_iff.mp hdue
      rcases h with h | h | h | h
      · exact absurd (ht.symm.trans h) nofun
      · exact absurd h (by simpa using hq)
      · exact congrArg _ (sliceOut_alone fun u hu => absurd (h ▸ hu) List.not_mem_nil)
      · exact absurd (passed_iff.mp hpassed) (Nat.not_le.mpr h)
    next => rfl
  next => rfl

/-! ### Idle and running cores (R506, R520) -/

theorem coreRuns_thread (hw : s.works (coreFn c) = true) (hawake : s.asleep = false) (ht : (s.core c).thread = some t) :
    coreRuns s c = true := by
  simp [coreRuns, hw, hawake, ht]

/-- Without a bus error only the exception is counted, and the thread faults unless it handles it. -/
theorem syncException_thread (ht : (s.core c).thread = some t) (pc : BitVec 64) : syncException c false pc s =
    if threadToHandler s.coh.active t then s.count (coreFn c) 2 else faultThread t c 1 pc (s.count (coreFn c) 2) := by
  have hu : ((s.count (coreFn c) 2).core c).thread = some t := ht
  unfold syncException
  dsimp only
  rw [if_neg Bool.false_ne_true, hu]
  rfl

theorem syncException_bus (ht : (s.core c).thread = some t) (hhandler : threadToHandler s.coh.active t = false) (pc : BitVec 64) :
    syncException c true pc s = faultThread t c 2 pc (pmuEventIf (fun p =>
      pmcPriv (threadUser s.coh.active t) p && p.base == 0 && p.limit == 0) (coreBank c) 0x12 1 1
        ((s.count (coreFn c) 2).count (coreFn c) 3)) := by
  have hu : ((s.count (coreFn c) 2).core c).thread = some t := ht
  unfold syncException
  dsimp only
  have hv (f : Pmc → Bool) (s : State) : ((pmuEventIf f (coreBank c) 0x12 1 1 s).core c).thread = (s.core c).thread := rfl
  have hm (f : Pmc → Bool) (s : State) : (pmuEventIf f (coreBank c) 0x12 1 1 s).coh = s.coh := rfl
  rw [if_pos rfl, hu, hv, show (((s.count (coreFn c) 2).count (coreFn c) 3).core c).thread = some t from ht]
  dsimp only
  rw [hm]
  exact if_neg (ne_true_of_eq_false hhandler)

end

/-- Settles O51: each read, time-out and exception by the state of its thread and core. -/
theorem readsTimeoutsAndExceptions : Obligations.ReadsTimeoutsAndExceptions := by
  intro s c
  refine ⟨fun t hctx => ?_, fun hno => ?_, fun bank n pc hawake => ?_, fun t n hwaits hpassed => ?_, fun t hwaits => ?_,
    fun n hwaits hpassed => ?_, fun hidle => ?_, fun t u ht hq hu hprio haff hpassed => ?_, fun ht hheld hmode => ?_,
    fun hbusy => ⟨?_, fun hw hawake => ?_⟩, fun bus pc => ⟨fun hoff => ?_, fun t hw hawake ht => ⟨fun hhandler => ?_,
      fun hhandler => ⟨?_, ?_⟩⟩⟩⟩
  · refine ⟨?_, ?_, ?_⟩
    · change execSchWakeRead c false s = _
      rw [execSchWakeRead, hctx]
      rfl
    · change execSchWakeRead c true s = _
      rw [execSchWakeRead, hctx]
      rfl
    · change execSchPostsRead c s = _
      rw [execSchPostsRead, hctx]
  · simp only [List.forall_mem_cons, List.not_mem_nil, false_implies, implies_true, and_true]
    exact ⟨exec_schWakeRead_contextless hno false, exec_schWakeRead_contextless hno true, exec_schPostsRead_contextless hno⟩
  · refine ⟨fun huser k => exec_pmuLowWordRead_user hawake huser k pc, ?_, ?_⟩
    · rw [exec_pmuLowWordRead_supervisor hawake, pmuLatch_counter, pmuValue_counter]
      rfl
    · rw [exec_pmuLowWordRead_supervisor hawake, pmuLatch_fixed, pmuValue_fixed]
      rfl
  · change execWaitTimeout (.thread t) s = _
    unfold execWaitTimeout
    dsimp only
    rw [hwaits]
    exact congrArg _ (if_pos (passed_iff.mpr hpassed))
  · exact exec_waitTimeout_early hwaits
  · change execWaitTimeout (.core c) s = _
    unfold execWaitTimeout
    dsimp only
    rw [hwaits]
    exact congrArg _ (if_pos (passed_iff.mpr hpassed))
  · exact exec_quantumExpiry_idle hidle
  · change execQuantumExpiry c s = _
    rw [execQuantumExpiry, ht]
    refine congrArg _ ((if_pos (by simpa [passed, hq] using hpassed)).trans ?_)
    exact sliceOut_equal hu hprio haff
  · refine ⟨if_neg (by simp [ht, hheld]), fun hearly => if_neg ?_, fun hidle => if_pos ?_⟩
    · rw [Bool.and_eq_true, passed_iff]
      exact fun h => absurd h.2 (Nat.not_le.mpr hearly)
    · rw [Bool.and_eq_true, passed_iff]
      exact ⟨by simp [ht, hheld, hmode], hidle⟩
  · refine if_neg ?_
    rcases hbusy with h | h
    · simp [h]
    · simp [h]
  · refine if_pos ?_
    rcases hbusy with h | h
    · simp [hw, hawake, Option.isSome_iff_ne_none, h]
    · simp [hw, hawake, Option.isSome_iff_ne_none, h]
  · refine if_neg ?_
    rcases hoff with h | h <;> simp [coreRuns, h]
  · refine (if_pos (coreRuns_thread hw hawake ht)).trans ?_
    rw [syncException_thread ht, if_pos hhandler]
  · refine (if_pos (coreRuns_thread hw hawake ht)).trans ?_
    rw [syncException_thread ht, if_neg (ne_true_of_eq_false hhandler)]
  · refine (if_pos (coreRuns_thread hw hawake ht)).trans ?_
    rw [syncException_bus ht hhandler]

end Sys2Proof.Machine

/-! ## Lifetime stress in HIBERNATE (O54) -/

namespace Sys2Proof.Machine

/-- The reset state, asleep in HIBERNATE. -/
def hibernatingReset : State := { State.reset with power := { Power.reset with phase := .asleep, state := .hibernate } }

/-- In HIBERNATE no stress record is written. -/
theorem exec_stressRecord_hibernating {s : State} (h : hibernating s = true) : exec .stressRecord s = .next s :=
  congrArg Host.Outcome.next (if_pos h)

/-- Refutes O54: in HIBERNATE, whose core domain is off, STRESS_RECORD stores nothing, where the statement has it store the
totals and count a record in every state; the reset state asleep in HIBERNATE has 0 records before and after. -/
theorem not_thermalTelemetryAndStress : ¬ Obligations.ThermalTelemetryAndStress := by
  rintro ⟨h, -⟩
  obtain ⟨-, -, -, -, hstored, -⟩ := h hibernatingReset
  have hsame : State.onThermal hibernatingReset (fun t => { t with stored := some t.bandMs, records := t.records + 1 }) =
      hibernatingReset :=
    Host.Outcome.next.inj (hstored.symm.trans (exec_stressRecord_hibernating rfl))
  have hrecords : (1 : Nat) = 0 := congrArg (fun s : State => s.thermal.records) hsame
  exact absurd hrecords (by decide)

end Sys2Proof.Machine

/-! ## Starts (O44) -/

namespace Sys2Proof.Machine

/-! ### What a raise in an awake device cannot touch -/

/-- A view of the state that sees no more than the power manager, the boot record and the supplies: nothing that a raise or its
reaction touches in an awake device. -/
structure ReactionBlind {α : Type} (g : State → α) : Prop extends TrafficBlind g where
  safety : ∀ s f, g (State.onSafety s f) = g s
  coh : ∀ s f, g (State.onCoh s f) = g s
  radios : ∀ s f, g (State.onRadios s f) = g s
  timers : ∀ s x, g ({ s with timers := x } : State) = g s
  mem : ∀ s f, g (State.onMem s f) = g s
  time : ∀ s f, g (State.onTime s f) = g s
  cipher : ∀ s f, g (State.onCipher s f) = g s

theorem reactionBlind_power : ReactionBlind State.power :=
  ⟨trafficBlind_power, fun _ _ => rfl, fun _ _ => rfl, fun _ _ => rfl, fun _ _ => rfl, fun _ _ => rfl, fun _ _ => rfl,
    fun _ _ => rfl⟩

theorem reactionBlind_boot : ReactionBlind State.boot :=
  ⟨⟨fun _ _ => rfl, fun _ _ => rfl, fun _ _ => rfl, fun _ _ => rfl, fun _ _ => rfl, fun _ _ => rfl, fun _ _ => rfl,
    fun _ _ => rfl⟩, fun _ _ => rfl, fun _ _ => rfl, fun _ _ => rfl, fun _ _ => rfl, fun _ _ => rfl, fun _ _ => rfl, fun _ _ => rfl⟩

namespace ReactionBlind

variable {α : Type} {g : State → α} (h : ReactionBlind g)
include h

theorem onFn (s : State) (n : Nat) (f : FnState → FnState) : g (s.onFn n f) = g s := h.coh ..
theorem onRadio (s : State) (r : Fin 3) (f : Radio → Radio) : g (s.onRadio r f) = g s := h.radios ..
theorem onTimer (s : State) (t : Fin 16) (f : Timer → Timer) : g (s.onTimer t f) = g s := h.timers ..

theorem cutRadio (r : Fin 3) (reason : Nat) (fate : CutFate) (s : State) : g (cutRadio r reason fate s) = g s :=
  (h.toTrafficBlind.cutRadio ..).trans (h.onRadio ..)

theorem abandonCommit (fn : Nat) (s : State) : g (abandonCommit fn s) = g s := by
  obtain ⟨kci, hframe⟩ := abandonCommit_frame fn s
  rw [hframe]
  exact (h.coh (s.onKci fun _ => kci) fun c => { c with commit := none }).trans (h.kci ..)

theorem abandonResets (s : State) : g (abandonResets s) = g s := by
  obtain ⟨kci, reactions, coh, hframe, -⟩ := abandonResets_frame s
  rw [hframe]
  exact (h.coh ((s.onKci fun _ => kci).onSafety fun x => { x with reactions := reactions }) fun _ => coh).trans
    ((h.safety ..).trans (h.kci ..))

theorem enterSafeState (n : Nat) (s4 hold : Bool) (s : State) : g (enterSafeState n s4 hold s) = g s := by
  unfold Machine.enterSafeState
  dsimp only
  rw [h.toTrafficBlind.raiseEvent, h.abandonCommit]
  simp only [apply_ite g, h.count, h.safety, ite_self, h.releaseBookings]
  exact foldl_keeps g _ (fun _ _ => h.cutRadio ..) _ s

theorem endReaction (recNo : Nat) (s : State) : g (endReaction recNo s) = g s := by
  unfold Machine.endReaction
  split
  · rfl
  · exact (h.safety ..).trans (h.safety ..)

theorem clampOutputs (fn : Nat) (s : State) : g (clampOutputs fn s) = g s := by
  unfold Machine.clampOutputs
  split
  · exact h.onTimer ..
  · split
    · exact (h.onRadio ..).trans ((h.dropReception ..).trans (h.cutRadio ..))
    · split
      · exact foldl_keeps g _ (fun _ _ => h.cutRadio ..) _ s
      · simp only [apply_ite g, pauseMigration, h.mem, ite_self]

theorem startReset (fn : Nat) (source : Option Nat) (s : State) : g (startReset fn source s) = g s := by
  have hclamped : g ((resetScope fn).foldl (fun s f =>
      (if s.enabled f then Machine.clampOutputs f s else s).onFn f fun x => { x with inReset := true }) s) = g s :=
    foldl_keeps g _ (fun _ _ => by simp only [h.onFn, apply_ite g, h.clampOutputs, ite_self]) _ s
  unfold Machine.startReset
  dsimp only
  split
  · simp only [apply_ite g, h.abandonCommit, ite_self, h.coh, hclamped]
  · exact (h.coh ..).trans hclamped

theorem react (recNo n sev target : Nat) (s : State) : g (react recNo n sev target s) = g s := by
  have hheld (l : List Nat) (t : State) : g (l.foldl (fun s f => s.onFn f fun x => { x with held := true }) t) = g t :=
    foldl_keeps g _ (fun _ _ => h.onFn ..) l t
  by_cases h2 : sev = 2
  · rw [Machine.react, if_pos h2]
    simp only [apply_ite g, h.endReaction, h.startReset, ite_self]
  · by_cases h3 : sev = 3
    · rw [Machine.react, if_neg h2, if_pos h3, h.safety, h.enterSafeState, h.abandonResets]
    · rw [Machine.react, if_neg h2, if_neg h3, h.endReaction, hheld, h.safety, h.enterSafeState, h.abandonResets]

theorem reportNote (n sev count : Nat) (detail : BitVec 64) (injected : Bool) (s : State) :
    g (reportNote n sev count detail injected s) = g s :=
  (h.raiseEvent ..).trans ((h.safety ..).trans (h.safety ..))

theorem handleRaise (n named : Nat) (detail : BitVec 64) (injected : Bool) (s : State) :
    g (handleRaise n named detail injected s) = g s := by
  unfold Machine.handleRaise
  dsimp only
  split
  · exact (h.count ..).trans ((h.safety ..).trans (h.safety ..))
  · split
    · unfold noteRaise
      split
      · exact h.reportNote ..
      · split
        · exact h.reportNote ..
        · exact h.safety ..
    · unfold reactRaise
      rw [h.react, h.safety, h.raiseEvent]
      simp only [apply_ite g, h.count, h.safety, logRecord, ite_self]

/-- A raise in an awake device is handled at once. -/
theorem raiseFault {s : State} (hawake : s.asleep = false) (n named : Nat) (detail : BitVec 64) (injected : Bool) :
    g (raiseFault n named detail injected s) = g s := by
  unfold Machine.raiseFault
  split
  · rfl
  · rw [if_neg (ne_true_of_eq_false hawake), h.handleRaise]
    simp only [apply_ite g, h.count, ite_self, h.thermal]
    exact h.safety s fun x => { x with counts := mmod 0 s.safety.counts n (· + 1) }

end ReactionBlind

section
variable {s : State}

/-! ### The steps of a start that a raise may interrupt -/

namespace ReactionBlind

variable {α : Type} {g : State → α} (h : ReactionBlind g)
include h

theorem writeVariant (r : Fin 3) (c : CalResult) (s : State) : g (writeVariant r c s) = g s := by
  unfold Machine.writeVariant
  dsimp only
  split
  · exact h.radios ..
  · split
    · split
      · exact h.radios ..
      · rfl
    · split
      · rfl
      · split
        · exact (h.count ..).trans (h.radios ..)
        · exact h.radios ..

theorem appendRecord (r : JRecord) (s : State) : g (appendRecord r s) = g s := by
  unfold Machine.appendRecord
  split
  · rfl
  · exact h.cipher ..

theorem reserveAhead (k : Nat) (x : TxSlot) (s : State) : g (reserveAhead k x s) = g s := by
  unfold Machine.reserveAhead reserveCeiling
  dsimp only
  simp only [apply_ite g, h.appendRecord, ite_self]

theorem wakeThread (t cause rc : Nat) (s : State) : g (wakeThread t cause rc s) = g s :=
  (h.place ..).trans ((h.traceThread ..).trans ((h.count ..).trans (h.onThread ..)))

theorem raiseSched (n : Nat) (s : State) : g (raiseSched n s) = g s := by
  unfold Machine.raiseSched
  split
  · rfl
  · dsimp only
    split
    · exact h.count ..
    · split
      · exact h.count ..
      · split
        · exact (h.wakeThread ..).trans (h.onThread ..)
        · exact h.onThread ..

theorem changeTimer (t : Fin 16) (f : Timer → Timer) (s : State) : g (changeTimer t f s) = g s := by
  unfold Machine.changeTimer
  simp only [apply_ite g, h.raiseEvent, h.raiseSched, h.onTimer, ite_self]

theorem wakeTimer (t : Fin 16) (p : Snapshot) (ns spring slots : Nat) (s : State) : g (wakeTimer t p ns spring slots s) = g s := by
  unfold Machine.wakeTimer
  dsimp only
  split
  · exact (h.changeTimer ..).trans (h.onTimer ..)
  · exact h.onTimer ..

theorem releaseTimer (s : State) (t : Fin 16) : g (releaseTimer s t) = g s := by
  unfold Machine.releaseTimer
  split
  · exact h.changeTimer ..
  · rfl

theorem rebuildBases (s : State) : g (rebuildBases s) = g s := by
  unfold Machine.rebuildBases
  split
  · rfl
  · dsimp only
    rw [h.advanceAll, foldl_keeps g _ (fun _ _ => h.wakeTimer ..), h.thermal, h.mem, h.count, h.time]

end ReactionBlind

/-- The results of a calibration raise for each failure, and leave the power manager. -/
theorem takeResults_power (r : Fin 3) : ∀ (cs : List CalResult) (s : State), s.power.phase = .awake →
    (takeResults r cs s).power = s.power
  | [], _, _ => rfl
  | c :: cs, s, hawake => by
    have hasleep : s.asleep = false := by rw [State.asleep, hawake]
    have hfirst : (if c.good then writeVariant r c s else raiseRadio r 5 c.lo s).power = s.power := by
      rw [apply_ite State.power, reactionBlind_power.writeVariant, raiseRadio, raiseSource,
        reactionBlind_power.raiseFault hasleep, ite_self]
    rw [takeResults, takeResults_power r cs _ (by rw [hfirst]; exact hawake), hfirst]

/-- Results that are all good write variants and count. -/
theorem takeResults_good (r : Fin 3) : ∀ (cs : List CalResult) (s : State), (∀ c ∈ cs, c.good = true) →
    ∃ radios counters, takeResults r cs s = { s with radios := radios, counters := counters }
  | [], s, _ => ⟨s.radios, s.counters, rfl⟩
  | c :: cs, s, hgood => by
    have hfirst : ∃ radios counters, writeVariant r c s = { s with radios := radios, counters := counters } := by
      unfold writeVariant
      dsimp only
      split
      · exact ⟨_, _, rfl⟩
      · split
        · split
          · exact ⟨_, _, rfl⟩
          · exact ⟨_, _, rfl⟩
        · split
          · exact ⟨_, _, rfl⟩
          · split
            · exact ⟨_, _, rfl⟩
            · exact ⟨_, _, rfl⟩
    obtain ⟨x, n, hx⟩ := hfirst
    obtain ⟨y, m, hy⟩ := takeResults_good r cs { s with radios := x, counters := n } fun c hc => hgood c (List.mem_cons_of_mem _ hc)
    exact ⟨y, m, by rw [takeResults, if_pos (hgood c List.mem_cons_self), hx, hy]⟩

/-- A warm start leaves no raise held. -/
theorem initWarm_held {hib : Bool} {f : StartFacts} (hawake : s.power.phase = .awake) (hheld : s.power.held = []) :
    (initWarm hib f s).power.held = [] := by
  have hidle (t : State) : (enterIdle t).power.held = t.power.held := by
    unfold enterIdle
    split <;> rfl
  have hstep : ∀ t : State, t.power = s.power → (takeObs .warm f.results t).power = s.power := fun t ht =>
    (takeResults_power _ _ _ (by rw [ht]; exact hawake)).trans ht
  unfold initWarm
  dsimp only
  rw [hidle, foldl_keeps State.power _ (fun _ _ => reactionBlind_power.releaseTimer ..), reactionBlind_power.rebuildBases,
    State.onTime_power, apply_ite State.power, freezeBound, State.onTime_power, State.onTime_power, ite_self,
    apply_ite State.power, addStress, State.onThermal_power, ite_self,
    foldl_keeps State.power _ (fun _ _ => reactionBlind_power.reserveAhead ..), hstep]
  · exact hheld
  · rfl

/-! ### The set of a start (R471) -/

theorem part_setPart_same {m : NMap Bytes} (h : keysRise m = true) (fn op sel idx : Nat) (b : Bytes) :
    part (setPart m fn op sel idx b) fn op sel idx = b :=
  mget_msetD_same _ _ _ _ h

theorem part_setPart_other {m : NMap Bytes} (h : keysRise m = true) {fn op sel idx fn' op' sel' idx' : Nat} (b : Bytes)
    (hkey : cfgKey fn op sel idx ≠ cfgKey fn' op' sel' idx') : part (setPart m fn' op' sel' idx' b) fn op sel idx = part m fn op sel idx := by
  rw [part, setPart, mget_msetD_other _ _ _ _ _ h hkey, part]

theorem enabledIn_enabled {m : NMap Bytes} (h : keysRise m = true) (f g : Nat) (hg : f = g ∨ enabledIn m g = true) :
    enabledIn (setPart m f 0x0010 0 0 [1, 0, 0, 0]) g = true := by
  by_cases he : f = g
  · subst he
    rw [enabledIn, part_setPart_same h]
    exact Bool.or_eq_true_iff.mpr (.inr rfl)
  · have hother := hg.resolve_left he
    rw [enabledIn] at hother ⊢
    rwa [part_setPart_other h]
    simp only [cfgKey]
    omega

theorem keysRise_enableFns (l : List Nat) : ∀ m, keysRise m = true → keysRise (enableFns l m) = true := by
  induction l with
  | nil => exact fun _ h => h
  | cons f l ih => exact fun m h => ih _ (keysRise_msetD _ _ _ _ h)

/-- A function that a list names, or that was enabled, is enabled. -/
theorem enabledIn_enableFns {g : Nat} (l : List Nat) : ∀ m, keysRise m = true → (g ∈ l ∨ enabledIn m g = true) →
    enabledIn (enableFns l m) g = true := by
  induction l with
  | nil => exact fun _ _ hg => hg.resolve_left List.not_mem_nil
  | cons f l ih =>
    intro m h hg
    refine ih _ (keysRise_msetD _ _ _ _ h) ?_
    rcases hg with hg | hg
    · rcases List.mem_cons.mp hg with rfl | hg
      · exact .inr (enabledIn_enabled h _ _ (.inl rfl))
      · exact .inl hg
    · exact .inr (enabledIn_enabled h _ _ (.inr hg))

/-- The DRAM controller's start parameters enable and disable nothing. -/
theorem enabledIn_startSet {g : Nat} {m : NMap Bytes} (mem : Memory) (h : keysRise m = true)
    (hg : g ∈ dramFns ∨ enabledIn m g = true) : enabledIn (startSet mem m) g = true := by
  have henabled := enabledIn_enableFns dramFns m h hg
  rw [enabledIn] at henabled ⊢
  rw [startSet, part_setPart_other (keysRise_enableFns _ _ h)]
  · exact henabled
  · simp only [cfgKey]
    omega

/-! ### Steps 0x00 to 0x04 -/

theorem loadFuses_kept (f : StartFacts) (s : State) : (loadFuses f s).boot.padHold = s.boot.padHold ∧
    (loadFuses f s).time = s.time ∧ (loadFuses f s).pending = s.pending ∧ (loadFuses f s).power = s.power ∧
    (loadFuses f s).thermal = s.thermal ∧ (loadFuses f s).safety.s4Held = s.safety.s4Held := by
  refine ⟨?_, rfl, rfl, rfl, rfl, rfl⟩
  cases hfused : s.boot.fused <;> cases hflash : f.flash <;> simp [loadFuses, hfused, hflash]

/-- The steps up to the DRAM pass when each of their tests does. -/
theorem runSteps_pass {cold : Bool} {f : StartFacts} {i : Bool} (hlock : f.lockstepPasses = true) (hmon : f.monitorsPass = true)
    (hsram : cold = true → f.sramPasses = true) (hsel : s.boot.select = .inl i) (hdram : f.dramPasses = true)
    (hsize : cold = true → (f.density = 4 ∨ f.density = 8 ∨ f.density = 16) ∧ (f.ranks = 1 ∨ f.ranks = 2))
    (hend : f.endedAt = none) : runSteps cold f s =
      (none, s.onBoot fun b => { b with imageSlot := i, fallback := b.fellBack i, step := 4 }) := by
  have hsized : (cold && !([4, 8, 16].contains f.density && [1, 2].contains f.ranks)) = false := by
    cases cold with
    | false => rfl
    | true =>
      obtain ⟨hdensity, hranks⟩ := hsize rfl
      have hd : [4, 8, 16].contains f.density = true := by simpa using hdensity
      have hr : [1, 2].contains f.ranks = true := by simpa using hranks
      rw [hd, hr]
      rfl
  have hunended : ((List.range 10).any fun n => f.endedAt == some n) = false := by
    rw [hend]
    rfl
  have hsrams : (cold && !f.sramPasses) = false := by
    cases cold with
    | false => rfl
    | true => rw [hsram rfl]; rfl
  unfold runSteps
  rw [hlock, hmon, hsrams, hsel]
  refine (if_neg Bool.false_ne_true).trans ((if_neg Bool.false_ne_true).trans ((if_neg Bool.false_ne_true).trans ?_))
  dsimp only
  rw [hsized, hdram]
  refine (if_neg Bool.false_ne_true).trans (if_neg ?_)
  rw [hunended]
  exact Bool.false_ne_true

theorem runSteps_lockstep {cold : Bool} {f : StartFacts} (hlock : f.lockstepPasses = false) :
    runSteps cold f s = (some (1, rcBistFail), s) :=
  if_pos (by simp [hlock])

/-! ### Resets that a start follows (R447, R471) -/

/-- A cold reset keeps the Spring counter, the queue, the stored stress record and S4_HELD. -/
theorem resetDevice_cold (s : State) : (resetDevice .cold false s).time.spring = s.time.spring ∧
    (resetDevice .cold false s).pending = s.pending ∧ (resetDevice .cold false s).thermal.stored = s.thermal.stored ∧
    (resetDevice .cold false s).safety.s4Held = s.safety.s4Held ∧
    (resetDevice .cold false s).boot = { s.boot with
      phase := .due .cold false, ready := false, startKind := .cold, padHold := true, step := 0, fallback := false } := by
  have hsup := restoreRails_supplies s
  unfold resetDevice
  rw [show (StartKind.cold == StartKind.warm) = false from rfl]
  dsimp only
  rw [if_neg Bool.false_ne_true]
  generalize restoreRails s = v at hsup
  unfold SuppliesOnly at hsup
  generalize v.supply = x at hsup
  subst hsup
  exact ⟨rfl, rfl, rfl, rfl, rfl⟩

/-- A warm reset leaves the device awake, and holds only the raises of a sleep in HIBERNATE. -/
theorem resetDevice_warm_power (hib : Bool) (s : State) : (resetDevice .warm hib s).power.phase = .awake ∧
    (resetDevice .warm hib s).power.held = if hib then s.power.held else [] := by
  have hrails := restoreRails_supplies (endDeviceReactions s)
  have hreactions : (endDeviceReactions s).power = s.power :=
    foldl_keeps State.power _ (fun _ _ => reactionBlind_power.endReaction ..) _ s
  refine ⟨rfl, ?_⟩
  have hheld : (resetDevice .warm hib s).power.held =
      if hib && true then (restoreRails (endDeviceReactions s)).power.held else [] := rfl
  rw [hheld, hrails.power, hreactions, Bool.and_true]

/-! ### Steps 0x05 to 0x0A -/

/-- READY, and what a start sets with it. -/
theorem setReady_sets (k : StartKind) (s : State) :
    (setReady k s).boot = { s.boot with ready := true, step := 0x0A, phase := .proving k, readyAt := s.time.spring } ∧
    (setReady k s).time = s.time ∧ (setReady k s).coh = s.coh ∧ (setReady k s).pending = s.pending ∧
    (setReady k s).power = { s.power with hibInd := false } ∧ (setReady k s).supply = { s.supply with watchdog := 0 } ∧
    (setReady k s).safety.tokenAt = s.time.fabric ∧ (setReady k s).mem.scrubStart = s.time.fabric := by
  unfold setReady bootEvent
  rw [raiseEvent_frame]
  exact ⟨rfl, rfl, rfl, rfl, rfl, rfl, rfl, rfl⟩

/-- The set with which a cold start sets READY. -/
def coldSet (f : StartFacts) (mem : Memory) : NMap Bytes := startSet (trainDram f mem) (enableFns [0x0D00, 0x0E00, 0x1000] [])

theorem enabledIn_coldSet (f : StartFacts) (mem : Memory) :
    ∀ fn ∈ [0x0900, 0x0910, 0x0911, 0x0D00, 0x0E00, 0x1000], enabledIn (coldSet f mem) fn = true := by
  have hfns : ∀ fn ∈ [0x0900, 0x0910, 0x0911, 0x0D00, 0x0E00, 0x1000], fn ∈ dramFns ∨ fn ∈ [0x0D00, 0x0E00, 0x1000] := by decide
  intro fn hfn
  refine enabledIn_startSet _ (keysRise_enableFns _ _ rfl) ?_
  rcases hfns fn hfn with h | h
  · exact .inl h
  · exact .inr (enabledIn_enableFns _ _ rfl (.inl h))

/-- The initialisation of a cold start that finds its stress record and good calibrations raises nothing. -/
theorem initCold_quiet {f : StartFacts} (hgood : ∀ r ∈ f.results, r.good = true) (hstress : f.stressPasses = true)
    (hstored : s.thermal.stored ≠ none) : (initCold f s).boot = s.boot ∧ (initCold f s).time = s.time ∧
      (initCold f s).pending = s.pending ∧
      (initCold f s).coh = { Coherence.reset with active := coldSet f s.mem, staged := coldSet f s.mem } := by
  have hevents (l : List Nat) : ∀ t : State, ∃ kci,
      l.foldl (fun s i => raiseEvent 130 cipherFn (i + 3 * 2 ^ 8) s) t = { t with kci := kci } := by
    induction l with
    | nil => exact fun t => ⟨t.kci, rfl⟩
    | cons i l ih =>
      intro t
      obtain ⟨kci, h⟩ := ih (raiseEvent 130 cipherFn (i + 3 * 2 ^ 8) t)
      exact ⟨kci, by rw [List.foldl_cons, h, raiseEvent_frame]⟩
  have hobs (t : State) : ∃ radios counters, takeObs .cold f.results t = { t with radios := radios, counters := counters } :=
    takeResults_good 0 _ t fun c hc => hgood c (List.mem_filter.mp hc).1
  obtain ⟨d, hd⟩ := Option.ne_none_iff_exists'.mp hstored
  unfold initCold
  dsimp only
  generalize hu : State.onCoh _ _ = u
  obtain ⟨radios, counters, hradios⟩ := hobs u
  rw [hradios]
  generalize hv : State.onCipher _ _ = v
  obtain ⟨kci, hkci⟩ := hevents (badSectors v.cipher.journal) v
  rw [hkci]
  generalize hw : State.onRail _ _ _ = w
  have hkept : w.thermal.stored = some d := by
    rw [← hw, ← hv, ← hu]
    exact hd
  rw [hstress, if_pos rfl, hkept]
  rw [if_neg (by simp)]
  rw [State.onThermal_boot, State.onThermal_time, State.onThermal_pending, State.onThermal_coh, ← hw, ← hv, ← hu]
  exact ⟨rfl, rfl, rfl, rfl⟩

/-! ### Failed starts (R466, R468) -/

/-- A cold start that fails before step 0x05 notes step and reason and is due again, until the third failure. -/
theorem failStart_cold {step reason : Nat} (hstep : step < 5) : failStart .cold step reason false s =
    let n : BitVec 4 := if s.boot.coldFails.toNat < 3 then s.boot.coldFails + 1 else s.boot.coldFails
    let u := resetDevice .cold false { s with boot := { s.boot with
      reasonStep := BitVec.ofNat 16 step, reasonCode := BitVec.ofNat 16 reason, coldFails := n } }
    if 3 ≤ n.toNat then enterSafeHold u else u := by
  have hearly : (decide (5 ≤ step) && s.boot.running.trial) = false := by rw [decide_eq_false (Nat.not_le.mpr hstep), Bool.false_and]
  unfold failStart
  dsimp only
  rw [if_neg (ne_true_of_eq_false hearly)]

theorem enterSafeHold_boot (s : State) : (enterSafeHold s).boot = { s.boot with phase := .safeHold, ready := true, padHold := true } := by
  unfold enterSafeHold bootEvent
  rw [raiseEvent_boot, reactionBlind_boot.enterSafeState]
  rfl

/-! ### The commands of a start -/

/-- The state in which a due cold start makes its tests. -/
def coldTested (f : StartFacts) (s : State) : State :=
  loadFuses f ((resetDevice .cold false s).onBoot fun b =>
    { b with hostSel := f.hostSel, refSel := f.refSel, testMode := f.testMode })

theorem coldTested_kept (f : StartFacts) (s : State) : (coldTested f s).boot.padHold = true ∧
    (coldTested f s).time.spring = s.time.spring ∧ (coldTested f s).pending = s.pending ∧
    (coldTested f s).thermal.stored = s.thermal.stored ∧ (coldTested f s).safety.s4Held = s.safety.s4Held := by
  obtain ⟨hpad, htime, hpending, -, hthermal, hheld⟩ := loadFuses_kept f ((resetDevice .cold false s).onBoot fun b =>
    { b with hostSel := f.hostSel, refSel := f.refSel, testMode := f.testMode })
  obtain ⟨hspring, hqueue, hstored, hs4, hboot⟩ := resetDevice_cold s
  refine ⟨hpad.trans ?_, ?_, hpending.trans hqueue, ?_, hheld.trans hs4⟩
  · rw [State.onBoot_boot, hboot]
  · rw [coldTested, htime]
    exact hspring
  · rw [coldTested, hthermal]
    exact hstored

section
variable {f : StartFacts} {t : State}

/-- A due cold start whose rails are up, outside the test mode and S4_HELD, fails at the step that fails. -/
theorem exec_coldStart_fails {step rc : Nat} (hdue : startDue .cold s = true) (hrails : railsUp .cold s f = true)
    (hreset : f.resetN = true) (htest : f.testMode = false) (hs4 : s.safety.s4Held = false)
    (hsteps : runSteps true f (coldTested f s) = (some (step, rc), t)) :
    exec (.coldStart f) s = .next (failStart .cold step rc false t) := by
  have hheld := (coldTested_kept f s).2.2.2.2
  rw [hs4] at hheld
  change execColdStart f s = _
  unfold execColdStart
  rw [if_neg (by simp [hdue, hrails, hreset])]
  dsimp only
  rw [if_neg (ne_true_of_eq_false htest), ← coldTested, if_neg (ne_true_of_eq_false hheld), hsteps]

/-- It sets READY where every step passes. -/
theorem exec_coldStart_passes (hdue : startDue .cold s = true) (hrails : railsUp .cold s f = true)
    (hreset : f.resetN = true) (htest : f.testMode = false) (hs4 : s.safety.s4Held = false)
    (hsteps : runSteps true f (coldTested f s) = (none, t)) :
    exec (.coldStart f) s = .next (setReady .cold (testReactions f (initCold f t))) := by
  have hheld := (coldTested_kept f s).2.2.2.2
  rw [hs4] at hheld
  change execColdStart f s = _
  unfold execColdStart
  rw [if_neg (by simp [hdue, hrails, hreset])]
  dsimp only
  rw [if_neg (ne_true_of_eq_false htest), ← coldTested, if_neg (ne_true_of_eq_false hheld), hsteps]

end

/-- The state in which a due warm start makes its tests. -/
def warmTested (f : StartFacts) (s : State) : State := loadFuses { f with flash := none } (resetDevice .warm (fromHibernate s) s)

section
variable {f : StartFacts} {t : State}

/-- A due warm start whose rails are up fails at the step that fails. -/
theorem exec_warmStart_fails {step rc : Nat} (hdue : startDue .warm s = true) (hrails : railsUp .warm s f = true)
    (hsteps : runSteps false f (warmTested f s) = (some (step, rc), t)) :
    exec (.warmStart f) s = .next (failStart .warm step rc false t) := by
  change execWarmStart f s = _
  unfold execWarmStart
  rw [if_neg (by simp [hdue, hrails])]
  dsimp only
  rw [← warmTested, hsteps]

/-- It sets READY where every step passes, with the raises of the sleep handled; from HIBERNATE Backwater must be intact. -/
theorem exec_warmStart_passes (hdue : startDue .warm s = true) (hrails : railsUp .warm s f = true)
    (hbackwater : fromHibernate s = true → f.backwaterPasses = true ∧ s.power.sealed = some (backwaterSums s))
    (hsteps : runSteps false f (warmTested f s) = (none, t)) : exec (.warmStart f) s =
      .next (handleHeld (setReady .warm (testReactions f (initWarm (fromHibernate s) f t)))) := by
  have hintact : (fromHibernate s && !(f.backwaterPasses && s.power.sealed == some (backwaterSums s))) = false := by
    cases hhib : fromHibernate s with
    | false => rfl
    | true =>
      obtain ⟨hpass, hsums⟩ := hbackwater hhib
      rw [hpass, hsums, beq_self_eq_true]
      rfl
  change execWarmStart f s = _
  unfold execWarmStart
  rw [if_neg (by simp [hdue, hrails])]
  dsimp only
  rw [← warmTested, hsteps]
  dsimp only
  rw [if_neg (ne_true_of_eq_false hintact)]

end

/-- In test mode a due cold start goes to the factory test. -/
theorem exec_coldStart_testMode {f : StartFacts} (hdue : startDue .cold s = true) (hrails : railsUp .cold s f = true)
    (hreset : f.resetN = true) (htest : f.testMode = true) :
    ∃ t, exec (.coldStart f) s = .next t ∧ t.boot.phase = .factoryTest ∧ t.boot.ready = false := by
  have hboot := (resetDevice_cold s).2.2.2.2
  refine ⟨_, (if_neg (by simp [hdue, hrails, hreset])).trans (if_pos htest), rfl, ?_⟩
  rw [State.onBoot_boot, State.onBoot_boot, hboot]

/-- A cold start whose steps pass sets READY with generation 0, the pads held and the functions of R458 enabled. -/
theorem exec_coldStart_ready {f : StartFacts} {i : Bool} (hdue : startDue .cold s = true) (hrails : railsUp .cold s f = true)
    (hreset : f.resetN = true) (htest : f.testMode = false) (hs4 : s.safety.s4Held = false)
    (hsteps : runSteps true f (coldTested f s) = (none, (coldTested f s).onBoot fun b =>
      { b with imageSlot := i, fallback := b.fellBack i, step := 4 }))
    (hreact : f.reactionsPass = true) (hgood : ∀ r ∈ f.results, r.good = true) (hstress : f.stressPasses = true)
    (hstored : s.thermal.stored ≠ none) :
    ∃ t, exec (.coldStart f) s = .next t ∧ t.boot.ready = true ∧ t.boot.step = 0x0A ∧ t.boot.phase = .proving .cold ∧
      t.boot.imageSlot = i ∧ t.boot.padHold = true ∧ t.boot.readyAt = s.time.spring ∧ t.coh.generation = 0 ∧
      t.coh.staged = t.coh.active ∧ (∀ fn ∈ [0x0900, 0x0910, 0x0911, 0x0D00, 0x0E00, 0x1000], t.enabled fn = true) ∧
      t.pending = s.pending := by
  obtain ⟨hpad, hspring, hpending, hkept, -⟩ := coldTested_kept f s
  refine ⟨_, exec_coldStart_passes hdue hrails hreset htest hs4 hsteps, ?_⟩
  generalize coldTested f s = u at hpad hspring hpending hkept
  obtain ⟨hboot, htime, hqueue, hcoh⟩ := initCold_quiet (f := f)
    (s := u.onBoot fun b => { b with imageSlot := i, fallback := b.fellBack i, step := 4 }) hgood hstress (by
      rw [State.onBoot_thermal, hkept]
      exact hstored)
  rw [testReactions, if_pos hreact]
  generalize initCold f _ = v at hboot htime hqueue hcoh
  obtain ⟨hsetBoot, -, hsetCoh, hsetPending, -⟩ := setReady_sets .cold v
  have henabled (fn : Nat) : (setReady .cold v).enabled fn = enabledIn (coldSet f u.mem) fn := by
    rw [State.enabled, hsetCoh, hcoh]
    rfl
  refine ⟨?_, ?_, ?_, ?_, ?_, ?_, ?_, ?_, fun fn hfn => (henabled fn).trans (enabledIn_coldSet f _ fn hfn), ?_⟩
  · rw [hsetBoot]
  · rw [hsetBoot]
  · rw [hsetBoot]
  · rw [hsetBoot, hboot, State.onBoot_boot]
  · rw [hsetBoot, hboot, State.onBoot_boot]
    exact hpad
  · rw [hsetBoot, htime, State.onBoot_time]
    exact hspring
  · rw [hsetCoh, hcoh]
    rfl
  · rw [hsetCoh, hcoh]
  · rw [hsetPending, hqueue, State.onBoot_pending]
    exact hpending

/-- A warm start whose steps pass sets READY. -/
theorem exec_warmStart_ready {f : StartFacts} {i : Bool} (hdue : startDue .warm s = true) (hrails : railsUp .warm s f = true)
    (hhib : fromHibernate s = true → f.backwaterPasses = true ∧ s.power.sealed = some (backwaterSums s) ∧ s.power.held = [])
    (hsteps : runSteps false f (warmTested f s) = (none, (warmTested f s).onBoot fun b =>
      { b with imageSlot := i, fallback := b.fellBack i, step := 4 }))
    (hreact : f.reactionsPass = true) :
    ∃ t, exec (.warmStart f) s = .next t ∧ t.boot.ready = true ∧ t.boot.step = 0x0A ∧ t.boot.phase = .proving .warm ∧
      t.boot.readyAt = t.time.spring ∧ t.power.hibInd = false ∧ t.supply.watchdog = 0 ∧ t.safety.tokenAt = t.time.fabric ∧
      t.mem.scrubStart = t.time.fabric := by
  have hpower : (warmTested f s).power = (resetDevice .warm (fromHibernate s) s).power :=
    (loadFuses_kept { f with flash := none } (resetDevice .warm (fromHibernate s) s)).2.2.2.1
  obtain ⟨hawake, hraises⟩ := resetDevice_warm_power (fromHibernate s) s
  have hheld : (resetDevice .warm (fromHibernate s) s).power.held = [] := by
    rw [hraises]
    split
    next h => exact (hhib h).2.2
    next => rfl
  refine ⟨_, exec_warmStart_passes hdue hrails (fun h => ⟨(hhib h).1, (hhib h).2.1⟩) hsteps, ?_⟩
  generalize warmTested f s = u at hpower
  have hinit := initWarm_held (hib := fromHibernate s) (f := f)
    (s := u.onBoot fun b => { b with imageSlot := i, fallback := b.fellBack i, step := 4 })
    (by rw [State.onBoot_power, hpower]; exact hawake) (by rw [State.onBoot_power, hpower]; exact hheld)
  rw [testReactions, if_pos hreact]
  generalize initWarm (fromHibernate s) f _ = v at hinit
  obtain ⟨hsetBoot, hsetTime, -, -, hsetPower, hsetSupply, htoken, hscrub⟩ := setReady_sets .warm v
  rw [handleHeld_none (by rw [hsetPower]; exact hinit), hsetBoot, hsetTime, hsetPower, hsetSupply]
  exact ⟨rfl, rfl, rfl, rfl, rfl, rfl, htoken, hscrub⟩

end

/-- Settles O44: starts that are not due, the failing test of either start, the way to READY, failures and their timing. -/
theorem startsReachReadyOrFail : Obligations.StartsReachReadyOrFail := by
  refine ⟨fun s f => ⟨fun hno => ?_, fun hno => ?_, fun hdue hrails hreset => ⟨fun htest => ?_, fun htest hs4 hlock => ?_,
    fun i htest hs4 hlock hmon hsram hdram hdensity hranks hend hgood hreact hstress hstored hsel => ?_⟩,
    fun hdue hrails => ⟨fun hlock => ?_, fun i hlock hmon hdram hend hhib hreact hsel => ?_⟩⟩,
    fun s step reason hstep => ⟨fun n hn hfew => ?_, fun n hn hmany => ?_⟩,
    fun s step => ⟨fun k hib hphase => ?_, fun hphase => ?_, fun k hphase => ⟨fun hproved => ?_, fun hearly => ?_⟩⟩⟩
  · refine if_pos ?_
    rcases hno with h | h | h <;> simp [h]
  · refine if_pos ?_
    rcases hno with h | h <;> simp [h]
  · exact exec_coldStart_testMode hdue hrails hreset htest
  · exact exec_coldStart_fails hdue hrails hreset htest hs4 (runSteps_lockstep hlock)
  · refine exec_coldStart_ready hdue hrails hreset htest hs4 (runSteps_pass hlock hmon (fun _ => hsram) hsel hdram
      (fun _ => ⟨hdensity, hranks⟩) hend) hreact hgood hstress hstored
  · exact exec_warmStart_fails hdue hrails (runSteps_lockstep hlock)
  · refine exec_warmStart_ready hdue hrails hhib (runSteps_pass hlock hmon nofun hsel hdram nofun hend) hreact
  · have hless : n.toNat < 3 := by omega
    have hnext : (n + 1).toNat = n.toNat + 1 := by
      rw [BitVec.toNat_add]
      exact Nat.mod_eq_of_lt (by simp; omega)
    refine ⟨_, failStart_cold hstep, ?_⟩
    dsimp only
    rw [hn, if_pos hless, if_neg (by omega), (resetDevice_cold _).2.2.2.2]
    exact ⟨rfl, rfl, rfl, rfl, rfl⟩
  · have hthird : 3 ≤ (if n.toNat < 3 then n + 1 else n).toNat := by
      split
      next hless =>
        rw [BitVec.toNat_add, Nat.mod_eq_of_lt (by simp; omega)]
        simp
        omega
      next hmore => omega
    refine ⟨_, failStart_cold hstep, ?_⟩
    dsimp only
    rw [hn, if_pos hthird, enterSafeHold_boot]
    exact ⟨rfl, rfl, rfl⟩
  · refine ⟨?_, ?_⟩
    · change execStartTimeout step s = _
      rw [execStartTimeout, hphase]
    · change execStartSuccess s = _
      rw [execStartSuccess, hphase]
  · refine ⟨?_, ?_⟩
    · change execStartTimeout step s = _
      rw [execStartTimeout, hphase]
    · change execStartSuccess s = _
      rw [execStartSuccess, hphase]
  · change execStartSuccess s = _
    rw [execStartSuccess, hphase]
    exact if_pos hproved
  · change execStartSuccess s = _
    rw [execStartSuccess, hphase]
    exact if_neg (Nat.not_le.mpr hearly)

end Sys2Proof.Machine
